-- ==== Sys2Proof/Word.lean ====
section
/-!
DEFINITION. The word types of the XA1728 (spec/00 R4) and their plainest readings. A value that the spec adds,
shifts or masks is a bit vector; a count, an index or an address of memory is a natural number.
-/

namespace Sys2Proof

/-- A byte of any memory. -/
abbrev Byte := BitVec 8

/-- A 64-bit scalar: a register, a scalar bus, a control register. -/
abbrev W64 := BitVec 64

/-- A 1,024-bit value: a vector register, a vector bus, a result port. -/
abbrev V1024 := BitVec 1024

/-- A 512-bit window slot or a whole transport word. -/
abbrev W512 := BitVec 512

end Sys2Proof
end

