-- ==== Sys2Proof/Machine/Bits.lean ====
section
/-!
DEFINITION. Bit fields, signed readings and byte order (00 R4: little-endian). Every field the model takes from a
word or puts into one goes through these.
-/

namespace Sys2Proof

/-- The field of w bits of x that starts at bit lo, as a number. -/
def bits {n : Nat} (x : BitVec n) (lo w : Nat) : Nat := (x.toNat >>> lo) % 2 ^ w

/-- Bit i of x. -/
def bitOf {n : Nat} (x : BitVec n) (i : Nat) : Bool := bits x i 1 == 1

/-- The number of a Boolean. -/
def b2n (b : Bool) : Nat := if b then 1 else 0

/-- x with the field of w bits at lo replaced by the low w bits of v. -/
def putBits {n : Nat} (x : BitVec n) (lo w v : Nat) : BitVec n :=
  BitVec.ofNat n (x.toNat % 2 ^ lo + (v % 2 ^ w) * 2 ^ lo + (x.toNat >>> (lo + w)) * 2 ^ (lo + w))

/-- The signed reading of the low w bits of v. -/
def sx (w v : Nat) : Int :=
  let u := v % 2 ^ w
  if 2 * u < 2 ^ w then (u : Int) else (u : Int) - 2 ^ w

/-- The signed field of w bits of x at lo. -/
def sbits {n : Nat} (x : BitVec n) (lo w : Nat) : Int := sx w (bits x lo w)

/-- The pattern of w bits of an integer, modulo 2^w. -/
def ofInt (w : Nat) (i : Int) : BitVec w := BitVec.ofNat w (i % (2 ^ w : Int)).toNat

/-- The low 64 bits of a port or bus value (02 R31). -/
def low64 (x : V1024) : W64 := BitVec.ofNat 64 x.toNat

/-- A scalar on a 1,024-bit bus or port: zero-extended (02 R31). -/
def wide (x : W64) : V1024 := BitVec.ofNat 1024 x.toNat

/-- The 64-bit number n. -/
def w64 (n : Nat) : W64 := BitVec.ofNat 64 n

/-- Lane i of 32 bits. -/
def lane (x : V1024) (i : Nat) : BitVec 32 := BitVec.ofNat 32 (bits x (32 * i) 32)

/-- Element i of w bits. -/
def elem (w : Nat) (x : V1024) (i : Nat) : BitVec w := BitVec.ofNat w (bits x (w * i) w)

/-- Elements of w bits, element 0 lowest, packed into a number. -/
def packNat (w : Nat) : List Nat → Nat
  | [] => 0
  | v :: vs => v % 2 ^ w + packNat w vs * 2 ^ w

/-- Elements of w bits packed into 1,024 bits. -/
def packV (w : Nat) (vs : List Nat) : V1024 := BitVec.ofNat 1024 (packNat w vs)

/-- The 1,024-bit value whose lane i of w bits is f i, for the 1024 / w lanes. -/
def mapElems (w n : Nat) (f : Nat → Nat) : V1024 := packV w ((List.range n).map f)

/-- The n low bytes of a number, byte 0 first (00 R4). -/
def leBytes : Nat → Nat → List Byte
  | 0, _ => []
  | n + 1, v => BitVec.ofNat 8 v :: leBytes n (v / 256)

/-- The number of bytes in little-endian order. -/
def ofLe : List Byte → Nat
  | [] => 0
  | b :: bs => b.toNat + 256 * ofLe bs

/-- The number of set bits among the low w bits. -/
def popcount : Nat → Nat → Nat
  | 0, _ => 0
  | w + 1, v => v % 2 + popcount w (v / 2)

/-- The lowest index below w whose bit is set, or w. -/
def lowestBit (w v : Nat) : Nat := ((List.range w).find? (fun i => v.testBit i)).getD w

/-- The highest index below w whose bit is set, or w. -/
def highestBit (w v : Nat) : Nat := ((List.range w).reverse.find? (fun i => v.testBit i)).getD w

/-- The least natural number c at or above lo with (c + q) mod m = r; needs m > 0 and r < m. -/
def firstCycle (lo q m r : Nat) : Nat := lo + (r + m * (lo + q + 1) - (lo + q)) % m

/-- x limited to a saturation bound. -/
def satNat (bound x : Nat) : Nat := if bound < x then bound else x

end Sys2Proof
end

