-- ==== Sys2Proof/Machine/Flags.lean ====
section
/-!
DEFINITION. Flag computations: the flag word of the integer units (05 R105 to R108) and the flag word of the
floating-point units and its place in `fpflags` (06 R140, R145).
-/

namespace Sys2Proof.Machine

/-- The signed and unsigned readings of a 64-bit pattern (05 R106). -/
def sv (x : W64) : Int := x.toInt
def uv (x : W64) : Nat := x.toNat

/-- The flag word of 05 R105: S, N, Z, V, C from bit 4 down. -/
def flagWord (satd neg zero ovf carry : Bool) : W64 :=
  w64 (b2n satd * 16 + b2n neg * 8 + b2n zero * 4 + b2n ovf * 2 + b2n carry)

/-- Whether an exact signed result leaves the 64-bit signed range. -/
def ovf64 (i : Int) : Bool := decide (i < -(2 ^ 63)) || decide ((2 ^ 63 : Int) - 1 < i)

/-- Addition with carry in: result and flag word (05 R107). -/
def addFlags (a b : W64) (cin : Nat) : W64 × W64 :=
  let ex := uv a + uv b + cin
  let res := w64 ex
  (res, flagWord false res.msb (res = 0#64) (ovf64 (sv a + sv b + cin)) (decide (2 ^ 64 ≤ ex)))

/-- Subtraction with borrow in: result and flag word (05 R107). -/
def subFlags (a b : W64) (cin : Nat) : W64 × W64 :=
  let ex : Int := uv a - uv b - cin
  let res := ofInt 64 ex
  (res, flagWord false res.msb (res = 0#64) (ovf64 (sv a - sv b - cin)) (decide (ex < 0)))

/-- An exact result clamped to lo .. hi: result and flag word (05 R108). -/
def satFlags (lo hi ex : Int) : W64 × W64 :=
  let sat := min (max ex lo) hi
  let res := ofInt 64 sat
  (res, flagWord (sat ≠ ex) res.msb (res = 0#64) false false)

/-- The signed 64-bit range. -/
def lo64 : Int := -(2 ^ 63)
def hi64 : Int := 2 ^ 63 - 1

end Sys2Proof.Machine
end

