-- ==== Sys2Proof/Config.lean ====
section
/-!
DEFINITION. What the spec leaves open. Every value here is opaque: nothing in Lean can evaluate it, so a claim that
holds, holds whatever the hardware does. Each is named in an entry of the assumption log.
-/

namespace Sys2Proof.Config

/-- Free naturals: the n-th open choice of a run (a cycle inside a bound, one of several replicas, a route, a
replaced TLB entry). Log entries 1 and 15. -/
opaque freeNat : Nat → Nat

/-- Free bits: the n-th open value of a run that is data, not a choice (log entries 1 and 15). -/
opaque freeBits : Nat → BitVec 1024

/-- The fixed path of packets to another device: which of the trained ports they leave through (14 R296). -/
opaque route : Nat → Nat

/-- How many flits of a pair the buffer of an input holds when it asserts stop: one link round trip and 2 short of its size
(14 R299). -/
opaque stopFrom : Nat → Nat

/-- The device id of the partner on a fabric port (21 R470). -/
opaque partner : Nat → Nat

/-- How many mesh links and how many chiplet links the grid of link counts covers beside the 32 fabric ports (20 R457). -/
opaque meshLinks : Nat
opaque chipletLinks : Nat

/-- The signature of the device identity key over a message (21 R464). -/
opaque mlDsaSign : List (BitVec 8) → List (BitVec 8)

/-- SHAKE256 over a byte string, to 64 bytes (21 R462, R464). -/
opaque shake256 : List (BitVec 8) → List (BitVec 8)

/-- The firmware image in flash, and whether its signature verifies against the fused key (21 R462). -/
opaque firmware : List (BitVec 8)
opaque firmwareOk : Bool

/-- The version of the boot ROM, measurement block 1 (21 R462). -/
opaque romVersion : List (BitVec 8)

/-- The key blob decapsulation of 21 R469: the 512 bits of key material, or none where it fails. -/
opaque decapsulate : List (BitVec 8) → Option (BitVec 512)

/-- The certificate chain of slot 0 (21 R464). -/
opaque certificateChain : List (BitVec 8)

/-- Whether the algorithms of a negotiation offer ML-DSA-65 signatures and SHAKE256 measurements (21 R464). -/
opaque offersMlDsa65 : List (BitVec 8) → Bool
opaque offersShake256 : List (BitVec 8) → Bool

/-- The virtual address, before its alignment, that the loader of the n-th load gives a buffer of a size and a class
(19 R443, R444). -/
opaque bufferVa : Nat → Nat → Nat → Nat → BitVec 64

end Sys2Proof.Config
end

