-- ==== Sys2Proof/Syntax.lean ====
section
/-!
DEFINITION. The instructions: one constructor per row of spec/opcode_table.json. A row of that table is one whole,
indivisible step of the part (spec/95): a transport word, an operation a move triggers, a command an engine header
issues, or an event of a unit. An operation or a command carries its static form: which of two twin sockets (u), the
auxiliary port (x), the type, the tokens. What the move brings (tile, context, slot, trigger value) is the state's
`hand`. An event carries where it happens and what arrives from outside. Constructors without a field stand last.
-/

namespace Sys2Proof

/-- The four contexts of a tile (01 R9, 04). -/
inductive Ctx where
  | k0 | k1 | k2 | k3
deriving DecidableEq, Repr

/-- The nineteen sockets, in the order of their numbers (02 R37). -/
inductive Sock where
  | ctl | alu0 | alu1 | mul | agu | ld0 | ld1 | st0 | st1 | vfa | vfb | sfu | mx | tsw | ce | ns | sem | syn | sys
deriving DecidableEq, Repr

/-- The result ports of a socket (02 R29). -/
inductive Port where
  | r | q | f
deriving DecidableEq, Repr

/-- Which of two twin sockets: alu0 or alu1, ld0 or ld1, st0 or st1 (02 R41). -/
inductive Twin where
  | a | b
deriving DecidableEq, Repr

/-- The floating-point type of a typed vector operation, by opcode bits [1:0] (07 R155). -/
inductive FTy where
  | f32 | bf16 | f16
deriving DecidableEq, Repr

/-- The element width of an integer vector operation, by opcode bits [1:0] (07 R159). -/
inductive IW where
  | n8 | n16 | n32
deriving DecidableEq, Repr

/-- What an operation is started with: the tile, the context and the slot of the move that wrote the trigger port (or of
the engine header), and the trigger value, a scalar in its low 64 bits (02 R34 steps 3 and 5, 03 R54). -/
structure Trig where
  tile : Nat
  ctx : Ctx
  slot : Nat
  tv : V1024
deriving DecidableEq, Repr

/-- The tokens an engine header names; 63 is none (02 R33). -/
structure Hdr where
  tokp : BitVec 6
  toka : BitVec 6
  tokb : BitVec 6
  tokc : BitVec 6
deriving DecidableEq, Repr

/-- A transport word as its fields stand (02 R23, R24); slot 0 comes first. -/
structure Word where
  kind : BitVec 4
  limmask : BitVec 15
  loopend : BitVec 1
  mergeok : BitVec 1
  hint : BitVec 2
  rsv : BitVec 9
  slots : Vector (BitVec 32) 15
deriving DecidableEq, Repr

/-- A packet: the head fields and the payload of 14 R294; payload byte k in bits [8k + 7 : 8k]. -/
structure Packet where
  ptype : BitVec 4
  cls : BitVec 2
  vc : BitVec 1
  npay : BitVec 3
  ddev : BitVec 20
  dtile : BitVec 11
  sdev : BitVec 20
  stile : BitVec 11
  nbm : BitVec 7
  tag : BitVec 8
  reason : BitVec 7
  seq : BitVec 16
  aop : BitVec 4
  addr : BitVec 32
  payload : V1024
deriving DecidableEq, Repr

/-- A flit: 256 data bits and 32 overhead bits (14 R292). -/
structure Flit where
  data : BitVec 256
  ovh : BitVec 32
deriving DecidableEq, Repr

/-- What a pass does to a tile-store row in one cycle (10 R209): reads an A row, reads the old accumulators, or writes
accumulators; of a tile addition, reads X, reads Y, writes the destination. -/
inductive RowAct where
  | readA | readC | writeC
deriving DecidableEq, Repr

/-- What a copy does in one cycle: reads a unit of its source, or writes a unit of its destination. -/
inductive UnitKind where
  | read | chain | write
deriving DecidableEq, Repr

/-- One access of a copy: unit or element e, its kind, and the index j of the bank or block within it (11 R250,
13 R282). -/
structure UnitAct where
  e : Nat
  kind : UnitKind
  j : Nat
deriving DecidableEq, Repr

/-- A milestone group: its level of 15 R324 (0 chain to 4 domain) and its index. -/
structure Group where
  lvl : Nat
  idx : Nat
deriving DecidableEq, Repr

/-- Who sends heartbeats: a tile to its hub, or a device on a fabric port (18 R423). -/
inductive Beater where
  | tile (n : Nat)
  | port (l : Nat)
deriving DecidableEq, Repr

/-- A control register: its tile (0x7FF for the hub and the waymark tile), context and number (18 R406). -/
structure RegRef where
  tile : Nat
  ctx : Ctx
  num : Nat
deriving DecidableEq, Repr

/-- An SPDM request: its two parameters and the bytes after them (21 R464). -/
structure Message where
  param1 : Byte
  param2 : Byte
  body : List Byte
deriving DecidableEq, Repr

/-- The steps of the part, one constructor per row of spec/opcode_table.json. -/
inductive Instr where

  /-- TRANSPORT_WORD (R34). -/
  | transportWord (n : Nat) (k : Ctx) (w : Word)
  /-- THROTTLED_CYCLE (R88). -/
  | throttledCycle (n : Nat)
  /-- DISPLACEMENT (R86). -/
  | displacement (n : Nat) (k : Ctx)
  /-- RESULT_LANDS (R56). -/
  | resultLands (n : Nat) (so : Sock) (po : Port)
  /-- ENTRY_FIRE (R80). -/
  | entryFire (n : Nat) (e : Nat)
  /-- ROUTINE_RETIRED (R81). -/
  | routineRetired (n : Nat) (k : Ctx)
  /-- WATCHDOG (R91). -/
  | watchdog (n : Nat) (k : Ctx)
  /-- WAITUNSAT_LIST (R92). -/
  | waitunsatList (n : Nat)
  /-- BALLAST_START (R88). -/
  | ballastStart (n : Nat)
  /-- INTERRUPT_ENTRY (R90). -/
  | interruptEntry (n : Nat) (k : Ctx)
  /-- ALU_ADD (R107). -/
  | aluAdd (u : Twin)
  /-- ALU_SUB (R107). -/
  | aluSub (u : Twin) (x : Bool)
  /-- ALU_ADDC (R107). -/
  | aluAddc (u : Twin)
  /-- ALU_SUBB (R107). -/
  | aluSubb (u : Twin) (x : Bool)
  /-- ALU_ADDS_S64 (R108). -/
  | aluAddsS64 (u : Twin)
  /-- ALU_ADDS_N64 (R108). -/
  | aluAddsN64 (u : Twin)
  /-- ALU_SUBS_S64 (R108). -/
  | aluSubsS64 (u : Twin) (x : Bool)
  /-- ALU_SUBS_N64 (R108). -/
  | aluSubsN64 (u : Twin) (x : Bool)
  /-- ALU_AND (R109). -/
  | aluAnd (u : Twin)
  /-- ALU_OR (R109). -/
  | aluOr (u : Twin)
  /-- ALU_XOR (R109). -/
  | aluXor (u : Twin)
  /-- ALU_ANDN (R109). -/
  | aluAndn (u : Twin) (x : Bool)
  /-- ALU_SHL (R109). -/
  | aluShl (u : Twin) (x : Bool)
  /-- ALU_SHR_N64 (R109). -/
  | aluShrN64 (u : Twin) (x : Bool)
  /-- ALU_SHR_S64 (R109). -/
  | aluShrS64 (u : Twin) (x : Bool)
  /-- ALU_ROL (R109). -/
  | aluRol (u : Twin) (x : Bool)
  /-- ALU_ROR (R109). -/
  | aluRor (u : Twin) (x : Bool)
  /-- ALU_CEQ (R110). -/
  | aluCeq (u : Twin)
  /-- ALU_CNE (R110). -/
  | aluCne (u : Twin)
  /-- ALU_CLT_S64 (R110). -/
  | aluCltS64 (u : Twin) (x : Bool)
  /-- ALU_CLT_N64 (R110). -/
  | aluCltN64 (u : Twin) (x : Bool)
  /-- ALU_CLE_S64 (R110). -/
  | aluCleS64 (u : Twin) (x : Bool)
  /-- ALU_CLE_N64 (R110). -/
  | aluCleN64 (u : Twin) (x : Bool)
  /-- ALU_MIN_S64 (R110). -/
  | aluMinS64 (u : Twin)
  /-- ALU_MIN_N64 (R110). -/
  | aluMinN64 (u : Twin)
  /-- ALU_MAX_S64 (R110). -/
  | aluMaxS64 (u : Twin)
  /-- ALU_MAX_N64 (R110). -/
  | aluMaxN64 (u : Twin)
  /-- ALU_SEL (R110). -/
  | aluSel (u : Twin) (x : Bool)
  /-- ALU_ABS_S64 (R111). -/
  | aluAbsS64 (u : Twin)
  /-- ALU_PASS (R111). -/
  | aluPass (u : Twin)
  /-- ALU_POPC (R111). -/
  | aluPopc (u : Twin)
  /-- ALU_CLZ (R111). -/
  | aluClz (u : Twin)
  /-- ALU_CTZ (R111). -/
  | aluCtz (u : Twin)
  /-- ALU_BFX_S64 (R112). -/
  | aluBfxS64 (u : Twin)
  /-- ALU_BFX_N64 (R112). -/
  | aluBfxN64 (u : Twin)
  /-- ALU_BFI (R112). -/
  | aluBfi (u : Twin)
  /-- GPACK (R71). -/
  | gpack (u : Twin)
  /-- GSET (R72). -/
  | gset (u : Twin) (x : Bool)
  /-- KFILL (R73). -/
  | kfill (u : Twin)
  /-- KLOW (R74). -/
  | klow (u : Twin)
  /-- KHIGH (R74). -/
  | khigh (u : Twin)
  /-- DIV_S64 (R117). -/
  | divS64 (x : Bool)
  /-- DIV_N64 (R117). -/
  | divN64 (x : Bool)
  /-- VFA_ADD (R156). -/
  | vfaAdd (f : FTy)
  /-- VFA_SUB (R156). -/
  | vfaSub (f : FTy) (x : Bool)
  /-- VFA_MUL (R156). -/
  | vfaMul (f : FTy)
  /-- VFA_FMA (R156). -/
  | vfaFma (f : FTy) (x : Bool)
  /-- VFA_FMS (R156). -/
  | vfaFms (f : FTy) (x : Bool)
  /-- VFA_FNMA (R156). -/
  | vfaFnma (f : FTy) (x : Bool)
  /-- VFA_FNMS (R156). -/
  | vfaFnms (f : FTy) (x : Bool)
  /-- VFA_MIN (R157). -/
  | vfaMin (f : FTy)
  /-- VFA_MAX (R157). -/
  | vfaMax (f : FTy)
  /-- VFA_CMP (R157). -/
  | vfaCmp (f : FTy) (x : Bool)
  /-- VFA_CLASS (R157). -/
  | vfaClass (f : FTy)
  /-- VFA_SCALE (R157). -/
  | vfaScale (f : FTy) (x : Bool)
  /-- VFB_IADD (R160). -/
  | vfbIadd (w : IW)
  /-- VFB_ISUB (R160). -/
  | vfbIsub (w : IW) (x : Bool)
  /-- VFB_IMUL (R160). -/
  | vfbImul (w : IW)
  /-- VFB_IADDS (R160). -/
  | vfbIadds (w : IW)
  /-- VFB_IMIN_S (R160). -/
  | vfbIminS (w : IW)
  /-- VFB_IMAX_S (R160). -/
  | vfbImaxS (w : IW)
  /-- VFB_IMIN_N (R160). -/
  | vfbIminN (w : IW)
  /-- VFB_IMAX_N (R160). -/
  | vfbImaxN (w : IW)
  /-- VFB_BSEL (R161). -/
  | vfbBsel (x : Bool)
  /-- VFB_SHL_N32 (R161). -/
  | vfbShlN32 (x : Bool)
  /-- VFB_SHR_N32 (R161). -/
  | vfbShrN32 (x : Bool)
  /-- VFB_SHR_S32 (R161). -/
  | vfbShrS32 (x : Bool)
  /-- VFB_ICMP_S32 (R161). -/
  | vfbIcmpS32 (x : Bool)
  /-- VFB_ICMP_N32 (R161). -/
  | vfbIcmpN32 (x : Bool)
  /-- SLIDEUP (R162). -/
  | slideup (x : Bool)
  /-- SLIDEDN (R162). -/
  | slidedn (x : Bool)
  /-- VFB_FMA_F32 (R159). -/
  | vfbFmaF32 (x : Bool)
  /-- VFB_FMS_F32 (R159). -/
  | vfbFmsF32 (x : Bool)
  /-- VFB_FNMA_F32 (R159). -/
  | vfbFnmaF32 (x : Bool)
  /-- VFB_FNMS_F32 (R159). -/
  | vfbFnmsF32 (x : Bool)
  /-- LD_N8 (R190). -/
  | ldN8 (u : Twin)
  /-- LD_N16 (R190). -/
  | ldN16 (u : Twin)
  /-- LD_N32 (R190). -/
  | ldN32 (u : Twin)
  /-- LD_X64 (R190). -/
  | ldX64 (u : Twin)
  /-- LD_S8 (R190). -/
  | ldS8 (u : Twin)
  /-- LD_S16 (R190). -/
  | ldS16 (u : Twin)
  /-- LD_S32 (R190). -/
  | ldS32 (u : Twin)
  /-- LD_B128 (R190). -/
  | ldB128 (u : Twin)
  /-- LD_B256 (R190). -/
  | ldB256 (u : Twin)
  /-- LD_B512 (R190). -/
  | ldB512 (u : Twin)
  /-- LD_B1024 (R190). -/
  | ldB1024 (u : Twin)
  /-- LD_M1024 (R190). -/
  | ldM1024 (u : Twin)
  /-- LD_SD32 (R190). -/
  | ldSd32 (u : Twin)
  /-- LD_FL64 (R194). -/
  | ldFl64 (u : Twin)
  /-- LD_FL1024 (R194). -/
  | ldFl1024 (u : Twin)
  /-- ST_B8 (R191). -/
  | stB8 (u : Twin)
  /-- ST_B16 (R191). -/
  | stB16 (u : Twin)
  /-- ST_B32 (R191). -/
  | stB32 (u : Twin)
  /-- ST_B64 (R191). -/
  | stB64 (u : Twin)
  /-- ST_B128 (R191). -/
  | stB128 (u : Twin)
  /-- ST_B256 (R191). -/
  | stB256 (u : Twin)
  /-- ST_B512 (R191). -/
  | stB512 (u : Twin)
  /-- ST_B1024 (R191). -/
  | stB1024 (u : Twin)
  /-- ST_M1024 (R191). -/
  | stM1024 (u : Twin)
  /-- ST_SD32 (R191). -/
  | stSd32 (u : Twin)
  /-- SRAM_BANK_ACCESS (R186). -/
  | sramBankAccess (n : Nat) (q : Nat) (id : Nat) (j : Nat)
  /-- SRAM_CORRECTED_REWRITE (R196). -/
  | sramCorrectedRewrite (n : Nat) (bank row half : Nat)
  /-- SRAMCFG_WRITE (R198). -/
  | sramcfgWrite (n : Nat) (v : W64)
  /-- CLASS_REWRITE_END (R198). -/
  | classRewriteEnd (n : Nat)
  /-- MX_MM (R210). -/
  | mxMm (h : Hdr)
  /-- MX_GANG (R210). -/
  | mxGang (h : Hdr)
  /-- MX_SEQ (R218). -/
  | mxSeq (h : Hdr)
  /-- MX_GSEQ (R218). -/
  | mxGseq (h : Hdr)
  /-- MX_TADD (R219). -/
  | mxTadd (h : Hdr)
  /-- MX_DRAIN (R220). -/
  | mxDrain (h : Hdr)
  /-- MX_TCSAVE (R220). -/
  | mxTcsave (h : Hdr)
  /-- MX_COMMAND_START (R215). -/
  | mxCommandStart (n : Nat)
  /-- MX_GANG_START (R214). -/
  | mxGangStart (c : Nat)
  /-- MX_PASS_ROW_ACCESS (R209). -/
  | mxPassRowAccess (c : Nat) (id : Nat) (p : Nat) (m : Nat) (a : RowAct)
  /-- MX_COMMAND_COMPLETE (R216). -/
  | mxCommandComplete (c : Nat) (id : Nat)
  /-- MX_DRAIN_DONE (R220). -/
  | mxDrainDone (n : Nat)
  /-- MX_TCSAVE_WRITE (R220). -/
  | mxTcsaveWrite (n : Nat)
  /-- TSW_START (R250). -/
  | tswStart (n : Nat)
  /-- TSW_UNIT_ACCESS (R250). -/
  | tswUnitAccess (n : Nat) (a : UnitAct)
  /-- TSW_COMPLETE (R250). -/
  | tswComplete (n : Nat)
  /-- SEM_RELEASE_ACT (R268). -/
  | semReleaseAct (n : Nat) (id : Nat)
  /-- SEM_REMOTE_ARRIVAL (R266). -/
  | semRemoteArrival (n : Nat) (p : Packet)
  /-- SEM_REMOTE_ACT (R266). -/
  | semRemoteAct (n : Nat)
  /-- SEM_REPLY_ARRIVAL (R255). -/
  | semReplyArrival (n : Nat) (p : Packet)
  /-- SYN_TIMER (R346). -/
  | synTimer (h : Hdr)
  /-- SYN_DELAY (R346). -/
  | synDelay (h : Hdr)
  /-- SYN_GBAR (R346). -/
  | synGbar (h : Hdr)
  /-- SYN_JOIN (R346). -/
  | synJoin (h : Hdr)
  /-- SYN_COMMAND_DONE (R346). -/
  | synCommandDone (n : Nat) (id : Nat)
  /-- CE_COPY (R278). -/
  | ceCopy (h : Hdr)
  /-- CE_XCOPY (R278). -/
  | ceXcopy (h : Hdr)
  /-- CE_FILL (R278). -/
  | ceFill (h : Hdr)
  /-- CE_PLACE (R278). -/
  | cePlace (h : Hdr)
  /-- CE_CODE (R278). -/
  | ceCode (h : Hdr)
  /-- CE_COMMAND_START (R280). -/
  | ceCommandStart (n : Nat)
  /-- CE_ELEMENT_MOVE (R277). -/
  | ceElementMove (n : Nat) (a : UnitAct)
  /-- CE_COMMAND_COMPLETE (R281). -/
  | ceCommandComplete (n : Nat)
  /-- CE_SUSPEND (R288). -/
  | ceSuspend (n : Nat)
  /-- PACKET_INJECT (R316). -/
  | packetInject (n : Nat) (cls : BitVec 2)
  /-- EXCHANGE_DELIVERY (R335). -/
  | exchangeDelivery (n : Nat) (p : Packet) (b : Nat)
  /-- MESSAGE_DELIVERY (R306). -/
  | messageDelivery (n : Nat) (p : Packet)
  /-- K2_WAKE (R307). -/
  | k2Wake (n : Nat)
  /-- HELD_ARRIVAL_TIMEOUT (R307). -/
  | heldArrivalTimeout (n : Nat)
  /-- REMOTE_STORE_WRITE (R311). -/
  | remoteStoreWrite (n : Nat) (p : Packet) (b : Nat)
  /-- STORE_ACKNOWLEDGEMENT (R316). -/
  | storeAcknowledgement (n : Nat) (p : Packet)
  /-- FLIT_RECEIVE (R297). -/
  | flitReceive (l : Nat) (f : Flit)
  /-- IDLE (R293). -/
  | idle (l : Nat) (cseq : BitVec 8) (stop : BitVec 6)
  /-- ACK (R293). -/
  | ack (l : Nat) (cseq : BitVec 8) (stop : BitVec 6)
  /-- NAK (R297). -/
  | nak (l : Nat) (cseq : BitVec 8) (stop : BitVec 6)
  /-- OUTPUT_FLIT_SELECT (R301). -/
  | outputFlitSelect (l : Nat)
  /-- TRUNCATION_TIMEOUT (R303). -/
  | truncationTimeout (l : Nat) (cls : BitVec 2) (vc : BitVec 1)
  /-- LINK_DOWN (R298). -/
  | linkDown (l : Nat)
  /-- LINK_DEAD (R298). -/
  | linkDead (l : Nat)
  /-- FABRIC_PORT_TRAIN (R470). -/
  | fabricPortTrain (l : Nat) (lanes : Nat) (asym : Int) (ok : Bool)
  /-- MILESTONE_ARRIVE (R326). -/
  | milestoneArrive (n : Nat)
  /-- MILESTONE_RELEASE (R327). -/
  | milestoneRelease (gr : Group)
  /-- MILESTONE_ARRIVE_PACKET (R329). -/
  | milestoneArrivePacket (p : Packet)
  /-- MILESTONE_RELEASE_PACKET (R329). -/
  | milestoneReleasePacket (p : Packet)
  /-- MILESTONE_FAIL_PACKET (R330). -/
  | milestoneFailPacket (p : Packet)
  /-- DOMAIN_START (R329). -/
  | domainStart (late : Bool)
  /-- MILESTONE_TIMEOUT (R330). -/
  | milestoneTimeout (gr : Group)
  /-- STEPCTL_WRITE (R324). -/
  | stepctlWrite (n : Nat) (v : W64)
  /-- PACEADJ (R339). -/
  | paceadj (v : W64)
  /-- HEARTBEAT_SEND (R423). -/
  | heartbeatSend (b : Beater)
  /-- HEARTBEAT_RECEIVE (R423). -/
  | heartbeatReceive (b : Beater) (p : Packet)
  /-- HEARTBEAT_MISS (R423). -/
  | heartbeatMiss (b : Beater)
  /-- FENCE_W (R357). -/
  | fenceW (lv : Nat)
  /-- FENCE_RW (R357). -/
  | fenceRw (lv : Nat)
  /-- FENCE_COMPLETE (R357). -/
  | fenceComplete (n : Nat) (k : Ctx)
  /-- CSRRES_WRITTEN (R406). -/
  | csrresWritten (n : Nat) (k : Ctx) (v : W64)
  /-- REGISTER_WRITE (R403). -/
  | registerWrite (r : RegRef) (v : W64)
  /-- HUB_REGISTER_ACCESS_DONE (R461). -/
  | hubRegisterAccessDone (n : Nat) (k : Ctx) (id : Nat)
  /-- CHAIN_WORD_WRITE (R15). -/
  | chainWordWrite (c : Nat) (v : W64)
  /-- SVCADDR_WRITE (R88). -/
  | svcaddrWrite (n : Nat) (v : W64)
  /-- MXCHECK_WRITE (R221). -/
  | mxcheckWrite (c : Nat) (v : W64)
  /-- TILE_QUIET (R416). -/
  | tileQuiet (n : Nat)
  /-- PAIR_INTERVAL_CLOSE (R426). -/
  | pairIntervalClose (n : Nat) (k : Ctx)
  /-- PAIR_COMPARE (R428). -/
  | pairCompare (n : Nat) (k : Ctx)
  /-- MWAIT_WAKE (R408). -/
  | mwaitWake (k : Ctx) (why : Nat)
  /-- TLBINV_COMPLETE (R399). -/
  | tlbinvComplete (n : Nat) (k : Ctx)
  /-- GRANULE_DRAINED (R387). -/
  | granuleDrained (gn : Nat)
  /-- CONVERSION_END (R388). -/
  | conversionEnd (gn : Nat)
  /-- SCRUB (R384). -/
  | scrub (line : Nat)
  /-- TRAP_TAKE (R410). -/
  | trapTake (n : Nat) (k : Ctx)
  /-- TRAPQ (R414). -/
  | trapq (n : Nat) (k : Ctx) (viaX : Bool)
  /-- DEBUG_TRANSITION (R452). -/
  | debugTransition (n : Nat)
  /-- DEBUG_STOP (R455). -/
  | debugStop (n : Nat)
  /-- TRACE_RECORD_STORE (R454). -/
  | traceRecordStore (n : Nat)
  /-- DIGEST_RESET (R458). -/
  | digestReset (l : Nat)
  /-- GET_VERSION (R464). -/
  | getVersion (m : Message)
  /-- GET_CAPABILITIES (R464). -/
  | getCapabilities (m : Message)
  /-- NEGOTIATE_ALGORITHMS (R464). -/
  | negotiateAlgorithms (m : Message)
  /-- GET_DIGESTS (R464). -/
  | getDigests (m : Message)
  /-- GET_CERTIFICATE (R464). -/
  | getCertificate (m : Message)
  /-- CHALLENGE (R464). -/
  | challenge (m : Message)
  /-- GET_MEASUREMENTS (R464). -/
  | getMeasurements (m : Message)
  /-- HOST_READ (R466). -/
  | hostRead (addr : Nat)
  /-- HOST_WRITE (R364). -/
  | hostWrite (addr : Nat) (line : BitVec 512)
  /-- HOSTREQ (R467). -/
  | hostreq (v : W64)
  /-- LAUNCH (R469). -/
  | launch (rec : Nat)
  /-- KEY_LOAD (R469). -/
  | keyLoad (rec : Nat)
  /-- GRANULE_RELEASE (R469). -/
  | granuleRelease (rec : Nat)
  /-- SENSOR_LATCH (R473). -/
  | sensorLatch (readings : List Int)
  /-- THCTL_WRITE (R474). -/
  | thctlWrite (v : W64)
  /-- POWER_METER_UPDATE (R478). -/
  | powerMeterUpdate (w : Nat)
  /-- XLRES_WRITTEN (R397). -/
  | xlresWritten (n : Nat) (k : Ctx) (v : W64)
  /-- CTL_JMP (R97). -/
  | ctlJmp
  /-- CTL_JMPR (R97). -/
  | ctlJmpr
  /-- CTL_CALL (R97). -/
  | ctlCall
  /-- CTL_RET (R97). -/
  | ctlRet
  /-- CTL_LOOP (R98). -/
  | ctlLoop
  /-- CTL_LDIM (R98). -/
  | ctlLdim
  /-- CTL_LIDX (R98). -/
  | ctlLidx
  /-- CTL_LEXIT (R98). -/
  | ctlLexit
  /-- CTL_RETIRE (R99). -/
  | ctlRetire
  /-- CTL_YIELD (R99). -/
  | ctlYield
  /-- CTL_TRAP (R99). -/
  | ctlTrap
  /-- CTL_URET (R90). -/
  | ctlUret
  /-- CTL_WTOK (R100). -/
  | ctlWtok
  /-- CTL_WCYC (R100). -/
  | ctlWcyc
  /-- CTL_QADD (R101). -/
  | ctlQadd
  /-- CTL_QREAD (R101). -/
  | ctlQread
  /-- CTL_WHERE (R102). -/
  | ctlWhere
  /-- CTL_HSET (R103). -/
  | ctlHset
  /-- MUL_S64 (R115). -/
  | mulS64
  /-- MUL_N64 (R115). -/
  | mulN64
  /-- MAD_S64 (R115). -/
  | madS64
  /-- MAD_N64 (R115). -/
  | madN64
  /-- MUL_S32 (R115). -/
  | mulS32
  /-- MUL_N32 (R115). -/
  | mulN32
  /-- MULR_S64 (R116). -/
  | mulrS64
  /-- AGU_PSTR (R126). -/
  | aguPstr
  /-- AGU_PWIN (R126). -/
  | aguPwin
  /-- AGU_PREG (R126). -/
  | aguPreg
  /-- AGU_PGET (R127). -/
  | aguPget
  /-- AGU_PADV (R127). -/
  | aguPadv
  /-- AGU_PPEEK (R127). -/
  | aguPpeek
  /-- AGU_PCOPY (R126). -/
  | aguPcopy
  /-- AGU_RCHK (R128). -/
  | aguRchk
  /-- AGU_RASSERT (R128). -/
  | aguRassert
  /-- AGU_RGET (R128). -/
  | aguRget
  /-- AGU_LEA (R129). -/
  | aguLea
  /-- VFA_BDOT (R158). -/
  | vfaBdot
  /-- VFB_AND (R161). -/
  | vfbAnd
  /-- VFB_OR (R161). -/
  | vfbOr
  /-- VFB_XOR (R161). -/
  | vfbXor
  /-- KPACK (R161). -/
  | kpack
  /-- SBCAST (R162). -/
  | sbcast
  /-- LBCAST (R162). -/
  | lbcast
  /-- PERM (R162). -/
  | perm
  /-- CVT (R164). -/
  | cvt
  /-- MXPACK (R165). -/
  | mxpack
  /-- MXUNPACK (R166). -/
  | mxunpack
  /-- RSUM_F32 (R167). -/
  | rsumF32
  /-- RMAX_F32 (R167). -/
  | rmaxF32
  /-- RMIN_F32 (R167). -/
  | rminF32
  /-- RSUM_S32 (R167). -/
  | rsumS32
  /-- RECIP_F32 (R171). -/
  | recipF32
  /-- DIV_F32 (R171). -/
  | divF32
  /-- SQRT_F32 (R171). -/
  | sqrtF32
  /-- RSQRT_F32 (R171). -/
  | rsqrtF32
  /-- EXP_F32 (R172). -/
  | expF32
  /-- EXP2_F32 (R172). -/
  | exp2F32
  /-- LOG_F32 (R172). -/
  | logF32
  /-- LOG2_F32 (R172). -/
  | log2F32
  /-- TANH_F32 (R172). -/
  | tanhF32
  /-- SIGMOID_F32 (R172). -/
  | sigmoidF32
  /-- GELU_F32 (R172). -/
  | geluF32
  /-- RSUMD_F32 (R180). -/
  | rsumdF32
  /-- RMEAN_F32 (R180). -/
  | rmeanF32
  /-- RVAR_F32 (R180). -/
  | rvarF32
  /-- SMEXP_F32 (R177). -/
  | smexpF32
  /-- SMADD (R178). -/
  | smadd
  /-- SMOUT_F32 (R179). -/
  | smoutF32
  /-- FSET (R226). -/
  | fset
  /-- FGET (R226). -/
  | fget
  /-- TCREAD (R226). -/
  | tcread
  /-- TCCLR (R226). -/
  | tcclr
  /-- CHKRD (R226). -/
  | chkrd
  /-- CHKCLR (R226). -/
  | chkclr
  /-- DUR (R226). -/
  | dur
  /-- MX_STAT (R227). -/
  | mxStat
  /-- TSIN (R247). -/
  | tsin
  /-- TSOUT (R247). -/
  | tsout
  /-- TSCOPY (R247). -/
  | tscopy
  /-- TSFILL (R247). -/
  | tsfill
  /-- SCIN (R247). -/
  | scin
  /-- SCOUT (R247). -/
  | scout
  /-- WBIN (R247). -/
  | wbin
  /-- WBOUT (R247). -/
  | wbout
  /-- SEM_TAKE (R260). -/
  | semTake
  /-- SEM_PUT (R260). -/
  | semPut
  /-- SEM_LD (R260). -/
  | semLd
  /-- SEM_ST (R260). -/
  | semSt
  /-- SEM_ADD (R262). -/
  | semAdd
  /-- SEM_AND (R262). -/
  | semAnd
  /-- SEM_OR (R262). -/
  | semOr
  /-- SEM_MAX_S64 (R262). -/
  | semMaxS64
  /-- SEM_MAX_N64 (R262). -/
  | semMaxN64
  /-- SEM_MIN_S64 (R262). -/
  | semMinS64
  /-- SEM_MIN_N64 (R262). -/
  | semMinN64
  /-- SEM_CAS (R262). -/
  | semCas
  /-- SEM_WADD (R263). -/
  | semWadd
  /-- SEM_QLEN (R258). -/
  | semQlen
  /-- SEM_SRCRD (R266). -/
  | semSrcrd
  /-- SEM_SRCDROP (R266). -/
  | semSrcdrop
  /-- TPEND (R273). -/
  | tpend
  /-- TDONE (R273). -/
  | tdone
  /-- TSTAT (R274). -/
  | tstat
  /-- TMAP (R273). -/
  | tmap
  /-- PACE (R343). -/
  | pace
  /-- PACEFX (R343). -/
  | pacefx
  /-- WTIME (R344). -/
  | wtime
  /-- SYN_MSTAT (R343). -/
  | synMstat
  /-- XCYC (R343). -/
  | xcyc
  /-- BSTAT (R345). -/
  | bstat
  /-- CE_STAT (R290). -/
  | ceStat
  /-- CE_PROG (R290). -/
  | ceProg
  /-- CE_LAST (R290). -/
  | ceLast
  /-- CE_ABORT (R291). -/
  | ceAbort
  /-- NS_SEND (R316). -/
  | nsSend
  /-- NS_RST (R316). -/
  | nsRst
  /-- NS_RATOM (R316). -/
  | nsRatom
  /-- NS_XSEND (R316). -/
  | nsXsend
  /-- NS_RECV (R318). -/
  | nsRecv
  /-- NS_PEEK (R318). -/
  | nsPeek
  /-- NS_RELEASE (R318). -/
  | nsRelease
  /-- NS_STAT (R318). -/
  | nsStat
  /-- NS_LAST (R313). -/
  | nsLast
  /-- NS_SPILL (R319). -/
  | nsSpill
  /-- NS_LBACK (R319). -/
  | nsLback
  /-- NS_REJECT (R319). -/
  | nsReject
  /-- NS_OVCLR (R319). -/
  | nsOvclr
  /-- CSRR (R405). -/
  | csrr
  /-- CSRW (R405). -/
  | csrw
  /-- XCSRR (R406). -/
  | xcsrr
  /-- XCSRW (R406). -/
  | xcsrw
  /-- TCTL_FREEZE (R418). -/
  | tctlFreeze
  /-- TCTL_RESUME (R420). -/
  | tctlResume
  /-- TCTL_HALT (R418). -/
  | tctlHalt
  /-- TCTL_UNHALT (R418). -/
  | tctlUnhalt
  /-- TCTL_SAVE (R421). -/
  | tctlSave
  /-- TCTL_RESTORE (R421). -/
  | tctlRestore
  /-- TCTL_RESUME_CONTEXT (R420). -/
  | tctlResumeContext
  /-- TCTL_KILL_CONTEXT (R420). -/
  | tctlKillContext
  /-- TCTL_CLEAR_CONTEXT (R420). -/
  | tctlClearContext
  /-- TCTL_ROLLBACK (R433). -/
  | tctlRollback
  /-- PAIRON (R425). -/
  | pairon
  /-- PAIROFF (R425). -/
  | pairoff
  /-- MWAIT (R408). -/
  | mwait
  /-- TLBPROBE (R397). -/
  | tlbprobe
  /-- TLBINV_ADDRESS (R398). -/
  | tlbinvAddress
  /-- TLBINV_ASID (R398). -/
  | tlbinvAsid
  /-- TLBINV_GLOBAL (R398). -/
  | tlbinvGlobal
  /-- TLBINV_ALL (R398). -/
  | tlbinvAll
  /-- GCTL_OFFLINE (R386). -/
  | gctlOffline
  /-- GCTL_ONLINE (R386). -/
  | gctlOnline
  /-- GCTL_CONVERT (R388). -/
  | gctlConvert
  /-- GSTAT (R400). -/
  | gstat
  /-- PTCLR (R400). -/
  | ptclr
  /-- LINK_COUNT_SAMPLE (R457). -/
  | linkCountSample
  /-- DEVICE_RESET (R462). -/
  | deviceReset
deriving DecidableEq, Repr

end Sys2Proof
end

