-- ==== Sys2Proof/Decode.lean ====
section
/-!
DEFINITION. Decoding and, after it, encoding: the transport word and its slots (02 R23 to R43), the operations of each
socket by opcode (the tables of every socket's chapter), engine headers and the link's control flits (14 R293).
Decoding is total; what names nothing is refused with the slot and the detail of 02 R43.
-/

namespace Sys2Proof

/-! ## Fields of a word -/

/-- The register files a move can name (02 R28). -/
inductive RegFile where
  | s | v | g | k | a | h | m | c
deriving DecidableEq, Repr

/-- What a source field names (02 R26, R28). -/
inductive Src where
  | nil
  | limm
  | imm (i : BitVec 10)
  | reg (f : RegFile) (n : Nat)
  | win (n : Nat)
  | port (so : Sock) (po : Port)
deriving DecidableEq, Repr

/-- What a destination field names (02 R26): nothing, a register, an operand latch, a trigger with its opcode. -/
inductive Dst where
  | nil
  | reg (f : RegFile) (n : Nat)
  | opnd (so : Sock) (isP : Bool)
  | trig (so : Sock) (x : Bool) (opc : Nat)
deriving DecidableEq, Repr

/-- The classes of move slots (02 R23). -/
inductive Bus where
  | scalar | vecA | vecB | load | store
deriving DecidableEq, Repr

/-- The word of 512 bits: header fields and slot s in bits [479 - 32s : 448 - 32s] (02 R23, R24). -/
def wordOf (b : W512) : Word :=
  { kind := BitVec.ofNat 4 (bits b 508 4), limmask := BitVec.ofNat 15 (bits b 493 15)
    loopend := BitVec.ofNat 1 (bits b 492 1), mergeok := BitVec.ofNat 1 (bits b 491 1)
    hint := BitVec.ofNat 2 (bits b 489 2), rsv := BitVec.ofNat 9 (bits b 480 9)
    slots := Vector.ofFn fun i : Fin 15 => BitVec.ofNat 32 (bits b (448 - 32 * i.val) 32) }

/-- The header of a word as 32 bits (02 R24). -/
def headerBits (w : Word) : Nat :=
  w.rsv.toNat + w.hint.toNat * 2 ^ 9 + w.mergeok.toNat * 2 ^ 11 + w.loopend.toNat * 2 ^ 12
    + w.limmask.toNat * 2 ^ 13 + w.kind.toNat * 2 ^ 28

/-- The 512 bits of a word. -/
def bitsOfWord (w : Word) : W512 :=
  BitVec.ofNat 512 (packNat 32 (w.slots.toList.reverse.map BitVec.toNat) + headerBits w * 2 ^ 480)

/-- Slot i of a word. -/
def slotOf (w : Word) (i : Nat) : BitVec 32 := w.slots.toList.getD i 0#32

/-- Whether slot i holds a long immediate (02 R32). -/
def isLimm (w : Word) (i : Nat) : Bool := bitOf w.limmask i

/-- The class of move slot i (02 R23). -/
def busOf (i : Nat) : Bus :=
  if i < 4 then .scalar else if i < 6 then .vecA else if i < 8 then .vecB else if i < 10 then .load else .store

/-- The first slot of the class of slot i. -/
def classStart (i : Nat) : Nat :=
  if i < 4 then 0 else if i < 6 then 4 else if i < 8 then 6 else if i < 10 then 8 else 10

/-- The socket of a number (02 R37). -/
def sockOf (n : Nat) : Option Sock :=
  match n with
  | 0 => some .ctl | 1 => some .alu0 | 2 => some .alu1 | 3 => some .mul | 4 => some .agu | 5 => some .ld0
  | 6 => some .ld1 | 7 => some .st0 | 8 => some .st1 | 9 => some .vfa | 10 => some .vfb | 11 => some .sfu
  | 12 => some .mx | 13 => some .tsw | 14 => some .ce | 15 => some .ns | 16 => some .sem | 17 => some .syn
  | 18 => some .sys
  | _ => none

/-- The number of a socket (02 R37). -/
def sockNum (s : Sock) : Nat :=
  match s with
  | .ctl => 0 | .alu0 => 1 | .alu1 => 2 | .mul => 3 | .agu => 4 | .ld0 => 5 | .ld1 => 6 | .st0 => 7 | .st1 => 8
  | .vfa => 9 | .vfb => 10 | .sfu => 11 | .mx => 12 | .tsw => 13 | .ce => 14 | .ns => 15 | .sem => 16 | .syn => 17
  | .sys => 18

/-- Whether a socket has a result port (02 R29). -/
def hasPort (s : Sock) (p : Port) : Bool :=
  match p with
  | .r => s ≠ .st0 && s ≠ .st1 && s ≠ .tsw
  | .q => s = .mul || s = .vfb
  | .f => s = .alu0 || s = .alu1 || s = .sem || s = .vfa || s = .vfb || s = .sfu

/-- Whether a result port is 1,024 bits wide (02 R29). -/
def widePort (s : Sock) (p : Port) : Bool :=
  match p with
  | .r => s = .ld0 || s = .ld1 || s = .vfa || s = .vfb || s = .sfu
  | .q => s = .vfb
  | .f => false

/-- The port of an index (02 R29). -/
def portOf (n : Nat) : Option Port :=
  match n with
  | 0 => some .r | 1 => some .q | 2 => some .f | _ => none

/-- A 10-bit identifier read as a source (02 R28, R29); none where it is reserved. -/
def srcIdent (n : Nat) : Option Src :=
  if n = 0 then some .nil
  else if n = 1 then some .limm
  else if n < 0x40 then none
  else if n < 0x80 then some (.reg .s (n - 0x40))
  else if n < 0xA0 then some (.reg .v (n - 0x80))
  else if n < 0xB8 then some (.reg .g (n - 0xA0))
  else if n < 0xC0 then some (.reg .k (n - 0xB8))
  else if n < 0xC8 then some (.reg .a (n - 0xC0))
  else if n < 0xD0 then none
  else if n < 0xE0 then some (.reg .h (n - 0xD0))
  else if n < 0xF0 then some (.reg .m (n - 0xE0))
  else if n < 0x100 then some (.reg .c (n - 0xF0))
  else if n < 0x120 then some (.win (n - 0x100))
  else if n < 0x200 then none
  else
    match sockOf ((n - 0x200) / 16), portOf (n % 16) with
    | some so, some po => if hasPort so po then some (.port so po) else none
    | _, _ => none

/-- A 10-bit identifier read as a register destination (02 R28). -/
def dstIdent (n : Nat) : Option Dst :=
  match srcIdent n with
  | some .nil => some .nil
  | some (.reg f i) => some (.reg f i)
  | _ => none

/-- The source a move names: a short immediate, or an identifier. -/
def srcOf (r : BitVec 32) : Option Src :=
  if bitOf r 25 then some (.imm (BitVec.ofNat 10 (bits r 15 10))) else srcIdent (bits r 15 10)

/-! ## The operations of each socket -/

/-- The number of the socket of a twin. -/
def twinSock (base : Nat) (u : Twin) : Nat :=
  match u with
  | .a => base
  | .b => base + 1

/-- Opcode bits [1:0] of a typed operation (07 R155). -/
def ftyCode (f : FTy) : Nat :=
  match f with
  | .f32 => 0 | .bf16 => 1 | .f16 => 2

/-- Opcode bits [1:0] of an integer width (07 R159). -/
def iwCode (w : IW) : Nat :=
  match w with
  | .n8 => 0 | .n16 => 1 | .n32 => 2

/-- The ctl operations by opcode. -/
def ctlOp (opc : Nat) : Option Instr :=
  match opc with
  | 0x00 => some .ctlJmp
  | 0x01 => some .ctlJmpr
  | 0x02 => some .ctlCall
  | 0x03 => some .ctlRet
  | 0x04 => some .ctlLoop
  | 0x05 => some .ctlLdim
  | 0x06 => some .ctlLidx
  | 0x07 => some .ctlLexit
  | 0x08 => some .ctlRetire
  | 0x09 => some .ctlYield
  | 0x0a => some .ctlTrap
  | 0x0b => some .ctlUret
  | 0x0c => some .ctlWtok
  | 0x0d => some .ctlWcyc
  | 0x0e => some .ctlQadd
  | 0x0f => some .ctlQread
  | 0x10 => some .ctlWhere
  | 0x11 => some .ctlHset
  | _ => none

/-- The alu operations by opcode. -/
def aluOp (u : Twin) (x : Bool) (opc : Nat) : Option Instr :=
  match opc with
  | 0x00 => if x then none else some (.aluAdd u)
  | 0x01 => some (.aluSub u x)
  | 0x02 => if x then none else some (.aluAddc u)
  | 0x03 => some (.aluSubb u x)
  | 0x04 => if x then none else some (.aluAddsS64 u)
  | 0x05 => if x then none else some (.aluAddsN64 u)
  | 0x06 => some (.aluSubsS64 u x)
  | 0x07 => some (.aluSubsN64 u x)
  | 0x08 => if x then none else some (.aluAnd u)
  | 0x09 => if x then none else some (.aluOr u)
  | 0x0a => if x then none else some (.aluXor u)
  | 0x0b => some (.aluAndn u x)
  | 0x0c => some (.aluShl u x)
  | 0x0d => some (.aluShrN64 u x)
  | 0x0e => some (.aluShrS64 u x)
  | 0x0f => some (.aluRol u x)
  | 0x10 => some (.aluRor u x)
  | 0x11 => if x then none else some (.aluCeq u)
  | 0x12 => if x then none else some (.aluCne u)
  | 0x13 => some (.aluCltS64 u x)
  | 0x14 => some (.aluCltN64 u x)
  | 0x15 => some (.aluCleS64 u x)
  | 0x16 => some (.aluCleN64 u x)
  | 0x17 => if x then none else some (.aluMinS64 u)
  | 0x18 => if x then none else some (.aluMinN64 u)
  | 0x19 => if x then none else some (.aluMaxS64 u)
  | 0x1a => if x then none else some (.aluMaxN64 u)
  | 0x1b => some (.aluSel u x)
  | 0x1c => if x then none else some (.aluAbsS64 u)
  | 0x1d => if x then none else some (.aluPass u)
  | 0x1e => if x then none else some (.aluPopc u)
  | 0x1f => if x then none else some (.aluClz u)
  | 0x20 => if x then none else some (.aluCtz u)
  | 0x21 => if x then none else some (.aluBfxS64 u)
  | 0x22 => if x then none else some (.aluBfxN64 u)
  | 0x23 => if x then none else some (.aluBfi u)
  | 0x28 => if x then none else some (.gpack u)
  | 0x29 => some (.gset u x)
  | 0x2a => if x then none else some (.kfill u)
  | 0x2b => if x then none else some (.klow u)
  | 0x2c => if x then none else some (.khigh u)
  | _ => none

/-- The mul operations by opcode. -/
def mulOp (x : Bool) (opc : Nat) : Option Instr :=
  match opc with
  | 0x00 => if x then none else some .mulS64
  | 0x01 => if x then none else some .mulN64
  | 0x02 => if x then none else some .madS64
  | 0x03 => if x then none else some .madN64
  | 0x04 => if x then none else some .mulS32
  | 0x05 => if x then none else some .mulN32
  | 0x06 => some (.divS64 x)
  | 0x07 => some (.divN64 x)
  | 0x08 => if x then none else some .mulrS64
  | _ => none

/-- The agu operations by opcode. -/
def aguOp (opc : Nat) : Option Instr :=
  match opc with
  | 0x00 => some .aguPstr
  | 0x01 => some .aguPwin
  | 0x02 => some .aguPreg
  | 0x03 => some .aguPget
  | 0x04 => some .aguPadv
  | 0x05 => some .aguPpeek
  | 0x06 => some .aguPcopy
  | 0x07 => some .aguRchk
  | 0x08 => some .aguRassert
  | 0x09 => some .aguRget
  | 0x0a => some .aguLea
  | _ => none

/-- The ld operations by opcode. -/
def ldOp (u : Twin) (opc : Nat) : Option Instr :=
  match opc with
  | 0x00 => some (.ldN8 u)
  | 0x01 => some (.ldN16 u)
  | 0x02 => some (.ldN32 u)
  | 0x03 => some (.ldX64 u)
  | 0x04 => some (.ldS8 u)
  | 0x05 => some (.ldS16 u)
  | 0x06 => some (.ldS32 u)
  | 0x08 => some (.ldB128 u)
  | 0x09 => some (.ldB256 u)
  | 0x0a => some (.ldB512 u)
  | 0x0b => some (.ldB1024 u)
  | 0x0c => some (.ldM1024 u)
  | 0x0d => some (.ldSd32 u)
  | 0x10 => some (.ldFl64 u)
  | 0x11 => some (.ldFl1024 u)
  | _ => none

/-- The st operations by opcode. -/
def stOp (u : Twin) (opc : Nat) : Option Instr :=
  match opc with
  | 0x00 => some (.stB8 u)
  | 0x01 => some (.stB16 u)
  | 0x02 => some (.stB32 u)
  | 0x03 => some (.stB64 u)
  | 0x08 => some (.stB128 u)
  | 0x09 => some (.stB256 u)
  | 0x0a => some (.stB512 u)
  | 0x0b => some (.stB1024 u)
  | 0x0c => some (.stM1024 u)
  | 0x0d => some (.stSd32 u)
  | _ => none

/-- The vfa operations by opcode. -/
def vfaOp (x : Bool) (opc : Nat) : Option Instr :=
  match opc with
  | 0x00 => if x then none else some (.vfaAdd .f32)
  | 0x01 => if x then none else some (.vfaAdd .bf16)
  | 0x02 => if x then none else some (.vfaAdd .f16)
  | 0x03 => if x then none else some .vfaBdot
  | 0x04 => some (.vfaSub .f32 x)
  | 0x05 => some (.vfaSub .bf16 x)
  | 0x06 => some (.vfaSub .f16 x)
  | 0x08 => if x then none else some (.vfaMul .f32)
  | 0x09 => if x then none else some (.vfaMul .bf16)
  | 0x0a => if x then none else some (.vfaMul .f16)
  | 0x0c => some (.vfaFma .f32 x)
  | 0x0d => some (.vfaFma .bf16 x)
  | 0x0e => some (.vfaFma .f16 x)
  | 0x10 => some (.vfaFms .f32 x)
  | 0x11 => some (.vfaFms .bf16 x)
  | 0x12 => some (.vfaFms .f16 x)
  | 0x14 => some (.vfaFnma .f32 x)
  | 0x15 => some (.vfaFnma .bf16 x)
  | 0x16 => some (.vfaFnma .f16 x)
  | 0x18 => some (.vfaFnms .f32 x)
  | 0x19 => some (.vfaFnms .bf16 x)
  | 0x1a => some (.vfaFnms .f16 x)
  | 0x1c => if x then none else some (.vfaMin .f32)
  | 0x1d => if x then none else some (.vfaMin .bf16)
  | 0x1e => if x then none else some (.vfaMin .f16)
  | 0x20 => if x then none else some (.vfaMax .f32)
  | 0x21 => if x then none else some (.vfaMax .bf16)
  | 0x22 => if x then none else some (.vfaMax .f16)
  | 0x24 => some (.vfaCmp .f32 x)
  | 0x25 => some (.vfaCmp .bf16 x)
  | 0x26 => some (.vfaCmp .f16 x)
  | 0x28 => if x then none else some (.vfaClass .f32)
  | 0x29 => if x then none else some (.vfaClass .bf16)
  | 0x2a => if x then none else some (.vfaClass .f16)
  | 0x2c => some (.vfaScale .f32 x)
  | 0x2d => some (.vfaScale .bf16 x)
  | 0x2e => some (.vfaScale .f16 x)
  | _ => none

/-- The vfb operations by opcode. -/
def vfbOp (x : Bool) (opc : Nat) : Option Instr :=
  match opc with
  | 0x00 => if x then none else some (.vfbIadd .n8)
  | 0x01 => if x then none else some (.vfbIadd .n16)
  | 0x02 => if x then none else some (.vfbIadd .n32)
  | 0x04 => some (.vfbIsub .n8 x)
  | 0x05 => some (.vfbIsub .n16 x)
  | 0x06 => some (.vfbIsub .n32 x)
  | 0x08 => if x then none else some (.vfbImul .n8)
  | 0x09 => if x then none else some (.vfbImul .n16)
  | 0x0a => if x then none else some (.vfbImul .n32)
  | 0x0c => if x then none else some (.vfbIadds .n8)
  | 0x0d => if x then none else some (.vfbIadds .n16)
  | 0x0e => if x then none else some (.vfbIadds .n32)
  | 0x10 => if x then none else some (.vfbIminS .n8)
  | 0x11 => if x then none else some (.vfbIminS .n16)
  | 0x12 => if x then none else some (.vfbIminS .n32)
  | 0x14 => if x then none else some (.vfbImaxS .n8)
  | 0x15 => if x then none else some (.vfbImaxS .n16)
  | 0x16 => if x then none else some (.vfbImaxS .n32)
  | 0x18 => if x then none else some (.vfbIminN .n8)
  | 0x19 => if x then none else some (.vfbIminN .n16)
  | 0x1a => if x then none else some (.vfbIminN .n32)
  | 0x1c => if x then none else some (.vfbImaxN .n8)
  | 0x1d => if x then none else some (.vfbImaxN .n16)
  | 0x1e => if x then none else some (.vfbImaxN .n32)
  | 0x20 => if x then none else some .vfbAnd
  | 0x21 => if x then none else some .vfbOr
  | 0x22 => if x then none else some .vfbXor
  | 0x23 => some (.vfbBsel x)
  | 0x24 => some (.vfbShlN32 x)
  | 0x25 => some (.vfbShrN32 x)
  | 0x26 => some (.vfbShrS32 x)
  | 0x27 => some (.vfbIcmpS32 x)
  | 0x28 => some (.vfbIcmpN32 x)
  | 0x29 => if x then none else some .kpack
  | 0x2a => if x then none else some .sbcast
  | 0x2b => if x then none else some .lbcast
  | 0x2c => if x then none else some .perm
  | 0x2d => some (.slideup x)
  | 0x2e => some (.slidedn x)
  | 0x30 => if x then none else some .cvt
  | 0x31 => if x then none else some .mxpack
  | 0x32 => if x then none else some .mxunpack
  | 0x33 => if x then none else some .rsumF32
  | 0x34 => if x then none else some .rmaxF32
  | 0x35 => if x then none else some .rminF32
  | 0x36 => if x then none else some .rsumS32
  | 0x38 => some (.vfbFmaF32 x)
  | 0x39 => some (.vfbFmsF32 x)
  | 0x3a => some (.vfbFnmaF32 x)
  | 0x3b => some (.vfbFnmsF32 x)
  | _ => none

/-- The sfu operations by opcode. -/
def sfuOp (opc : Nat) : Option Instr :=
  match opc with
  | 0x00 => some .recipF32
  | 0x01 => some .divF32
  | 0x02 => some .sqrtF32
  | 0x03 => some .rsqrtF32
  | 0x04 => some .expF32
  | 0x05 => some .exp2F32
  | 0x06 => some .logF32
  | 0x07 => some .log2F32
  | 0x08 => some .tanhF32
  | 0x09 => some .sigmoidF32
  | 0x0a => some .geluF32
  | 0x10 => some .rsumdF32
  | 0x11 => some .rmeanF32
  | 0x12 => some .rvarF32
  | 0x14 => some .smexpF32
  | 0x15 => some .smadd
  | 0x16 => some .smoutF32
  | _ => none

/-- The mx operations by opcode. -/
def mxOp (opc : Nat) : Option Instr :=
  match opc with
  | 0x00 => some .fset
  | 0x01 => some .fget
  | 0x02 => some .tcread
  | 0x03 => some .tcclr
  | 0x04 => some .chkrd
  | 0x05 => some .chkclr
  | 0x06 => some .dur
  | 0x07 => some .mxStat
  | _ => none

/-- The tsw operations by opcode. -/
def tswOp (opc : Nat) : Option Instr :=
  match opc with
  | 0x00 => some .tsin
  | 0x01 => some .tsout
  | 0x02 => some .tscopy
  | 0x03 => some .tsfill
  | 0x04 => some .scin
  | 0x05 => some .scout
  | 0x06 => some .wbin
  | 0x07 => some .wbout
  | _ => none

/-- The ce operations by opcode. -/
def ceOp (opc : Nat) : Option Instr :=
  match opc with
  | 0x00 => some .ceStat
  | 0x01 => some .ceProg
  | 0x02 => some .ceLast
  | 0x03 => some .ceAbort
  | _ => none

/-- The ns operations by opcode. -/
def nsOp (opc : Nat) : Option Instr :=
  match opc with
  | 0x00 => some .nsSend
  | 0x01 => some .nsRst
  | 0x02 => some .nsRatom
  | 0x03 => some .nsXsend
  | 0x04 => some .nsRecv
  | 0x05 => some .nsPeek
  | 0x06 => some .nsRelease
  | 0x07 => some .nsStat
  | 0x08 => some .nsLast
  | 0x09 => some .nsSpill
  | 0x0a => some .nsLback
  | 0x0b => some .nsReject
  | 0x0c => some .nsOvclr
  | _ => none

/-- The sem operations by opcode. -/
def semOp (opc : Nat) : Option Instr :=
  match opc with
  | 0x00 => some .semTake
  | 0x01 => some .semPut
  | 0x02 => some .semLd
  | 0x03 => some .semSt
  | 0x04 => some .semAdd
  | 0x05 => some .semAnd
  | 0x06 => some .semOr
  | 0x07 => some .semMaxS64
  | 0x08 => some .semMaxN64
  | 0x09 => some .semMinS64
  | 0x0a => some .semMinN64
  | 0x0b => some .semCas
  | 0x0c => some .semWadd
  | 0x0d => some .semQlen
  | 0x0e => some .semSrcrd
  | 0x0f => some .semSrcdrop
  | _ => none

/-- The syn operations by opcode. -/
def synOp (opc : Nat) : Option Instr :=
  match opc with
  | 0x00 => some .tpend
  | 0x01 => some .tdone
  | 0x02 => some .tstat
  | 0x03 => some .tmap
  | 0x04 => some .pace
  | 0x05 => some .pacefx
  | 0x06 => some .wtime
  | 0x07 => some .synMstat
  | 0x08 => some .xcyc
  | 0x09 => some .bstat
  | _ => none

/-- The sys operations by opcode (sel: the function the operands name). -/
def sysOp (sel : Nat) (opc : Nat) : Option Instr :=
  match opc with
  | 0x00 => some .csrr
  | 0x01 => some .csrw
  | 0x02 => some .xcsrr
  | 0x03 => some .xcsrw
  | 0x05 => some .pairon
  | 0x06 => some .pairoff
  | 0x07 => some .mwait
  | 0x08 => some .tlbprobe
  | 0x0b => some .gstat
  | 0x0c => some .ptclr
  | 0x10 => some (.fenceW 0)
  | 0x11 => some (.fenceW 1)
  | 0x12 => some (.fenceW 2)
  | 0x13 => some (.fenceW 3)
  | 0x14 => some (.fenceW 4)
  | 0x15 => some (.fenceW 5)
  | 0x18 => some (.fenceRw 0)
  | 0x19 => some (.fenceRw 1)
  | 0x1a => some (.fenceRw 2)
  | 0x1b => some (.fenceRw 3)
  | 0x1c => some (.fenceRw 4)
  | 0x1d => some (.fenceRw 5)
  | 0x04 => match sel with
    | 1 => some .tctlResume
    | 2 => some .tctlHalt
    | 3 => some .tctlUnhalt
    | 4 => some .tctlSave
    | 5 => some .tctlRestore
    | 6 => some .tctlResumeContext
    | 7 => some .tctlKillContext
    | 8 => some .tctlClearContext
    | 9 => some .tctlRollback
    | _ => some .tctlFreeze
  | 0x09 => match sel with
    | 1 => some .tlbinvAsid
    | 2 => some .tlbinvGlobal
    | 3 => some .tlbinvAll
    | _ => some .tlbinvAddress
  | 0x0a => match sel with
    | 1 => some .gctlOnline
    | 2 => some .gctlConvert
    | _ => some .gctlOffline
  | _ => none

/-- The operation that a trigger names: socket, x port, opcode and, for the operations whose rows the operands choose
(sys.t.tctl, tlbinv, gctl), the function sel. None where the socket's chapter assigns nothing, or no x form. -/
def opOf (so : Sock) (x : Bool) (opc sel : Nat) : Option Instr :=
  match so with
  | .ctl => if x then none else ctlOp opc
  | .alu0 => aluOp .a x opc
  | .alu1 => aluOp .b x opc
  | .mul => mulOp x opc
  | .agu => if x then none else aguOp opc
  | .ld0 => if x then none else ldOp .a opc
  | .ld1 => if x then none else ldOp .b opc
  | .st0 => if x then none else stOp .a opc
  | .st1 => if x then none else stOp .b opc
  | .vfa => vfaOp x opc
  | .vfb => vfbOp x opc
  | .sfu => if x then none else sfuOp opc
  | .mx => if x then none else mxOp opc
  | .tsw => if x then none else tswOp opc
  | .ce => if x then none else ceOp opc
  | .ns => if x then none else nsOp opc
  | .sem => if x then none else semOp opc
  | .syn => if x then none else synOp opc
  | .sys => if x then none else sysOp sel opc

/-- The function that the operands of a sys operation choose (18 R418, 17 R398, R400). -/
def selOf (opc : Nat) (tv opo : Nat) : Nat :=
  if opc = 0x04 then tv % 16 else if opc = 0x09 then opo % 8 else if opc = 0x0a then tv % 4 else 0

/-- The command an engine header names: engine slot 12, 13 or 14 and its opcode (10 R210, 13 R278, 15 R346). -/
def headerOf (slot eop : Nat) (h : Hdr) : Option Instr :=
  if slot = 12 then
    match eop with
    | 1 => some (.mxMm h) | 2 => some (.mxGang h) | 3 => some (.mxSeq h) | 4 => some (.mxGseq h)
    | 5 => some (.mxTadd h) | 6 => some (.mxDrain h) | 7 => some (.mxTcsave h) | _ => none
  else if slot = 13 then
    match eop with
    | 1 => some (.ceCopy h) | 2 => some (.ceXcopy h) | 3 => some (.ceFill h) | 4 => some (.cePlace h)
    | 5 => some (.ceCode h) | _ => none
  else
    match eop with
    | 1 => some (.synTimer h) | 2 => some (.synDelay h) | 3 => some (.synGbar h) | 4 => some (.synJoin h)
    | _ => none

/-- The token fields of an engine header slot (02 R33). -/
def hdrFields (r : BitVec 32) : Hdr :=
  { tokp := BitVec.ofNat 6 (bits r 18 6), toka := BitVec.ofNat 6 (bits r 12 6)
    tokb := BitVec.ofNat 6 (bits r 6 6), tokc := BitVec.ofNat 6 (bits r 0 6) }

/-! ## The checks of a word -/

/-- Why a word names no instruction: a slot number (15: the header) and the detail of 02 R43. -/
structure Illegal where
  slot : Nat
  detail : Nat
deriving DecidableEq, Repr

/-- The end of a socket's operation block (02 R41). -/
def blockEnd (s : Sock) : Nat :=
  match s with
  | .ctl => 0x20 | .alu0 => 0x30 | .alu1 => 0x30 | .mul => 0x10 | .agu => 0x10 | .ld0 => 0x20 | .ld1 => 0x20
  | .st0 => 0x20 | .st1 => 0x20 | .vfa => 0x30 | .vfb => 0x40 | .sfu => 0x20 | .mx => 0x20 | .tsw => 0x10
  | .ce => 0x10 | .ns => 0x20 | .sem => 0x20 | .syn => 0x10 | .sys => 0x20

/-- Whether the socket has an x port (02 R36). -/
def hasX (s : Sock) : Bool := s = .alu0 || s = .alu1 || s = .mul || s = .vfa || s = .vfb

/-- Whether a port (0 o, 1 p, 2 t, 3 x) of a socket is reached from move slot i (02 R38). -/
def reaches (so : Sock) (port i : Nat) : Bool :=
  match so, busOf i with
  | .ld0, .scalar => port < 2
  | .ld0, .load => port = 2 && i = 8
  | .ld1, .scalar => port < 2
  | .ld1, .load => port = 2 && i = 9
  | .st0, .scalar => port < 2
  | .st0, .store => port = 2 && i = 10
  | .st1, .scalar => port < 2
  | .st1, .store => port = 2 && i = 11
  | .vfa, .vecA => true
  | .vfa, .vecB => port < 2
  | .vfb, .vecA => port < 2
  | .vfb, .vecB => true
  | .sfu, .vecA => port < 3
  | .ns, .scalar => port = 0 || port = 2
  | .ns, .vecB => port = 1
  | .alu0, .scalar => true
  | .alu1, .scalar => true
  | .mul, .scalar => true
  | .vfa, .scalar => false
  | .vfb, .scalar => false
  | .sfu, .scalar => false
  | _, .scalar => port < 3
  | _, _ => false

/-- Whether the bus of move slot i can write a register file (02 R38). -/
def writesFile (f : RegFile) (i : Nat) : Bool :=
  match busOf i with
  | .scalar => f ≠ .v
  | .vecA => f = .v
  | .vecB => f = .v
  | .load => false
  | .store => false

/-- Whether the bus of move slot i can read a source (02 R39). -/
def readable (s : Src) (i : Nat) : Bool :=
  match s with
  | .nil => true
  | .limm => true
  | .imm _ => true
  | .reg f _ =>
    match busOf i with
    | .scalar => f ≠ .v
    | .load => f = .s || f = .a
    | .vecA => f = .v
    | .vecB => f = .v
    | .store => f = .s || f = .v
  | .win _ => busOf i = .vecA || busOf i = .vecB || busOf i = .store
  | .port so po =>
    match busOf i with
    | .scalar => true
    | .load => true
    | _ => widePort so po

/-- Whether context k may name a register (02 R30, 03 R49). -/
def visible (k : Ctx) (f : RegFile) (n : Nat) : Bool :=
  match k with
  | .k0 => true
  | .k1 => true
  | _ => (f = .s && n < 16) || (f = .g && n < 8) || f = .m || f = .c

/-- Whether context k may name a source. -/
def visibleSrc (k : Ctx) (s : Src) : Bool :=
  match s with
  | .reg f n => visible k f n
  | .win _ => k = .k0 || k = .k1
  | _ => true

/-- The first failing check of a move slot (02 R43), in increasing detail. -/
def moveCheck (k : Ctx) (i : Nat) (r : BitVec 32) : Option Nat :=
  let guard := bits r 27 5
  let src := srcOf r
  let isPort := bitOf r 14
  let sk := bits r 9 5
  let port := bits r 7 2
  let opc := bits r 0 7
  let dst := dstIdent (bits r 0 10)
  if guard ≥ 25 || (guard = 0 && bitOf r 26) then some 0x05
  else if src.isNone || (!isPort && dst.isNone) then some 0x06
  else if isPort && sk ≥ 19 && sk ≤ 27 && (port < 2 || opc ≤ 0x5F) then some 0x07
  else if isPort && sk ≤ 18 && port ≥ 2 && opc ≤ 0x5F
      && (match sockOf sk with | some so => decide (blockEnd so ≤ opc) | none => false) then some 0x07
  else if isPort && (sk ≥ 28 || (port ≥ 2 && opc ≥ 0x60)) then some 0x08
  else if (isPort && port < 2 && opc ≠ 0) || (!isPort && bits r 10 4 ≠ 0) then some 0x09
  else if isPort && port ≥ 2
      && (match sockOf sk with
          | some so => (opOf so (port = 3 && hasX so) opc 0).isNone
          | none => true) then some 0x09
  else if (k = .k2 || k = .k3) && guard > 8 then some 0x0A
  else if !(match src with | some s => visibleSrc k s | none => true) then some 0x0A
  else if !isPort && !(match dst with | some (.reg f n) => visible k f n | _ => true) then some 0x0A
  else if isPort && !(match sockOf sk with
      | some so => reaches so port i && (port ≠ 3 || hasX so)
      | none => false) then some 0x0B
  else if !isPort && !(match dst with | some (.reg f _) => writesFile f i | _ => true) then some 0x0B
  else if !(match src with | some s => readable s i | none => true) then some 0x0B
  else none

/-- The first failing check of an engine header slot (02 R33, R42, R43). -/
def headerCheck (i : Nat) (r : BitVec 32) : Option Nat :=
  let eop := bits r 24 8
  let h := hdrFields r
  if eop = 0 && r ≠ 0#32 then some 0x0C
  else if eop ≠ 0 && h.tokp ≠ 63#6 && (h.tokp = h.toka || h.tokp = h.tokb || h.tokp = h.tokc) then some 0x0C
  else if eop ≥ 0x80 then some 0x0C
  else if eop ≠ 0 && eop < 0x40 && (headerOf i eop h).isNone then some 0x0C
  else if eop ≥ 0x40 then some 0x0D
  else none

/-- Whether the move of slot i names the long immediate as source. -/
def namesLimm (w : Word) (i : Nat) : Bool := !isLimm w i && srcOf (slotOf w i) = some .limm

/-- The consumer of the long immediate in slot l: the nearest lower slot of its class that holds a move (02 R32). -/
def limmConsumer (w : Word) (l : Nat) : Option Nat :=
  ((List.range l).reverse.filter (fun i => classStart l ≤ i && !isLimm w i)).head?

/-- The long-immediate slot that the move in slot m consumes. -/
def limmFor (w : Word) (m : Nat) : Option Nat :=
  (List.range 12).find? (fun l => isLimm w l && limmConsumer w l = some m)

/-- The lowest slot of the pairing errors of a word, if it has any (02 R32, R43). -/
def pairingError (w : Word) : Option Nat :=
  (List.range 15).find? fun i =>
    if isLimm w i then
      i ≥ 12 || (match limmConsumer w i with | some m => !namesLimm w m | none => true)
    else
      i < 12 &&
        let ls := (List.range 12).filter (fun l => isLimm w l && limmConsumer w l = some i)
        (namesLimm w i && ls.length ≠ 1) || (!namesLimm w i && ls.length ≠ 0)

/-- The first failing check of a word issued by context k: the header, the pairing, then the slots in order
(02 R43). -/
def wordCheck (k : Ctx) (w : Word) : Option Illegal :=
  if w.rsv ≠ 0#9 then some ⟨15, 0x01⟩
  else if w.kind.toNat ≥ 8 then some ⟨15, 0x02⟩
  else if w.kind ≠ 0#4 then some ⟨15, 0x03⟩
  else
    match pairingError w with
    | some i => some ⟨i, 0x04⟩
    | none =>
      (List.range 15).findSome? fun i =>
        if i < 12 then
          if isLimm w i then none else (moveCheck k i (slotOf w i)).map (fun d => ⟨i, d⟩)
        else (headerCheck i (slotOf w i)).map (fun d => ⟨i, d⟩)

/-- Decodes the 512 bits at the address of context k of tile n: the instruction, or the slot and detail for which the
word is refused. -/
def decodeWord (n : Nat) (k : Ctx) (b : W512) : Except Illegal Instr :=
  match wordCheck k (wordOf b) with
  | some e => .error e
  | none => .ok (.transportWord n k (wordOf b))

/-! ## Encoding -/

/-- The trigger an operation is written as: socket number, x port, opcode, and the function its operands name. -/
def trigOf (i : Instr) : Option (Nat × Bool × Nat × Nat) :=
  match i with
  | .ctlJmp => some (0, false, 0x00, 0)
  | .ctlJmpr => some (0, false, 0x01, 0)
  | .ctlCall => some (0, false, 0x02, 0)
  | .ctlRet => some (0, false, 0x03, 0)
  | .ctlLoop => some (0, false, 0x04, 0)
  | .ctlLdim => some (0, false, 0x05, 0)
  | .ctlLidx => some (0, false, 0x06, 0)
  | .ctlLexit => some (0, false, 0x07, 0)
  | .ctlRetire => some (0, false, 0x08, 0)
  | .ctlYield => some (0, false, 0x09, 0)
  | .ctlTrap => some (0, false, 0x0a, 0)
  | .ctlUret => some (0, false, 0x0b, 0)
  | .ctlWtok => some (0, false, 0x0c, 0)
  | .ctlWcyc => some (0, false, 0x0d, 0)
  | .ctlQadd => some (0, false, 0x0e, 0)
  | .ctlQread => some (0, false, 0x0f, 0)
  | .ctlWhere => some (0, false, 0x10, 0)
  | .ctlHset => some (0, false, 0x11, 0)
  | .aluAdd u => some (twinSock 1 u, false, 0x00, 0)
  | .aluSub u x => some (twinSock 1 u, x, 0x01, 0)
  | .aluAddc u => some (twinSock 1 u, false, 0x02, 0)
  | .aluSubb u x => some (twinSock 1 u, x, 0x03, 0)
  | .aluAddsS64 u => some (twinSock 1 u, false, 0x04, 0)
  | .aluAddsN64 u => some (twinSock 1 u, false, 0x05, 0)
  | .aluSubsS64 u x => some (twinSock 1 u, x, 0x06, 0)
  | .aluSubsN64 u x => some (twinSock 1 u, x, 0x07, 0)
  | .aluAnd u => some (twinSock 1 u, false, 0x08, 0)
  | .aluOr u => some (twinSock 1 u, false, 0x09, 0)
  | .aluXor u => some (twinSock 1 u, false, 0x0a, 0)
  | .aluAndn u x => some (twinSock 1 u, x, 0x0b, 0)
  | .aluShl u x => some (twinSock 1 u, x, 0x0c, 0)
  | .aluShrN64 u x => some (twinSock 1 u, x, 0x0d, 0)
  | .aluShrS64 u x => some (twinSock 1 u, x, 0x0e, 0)
  | .aluRol u x => some (twinSock 1 u, x, 0x0f, 0)
  | .aluRor u x => some (twinSock 1 u, x, 0x10, 0)
  | .aluCeq u => some (twinSock 1 u, false, 0x11, 0)
  | .aluCne u => some (twinSock 1 u, false, 0x12, 0)
  | .aluCltS64 u x => some (twinSock 1 u, x, 0x13, 0)
  | .aluCltN64 u x => some (twinSock 1 u, x, 0x14, 0)
  | .aluCleS64 u x => some (twinSock 1 u, x, 0x15, 0)
  | .aluCleN64 u x => some (twinSock 1 u, x, 0x16, 0)
  | .aluMinS64 u => some (twinSock 1 u, false, 0x17, 0)
  | .aluMinN64 u => some (twinSock 1 u, false, 0x18, 0)
  | .aluMaxS64 u => some (twinSock 1 u, false, 0x19, 0)
  | .aluMaxN64 u => some (twinSock 1 u, false, 0x1a, 0)
  | .aluSel u x => some (twinSock 1 u, x, 0x1b, 0)
  | .aluAbsS64 u => some (twinSock 1 u, false, 0x1c, 0)
  | .aluPass u => some (twinSock 1 u, false, 0x1d, 0)
  | .aluPopc u => some (twinSock 1 u, false, 0x1e, 0)
  | .aluClz u => some (twinSock 1 u, false, 0x1f, 0)
  | .aluCtz u => some (twinSock 1 u, false, 0x20, 0)
  | .aluBfxS64 u => some (twinSock 1 u, false, 0x21, 0)
  | .aluBfxN64 u => some (twinSock 1 u, false, 0x22, 0)
  | .aluBfi u => some (twinSock 1 u, false, 0x23, 0)
  | .gpack u => some (twinSock 1 u, false, 0x28, 0)
  | .gset u x => some (twinSock 1 u, x, 0x29, 0)
  | .kfill u => some (twinSock 1 u, false, 0x2a, 0)
  | .klow u => some (twinSock 1 u, false, 0x2b, 0)
  | .khigh u => some (twinSock 1 u, false, 0x2c, 0)
  | .mulS64 => some (3, false, 0x00, 0)
  | .mulN64 => some (3, false, 0x01, 0)
  | .madS64 => some (3, false, 0x02, 0)
  | .madN64 => some (3, false, 0x03, 0)
  | .mulS32 => some (3, false, 0x04, 0)
  | .mulN32 => some (3, false, 0x05, 0)
  | .divS64 x => some (3, x, 0x06, 0)
  | .divN64 x => some (3, x, 0x07, 0)
  | .mulrS64 => some (3, false, 0x08, 0)
  | .aguPstr => some (4, false, 0x00, 0)
  | .aguPwin => some (4, false, 0x01, 0)
  | .aguPreg => some (4, false, 0x02, 0)
  | .aguPget => some (4, false, 0x03, 0)
  | .aguPadv => some (4, false, 0x04, 0)
  | .aguPpeek => some (4, false, 0x05, 0)
  | .aguPcopy => some (4, false, 0x06, 0)
  | .aguRchk => some (4, false, 0x07, 0)
  | .aguRassert => some (4, false, 0x08, 0)
  | .aguRget => some (4, false, 0x09, 0)
  | .aguLea => some (4, false, 0x0a, 0)
  | .ldN8 u => some (twinSock 5 u, false, 0x00, 0)
  | .ldN16 u => some (twinSock 5 u, false, 0x01, 0)
  | .ldN32 u => some (twinSock 5 u, false, 0x02, 0)
  | .ldX64 u => some (twinSock 5 u, false, 0x03, 0)
  | .ldS8 u => some (twinSock 5 u, false, 0x04, 0)
  | .ldS16 u => some (twinSock 5 u, false, 0x05, 0)
  | .ldS32 u => some (twinSock 5 u, false, 0x06, 0)
  | .ldB128 u => some (twinSock 5 u, false, 0x08, 0)
  | .ldB256 u => some (twinSock 5 u, false, 0x09, 0)
  | .ldB512 u => some (twinSock 5 u, false, 0x0a, 0)
  | .ldB1024 u => some (twinSock 5 u, false, 0x0b, 0)
  | .ldM1024 u => some (twinSock 5 u, false, 0x0c, 0)
  | .ldSd32 u => some (twinSock 5 u, false, 0x0d, 0)
  | .ldFl64 u => some (twinSock 5 u, false, 0x10, 0)
  | .ldFl1024 u => some (twinSock 5 u, false, 0x11, 0)
  | .stB8 u => some (twinSock 7 u, false, 0x00, 0)
  | .stB16 u => some (twinSock 7 u, false, 0x01, 0)
  | .stB32 u => some (twinSock 7 u, false, 0x02, 0)
  | .stB64 u => some (twinSock 7 u, false, 0x03, 0)
  | .stB128 u => some (twinSock 7 u, false, 0x08, 0)
  | .stB256 u => some (twinSock 7 u, false, 0x09, 0)
  | .stB512 u => some (twinSock 7 u, false, 0x0a, 0)
  | .stB1024 u => some (twinSock 7 u, false, 0x0b, 0)
  | .stM1024 u => some (twinSock 7 u, false, 0x0c, 0)
  | .stSd32 u => some (twinSock 7 u, false, 0x0d, 0)
  | .vfaAdd f => some (9, false, 0x00 + ftyCode f, 0)
  | .vfaBdot => some (9, false, 0x03, 0)
  | .vfaSub f x => some (9, x, 0x04 + ftyCode f, 0)
  | .vfaMul f => some (9, false, 0x08 + ftyCode f, 0)
  | .vfaFma f x => some (9, x, 0x0c + ftyCode f, 0)
  | .vfaFms f x => some (9, x, 0x10 + ftyCode f, 0)
  | .vfaFnma f x => some (9, x, 0x14 + ftyCode f, 0)
  | .vfaFnms f x => some (9, x, 0x18 + ftyCode f, 0)
  | .vfaMin f => some (9, false, 0x1c + ftyCode f, 0)
  | .vfaMax f => some (9, false, 0x20 + ftyCode f, 0)
  | .vfaCmp f x => some (9, x, 0x24 + ftyCode f, 0)
  | .vfaClass f => some (9, false, 0x28 + ftyCode f, 0)
  | .vfaScale f x => some (9, x, 0x2c + ftyCode f, 0)
  | .vfbIadd w => some (10, false, 0x00 + iwCode w, 0)
  | .vfbIsub w x => some (10, x, 0x04 + iwCode w, 0)
  | .vfbImul w => some (10, false, 0x08 + iwCode w, 0)
  | .vfbIadds w => some (10, false, 0x0c + iwCode w, 0)
  | .vfbIminS w => some (10, false, 0x10 + iwCode w, 0)
  | .vfbImaxS w => some (10, false, 0x14 + iwCode w, 0)
  | .vfbIminN w => some (10, false, 0x18 + iwCode w, 0)
  | .vfbImaxN w => some (10, false, 0x1c + iwCode w, 0)
  | .vfbAnd => some (10, false, 0x20, 0)
  | .vfbOr => some (10, false, 0x21, 0)
  | .vfbXor => some (10, false, 0x22, 0)
  | .vfbBsel x => some (10, x, 0x23, 0)
  | .vfbShlN32 x => some (10, x, 0x24, 0)
  | .vfbShrN32 x => some (10, x, 0x25, 0)
  | .vfbShrS32 x => some (10, x, 0x26, 0)
  | .vfbIcmpS32 x => some (10, x, 0x27, 0)
  | .vfbIcmpN32 x => some (10, x, 0x28, 0)
  | .kpack => some (10, false, 0x29, 0)
  | .sbcast => some (10, false, 0x2a, 0)
  | .lbcast => some (10, false, 0x2b, 0)
  | .perm => some (10, false, 0x2c, 0)
  | .slideup x => some (10, x, 0x2d, 0)
  | .slidedn x => some (10, x, 0x2e, 0)
  | .cvt => some (10, false, 0x30, 0)
  | .mxpack => some (10, false, 0x31, 0)
  | .mxunpack => some (10, false, 0x32, 0)
  | .rsumF32 => some (10, false, 0x33, 0)
  | .rmaxF32 => some (10, false, 0x34, 0)
  | .rminF32 => some (10, false, 0x35, 0)
  | .rsumS32 => some (10, false, 0x36, 0)
  | .vfbFmaF32 x => some (10, x, 0x38, 0)
  | .vfbFmsF32 x => some (10, x, 0x39, 0)
  | .vfbFnmaF32 x => some (10, x, 0x3a, 0)
  | .vfbFnmsF32 x => some (10, x, 0x3b, 0)
  | .recipF32 => some (11, false, 0x00, 0)
  | .divF32 => some (11, false, 0x01, 0)
  | .sqrtF32 => some (11, false, 0x02, 0)
  | .rsqrtF32 => some (11, false, 0x03, 0)
  | .expF32 => some (11, false, 0x04, 0)
  | .exp2F32 => some (11, false, 0x05, 0)
  | .logF32 => some (11, false, 0x06, 0)
  | .log2F32 => some (11, false, 0x07, 0)
  | .tanhF32 => some (11, false, 0x08, 0)
  | .sigmoidF32 => some (11, false, 0x09, 0)
  | .geluF32 => some (11, false, 0x0a, 0)
  | .rsumdF32 => some (11, false, 0x10, 0)
  | .rmeanF32 => some (11, false, 0x11, 0)
  | .rvarF32 => some (11, false, 0x12, 0)
  | .smexpF32 => some (11, false, 0x14, 0)
  | .smadd => some (11, false, 0x15, 0)
  | .smoutF32 => some (11, false, 0x16, 0)
  | .fset => some (12, false, 0x00, 0)
  | .fget => some (12, false, 0x01, 0)
  | .tcread => some (12, false, 0x02, 0)
  | .tcclr => some (12, false, 0x03, 0)
  | .chkrd => some (12, false, 0x04, 0)
  | .chkclr => some (12, false, 0x05, 0)
  | .dur => some (12, false, 0x06, 0)
  | .mxStat => some (12, false, 0x07, 0)
  | .tsin => some (13, false, 0x00, 0)
  | .tsout => some (13, false, 0x01, 0)
  | .tscopy => some (13, false, 0x02, 0)
  | .tsfill => some (13, false, 0x03, 0)
  | .scin => some (13, false, 0x04, 0)
  | .scout => some (13, false, 0x05, 0)
  | .wbin => some (13, false, 0x06, 0)
  | .wbout => some (13, false, 0x07, 0)
  | .ceStat => some (14, false, 0x00, 0)
  | .ceProg => some (14, false, 0x01, 0)
  | .ceLast => some (14, false, 0x02, 0)
  | .ceAbort => some (14, false, 0x03, 0)
  | .nsSend => some (15, false, 0x00, 0)
  | .nsRst => some (15, false, 0x01, 0)
  | .nsRatom => some (15, false, 0x02, 0)
  | .nsXsend => some (15, false, 0x03, 0)
  | .nsRecv => some (15, false, 0x04, 0)
  | .nsPeek => some (15, false, 0x05, 0)
  | .nsRelease => some (15, false, 0x06, 0)
  | .nsStat => some (15, false, 0x07, 0)
  | .nsLast => some (15, false, 0x08, 0)
  | .nsSpill => some (15, false, 0x09, 0)
  | .nsLback => some (15, false, 0x0a, 0)
  | .nsReject => some (15, false, 0x0b, 0)
  | .nsOvclr => some (15, false, 0x0c, 0)
  | .semTake => some (16, false, 0x00, 0)
  | .semPut => some (16, false, 0x01, 0)
  | .semLd => some (16, false, 0x02, 0)
  | .semSt => some (16, false, 0x03, 0)
  | .semAdd => some (16, false, 0x04, 0)
  | .semAnd => some (16, false, 0x05, 0)
  | .semOr => some (16, false, 0x06, 0)
  | .semMaxS64 => some (16, false, 0x07, 0)
  | .semMaxN64 => some (16, false, 0x08, 0)
  | .semMinS64 => some (16, false, 0x09, 0)
  | .semMinN64 => some (16, false, 0x0a, 0)
  | .semCas => some (16, false, 0x0b, 0)
  | .semWadd => some (16, false, 0x0c, 0)
  | .semQlen => some (16, false, 0x0d, 0)
  | .semSrcrd => some (16, false, 0x0e, 0)
  | .semSrcdrop => some (16, false, 0x0f, 0)
  | .tpend => some (17, false, 0x00, 0)
  | .tdone => some (17, false, 0x01, 0)
  | .tstat => some (17, false, 0x02, 0)
  | .tmap => some (17, false, 0x03, 0)
  | .pace => some (17, false, 0x04, 0)
  | .pacefx => some (17, false, 0x05, 0)
  | .wtime => some (17, false, 0x06, 0)
  | .synMstat => some (17, false, 0x07, 0)
  | .xcyc => some (17, false, 0x08, 0)
  | .bstat => some (17, false, 0x09, 0)
  | .csrr => some (18, false, 0x00, 0)
  | .csrw => some (18, false, 0x01, 0)
  | .xcsrr => some (18, false, 0x02, 0)
  | .xcsrw => some (18, false, 0x03, 0)
  | .pairon => some (18, false, 0x05, 0)
  | .pairoff => some (18, false, 0x06, 0)
  | .mwait => some (18, false, 0x07, 0)
  | .tlbprobe => some (18, false, 0x08, 0)
  | .gstat => some (18, false, 0x0b, 0)
  | .ptclr => some (18, false, 0x0c, 0)
  | .fenceW lv => some (18, false, 0x10 + lv, 0)
  | .fenceRw lv => some (18, false, 0x18 + lv, 0)
  | .tctlFreeze => some (18, false, 0x04, 0)
  | .tctlResume => some (18, false, 0x04, 1)
  | .tctlHalt => some (18, false, 0x04, 2)
  | .tctlUnhalt => some (18, false, 0x04, 3)
  | .tctlSave => some (18, false, 0x04, 4)
  | .tctlRestore => some (18, false, 0x04, 5)
  | .tctlResumeContext => some (18, false, 0x04, 6)
  | .tctlKillContext => some (18, false, 0x04, 7)
  | .tctlClearContext => some (18, false, 0x04, 8)
  | .tctlRollback => some (18, false, 0x04, 9)
  | .tlbinvAddress => some (18, false, 0x09, 0)
  | .tlbinvAsid => some (18, false, 0x09, 1)
  | .tlbinvGlobal => some (18, false, 0x09, 2)
  | .tlbinvAll => some (18, false, 0x09, 3)
  | .gctlOffline => some (18, false, 0x0a, 0)
  | .gctlOnline => some (18, false, 0x0a, 1)
  | .gctlConvert => some (18, false, 0x0a, 2)
  | _ => none

/-- The socket field, port field and opcode of a trigger destination (02 R26). -/
def dstBits (sk : Nat) (x : Bool) (opc : Nat) : BitVec 15 :=
  BitVec.ofNat 15 (0x4000 + sk * 512 + (if x then 3 else 2) * 128 + opc)

/-- The destination field of the move that triggers an operation, with the function its operands name. -/
def encodeTrig (i : Instr) : Option (BitVec 15 × Nat) :=
  (trigOf i).map fun (sk, x, opc, sel) => (dstBits sk x opc, sel)

/-- The operation a trigger destination field names, with the function sel its operands choose. -/
def decodeTrig (d : BitVec 15) (sel : Nat) : Option Instr :=
  if bitOf d 14 && bits d 7 2 ≥ 2 then
    match sockOf (bits d 9 5) with
    | some so => if bits d 7 2 = 3 && !hasX so then none else opOf so (bits d 7 2 = 3) (bits d 0 7) sel
    | none => none
  else none

/-- The engine slot and opcode of a header command. -/
def eopOf (i : Instr) : Option (Nat × Nat × Hdr) :=
  match i with
  | .mxMm h => some (12, 1, h)
  | .mxGang h => some (12, 2, h)
  | .mxSeq h => some (12, 3, h)
  | .mxGseq h => some (12, 4, h)
  | .mxTadd h => some (12, 5, h)
  | .mxDrain h => some (12, 6, h)
  | .mxTcsave h => some (12, 7, h)
  | .ceCopy h => some (13, 1, h)
  | .ceXcopy h => some (13, 2, h)
  | .ceFill h => some (13, 3, h)
  | .cePlace h => some (13, 4, h)
  | .ceCode h => some (13, 5, h)
  | .synTimer h => some (14, 1, h)
  | .synDelay h => some (14, 2, h)
  | .synGbar h => some (14, 3, h)
  | .synJoin h => some (14, 4, h)
  | _ => none

/-- The 32 bits of a header command and its slot (02 R33). -/
def encodeHeader (i : Instr) : Option (Nat × BitVec 32) :=
  (eopOf i).map fun (slot, eop, h) =>
    (slot, BitVec.ofNat 32 (eop * 2 ^ 24 + h.tokp.toNat * 2 ^ 18 + h.toka.toNat * 2 ^ 12 + h.tokb.toNat * 2 ^ 6
      + h.tokc.toNat))

/-- The command of a header slot. -/
def decodeHeader (slot : Nat) (r : BitVec 32) : Option Instr :=
  match headerCheck slot r with
  | some _ => none
  | none => if r = 0#32 then none else headerOf slot (bits r 24 8) (hdrFields r)

/-- The data bits of a control flit (14 R293). -/
def controlData (ctype : Nat) (cseq : BitVec 8) (stop : BitVec 6) : BitVec 256 :=
  BitVec.ofNat 256 (ctype * 2 ^ 248 + cseq.toNat * 2 ^ 240 + stop.toNat * 2 ^ 234)

/-- The data bits of the control flit of an event of a link end, with the link. -/
def encodeControl (i : Instr) : Option (Nat × BitVec 256) :=
  match i with
  | .idle l q st => some (l, controlData 0 q st)
  | .ack l q st => some (l, controlData 1 q st)
  | .nak l q st => some (l, controlData 2 q st)
  | _ => none

/-- The event of a control flit; none where ctype or the low bits name nothing (the flit is a link error). -/
def decodeControl (l : Nat) (d : BitVec 256) : Option Instr :=
  if bits d 0 234 ≠ 0 then none
  else
    match bits d 248 8 with
    | 0 => some (.idle l (BitVec.ofNat 8 (bits d 240 8)) (BitVec.ofNat 6 (bits d 234 6)))
    | 1 => some (.ack l (BitVec.ofNat 8 (bits d 240 8)) (BitVec.ofNat 6 (bits d 234 6)))
    | 2 => some (.nak l (BitVec.ofNat 8 (bits d 240 8)) (BitVec.ofNat 6 (bits d 234 6)))
    | _ => none

/-! ### Moves (02 R26, R28, R29) -/

/-- The identifier of a register (02 R28). -/
def regIdent (f : RegFile) (n : Nat) : Nat :=
  (match f with
    | .s => 0x40 | .v => 0x80 | .g => 0xA0 | .k => 0xB8 | .a => 0xC0 | .h => 0xD0 | .m => 0xE0 | .c => 0xF0) + n

/-- How many registers a file has that a word can name (02 R28). -/
def regCount (f : RegFile) : Nat :=
  match f with
  | .s => 64 | .v => 32 | .g => 24 | .k => 8 | .a => 8 | .h => 16 | .m => 16 | .c => 16

/-- The identifier of a result port (02 R28, R29). -/
def portIdent (so : Sock) (po : Port) : Nat :=
  0x200 + 16 * sockNum so + (match po with | .r => 0 | .q => 1 | .f => 2)

/-- The source field with its immediate bit. -/
def srcBits (x : Src) : Nat :=
  match x with
  | .nil => 0
  | .limm => 1
  | .imm v => 2 ^ 10 + v.toNat
  | .reg f n => regIdent f n
  | .win n => 0x100 + n
  | .port so po => portIdent so po

/-- The destination field. -/
def dstField (x : Dst) : Nat :=
  match x with
  | .nil => 0
  | .reg f n => regIdent f n
  | .opnd so isP => 0x4000 + sockNum so * 512 + (if isP then 128 else 0)
  | .trig so x opc => 0x4000 + sockNum so * 512 + (if x then 3 else 2) * 128 + opc

/-- The 32 bits of a move. -/
def moveBits (guard : Nat) (neg : Bool) (x : Src) (y : Dst) : BitVec 32 :=
  BitVec.ofNat 32 (guard * 2 ^ 27 + (if neg then 2 ^ 26 else 0) + srcBits x * 2 ^ 15 + dstField y)

/-- A source that a move can name. -/
def Src.ok (x : Src) : Bool :=
  match x with
  | .nil => true
  | .limm => true
  | .imm _ => true
  | .reg f n => n < regCount f
  | .win n => n < 32
  | .port so po => hasPort so po

/-- A destination that a move can name. -/
def Dst.ok (x : Dst) : Bool :=
  match x with
  | .nil => true
  | .reg f n => n < regCount f
  | .opnd _ _ => true
  | .trig _ _ opc => opc < 128

/-- The words of an instruction: the 512 bits of a transport word, little-endian as one number. -/
def encode (i : Instr) : Option W512 :=
  match i with
  | .transportWord _ _ w => some (bitsOfWord w)
  | _ => none

/-- The instruction read from the bits w of a word numbered from its least significant bit; bits at and above nbits
are 0. It is decoded for context K0 of tile 0. -/
def decodeTableWord (nbits w : Nat) : Option Instr :=
  match decodeWord 0 .k0 (BitVec.ofNat 512 (w % 2 ^ nbits)) with
  | .ok i => some i
  | .error _ => none

end Sys2Proof
end

