-- ==== Sys2Proof/Machine/Sparse.lean ====
section
/-!
DEFINITION. Sparse maps from natural numbers: register files, memories, tiles. A map is a list of pairs in rising
order of the key; in canonical form no entry equals what an unlisted key reads as, so equal maps are equal lists.
-/

namespace Sys2Proof

/-- Pairs of a key and a value, keys rising. -/
abbrev Sparse (α : Type) := List (Nat × α)

/-- What key n reads as; d is what an unlisted key reads as. -/
def spGet {α : Type} (d : α) : Sparse α → Nat → α
  | [], _ => d
  | (k, v) :: m, n => if n = k then v else spGet d m n

/-- The entry of key n, if listed. -/
def spFind {α : Type} : Sparse α → Nat → Option α
  | [], _ => none
  | (k, v) :: m, n => if n = k then some v else spFind m n

/-- Lists v at key n. -/
def spPut {α : Type} : Sparse α → Nat → α → Sparse α
  | [], n, v => [(n, v)]
  | (k, w) :: m, n, v =>
    if n < k then (n, v) :: (k, w) :: m
    else if n = k then (n, v) :: m
    else (k, w) :: spPut m n v

/-- Lists nothing at key n. -/
def spErase {α : Type} (m : Sparse α) (n : Nat) : Sparse α := m.filter (fun p => p.1 ≠ n)

/-- Writes v at key n, keeping the canonical form. -/
def spSet {α : Type} [DecidableEq α] (d : α) (m : Sparse α) (n : Nat) (v : α) : Sparse α :=
  if v = d then spErase m n else spPut m n v

/-- The canonical form: keys strictly rising, and no entry equal to what an unlisted key reads as. -/
def spWf {α : Type} [DecidableEq α] (d : α) : Sparse α → Bool
  | [] => true
  | [(_, v)] => !decide (v = d)
  | (k, v) :: (k', v') :: m => !decide (v = d) && decide (k < k') && spWf d ((k', v') :: m)

end Sys2Proof
end

