-- ==== Sys2Proof/Machine/State.lean ====
section
/-!
DEFINITION. The state of one device: plain data only. Register files, memories and tables are sparse maps (Sparse.lean)
whose unlisted keys read as the value at reset; a control register stands under its number. `State.reset` is the
machine right after device reset.
-/

namespace Sys2Proof.Machine

/-- Trap and freeze causes (18 R409). -/
inductive Cause where
  | illword | sockbusy | ctlfault | usertrap | watchdog | waitunsat | region | sramacc | tswacc | semacc | ceacc
  | nsacc | synacc | sysacc | tokdup | mxhaz | mxchk | scaleseq | wfmt | pageflt | perm | ptpoison | classdeny
  | parity | uncorr | errbudget | pairmis | preempt | dbgstop | gang | mstout | thermal | halt | dead
deriving DecidableEq, Repr

/-- A cause with what the trap record takes from it (18 R412): slot, detail, trapaux, and whether an engine raised it. -/
structure Raise where
  cause : Cause
  slot : Nat
  detail : Nat
  aux : W64
  eng : Bool
deriving DecidableEq, Repr

/-- A cause due before a later word of a context, with the cycle its rule gives, and whether it is taken in place of a
word held by a wait (18 R411 point 1, 10 R216, 04 R91). -/
structure Due where
  at' : Nat
  urgent : Bool
  what : Raise
deriving DecidableEq, Repr

/-- The states of a context (04 R84); `trapped` is the frozen state of one context (18 R410). -/
inductive Run where
  | idle | ready | retiring | trapped
deriving DecidableEq, Repr

/-- Why a context issues no word (04 R84, R100 and the rules that hold a context). -/
inductive Hold where
  | token (t : Nat)
  | untilCycle (c : Nat)
  | untilPace (ns lag : Nat)
  | result (id : Nat)
  | csrres
  | xlres
  | tlbinv
  | drain (granule : Nat)
  | pairon
  | pairoff
  | pairClose
  | mwait
deriving DecidableEq, Repr

/-- A loop nest (04 R98). -/
structure Nest where
  active : Bool
  start : Nat
  last : Nat
  dims : Nat
  exit : Bool
  filled : Bool
  cnt : Sparse Nat
  idx : Sparse Nat
  buf : Sparse W512
deriving DecidableEq, Repr

/-- Earlier accesses that a fence or a release form waits for (16 R357, 12 R268, 14 R316): local stores by access, a tsw
operation by its trigger cycle, remote stores and remote semaphore operations by the id of their packet. -/
structure Waits where
  stores : List Nat
  tsw : Option Nat
  remote : List Nat
deriving DecidableEq, Repr

/-- A fence that is not yet complete: kind rw, or w (16 R357). -/
structure Fence where
  rw : Bool
  waits : Waits
deriving DecidableEq, Repr

/-- A result in flight (03 R55 to R62): `due` is none while its cycle is not yet known; `far` is a far load's offset and
bytes, read when it lands (09 R194); `ready` is the cycle from which a `sem` result may land (12 R255); `err` and `errAux`
are the cause it brings, with trapaux in bits [47:0] and the detail above, `errAt` where it met its first error (09 R196,
17 R392); `raised` once that cause has been raised, before which alone it may bring one. -/
structure Flight where
  id : Nat
  so : Sock
  po : Port
  ctx : Ctx
  locked : Bool
  due : Option Nat
  val : V1024
  flags : Nat
  far : Option (Nat × Nat)
  ready : Option Nat
  err : Option Cause
  errAux : W64
  errAt : Option Nat
  raised : Bool
deriving DecidableEq, Repr

/-- Whose event captured a result into the replay buffer (03 R67 to R69, 18 R410). -/
inductive Capturer where
  | freeze | trap (k : Ctx) | handler (k : Ctx)
deriving DecidableEq, Repr

/-- A captured result with its remaining count (03 R67). -/
structure Capture where
  by' : Capturer
  d : Nat
  fl : Flight
deriving DecidableEq, Repr

/-- One row a local access touches: its cycle, bank and row, and its bytes as (address, byte position in the
operand) (09 R186). -/
structure RowTouch where
  cyc : Nat
  bank : Nat
  row : Nat
  bytes : List (Nat × Nat)
deriving DecidableEq, Repr

/-- A local access with cycles still to come or a load still to land (09 R186). -/
structure Access where
  id : Nat
  q : Nat
  ctx : Ctx
  issued : Nat
  store : Bool
  sext : Nat
  data : V1024
  rows : List RowTouch
  last : Nat
deriving DecidableEq, Repr

/-- A completion interrupt not yet taken (04 R89): source 1 copy engine or 2 network, token, status word. -/
structure Intr where
  src : Nat
  tok : Nat
  status : Nat
deriving DecidableEq, Repr

/-- What a handler entry saved (04 R90). -/
structure Saved where
  pc : Nat
  guards : Sparse (BitVec 1)
  nest : Nest
  holds : List Hold
deriving DecidableEq, Repr

/-- The register files of a context (03 R49) and its pointers (05 R118). -/
structure Regs where
  s : Sparse W64
  v : Sparse V1024
  g : Sparse (BitVec 1)
  k : Sparse (BitVec 32)
  addr : Sparse (BitVec 32)
  stride : Sparse (BitVec 20)
  wbase : Sparse (BitVec 32)
  wlen : Sparse (BitVec 20)
  tag : Sparse (BitVec 5)
  h : Sparse W64
  m : Sparse W64
  c : Sparse W64
deriving DecidableEq, Repr

/-- What a checkpoint of paired mode restores (18 R428). -/
structure Checkpoint where
  regs : Regs
  pc : Nat
  rstack : List Nat
  nest : Nest
  pend : Sparse Nat
  wdog : Option Nat
  latO : Sparse V1024
  latP : Sparse V1024
  tagO : Sparse (Option Nat)
  ports : Sparse V1024
deriving DecidableEq, Repr

/-- Paired mode of a context (18 R425 to R428): `opened` where a comparison that agreed opened the interval, whose first
word may then commit; `again` until the re-execution of such an interval has issued that word, whose effects beyond the
pair were released once. -/
structure Pair where
  partner : Nat
  coupled : Bool
  asked : Bool
  leaving : Bool
  words : Nat
  print : W64
  undo : List (Nat × V1024)
  save : Checkpoint
  closed : Option Nat
  retried : Bool
  commitOk : Bool
  opened : Bool
  again : Bool
deriving DecidableEq, Repr

/-- One context of a tile; `ending` from its retire word on until it is idle (04 R81). -/
structure Context where
  regs : Regs
  creg : Sparse W64
  pc : Nat
  next : Option Nat
  run : Run
  entry : Option Nat
  entryPc : Nat
  firing : Nat
  exch : Bool
  ending : Bool
  rstack : List Nat
  nest : Nest
  pend : Sparse Nat
  holds : List Hold
  fences : List Fence
  wdog : Option Nat
  wstart : Nat
  waited : Nat
  ien : BitVec 2
  handler : Nat
  irqs : List Intr
  irqOvf : Bool
  saved : Option Saved
  dues : List Due
  lastCe : BitVec 32
  lastNs : BitVec 32
  pair : Option Pair
deriving DecidableEq, Repr

/-- State of a list entry (04 R78): 0 waiting, 1 running, 2 retiring, 3 retired; its context and queue counters. -/
structure Entry where
  st : Nat
  ctx : Nat
  count0 : Nat
  count1 : Nat
deriving DecidableEq, Repr

/-- A dependence token that is pending: owner and context (12 R269, R274). -/
structure Token where
  owner : Nat
  ctx : Ctx
deriving DecidableEq, Repr

/-- A deferred or delayed semaphore operation of this tile: the flight id of its result (its .r; its .f is id + 1),
context, opcode, address word, operands, and whether acquire. -/
structure SemOp where
  id : Nat
  ctx : Ctx
  op : Nat
  addr : W64
  opp : W64
  tv : W64
deriving DecidableEq, Repr

/-- A word of the semaphore file (12 R252): value, full, deferred takers by flight id, uncorrectable mark. -/
structure SemWord where
  val : W64
  full : Bool
  takers : List SemOp
  bad : Bool
deriving DecidableEq, Repr

/-- An entry of the source table (12 R266). -/
structure SrcEntry where
  src : BitVec 31
  lseq : BitVec 16
  r : W64
  status : W64
  awaiting : Bool
deriving DecidableEq, Repr

/-- A page of 4 KiB of an element in hand, as it was translated (13 R285, 17 R373, R399): address space, whether its
leaf is global, virtual page, the size code of its leaf, physical address of the page, key. -/
structure XPage where
  asid : Nat
  glob : Bool
  vpage : Nat
  size : Nat
  pa : Nat
  key : Nat
deriving DecidableEq, Repr

/-- A context's registers of translation and its privilege, as they stood at an issue (17 R373). -/
structure XId where
  ptbase : W64
  keyperm : W64
  clsfloor : W64
  sys : Bool
deriving DecidableEq, Repr

/-- A write of a copy command that is on its way to a space without exact cycles (16 R353): unit j of element e, its
address, its page where that is virtual, its bytes, and whether they hold an error. -/
structure OutWrite where
  e : Nat
  j : Nat
  addr : Nat
  page : Option XPage
  bytes : List Byte
  bad : Bool
deriving DecidableEq, Repr

/-- A copy command held by the engine (13 R276, R280): its parameter image c0 to c13, kind 1 to 5, tokens, context and
firing, the context's translation identity at issue, elements read and sent, the errors it consumed, the bytes of the
element in hand with the places that hold an error, its translated pages of source and destination, the old bytes of
what it has overwritten (13 R277), its writes on the way, and whether it waits for them at a stop. -/
structure Copy where
  kind : Nat
  h : Hdr
  ctx : Ctx
  firing : Nat
  image : List W64
  issued : Nat
  ptbase : W64
  keyperm : W64
  clsfloor : W64
  sys : Bool
  started : Option Nat
  susp : Bool
  done : Nat
  errs : Nat
  lost : Bool
  firstErr : Option Cause
  errAux : W64
  errAt : Option Nat
  fault : Option (Nat × Raise)
  aborted : Bool
  buf : List (Nat × Byte)
  bufBad : List Nat
  sx : List XPage
  dx : List XPage
  olds : Sparse Byte
  outs : List OutWrite
  resting : Bool
deriving DecidableEq, Repr

/-- A tsw operation from its trigger to its completion (11 R247 to R251). -/
structure Tsw where
  op : Nat
  ctx : Ctx
  slot : Nat
  firing : Nat
  opo : W64
  opp : W64
  tv : W64
  issued : Nat
  started : Option Nat
  left : Nat
  buf : List (Nat × Byte)
  side : BitVec 288
  err : Option Cause
  errAux : W64
  errAt : Option Nat
deriving DecidableEq, Repr

/-- A weight tile header as a matrix command read it at issue (11 R236, R238). -/
structure WTile where
  addr : Nat
  hdr : W64
deriving DecidableEq, Repr

/-- A matrix command (10 R210): kind 1 to 7, tokens, its tile, context and firing, the sampled format context and fp mode
(10 R204), its staging m0 to m5, the weight tiles it read, the cycle of its arrival, and the cycle fixed for the start of a
queued grant (10 R213). -/
structure MxCmd where
  kind : Nat
  h : Hdr
  tile : Nat
  slot : Nat
  ctx : Ctx
  firing : Nat
  fmt : W64
  fpmode : W64
  st : List W64
  tiles : List WTile
  issued : Nat
  arrived : Nat
  granted : Option Nat
  errs : List (Bool × Nat)
deriving DecidableEq, Repr

/-- One pass of a started command (10 R207, R218): its start, row range, blocks, weight tile index, cost, whether
checked, whether it writes C, and the pass count it took. -/
structure Pass where
  start : Nat
  row0 : Nat
  rows : Nat
  blk0 : Nat
  blks : Nat
  nbk : Nat
  wt : Nat
  cmax : Nat
  checked : Bool
  write : Bool
  rep : Bool
  pnum : Nat
deriving DecidableEq, Repr

/-- An A row as the array read it: pass, row, data, scales, sequence mismatch or uncorrectable error. -/
structure ARow where
  p : Nat
  m : Nat
  data : BitVec 4096
  side : BitVec 288
  badSeq : Bool
  uncorr : Bool
deriving DecidableEq, Repr

/-- A command the array runs: one member per issuing tile (10 R213 to R216), its plan and what it has met; `diffs` the first
difference of each of its checked passes, by the place of the check pass in the plan (10 R223). -/
structure MxRun where
  id : Nat
  members : List MxCmd
  start : Nat
  total : Nat
  passes : List Pass
  arows : List ARow
  crows : List ARow
  flags : Sparse Nat
  diffs : List (Nat × W64)
  scaleseq : Bool
  wfmt : Bool
  errs : List (Bool × Nat)
deriving DecidableEq, Repr

/-- A synchronisation command (15 R346): its kind (1 timer, 2 delay, 3 gbar, 4 join), its operand, the cycle of its
arrival, the cycle fixed for its end, and how many cycles old the pace time is that it reads (15 R342). -/
structure SynCmd where
  id : Nat
  kind : Nat
  h : Hdr
  ctx : Ctx
  firing : Nat
  o : W64
  issued : Nat
  arrived : Option Nat
  doneAt : Option Nat
  lag : Nat
deriving DecidableEq, Repr

/-- A packet awaiting injection (14 R316): the command's context, firing, token, interrupt request, and what a release form
waits for. -/
structure Outgoing where
  id : Nat
  pkt : Packet
  ctx : Ctx
  firing : Nat
  tok : Nat
  irq : Bool
  rel : Option Waits
  issued : Nat
  leaves : Option Nat
deriving DecidableEq, Repr

/-- A remote store or remote semaphore request that has left and is not yet answered (14 R316, 12 R255). -/
structure Awaited where
  id : Nat
  pkt : Packet
  ctx : Ctx
  firing : Nat
  tok : Nat
  irq : Bool
  issued : Nat
deriving DecidableEq, Repr

/-- A window slot's arrival record without its slot number (14 R318). -/
structure Arrival where
  record : W64
  payload : W512
deriving DecidableEq, Repr

/-- An error mark of a protected unit (09 R195 to R197, 11 R240): corrected on every read until rewritten, or detected or
uncorrectable. -/
inductive Mark where
  | corrected | lost
deriving DecidableEq, Repr

/-- A translation held in a TLB (17 R376): address space, generation, virtual page, page size code, the leaf's two words,
and the table's address. -/
structure TlbEntry where
  asid : Nat
  gen : Nat
  glob : Bool
  vbase : Nat
  size : Nat
  main : W64
  comp : W64
deriving DecidableEq, Repr

/-- A walk-cache entry (17 R376, R393): a pointer of a table walk, or a poisoned one. -/
structure WalkEntry where
  asid : Nat
  gen : Nat
  level : Nat
  vbase : Nat
  frame : Nat
  poison : Bool
deriving DecidableEq, Repr

/-- A trace record waiting in the encoder: the 16 bytes that 20 R453 lays out, and the hint of the word that it tells of,
for which they have no place (02 R24, log entry 123). -/
structure TraceRec where
  body : BitVec 128
  hint : BitVec 2
deriving DecidableEq, Repr

/-- The cairn of a tile (18 R431): the old contents it has logged, the lines of its area whose bytes are known since the
last entry (log entry 14), and how many entries they used. -/
structure Cairn where
  sram : Sparse (List Byte)
  sems : Sparse (List SemWord)
  srcs : Sparse SrcEntry
  srcsLogged : Bool
  toks : Sparse Token
  tsLines : Sparse (List Byte)
  sides : Sparse (BitVec 288)
  wbLines : Sparse (List Byte)
  fmts : Sparse W64
  laid : List Nat
  used : Nat
deriving DecidableEq, Repr

/-- What the tile's copy, chain-side and matrix engines hold. -/
structure Engines where
  copies : List Copy
  tsw : Option Tsw
  mx : Option MxCmd
  tcsave : Option (Nat × MxCmd)
  syn : List SynCmd
  barPending : Option (BitVec 16)
  barMismatch : Bool
deriving DecidableEq, Repr

/-- What the tile's network socket and inbox hold (14 R306, R312, R334, R335): window slots, arrival queue, overflow
service, packets that wait at the tile's input behind a held arrival and those just let go on (R307), injection queue,
answers awaited, `sem` requests answered whose result may not have landed (16 R357), packets to other devices that have
not settled, and whether their return is to come (15 R326), the exchange plane's port with what is due there and when it was injected, the packets that
requester 5 has still to write, with the cycle of their tail, and the cycles in which spills write (14 R319). -/
structure Inbox where
  win : Sparse W512
  full : Sparse Bool
  recs : Sparse W64
  queue : List Nat
  overflow : Bool
  held : Option (Nat × Arrival × Packet)
  waiting : List Packet
  passing : List Packet
  out : List Outgoing
  awaited : List Awaited
  answered : List Awaited
  injFree : Nat
  away : List (Nat × Packet × Bool)
  xin : List (Nat × Nat × Packet)
  portFree : Nat
  wq : List (Packet × Nat)
  spillAt : List Nat
deriving DecidableEq, Repr

/-- The step sequencer's own state beyond `stepctl` and `mstat` (15 R325, R326): start cycle of the exchange phase, cycle
in which the phase ended, cycle of arrival. -/
structure Seqr where
  xstart : Option Nat
  ended : Option Nat
  arrived : Option Nat
  restart : Bool
  injected : Nat
  settled : Nat
  lastSettle : Nat
deriving DecidableEq, Repr

/-- A tile: 1,728 physical ones and the waymark tile (01 R12, R18); `lastSlot` is the logical slot that a retired one
held last, `silent` a fault by which it sends no heartbeat (18 R423, 23 R492; log entry 45), and `landed` are the results that have landed in this cycle, each with the `fpflags` that its context had before
any of them (03 R62, 06 R145). -/
structure Tile where
  k0 : Context
  k1 : Context
  k2 : Context
  k3 : Context
  reg : Sparse W64
  latO : Sparse V1024
  latP : Sparse V1024
  tagO : Sparse (Option Nat)
  ports : Sparse V1024
  privO : Sparse V1024
  privP : Sparse V1024
  flights : List Flight
  landed : List (W64 × Flight)
  captures : List Capture
  savedPorts : Option (Sparse V1024 × Sparse V1024 × Sparse V1024)
  nextId : Nat
  accesses : List Access
  plast : Sparse Nat
  mulFree : Nat
  ptrUpd : List (Ctx × Nat × Nat)
  primary : Option Ctx
  lastPrimary : Ctx
  displ : Sparse Nat
  ballast : Bool
  code : Sparse W512
  entries : Sparse Entry
  running : Bool
  nextEntry : Nat
  stalled : Nat
  sram : List Host.Cell
  markSeen : Sparse Bool
  marks : Sparse Mark
  rewriteFrom : Option Nat
  sems : Sparse SemWord
  srcs : Sparse SrcEntry
  remoteQ : List Packet
  delayed : List (SemOp × Waits)
  semLast : Nat
  semActed : Nat
  semNext : Nat
  tokens : Sparse Token
  tokDone : Sparse Nat
  eng : Engines
  net : Inbox
  seqr : Seqr
  dtlb : List TlbEntry
  itlb : List TlbEntry
  cairn : Option Cairn
  encoder : List TraceRec
  events : List TraceRec
  encLost : Nat
  dbgCount : Sparse Nat
  resumeAt : Option Nat
  lastSlot : Option Nat
  silent : Bool
deriving DecidableEq, Repr

/-- A line of the weight buffer as a `tsw` copy of cycle cyc found it, while a matrix command could still read it (11
R245); the copy's tile and the token it produces (16 R353). -/
structure OldLine where
  line : Nat
  cyc : Nat
  writer : Nat
  tok : Nat
  bytes : List Byte
deriving DecidableEq, Repr

/-- The shared resources of a chain (01 R14, 10, 11). -/
structure Chain where
  word : W64
  ts : List Host.Cell
  side : Sparse (BitVec 288)
  wb : List Host.Cell
  tsMark : Sparse Mark
  wbMark : Sparse Mark
  tserr : W64
  mxfmt : Sparse W64
  counts : Sparse Nat
  ivEnd : Nat
  rp : Nat
  granted : Nat
  passes : Nat
  wbOld : List OldLine
  mxcheck : W64
  chkrec : W64
  nextId : Nat
  runs : List MxRun
  arrivals : List (MxCmd × Nat)
  bar : List (Nat × BitVec 16 × Nat)
deriving DecidableEq, Repr

/-- The shared resources of a furlong: the staging slice and the second level of translation (13 R275, 17 R376). -/
structure Furlong where
  slice : List Host.Cell
  mark : Sparse Bool
  tlb : List TlbEntry
  walk : List WalkEntry
deriving DecidableEq, Repr

/-- One granule of HBM (17 R383, R386): state 0 online, 1 draining, 2 offline, 3 converting; class 0 P, 1 D, 2 U; the
cycle in which it began to drain, through which it still accepts accesses (17 R387). -/
structure Granule where
  st : Nat
  cls : Nat
  drainAt : Nat
deriving DecidableEq, Repr

/-- A milestone group in progress (15 R326 to R330): cycle of the first arrival, members that have arrived, cycle of the
last one, the children's reports (device, injected, settled). At a level of one device `start` is the cycle of the
release; at that of the domain it is the start time, `since` the pace time of the device's own arrival, `sentSettled` the
settled count last sent up, and `late` is set where the start comes 64 cycles after the release. -/
structure Mile where
  first : Nat
  arrived : List Nat
  last : Nat
  since : Nat
  children : List (Nat × Nat × Nat)
  sentSettled : Option Nat
  start : Option Nat
  late : Bool
deriving DecidableEq, Repr

/-- A packet being received at an input of a link end (14 R302): its head, whether its type is one it may have, the output
chosen for it (a port; none where it ends on this device), its payload flits, and the cycle of its last flit. -/
structure Reasm where
  head : BitVec 256
  valid : Bool
  out : Option Nat
  flits : List (BitVec 256)
  lastAt : Nat
deriving DecidableEq, Repr

/-- A packet at an output (14 R300): the flits still to go, without their sequence numbers; the input, a port and a
pair, in whose buffer they stand; and whether further flits of it are to come there. -/
structure Sending where
  pkt : Packet
  left : List Flit
  src : Option (Nat × Nat)
  more : Bool
deriving DecidableEq, Repr

/-- A link end (14 R297 to R303, 20 R457, 21 R470): sent but unacknowledged flits with those to be sent again, the
sequence numbers of the next flit to send and to expect, failures of one number, the cycle of the last acknowledgement,
flits accepted since one was sent, the stop bitmaps, the arbiter's counts, packets waiting, in progress and being received,
control flits owed, counts, the digest, and the port's training and heartbeat. -/
structure LinkEnd where
  up : Bool
  dead : Bool
  sent : List Flit
  nextTx : Nat
  nextRx : Nat
  nakSent : Bool
  failSeq : Nat
  failRun : Nat
  sinceAck : Nat
  accepted : Nat
  stopRx : BitVec 6
  stopTx : BitVec 6
  wu : Nat
  wb : Nat
  lastVc : Sparse Nat
  outq : List Sending
  cur : Sparse Sending
  inp : Sparse Reasm
  ctl : List (BitVec 256)
  linkErr : Nat
  protoErr : Nat
  flits : Sparse Nat
  stalls : Sparse Nat
  digest : W64
  digCount : W64
  width : Nat
  asym : Bool
  training : Bool
  resend : List Flit
  missed : Nat
  beat : Bool
deriving DecidableEq, Repr

/-- A monitor of an mwait (18 R408): line, end cycle, arming cycle. -/
structure Monitor where
  line : Nat
  limit : Option Nat
  armed : Nat
deriving DecidableEq, Repr

/-- The heartbeats of a tile or a port (18 R423): periods missed since its last beat, whether one has come in this period,
and whether the tile has been halted in it. -/
structure Beat where
  missed : Nat
  got : Bool
  halted : Bool
deriving DecidableEq, Repr

/-- SPDM responder state (21 R464): whether the algorithms have been negotiated, and the transcript so far. -/
structure Spdm where
  versioned : Bool
  capable : Bool
  negotiated : Bool
  transcript : List Byte
deriving DecidableEq, Repr

/-- What the machine has sent outside (log entry 12): answers to host accesses, snoops that
invalidate a line of HBM in the host's caches, SPDM responses, flits on fabric ports,
interrupts to the host. -/
inductive Output where
  | hostData (addr : Nat) (line : BitVec 512) (poisoned : Bool)
  | hostWritten (addr : Nat)
  | backInvalidate (line : Nat)
  | hostIo (addr : Nat) (v : W64)
  | spdm (code : Byte) (body : List Byte)
  | flit (l : Nat) (f : Flit)
  | msix (vector : Nat)
deriving DecidableEq, Repr

/-- What a `sys` operation asks of the hub or of another tile, on its way (17 R397, R399, 18 R404, R406, R418, 21 R461):
fn 0 `csrr` and 1 `csrw` of a hub register, 2 `xcsrr`, 3 `xcsrw`, 4 `tctl`, 5 `tlbinv`, 6 `tlbprobe`; its tile and context,
its operands, its context's translation identity at issue, and whether it has acted and only its completion is awaited. -/
structure SysAccess where
  id : Nat
  fn : Nat
  tile : Nat
  ctx : Ctx
  opo : W64
  opp : W64
  tv : W64
  xid : XId
  acted : Bool
deriving DecidableEq, Repr

/-- The hub (15, 17, 18, 20, 21); `zones` of the four leagues and, under 4, of the hub; `refresh` of the eight stacks;
`energy` in mW cycles; `kids` the child devices that have reported in the domain tree, and `stepIrqs` how often the
waymark tile was interrupted for a milestone failure (15 R329, R330); `settledNext` the packets of the next phase that have
settled before its release came (log entry 44); `paths` the port of each destination device in use (14 R296); `sampleOf` the
steps of the link-count samples to come, `inner` the counts of the links inside the package as the sample of cycle `innerAt`
latched them (20 R457; log entry 41); `hdmBase` the decoder base that the host has programmed (21 R466). -/
structure Hub where
  reg : Sparse W64
  paceNs : BitVec 64
  paceFr : BitVec 32
  paceOld : List (BitVec 64 × BitVec 32)
  keys : Sparse (BitVec 512)
  poison : List Nat
  trapq : List W64
  trapLost : Bool
  beats : Sparse Beat
  miles : List (Group × Mile)
  kids : List Nat
  stepIrqs : Nat
  injected : Nat
  settledN : Nat
  settledNext : Nat
  paths : Sparse Nat
  monitors : Sparse Monitor
  accesses : List SysAccess
  nextId : Nat
  zones : Sparse Nat
  refresh : Sparse Nat
  duty : Nat
  energy : Nat
  sample : Nat
  skipped : Nat
  sampleEnd : Nat
  sampleOf : List Nat
  inner : Sparse V1024
  innerAt : Nat
  spdm : Spdm
  measures : Sparse (List Byte)
  hdmBase : Nat
  outputs : List Output
deriving DecidableEq, Repr

/-- A tile image in HBM (18 R421): what it holds, as the tile it was saved from with its logical slot, the key it was
written through with its material, whether it is usable, and the lines read or written since. Its layout is not
architectural (log entry 14). -/
structure Image where
  slot : Option Nat
  tile : Tile
  key : Nat
  material : BitVec 512
  usable : Bool
  laid : List Nat
deriving DecidableEq, Repr

/-- A step already fixed to a cycle. Items of one cycle run in rising `prio`, then in the order they were fixed. -/
structure Agenda where
  cyc : Nat
  prio : Nat
  ins : Instr
deriving DecidableEq, Repr

/-- The place inside a cycle (log entry 2): the stage, and the tiles still to be visited in it. -/
structure Micro where
  stage : Nat
  todo : List Nat
deriving DecidableEq, Repr

/-- The state of one device; `accepted` are the writes whose condition has been tested and that have not landed yet
(18 R405). -/
structure State where
  now : Nat
  free : Nat
  micro : Micro
  hand : Trig
  agenda : List Agenda
  accepted : List Instr
  tiles : Sparse Tile
  chains : Sparse Chain
  furlongs : Sparse Furlong
  hbm : List Host.Cell
  host : List Host.Cell
  hbmMark : Sparse Mark
  hostCached : Sparse Bool
  granules : Sparse Granule
  hub : Hub
  links : Sparse LinkEnd
  images : Sparse Image
  deviceId : Nat
deriving DecidableEq, Repr

/-- Reasons for which a step of this model stops. -/
inductive Fault where
  /-- Raised by a step that names a tile, chain, furlong, link end, granule or line that the part does not have: no such
  step ever occurs in the part. Safe: a claim about it would be about no hardware. -/
  | noSuchUnit
  /-- Raised where the step's record (a command, a flight, a packet) is not in the state: the step cannot occur there.
  Safe. -/
  | noSuchStep
deriving DecidableEq, Repr

/-- Reasons for which a step has no meaning. -/
inductive Refusal where
  /-- Raised by an arm of `exec` whose instruction is not modelled yet. Safe. -/
  | notModelled (mnemonic : String)
deriving DecidableEq, Repr

/-! ## Reset -/

/-- The physical number of the waymark tile (01 R18). -/
def waymark : Nat := 0x7FF

def Regs.reset : Regs :=
  { s := [], v := [], g := [], k := [], addr := [], stride := [], wbase := [], wlen := [], tag := [], h := [], m := []
    c := [] }

def Nest.reset : Nest :=
  { active := false, start := 0, last := 0, dims := 0, exit := false, filled := false, cnt := [], idx := [], buf := [] }

/-- A context right after reset (03 R51, 04 R84). -/
def Context.reset : Context :=
  { regs := Regs.reset, creg := [], pc := 0, next := none, run := .idle, entry := none, entryPc := 0, firing := 0
    exch := false, ending := false, rstack := [], nest := Nest.reset, pend := [], holds := [], fences := []
    wdog := none, wstart := 0, waited := 0, ien := 0#2, handler := 0, irqs := [], irqOvf := false, saved := none
    dues := [], lastCe := 0#32, lastNs := 0#32, pair := none }

def Engines.reset : Engines :=
  { copies := [], tsw := none, mx := none, tcsave := none, syn := [], barPending := none
    barMismatch := false }

def Inbox.reset : Inbox :=
  { win := [], full := [], recs := [], queue := [], overflow := false, held := none, waiting := [], passing := []
    out := [], awaited := [], answered := [], injFree := 0, away := [], xin := [], portFree := 0, wq := []
    spillAt := [] }

def Seqr.reset : Seqr :=
  { xstart := none, ended := none, arrived := none, restart := false, injected := 0, settled := 0, lastSettle := 0 }

/-- Tile n right after reset. -/
def Tile.reset (n : Nat) : Tile :=
  let c : Context := if n = waymark then { Context.reset with creg := [(0x074, 1#64)] } else Context.reset
  { k0 := c, k1 := c, k2 := c, k3 := c, reg := [], latO := [], latP := [], tagO := [], ports := [], privO := []
    privP := [], flights := [], landed := [], captures := [], savedPorts := none, nextId := 0, accesses := [], plast := []
    mulFree := 0, ptrUpd := [], primary := none, lastPrimary := .k3, displ := [], ballast := false, code := []
    entries := [], running := false, nextEntry := 0, stalled := 0, sram := [], markSeen := [], marks := []
    rewriteFrom := none, sems := [], srcs := [], remoteQ := [], delayed := [], semLast := 0, semActed := 0
    semNext := 0, tokens := [], tokDone := [], eng := Engines.reset, net := Inbox.reset, seqr := Seqr.reset
    dtlb := [], itlb := [], cairn := none, encoder := [], events := [], encLost := 0, dbgCount := [], resumeAt := none
    lastSlot := none, silent := false }

/-- A chain right after reset (01 R14, 10 R203, R215, 11 R230). -/
def Chain.reset : Chain :=
  { word := 0x76543210#64, ts := [], side := [], wb := [], tsMark := [], wbMark := [], tserr := 0#64, mxfmt := []
    counts := [], ivEnd := 0, rp := 0, granted := 0, passes := 0, wbOld := [], mxcheck := 0#64, chkrec := 0#64
    nextId := 0, runs := [], arrivals := [], bar := [] }

def Furlong.reset : Furlong := { slice := [], mark := [], tlb := [], walk := [] }

def Granule.reset : Granule := { st := 0, cls := 0, drainAt := 0 }

def SemWord.reset : SemWord := { val := 0#64, full := false, takers := [], bad := false }

def Entry.reset : Entry := { st := 0, ctx := 0, count0 := 0, count1 := 0 }

/-- A link end right after reset: not yet trained (21 R470). -/
def LinkEnd.reset : LinkEnd :=
  { up := false, dead := false, sent := [], nextTx := 0, nextRx := 0, nakSent := false, failSeq := 0, failRun := 0
    sinceAck := 0, accepted := 0, stopRx := 0#6, stopTx := 0#6, wu := 0, wb := 0, lastVc := [], outq := [], cur := []
    inp := [], ctl := [], linkErr := 0, protoErr := 0, flits := [], stalls := [], digest := BitVec.allOnes 64
    digCount := 0#64, width := 0, asym := false, training := false, resend := [], missed := 0, beat := false }

def Spdm.reset : Spdm := { versioned := false, capable := false, negotiated := false, transcript := [] }

def Hub.reset : Hub :=
  { reg := [], paceNs := 0#64, paceFr := 0#32, paceOld := [], keys := [], poison := [], trapq := [], trapLost := false
    beats := [], miles := [], kids := [], stepIrqs := 0, injected := 0, settledN := 0, settledNext := 0, paths := []
    monitors := [], accesses := [], nextId := 0, zones := [], refresh := [], duty := 0, energy := 0, sample := 0
    skipped := 0, sampleEnd := 0, sampleOf := [], inner := [], innerAt := 0
    spdm := Spdm.reset, measures := [], hdmBase := 0, outputs := [] }

/-- The machine right after device reset: no context runs, every memory lists nothing. -/
def State.reset : State :=
  { now := 0, free := 0, micro := { stage := 0, todo := [] }
    hand := { tile := 0, ctx := .k0, slot := 0, tv := 0#1024 }, agenda := [], accepted := [], tiles := []
    chains := [], furlongs := [], hbm := [], host := [], hbmMark := [], hostCached := [], granules := []
    hub := Hub.reset, links := [], images := [], deviceId := 0 }

end Sys2Proof.Machine
end

