-- ==== Sys2Proof/Machine/Ops.lean ====
section
/-!
DEFINITION. The named operations over state: tiles and contexts, control registers by number, the numbering of tiles and
chains, the agenda, open choices, results in flight, traps, captures and the return from them.
-/

namespace Sys2Proof.Machine

/-- What a step of this model answers. -/
abbrev Out := Host.Outcome State Fault Refusal

/-! ## Tiles, contexts, chains, furlongs -/

def State.tile (s : State) (n : Nat) : Tile := (spFind s.tiles n).getD (Tile.reset n)

def State.setTile (s : State) (n : Nat) (t : Tile) : State := { s with tiles := spPut s.tiles n t }

def State.modTile (s : State) (n : Nat) (f : Tile → Tile) : State := s.setTile n (f (s.tile n))

def Tile.ctx (t : Tile) (k : Ctx) : Context :=
  match k with
  | .k0 => t.k0 | .k1 => t.k1 | .k2 => t.k2 | .k3 => t.k3

def Tile.setCtx (t : Tile) (k : Ctx) (c : Context) : Tile :=
  match k with
  | .k0 => { t with k0 := c } | .k1 => { t with k1 := c } | .k2 => { t with k2 := c } | .k3 => { t with k3 := c }

def Tile.modCtx (t : Tile) (k : Ctx) (f : Context → Context) : Tile := t.setCtx k (f (t.ctx k))

def State.ctx (s : State) (n : Nat) (k : Ctx) : Context := (s.tile n).ctx k

def State.modCtx (s : State) (n : Nat) (k : Ctx) (f : Context → Context) : State :=
  s.modTile n fun t => t.modCtx k f

def State.chain (s : State) (c : Nat) : Chain := (spFind s.chains c).getD Chain.reset

def State.setChain (s : State) (c : Nat) (x : Chain) : State := { s with chains := spPut s.chains c x }

def State.modChain (s : State) (c : Nat) (f : Chain → Chain) : State := s.setChain c (f (s.chain c))

def State.furlong (s : State) (f : Nat) : Furlong := (spFind s.furlongs f).getD Furlong.reset

def State.setFurlong (s : State) (f : Nat) (x : Furlong) : State := { s with furlongs := spPut s.furlongs f x }

def State.modFurlong (s : State) (n : Nat) (f : Furlong → Furlong) : State := s.setFurlong n (f (s.furlong n))

def State.link (s : State) (l : Nat) : LinkEnd := (spFind s.links l).getD LinkEnd.reset

def State.setLink (s : State) (l : Nat) (x : LinkEnd) : State := { s with links := spPut s.links l x }

def State.modLink (s : State) (l : Nat) (f : LinkEnd → LinkEnd) : State := s.setLink l (f (s.link l))

def State.modHub (s : State) (f : Hub → Hub) : State := { s with hub := f s.hub }

def State.modEng (s : State) (n : Nat) (f : Engines → Engines) : State :=
  s.modTile n fun t => { t with eng := f t.eng }

def State.modNet (s : State) (n : Nat) (f : Inbox → Inbox) : State := s.modTile n fun t => { t with net := f t.net }

/-- The number of a context (04 R78). -/
def ctxNum (k : Ctx) : Nat :=
  match k with
  | .k0 => 0 | .k1 => 1 | .k2 => 2 | .k3 => 3

def ctxOf (n : Nat) : Ctx :=
  match n % 4 with
  | 0 => .k0 | 1 => .k1 | 2 => .k2 | _ => .k3

def allCtx : List Ctx := [.k0, .k1, .k2, .k3]

/-- K0 and K1 run routines (04). -/
def isRoutine (k : Ctx) : Bool := k = .k0 || k = .k1

/-! ## Numbers of tiles (01 R10, R12, R18) -/

/-- The tiles the part has: 1,728 physical ones and the waymark tile. -/
def isTile (n : Nat) : Bool := n < 1728 || n = waymark

def chainOf (n : Nat) : Nat := n / 9

def furlongOf (n : Nat) : Nat := n / 36

/-- The position field j of a chain word (01 R14). -/
def posField (w : W64) (j : Nat) : Nat := bits w (4 * j) 4

/-- The physical tile that holds slot j of chain c. -/
def State.slotTile (s : State) (c j : Nat) : Nat := 9 * c + posField (s.chain c).word j

/-- The logical slot of a physical tile, none for a position that holds none. -/
def State.slotOfTile (s : State) (n : Nat) : Option Nat :=
  if n < 1728 then (List.range 8).find? (fun j => posField (s.chain (chainOf n)).word j = n % 9) else none

/-- The logical tile number of a physical tile. -/
def State.logical (s : State) (n : Nat) : Option Nat := (s.slotOfTile n).map (fun j => 8 * chainOf n + j)

/-- The physical tile of a logical tile number. -/
def State.physical (s : State) (l : Nat) : Nat := s.slotTile (l / 8) (l % 8)

/-- Whether the chain is withdrawn (01 R16). -/
def State.withdrawn (s : State) (c : Nat) : Bool := bitOf (s.chain c).word 63

/-- Whether a tile has a chain whose array and memories accept operations (01 R16, R18). -/
def State.chainUsable (s : State) (n : Nat) : Bool := n < 1728 && !s.withdrawn (chainOf n)

/-- The nine physical tiles of a chain. -/
def chainTiles (c : Nat) : List Nat := (List.range 9).map (fun p => 9 * c + p)

/-! ## Control registers by number -/

/-- Reset values of the per-context control registers (18 R402, 06, 07, 17). -/
def ctxRegReset (num : Nat) : W64 :=
  match num with
  | 0x061 => 1#64
  | 0x062 => BitVec.allOnes 64
  | 0x063 => 2#64
  | _ => 0#64

/-- Reset values of the per-tile control registers (03 R58). -/
def tileRegReset (num : Nat) : W64 :=
  match num with
  | 0x020 => 0x7E181#64
  | _ => 0#64

/-- Reset values of the device and hub registers (15, 17, 18, 20, 21). -/
def hubRegReset (num : Nat) : W64 :=
  match num with
  | 0x053 => 0xFF000000000000#64
  | 0x054 => 0x86BCA1AF#64
  | 0x057 => 0x0500000004000000#64
  | 0x064 => 1#64
  | 0x07B => 0x414#64
  | 0x090 => 16#64
  | 0x0EF => putBits (putBits (putBits 0#64 32 16 2800) 24 8 16) 8 5 16
  | _ => 0#64

def Context.cr (c : Context) (num : Nat) : W64 := spGet (ctxRegReset num) c.creg num

def Context.setCr (c : Context) (num : Nat) (v : W64) : Context :=
  { c with creg := spSet (ctxRegReset num) c.creg num v }

def Tile.rg (t : Tile) (num : Nat) : W64 := spGet (tileRegReset num) t.reg num

def Tile.setRg (t : Tile) (num : Nat) (v : W64) : Tile := { t with reg := spSet (tileRegReset num) t.reg num v }

def State.hubRg (s : State) (num : Nat) : W64 := spGet (hubRegReset num) s.hub.reg num

def State.setHubRg (s : State) (num : Nat) (v : W64) : State :=
  s.modHub fun h => { h with reg := spSet (hubRegReset num) h.reg num v }

def State.setRg (s : State) (n num : Nat) (v : W64) : State := s.modTile n fun t => t.setRg num v

def State.setCr (s : State) (n : Nat) (k : Ctx) (num : Nat) (v : W64) : State := s.modCtx n k fun c => c.setCr num v

/-- The field sys of `ctxcfg` (18 R402). -/
def Context.sysField (c : Context) : Bool := bitOf (c.cr 0x074) 0

/-- Whether a context has system privilege now: a handler runs at user privilege (18 R402, 04 R90). -/
def Context.isSys (c : Context) : Bool := c.sysField && c.saved.isNone

/-- Whether any context of the tile is confidential (18 R402, R438). -/
def Tile.confidential (t : Tile) : Bool := allCtx.any fun k => bitOf ((t.ctx k).cr 0x074) 14

/-! ## Freeze record bits (18 R417) -/

def Tile.frozen (t : Tile) : Bool := bitOf (t.rg 0x077) 63
def Tile.quiet (t : Tile) : Bool := bitOf (t.rg 0x077) 62
def Tile.halted (t : Tile) : Bool := bitOf (t.rg 0x077) 61
def Tile.dead (t : Tile) : Bool := bitOf (t.rg 0x077) 60

/-- Whether a class rewrite of tile SRAM runs (09 R198). -/
def Tile.busy (t : Tile) : Bool := bitOf (t.rg 0x030) 2

/-- The class of tile SRAM: 0 P, 1 D, 2 U (09 R198). -/
def Tile.cls (t : Tile) : Nat := bits (t.rg 0x030) 0 2

/-- Whether the tile is in an exchange phase: K0 runs the schedule (15 R332). -/
def Tile.exchange (t : Tile) : Bool := bits (t.rg 0x051) 40 3 = 4

/-! ## Open choices and the agenda -/

/-- One of n open choices, and the state that has made it (log entry 1). -/
def State.draw (s : State) (n : Nat) : Nat × State :=
  (Config.freeNat s.free % n, { s with free := s.free + 1 })

/-- An open delay without a bound (log entries 1 and 15). -/
def State.delay (s : State) : Nat × State := (Config.freeNat s.free, { s with free := s.free + 1 })

/-- An open value of data (log entry 1). -/
def State.drawBits (s : State) : V1024 × State := (Config.freeBits s.free, { s with free := s.free + 1 })

/-- Inserts an item behind every item of its cycle and priority. -/
def insertAgenda : List Agenda → Agenda → List Agenda
  | [], x => [x]
  | y :: ys, x =>
    if x.cyc < y.cyc || (x.cyc = y.cyc && x.prio < y.prio) then x :: y :: ys else y :: insertAgenda ys x

/-- Fixes a step to a cycle and to its place inside it. -/
def State.schedule (s : State) (cyc prio : Nat) (i : Instr) : State :=
  { s with agenda := insertAgenda s.agenda { cyc := cyc, prio := prio, ins := i } }

/-- Places inside a cycle (log entry 2): register writes, then hardware updates, then completions, then landings and
deliveries, then late memory: reads, side port, array port. -/
def prioWrite : Nat := 0
def prioUpdate : Nat := 1
def prioDone : Nat := 2
def prioLand : Nat := 3
def prioDeliver : Nat := 4
def prioRead : Nat := 8
def prioSide : Nat := 9
def prioArray : Nat := 10
def prioEnd : Nat := 11

/-- Internal register numbers for updates that take effect at the start of the next cycle and have no number of their
own in the part: guards (03 R72), pointer parts (05 R121), matrix slot state (10 R226), tokens (12 R273), queue counters
and handlers (04 R101, R103), the end of a network command (14 R316, R317), of a spill (R319), and of a packet elsewhere
(15 R326), the program of K3 (04 R88), a `sys` access at its target (18 R406, R418), the poison list (17 R400), throttle
levels and ballast duties (21 R474, R479), the debug sequencer (20 R452) and an event of the next cycle (20 R453). -/
def updGuards : Nat := 0x1000
def updAdvance : Nat := 0x1100
def updStride : Nat := 0x1020
def updWindow : Nat := 0x1030
def updTag : Nat := 0x1040
def updWord0 : Nat := 0x1050
def updWord1 : Nat := 0x1060
def updFset : Nat := 0x1070
def updTcclr : Nat := 0x1071
def updChkclr : Nat := 0x1072
def updTokDone : Nat := 0x1080
def updQadd : Nat := 0x1083
def updEnables : Nat := 0x1084
def updBallast : Nat := 0x1085
def updSettle : Nat := 0x1086
def updNsDone : Nat := 0x1087
def updSpill : Nat := 0x1088
def updAccess : Nat := 0x1089
def updPtclr : Nat := 0x108A
def updLevels : Nat := 0x108B
def updDuty : Nat := 0x108C
def updDebug : Nat := 0x108D
def updEvent : Nat := 0x108E
def updHub : Nat := 0x108F

/-- Fixes an update to the start of the next cycle. -/
def State.later (s : State) (n : Nat) (k : Ctx) (num : Nat) (v : W64) : State :=
  s.schedule (s.now + 1) prioUpdate (.registerWrite { tile := n, ctx := k, num := num } v)

/-- The part sends something outside. -/
def State.send (s : State) (o : Output) : State := s.modHub fun h => { h with outputs := h.outputs ++ [o] }

/-! ## Writes of registers on their way (18 R403, R405) -/

/-- The chain that a chain register of tile n names. -/
def chainNamed (n r : Nat) : Nat := if r = 0x034 || r = 0x035 then chainOf n else 4 * furlongOf n + (r - 0x070)

/-- The step with which a write of a register lands. -/
def writeLands (x : RegRef) (v : W64) : Instr :=
  if x.num = 0x023 then .svcaddrWrite x.tile v
  else if x.num = 0x030 then .sramcfgWrite x.tile v
  else if x.num = 0x050 then .stepctlWrite x.tile v
  else if x.num = 0x034 && x.tile < 1728 then .mxcheckWrite (chainOf x.tile) v
  else if 0x070 ≤ x.num && x.num < 0x074 && x.tile < 1728 then .chainWordWrite (chainNamed x.tile x.num) v
  else if x.num = 0x0EB then .thctlWrite v
  else if 0x0A0 ≤ x.num && x.num < 0x0C0 then .digestReset (x.num - 0x0A0)
  else if 0x0C0 ≤ x.num && x.num < 0x0E0 then .digestReset (x.num - 0x0C0)
  else if x.num = 0x0F5 then .hostreq v
  else .registerWrite x v

/-- A write whose condition has been tested lands whatever has changed since (18 R405). -/
def State.accept (s : State) (i : Instr) : State :=
  match i with
  | .sramcfgWrite _ _ => { s with accepted := s.accepted ++ [i] }
  | .stepctlWrite _ _ => { s with accepted := s.accepted ++ [i] }
  | .chainWordWrite _ _ => { s with accepted := s.accepted ++ [i] }
  | _ => s

/-- An accepted write has landed. -/
def State.landed (s : State) (i : Instr) : State := { s with accepted := s.accepted.erase i }

/-! ## Events of the debug module (20 R453, R460) -/

/-- The word at an address as context k would issue it: from the loop buffer in later passes of a nest, else from the code
store; none past word 2,047 (04 R94, R95, R98). -/
def Tile.fetch (t : Tile) (k : Ctx) (a : Nat) : Option W512 :=
  let c := t.ctx k
  if a > 2047 then none
  else if c.nest.active && c.nest.filled && c.nest.start ≤ a && a ≤ c.nest.last then some (spGet 0#512 c.nest.buf a)
  else some (spGet 0#512 t.code a)

/-- The hint of the word at an address as context k would issue it (02 R24). -/
def Tile.hintOf (t : Tile) (k : Ctx) (a : Nat) : BitVec 2 := BitVec.ofNat 2 (bits ((t.fetch k a).getD 0#512) 489 2)

/-- Notes an event of the cycle while the module runs: the high half of its record, with the hint of its word, where it
has one: 02 R24 copies the hint into trace records, and 20 R453 gives every bit of their bytes another meaning (DESIGN
CHOICE, log entry 123). A confidential tile forms none. -/
def Tile.event (t : Tile) (code : Nat) (k : Ctx) (word data : Nat) (hint : BitVec 2 := 0#2) : Tile :=
  if bitOf (t.rg 0x080) 0 && !t.confidential then
    let body := (code * 2 ^ 56 + ctxNum k * 2 ^ 54 + word % 2 ^ 11 * 2 ^ 43 + data % 2 ^ 32) * 2 ^ 64
    { t with events := t.events ++ [{ body := BitVec.ofNat 128 body, hint := hint }] }
  else t

def State.event (s : State) (n code : Nat) (k : Ctx) (data : Nat) : State := s.modTile n fun t => t.event code k 0 data

/-! ## Latches, ports and results in flight (03 R55 to R62) -/

def Tile.opo (t : Tile) (so : Sock) : V1024 := spGet 0#1024 t.latO (sockNum so)
def Tile.opp (t : Tile) (so : Sock) : V1024 := spGet 0#1024 t.latP (sockNum so)
def Tile.tag (t : Tile) (so : Sock) : Option Nat := spGet none t.tagO (sockNum so)

def portKey (so : Sock) (po : Port) : Nat :=
  4 * sockNum so + (match po with | .r => 0 | .q => 1 | .f => 2)

def Tile.port (t : Tile) (so : Sock) (po : Port) : V1024 := spGet 0#1024 t.ports (portKey so po)

def Tile.setPort (t : Tile) (so : Sock) (po : Port) (v : V1024) : Tile :=
  { t with ports := spSet 0#1024 t.ports (portKey so po) v }

/-- Whether triggers of a socket are data-locked now (03 R58). -/
def Tile.lockedMode (t : Tile) (so : Sock) : Bool := bitOf (t.rg 0x020) (sockNum so)

/-- Whether a port is pending: a data-locked result for it is in flight (03 R60, R61). -/
def Tile.pending (t : Tile) (so : Sock) (po : Port) : Bool :=
  t.flights.any fun f => f.so = so && f.po = po && f.locked

/-- The latest known landing of a result of a socket; 0 if none is in flight. -/
def Tile.lastDue (t : Tile) (so : Sock) : Nat :=
  (t.flights.filter (fun f => f.so = so && f.locked)).foldl (fun m f => max m (f.due.getD 0)) 0

/-- Puts results in flight that all land at the start of cycle due. -/
def State.landAt (s : State) (n : Nat) (k : Ctx) (so : Sock) (due : Nat) (locked : Bool) (vs : List (Port × V1024))
    (flags : Nat) : State :=
  let t := s.tile n
  let fl := vs.mapIdx fun i (po, v) =>
    ({ id := t.nextId + i, so := so, po := po, ctx := k, locked := locked, due := some due, val := v
       flags := if i = 0 then flags else 0, far := none, ready := none, err := none, errAux := 0#64, errAt := none, raised := false } : Flight)
  let s := s.setTile n { t with flights := t.flights ++ fl, nextId := t.nextId + vs.length }
  vs.foldl (fun s (po, _) => s.schedule due prioLand (.resultLands n so po)) s

/-- The cycle by which the results due in cycle d of a locked socket land, where a later trigger's land by cycle due:
each group of results lands before those behind it (03 R60). -/
def hastened (ds : List Nat) (due d : Nat) : Nat := min d (due - ((ds.filter fun e => decide (d ≤ e)).dedup).length)

/-- The cycle in which a result in flight lands, once a later trigger of its locked socket lands by cycle due: none lands
before this cycle (log entry 50). -/
def Tile.hastenedDue (t : Tile) (now : Nat) (so : Sock) (due : Nat) (f : Flight) : Option Nat :=
  if f.so = so && f.locked then
    let ds := (t.flights.filter fun g => g.so = so && g.locked).filterMap (·.due)
    f.due.map fun c => min c (max now (hastened ds due c))
  else f.due

/-- A result of a socket lands in cycle d, where that is not the cycle it was to land in; a hub access performs with its
result. -/
def State.landSooner (s : State) (n : Nat) (so : Sock) (f : Flight) (d : Option Nat) : State :=
  match d with
  | none => s
  | some d =>
    if f.due = some d then s
    else
      let s := s.schedule d prioLand (.resultLands n so f.po)
      if so = .sys then s.schedule d prioWrite (.registerWrite { tile := n, ctx := f.ctx, num := updHub } (w64 f.id)) else s

/-- The results of a locked socket that are still to come land early enough for those of a later trigger, whose bound is
cycle due (03 R60). -/
def State.hasten (s : State) (n : Nat) (so : Sock) (due : Nat) : State :=
  let t := s.tile n
  let h := t.hastenedDue s.now so due
  t.flights.foldl (fun s f => s.landSooner n so f (h f))
    (s.setTile n { t with flights := t.flights.map fun f => { f with due := h f } })

/-- The cycle in which results of a locked socket land, drawn d cycles behind the first they may: behind those of earlier
triggers and within their bound (03 R60). -/
def State.lockedDue (s : State) (n : Nat) (so : Sock) (d lat : Nat) : Nat :=
  min (max (s.now + 1 + d) ((s.tile n).lastDue so + 1)) (s.now + lat)

/-- Puts results of an operation of latency lat in flight: exactly lat cycles in free-running mode, an open number of
cycles up to lat in data-locked mode, in trigger order (03 R59, R60). -/
def State.land (s : State) (n : Nat) (k : Ctx) (so : Sock) (lat : Nat) (vs : List (Port × V1024)) (flags : Nat := 0) :
    State :=
  if (s.tile n).lockedMode so then
    let (d, s) := if 1 < lat then s.draw lat else (0, s)
    let due := s.lockedDue n so d lat
    (s.hasten n so due).landAt n k so due true vs flags
  else s.landAt n k so (s.now + lat) false vs flags

/-- Lands one 64-bit result in `.r`. -/
def State.land64 (s : State) (n : Nat) (k : Ctx) (so : Sock) (lat : Nat) (v : W64) : State :=
  s.land n k so lat [(.r, wide v)]

/-- The trigger in hand lands a 64-bit result with latency 1 (05 R104, R124, 12 R273, 13 R290, 14 R312, 18 R404). -/
def State.result (s : State) (so : Sock) (v : W64) : State := s.land64 s.hand.tile s.hand.ctx so 1 v

/-! ## Traps (18 R410 to R414) -/

def Cause.code (c : Cause) : Nat :=
  match c with
  | .illword => 0x01 | .sockbusy => 0x02 | .ctlfault => 0x03 | .usertrap => 0x04 | .watchdog => 0x05
  | .waitunsat => 0x06 | .region => 0x07 | .sramacc => 0x08 | .tswacc => 0x09 | .semacc => 0x0A | .ceacc => 0x0B
  | .nsacc => 0x0C | .synacc => 0x0D | .sysacc => 0x0E | .tokdup => 0x0F | .mxhaz => 0x10 | .mxchk => 0x11
  | .scaleseq => 0x12 | .wfmt => 0x13 | .pageflt => 0x14 | .perm => 0x15 | .ptpoison => 0x16 | .classdeny => 0x17
  | .parity => 0x18 | .uncorr => 0x19 | .errbudget => 0x1A | .pairmis => 0x1B | .preempt => 0x20 | .dbgstop => 0x21
  | .gang => 0x22 | .mstout => 0x23 | .thermal => 0x24 | .halt => 0x25 | .dead => 0x26

/-- The class of a cause code (18 R409). -/
def causeClass (code : Nat) : Nat :=
  if code = 0x04 then 6
  else if code = 0x05 || code = 0x06 || code = 0x23 then 3
  else if code = 0x14 || code = 0x15 || code = 0x17 then 2
  else if code = 0x16 || code = 0x18 || code = 0x19 || code = 0x1A then 1
  else if code = 0x11 || code = 0x1B || code = 0x26 then 4
  else if code = 0x24 then 5
  else if code = 0x20 || code = 0x21 || code = 0x22 || code = 0x25 then 7
  else 0

/-- A cause at a slot with a detail. -/
def raiseAt (c : Cause) (slot detail : Nat) : Raise := { cause := c, slot := slot, detail := detail, aux := 0#64, eng := false }

/-- Posts an entry to the hub's trap queue of 1,024 entries (18 R414). -/
def State.postTrap (s : State) (n : Nat) (k : Nat) (eng : Bool) : State :=
  let e := w64 (2 ^ 63 + b2n eng * 2 ^ 61 + k * 2 ^ 11 + n)
  s.modHub fun h => if h.trapq.length < 1024 then { h with trapq := h.trapq ++ [e] } else { h with trapLost := true }

/-- Removes a context's deferred takes and gives their results status code 0x03 in this cycle (12 R261). -/
def State.withdraw (s : State) (n : Nat) (ks : List Ctx) : State :=
  s.modTile n fun t =>
    let gone := (t.sems.map (fun p => p.2.takers.filter (fun o => ks.contains o.ctx))).flatten
    { t with
      sems := t.sems.map fun p => (p.1, { p.2 with takers := p.2.takers.filter (fun o => !ks.contains o.ctx) })
      flights := t.flights.map fun f =>
        if gone.any (fun o => o.id = f.id) then { f with due := some s.now, val := 0#1024 }
        else if gone.any (fun o => o.id + 1 = f.id) then { f with due := some s.now, val := 0x300#1024 }
        else f }

/-- Fixes the landing of `sem` results, which land in trigger order: each at or after its ready cycle, and after the one
before it (12 R255). Flights l are in trigger order; `blocked` once one of them is not ready. -/
def State.semOrder (s : State) (n : Nat) : List Flight → Bool → State
  | [], _ => s
  | f :: l, blocked =>
    if f.so ≠ .sem || f.po ≠ .r || f.due.isSome || blocked then s.semOrder n l blocked
    else
      match f.ready with
      | none => s.semOrder n l true
      | some r =>
        let t := s.tile n
        let d := max r (t.semLast + 1)
        let own (g : Flight) : Flight := if g.id = f.id || g.id = f.id + 1 then { g with due := some d } else g
        let s := s.setTile n { t with flights := t.flights.map own, semLast := d }
        State.semOrder ((s.schedule d prioLand (.resultLands n .sem .r)).schedule d prioLand (.resultLands n .sem .f)) n l false

def State.semLands (s : State) (n : Nat) : State := s.semOrder n (s.tile n).flights false

/-- Captures the results in flight that the contexts of ks triggered, with counts from the last word's cycle t0: the
cycles a free-running result still had, 1 for a data-locked one (03 R68, R69). -/
def State.capture (s : State) (n : Nat) (who : Capturer) (ks : List Ctx) (t0 : Nat) : State :=
  State.semLands (s.modTile n fun t =>
    let mine := t.flights.filter (fun f => ks.contains f.ctx)
    { t with
      flights := t.flights.filter (fun f => !ks.contains f.ctx)
      captures := t.captures ++ mine.map fun f =>
        { by' := who, d := if f.locked then 1 else (f.due.getD (t0 + 1)) - t0
          fl := { f with due := match f.due with | some d => some d | none => f.ready } } }) n

/-- Whether the values of all captured data-locked results of a capture have come: a capture waits for them
(03 R68, R69). -/
def Tile.captured (t : Tile) (now : Nat) (who : Capturer) : Bool :=
  t.captures.all fun c => c.by' ≠ who || !c.fl.locked || (match c.fl.due with | some d => decide (d ≤ now) | none => false)

/-- Puts captured results back in flight, to land in cycle u - 1 + d where u is the cycle of the first word
(03 R68, R69). -/
def State.replay (s : State) (n : Nat) (who : Capturer) (u : Nat) : State :=
  let t := s.tile n
  let mine := t.captures.filter (fun c => c.by' = who)
  let fl := mine.map fun c => { c.fl with due := some (u - 1 + c.d) }
  let s := s.setTile n { t with flights := t.flights ++ fl, captures := t.captures.filter (fun c => c.by' ≠ who) }
  fl.foldl (fun s f => match f.due with | some d => s.schedule d prioLand (.resultLands n f.so f.po) | none => s) s

/-- Discards captured results. -/
def State.dropCaptures (s : State) (n : Nat) (who : Capturer) : State :=
  s.modTile n fun t => { t with captures := t.captures.filter (fun c => c.by' ≠ who) }

/-- The trap record of a cause taken in place of the word at `word` (18 R412). -/
def trapRecord (r : Raise) (more sys : Bool) (word resume : Nat) : W64 :=
  w64 (2 ^ 63 + b2n more * 2 ^ 62 + b2n r.eng * 2 ^ 61 + b2n sys * 2 ^ 60 + (r.cause.code % 64) * 2 ^ 54
    + (r.slot % 16) * 2 ^ 50 + (r.detail % 2 ^ 16) * 2 ^ 32 + (word % 2 ^ 11) * 2 ^ 16 + resume % 2 ^ 11)

/-- The primary slot passes away from context k if it holds it (04 R85). -/
def Tile.leaveSlot (t : Tile) (k : Ctx) : Tile :=
  if t.primary = some k then { t with primary := none, lastPrimary := k } else t

/-- Taking a trap (18 R410, R412, R414): the context becomes trapped in place of the word at `word`, its results in
flight are captured with counts from cycle t0 (that of the last word before), its deferred takes are withdrawn, `traprec`
and `trapaux` are written, and the tile posts to the trap queue. It resumes at `resume`; `more` says that a further cause
meets its word. -/
def State.takeTrapAt (s : State) (n : Nat) (k : Ctx) (r : Raise) (word resume t0 : Nat) (more : Bool := false) : State :=
  let s := (s.withdraw n [k]).capture n (.trap k) [k] t0
  let hint := (s.tile n).hintOf k word
  let s := s.modTile n fun t => ((t.modCtx k fun c =>
    (({ c with run := .trapped, pc := resume, next := none }.setCr 0x075
      (trapRecord r (more || !c.dues.isEmpty) c.sysField word resume)).setCr 0x076 r.aux)).leaveSlot k).event 0x05 k word
        (r.cause.code + r.detail % 2 ^ 16 * 2 ^ 16) hint
  s.postTrap n (ctxNum k) r.eng

/-- A precise trap in place of the word at the context's address, which is also where it resumes. -/
def State.takeTrap (s : State) (n : Nat) (k : Ctx) (r : Raise) (more : Bool := false) : State :=
  s.takeTrapAt n k r (s.ctx n k).pc (s.ctx n k).pc (s.now - 1) more

/-- A far reference of context k: the primary slot passes after its word (04 R85). -/
def State.farRef (s : State) (n : Nat) (k : Ctx) : State := s.modTile n fun t => t.leaveSlot k

/-- Holds context k from its next word, as a far reference (04 R84, R85). -/
def State.hold (s : State) (n : Nat) (k : Ctx) (h : Hold) : State :=
  (s.modCtx n k fun c => { c with holds := c.holds ++ [h] }).farRef n k

/-- Ends a hold of context k, also where a handler has interrupted it. -/
def State.unhold (s : State) (n : Nat) (k : Ctx) (h : Hold) : State :=
  s.modCtx n k fun c =>
    { c with
      holds := c.holds.filter (fun x => x ≠ h)
      saved := c.saved.map fun v => { v with holds := v.holds.filter fun x => x ≠ h } }

/-- Records a cause to be taken before the next word the context would issue (18 R411 point 1). -/
def State.raiseDue (s : State) (n : Nat) (k : Ctx) (r : Raise) (urgent : Bool := false) : State :=
  s.modCtx n k fun c => { c with dues := c.dues ++ [{ at' := s.now, urgent := urgent, what := r }] }

/-- The cause a landed result carries, for the first word its context issues from now on (09 R196). -/
def State.raiseLanded (s : State) (n : Nat) (f : Flight) : State :=
  match f.err with
  | none => s
  | some c =>
    s.raiseDue n f.ctx
      { cause := c, slot := 15, detail := bits f.errAux 48 16, aux := w64 (bits f.errAux 0 48), eng := false }

/-- The causes of the errors that captured loads have consumed are due before the first word that comes after (09 R200). -/
def State.raiseCaptured (s : State) (n : Nat) (who : Capturer) : State :=
  ((s.tile n).captures.filter fun c => c.by' = who && c.fl.err.isSome).foldl (fun s c =>
    (s.raiseLanded n c.fl).modTile n fun t =>
      { t with captures := t.captures.map fun x =>
          if x.fl.id = c.fl.id then { x with fl := { x.fl with err := none, raised := true } } else x }) s

/-- Whether the context still runs the firing that issued a command (04 R89, 18 R413). K2 and K3 run no firing. A
context that is retiring still runs it, and an interrupt queued then stays queued for the next firing (DESIGN CHOICE,
log entry 118). -/
def Context.runs (c : Context) (firing : Nat) : Bool := c.firing = firing && c.run ≠ .idle

/-- An engine fault: recorded in `engflt`, it stops no context (18 R413). -/
def State.engineFault (s : State) (n : Nat) (k : Ctx) (engine : Nat) (r : Raise) : State :=
  let s := s.modTile n fun t =>
    let o := t.rg 0x07C
    if bitOf o 63 then t.setRg 0x07C (putBits o 62 1 1)
    else t.setRg 0x07C (w64 (2 ^ 63 + (r.cause.code % 64) * 2 ^ 56 + engine * 2 ^ 52 + ctxNum k * 2 ^ 50
      + (r.detail % 2 ^ 16) * 2 ^ 32))
  s.postTrap n (ctxNum k) true

/-- A cause that an engine command raises for its context: before the context's next word while the context runs the
issuing firing, an engine fault otherwise (18 R413). Such a cause is recorded with eng 0, as in 23 R492 (DEDUCED, log
98). -/
def State.raiseEngine (s : State) (n : Nat) (k : Ctx) (firing engine : Nat) (r : Raise) : State :=
  if (s.ctx n k).runs firing then s.raiseDue n k r (engine = 2) else s.engineFault n k engine r

/-- Raises a completion interrupt on the issuing context if it runs the firing and its source is enabled: eight are kept
(04 R89). -/
def State.raiseIrq (s : State) (n : Nat) (k : Ctx) (firing : Nat) (x : Intr) : State :=
  s.modCtx n k fun c =>
    if isRoutine k && c.runs firing && bitOf c.ien (x.src - 1) then
      if c.irqs.length < 8 then { c with irqs := c.irqs ++ [x] } else { c with irqOvf := true }
    else c

/-! ## Tokens (12 R269 to R272) -/

/-- Whether a token is pending. -/
def Tile.tokPending (t : Tile) (k : Nat) : Bool := (spFind t.tokens k).isSome

/-- The first cycle at whose start a done token was done; 0 for one that has been done since reset. -/
def Tile.tokSince (t : Tile) (k : Nat) : Nat := spGet 0 t.tokDone k

/-- Whether an engine consumer may proceed in cycle a: the token was done at the starts of cycles a - 1 and a
(12 R271). 63 is no token. -/
def Tile.tokReady (t : Tile) (a : Nat) (k : Nat) : Bool :=
  k = 63 || (!t.tokPending k && t.tokSince k + 1 ≤ a) || (!t.tokPending k && t.tokSince k = 0)

/-- Whether all tokens a header consumes let it proceed in cycle a. -/
def Tile.hdrReady (t : Tile) (a : Nat) (h : Hdr) : Bool :=
  t.tokReady a h.toka.toNat && t.tokReady a h.tokb.toNat && t.tokReady a h.tokc.toNat

/-- A producer makes a token pending (12 R270); 63 names none, except from `tpend`. -/
def Tile.produce (t : Tile) (k owner : Nat) (c : Ctx) : Tile :=
  { t with tokens := spPut t.tokens k { owner := owner, ctx := c } }

def State.produce (s : State) (n k owner : Nat) (c : Ctx) : State :=
  if k = 63 then s else s.modTile n fun t => t.produce k owner c

/-- A token becomes done at the start of this cycle. -/
def Tile.tokenDone (t : Tile) (now k : Nat) : Tile :=
  { t with tokens := spErase t.tokens k, tokDone := spPut t.tokDone k now }

def State.tokenDone (s : State) (n k : Nat) : State :=
  if k = 63 then s else s.modTile n fun t => t.tokenDone s.now k

/-- A token becomes done at the start of a later cycle: of the next cycle and after, as an update. -/
def State.tokenDoneAt (s : State) (n k cyc : Nat) : State :=
  if k = 63 then s
  else s.schedule cyc prioUpdate (.registerWrite { tile := n, ctx := .k0, num := updTokDone } (w64 (k + 2 ^ 8)))

/-! ## Freezing, resuming (18 R415 to R420, 03 R68) -/

/-- Integer nanoseconds of the pace counter (15 R338). -/
def State.paceNow (s : State) : Nat := s.hub.paceNs.toNat

/-- Freezes one tile in this cycle: no word issues from the next one; results, latches and ports are captured, deferred
takes withdrawn, and the cause recorded (18 R415, R417, 03 R68). -/
def State.freezeTile (s : State) (n : Nat) (c : Cause) : State :=
  if (s.tile n).frozen then s
  else
    let s := (s.withdraw n allCtx).capture n .freeze allCtx s.now
    s.modTile n fun t =>
      { t.setRg 0x077 (w64 (2 ^ 63 + bits (t.rg 0x077) 60 2 * 2 ^ 60 + (c.code % 64) * 2 ^ 54 + s.paceNow % 2 ^ 48)) with
        savedPorts := some (t.latO, t.latP, t.ports), primary := none
        lastPrimary := t.primary.getD t.lastPrimary }

/-- Freezes every tile of a chain in one cycle: the named tile records the cause, the others GANG (18 R415). -/
def State.freezeChain (s : State) (n : Nat) (c : Cause) : State :=
  if n < 1728 then
    (chainTiles (chainOf n)).foldl (fun s m => s.freezeTile m (if m = n then c else .gang)) s
  else s.freezeTile n c

/-- Resumes one frozen tile: latches and ports regain their saved values, captured results land from cycle u on, and each
access socket starts with nothing pending (18 R420, 03 R68, 09 R200). -/
def State.resumeTile (s : State) (n u : Nat) : State :=
  let t := s.tile n
  if t.frozen && !t.halted then
    let t := match t.savedPorts with
      | some (o, p, r) => { t with latO := o, latP := p, ports := r, savedPorts := none }
      | none => t
    let t := { t.setRg 0x077 (putBits (t.rg 0x077) 62 2 0) with plast := [], resumeAt := some u }
    ((s.setTile n t).raiseCaptured n .freeze).replay n .freeze u
  else s

end Sys2Proof.Machine
end

