-- ==== Sys2Proof/Machine/Operands.lean ====
section
/-!
DEFINITION. Operand forms: the moves of a word, reading a source on a bus, fitting a value to a
destination, pointer uses, writing registers, and what a trigger reads (02 R26 to R34, R54, 03 R49, 05 R118 to R121).
-/

namespace Sys2Proof.Machine

/-! ## Registers (03 R49, 05 R118) -/

/-- Word 0 of a pointer (05 R118). -/
def Regs.ptr0 (r : Regs) (n : Nat) : W64 :=
  w64 ((spGet 0#32 r.addr n).toNat + (spGet 0#20 r.stride n).toNat * 2 ^ 32)

/-- Word 1 of a pointer (05 R118): tag bits are rgn in [3:0] and ren in [4]. -/
def Regs.ptr1 (r : Regs) (n : Nat) : W64 :=
  w64 ((spGet 0#32 r.wbase n).toNat + (spGet 0#20 r.wlen n).toNat * 2 ^ 32 + (spGet 0#5 r.tag n).toNat * 2 ^ 52)

def Regs.setAddr (r : Regs) (n : Nat) (v : Nat) : Regs := { r with addr := spSet 0#32 r.addr n (BitVec.ofNat 32 v) }

/-- The fields of word 0. -/
def Regs.setPtr0 (r : Regs) (n : Nat) (v : W64) : Regs :=
  { r with
    addr := spSet 0#32 r.addr n (BitVec.ofNat 32 (bits v 0 32))
    stride := spSet 0#20 r.stride n (BitVec.ofNat 20 (bits v 32 20)) }

/-- The fields of word 1. -/
def Regs.setPtr1 (r : Regs) (n : Nat) (v : W64) : Regs :=
  { r with
    wbase := spSet 0#32 r.wbase n (BitVec.ofNat 32 (bits v 0 32))
    wlen := spSet 0#20 r.wlen n (BitVec.ofNat 20 (bits v 32 20))
    tag := spSet 0#5 r.tag n (BitVec.ofNat 5 (bits v 52 5)) }

/-- The address after an advance by k steps (05 R119). -/
def Regs.advanced (r : Regs) (n : Nat) (k : Int) : Nat :=
  let addr := (spGet 0#32 r.addr n).toNat
  let base : Int := (spGet 0#32 r.wbase n).toNat
  let wlen : Int := (spGet 0#20 r.wlen n).toNat
  let ex : Int := addr + k * (spGet 0#20 r.stride n).toInt
  if wlen = 0 then (ex % 2 ^ 32).toNat else ((base + (ex - base) % wlen) % 2 ^ 32).toNat

/-- A register as a number, zero-extended (02 R31). -/
def Regs.read (r : Regs) (f : RegFile) (n : Nat) : Nat :=
  match f with
  | .s => (spGet 0#64 r.s n).toNat
  | .v => (spGet 0#1024 r.v n).toNat
  | .g => (spGet 0#1 r.g n).toNat
  | .k => (spGet 0#32 r.k n).toNat
  | .a => (spGet 0#32 r.addr n).toNat
  | .h => (spGet 0#64 r.h n).toNat
  | .m => (spGet 0#64 r.m n).toNat
  | .c => (spGet 0#64 r.c n).toNat

/-- A register written with the low bits of a value (02 R31); a pointer takes its address part only. -/
def Regs.write (r : Regs) (f : RegFile) (n : Nat) (v : Nat) : Regs :=
  match f with
  | .s => { r with s := spSet 0#64 r.s n (BitVec.ofNat 64 v) }
  | .v => { r with v := spSet 0#1024 r.v n (BitVec.ofNat 1024 v) }
  | .g => { r with g := spSet 0#1 r.g n (BitVec.ofNat 1 v) }
  | .k => { r with k := spSet 0#32 r.k n (BitVec.ofNat 32 v) }
  | .a => r.setAddr n v
  | .h => { r with h := spSet 0#64 r.h n (BitVec.ofNat 64 v) }
  | .m => { r with m := spSet 0#64 r.m n (BitVec.ofNat 64 v) }
  | .c => { r with c := spSet 0#64 r.c n (BitVec.ofNat 64 v) }

/-- The width of a register in bytes as a fingerprint takes it (18 R427). -/
def regBytes (f : RegFile) : Nat := if f = .v then 128 else 8

/-! ## Moves -/

/-- A move slot of a word with its fields named; `limm` is the long immediate its word pairs with it. -/
structure Move where
  slot : Nat
  ctx : Ctx
  src : Src
  dst : Dst
  limm : BitVec 32
  guard : Nat
  neg : Bool
deriving DecidableEq, Repr

/-- The destination a move slot names; a legal word names one (02 R26). -/
def dstOf (r : BitVec 32) : Dst :=
  if bitOf r 14 then
    match sockOf (bits r 9 5) with
    | some so =>
      match bits r 7 2 with
      | 0 => .opnd so false
      | 1 => .opnd so true
      | p => .trig so (p = 3) (bits r 0 7)
    | none => .nil
  else (dstIdent (bits r 0 10)).getD .nil

/-- The move of slot i of a word of context k. -/
def moveOf (k : Ctx) (w : Word) (i : Nat) : Move :=
  let r := slotOf w i
  { slot := i, ctx := k, src := (srcOf r).getD .nil, dst := dstOf r
    limm := match limmFor w i with | some l => slotOf w l | none => 0#32
    guard := bits r 27 5, neg := bitOf r 26 }

/-- The move slots of a word, long immediates and canonical null moves apart. -/
def movesOf (k : Ctx) (w : Word) : List Move :=
  ((List.range 12).filter (fun i => !isLimm w i && slotOf w i ≠ 0#32)).map (moveOf k w)

/-- Whether the guard condition of a move holds in its context (02 R26, R27). -/
def Move.performed (m : Move) (r : Regs) : Bool :=
  m.guard = 0 || ((spGet 0#1 r.g (m.guard - 1) = 1#1) != m.neg)

/-- The performed moves of a word of context k, guards sampled now (02 R27). -/
def Tile.performed (t : Tile) (k : Ctx) (w : Word) : List Move :=
  (movesOf k w).filter fun m => m.performed (t.ctx k).regs

/-- Whether the bus of a slot is 1,024 bits wide (02 R23). -/
def wideBus (i : Nat) : Bool := busOf i = .vecA || busOf i = .vecB || busOf i = .store

/-- A signed immediate of w bits on the bus of slot i (02 R31). -/
def immOn (i w v : Nat) : V1024 :=
  if wideBus i then mapElems 32 32 (fun _ => (ofInt 32 (sx w v)).toNat)
  else wide (ofInt 64 (sx w v))

/-- The value a source has on the bus of slot i (02 R31, 03 R54). -/
def Tile.readSrc (t : Tile) (m : Move) : V1024 :=
  match m.src with
  | .nil => 0#1024
  | .limm => immOn m.slot 32 m.limm.toNat
  | .imm v => immOn m.slot 10 v.toNat
  | .reg f n => BitVec.ofNat 1024 ((t.ctx m.ctx).regs.read f n)
  | .win n => BitVec.ofNat 1024 (spGet 0#512 t.net.win n).toNat
  | .port so po => if wideBus m.slot then t.port so po else wide (low64 (t.port so po))

/-- The address ports of the access sockets: the t port of a load socket, the o port of a store socket (05 R120). -/
def isAddrPort (d : Dst) : Bool :=
  match d with
  | .trig .ld0 _ _ => true
  | .trig .ld1 _ _ => true
  | .opnd .st0 false => true
  | .opnd .st1 false => true
  | _ => false

/-- The pointer a move uses, if it is a pointer use (05 R120). -/
def Move.pointerUse (m : Move) : Option Nat :=
  match m.src with
  | .reg .a n => if isAddrPort m.dst then some n else none
  | _ => none

/-- The region tag a pointer use passes, if the pointer carries one (05 R120). -/
def Tile.useTag (t : Tile) (m : Move) : Option Nat :=
  match m.pointerUse with
  | some n =>
    let tg := (spGet 0#5 (t.ctx m.ctx).regs.tag n).toNat
    if tg ≥ 16 then some (tg % 16) else none
  | none => none

/-- Two moves have the same destination (02 R35); a t and an x write of one socket count as one (03 R63). -/
def sameDst (a b : Move) : Bool :=
  match a.dst, b.dst with
  | .reg f n, .reg f' n' => f = f' && n = n' && a.ctx = b.ctx
  | .opnd so p, .opnd so' p' => so = so' && p = p'
  | .trig so _ _, .trig so' _ _ => so = so'
  | _, _ => false

/-- The moves that take effect: of several with one destination, the one in the highest slot (03 R63). -/
def winners (ms : List Move) : List Move :=
  ms.filter fun m => !ms.any (fun m' => sameDst m m' && m.slot < m'.slot)

/-- Whether K3 runs its ballast program (04 R88). -/
def Tile.inBallast (t : Tile) (k : Ctx) : Bool := k = .k3 && t.ballast

/-- An operand move sets its latch, a store's address latch with its tag; in ballast mode a private latch (04 R88). -/
def Tile.setLatch (t : Tile) (m : Move) (so : Sock) (isP : Bool) (v : V1024) (tag : Option Nat) : Tile :=
  if t.inBallast m.ctx then
    if isP then { t with privP := spSet 0#1024 t.privP (sockNum so) v }
    else { t with privO := spSet 0#1024 t.privO (sockNum so) v }
  else if isP then { t with latP := spSet 0#1024 t.latP (sockNum so) v }
  else { t with latO := spSet 0#1024 t.latO (sockNum so) v, tagO := spSet none t.tagO (sockNum so) tag }

/-! ## What a trigger reads -/

/-- The tile of the trigger in hand. -/
def State.ht (s : State) : Tile := s.tile s.hand.tile

/-- The context of the trigger in hand. -/
def State.hc (s : State) : Context := s.ctx s.hand.tile s.hand.ctx

/-- The scalar trigger value. -/
def State.tv (s : State) : W64 := low64 s.hand.tv

/-- The scalar `o` and `p` latches of a socket, after step 2 of 02 R34. -/
def State.opo (s : State) (so : Sock) : W64 := low64 (s.ht.opo so)
def State.opp (s : State) (so : Sock) : W64 := low64 (s.ht.opp so)

/-- The pair (opo, tv) with the roles exchanged in the x form (02 R36). -/
def State.ab (s : State) (so : Sock) (x : Bool) : W64 × W64 :=
  if x then (s.tv, s.opo so) else (s.opo so, s.tv)

def State.abWide (s : State) (so : Sock) (x : Bool) : V1024 × V1024 :=
  if x then (s.hand.tv, s.ht.opo so) else (s.ht.opo so, s.hand.tv)

/-- The twin sockets. -/
def aluSock (u : Twin) : Sock := match u with | .a => .alu0 | .b => .alu1
def ldSock (u : Twin) : Sock := match u with | .a => .ld0 | .b => .ld1
def stSock (u : Twin) : Sock := match u with | .a => .st0 | .b => .st1

/-- Whether the trigger in hand is a ballast operation of K3, whose results and updates are discarded (04 R88). -/
def State.discards (s : State) : Bool := s.ht.inBallast s.hand.ctx

/-- The slot of the trigger in hand raises a cause with a detail. -/
def State.raise (s : State) (c : Cause) (detail : Nat) : Raise := raiseAt c s.hand.slot detail

/-- An operation: a ballast operation has no effect; a failing check traps precisely; else its effect takes place
(02 R34 step 3, 18 R410). -/
def State.operate (s : State) (chk : Option Raise) (eff : State → State) : Out :=
  if s.discards then .next s
  else
    match chk with
    | some r => .next (s.takeTrap s.hand.tile s.hand.ctx r)
    | none => .next (eff s)

/-- Records a hardware update of a register at the start of this cycle, for the collision of 03 R64. -/
def Tile.noteUpdate (t : Tile) (now : Nat) (k : Ctx) (ident : Nat) : Tile :=
  { t with ptrUpd := (k, ident, now) :: t.ptrUpd.filter (fun u => u.2.2 = now) }

end Sys2Proof.Machine
end

