-- ==== Sys2Proof/Machine/Agu.lean ====
section
/-!
DEFINITION. Pointers, regions and the operations of the `agu` socket (05 R118 to R129).
-/

namespace Sys2Proof.Machine

/-! ## Regions (05 R122, R123) -/

/-- Base and length of region n (05 R122). -/
def Tile.rgnBase (t : Tile) (n : Nat) : Nat := bits (t.rg (0x040 + n)) 0 32
def Tile.rgnBytes (t : Tile) (n : Nat) : Nat := bits (t.rg (0x040 + n)) 32 32

/-- Word w of list entry e (04 R75). -/
def Tile.listWord (t : Tile) (e w : Nat) : W64 := t.rg (0x100 + 3 * e + w)

/-- The declared set of the entry a context runs, all ones where it runs none (05 R123). -/
def Tile.regionSet (t : Tile) (k : Ctx) (write : Bool) : Nat :=
  match (t.ctx k).entry with
  | some e => bits (t.listWord e 0) (if write then 16 else 0) 16
  | none => 0xFFFF

/-- Whether lo .. hi lies inside region n. -/
def Tile.inRegion (t : Tile) (n lo hi : Nat) : Bool := t.rgnBase n ≤ lo && hi < t.rgnBase n + t.rgnBytes n

/-- The detail with which the region check of 05 R123 fails, if it does. -/
def Tile.regionFail (t : Tile) (k : Ctx) (write : Bool) (tag : Option Nat) (lo hi : Nat) : Option Nat :=
  let dset := t.regionSet k write
  match tag with
  | some n => if !dset.testBit n then some 0x1 else if !t.inRegion n lo hi then some 0x2 else none
  | none => if (List.range 16).any (fun n => dset.testBit n && t.inRegion n lo hi) then none else some 0x3

/-! ## Operations (05 R124 to R129) -/

/-- Operations 0x00 to 0x06 outside a routine context land 0 and change nothing (05 R124). -/
def State.aguPtr (s : State) (v : Regs → W64) (eff : State → State) : Out :=
  s.operate none fun s =>
    if isRoutine s.hand.ctx then eff (s.result .agu (v s.hc.regs)) else s.result .agu 0#64

/-- The pointer numbers of the operands. -/
def State.ptrO (s : State) : Nat := bits (s.opo .agu) 0 3
def State.ptrT (s : State) : Nat := bits s.tv 0 3

/-- Fixes a pointer update to the start of the next cycle, behind the advances (05 R121). -/
def State.ptrLater (s : State) (num : Nat) (v : W64) : State := s.later s.hand.tile s.hand.ctx num v

/-- AGU_PSTR (05 R126). -/
def execAguPstr (s : State) : Out :=
  s.aguPtr (fun r => r.ptr0 s.ptrO) fun s => s.ptrLater (updStride + s.ptrO) (w64 (bits s.tv 0 20))

/-- AGU_PWIN (05 R126). -/
def execAguPwin (s : State) : Out :=
  s.aguPtr (fun r => r.ptr1 s.ptrO) fun s =>
    s.ptrLater (updWindow + s.ptrO) (w64 (bits s.tv 0 32 + bits (s.opp .agu) 0 20 * 2 ^ 32))

/-- AGU_PREG (05 R126). -/
def execAguPreg (s : State) : Out :=
  s.aguPtr (fun r => r.ptr1 s.ptrO) fun s => s.ptrLater (updTag + s.ptrO) (w64 (bits s.tv 0 5))

/-- AGU_PGET (05 R127). -/
def execAguPget (s : State) : Out :=
  s.aguPtr (fun r => if bitOf s.tv 3 then r.ptr1 s.ptrT else r.ptr0 s.ptrT) id

/-- AGU_PADV (05 R127): the advance joins the pointer uses of its word (05 R121); a count of 0 makes none. -/
def execAguPadv (s : State) : Out :=
  s.aguPtr (fun r => w64 (r.read .a s.ptrT)) fun s =>
    if s.opo .agu = 0#64 then s else s.schedule (s.now + 1) prioWrite
      (.registerWrite { tile := s.hand.tile, ctx := s.hand.ctx, num := updAdvance + s.ptrT } (s.opo .agu))

/-- AGU_PPEEK (05 R127): a count of 0 lands the address as it stands. -/
def execAguPpeek (s : State) : Out :=
  s.aguPtr (fun r => w64 (if s.opo .agu = 0#64 then r.read .a s.ptrT else r.advanced s.ptrT (sv (s.opo .agu)))) id

/-- AGU_PCOPY (05 R126): all fields of the destination, as read now. A copy onto its own source writes the address of
step 3 back over a move or an advance of the same word (DESIGN CHOICE, log entry 120). -/
def execAguPcopy (s : State) : Out :=
  s.aguPtr (fun r => r.ptr0 s.ptrT) fun s =>
    (s.ptrLater (updWord0 + s.ptrO) (s.hc.regs.ptr0 s.ptrT)).ptrLater (updWord1 + s.ptrO) (s.hc.regs.ptr1 s.ptrT)

/-- The test of `rchk` and `rassert` (05 R128): bounds alone with tv[5], or outside a routine context. -/
def State.rangeFail (s : State) : Option Nat :=
  let lo := bits (s.opo .agu) 0 32
  let hi := lo + max (bits (s.opp .agu) 0 32) 1 - 1
  let n := bits s.tv 0 4
  if bitOf s.tv 5 || !isRoutine s.hand.ctx then if s.ht.inRegion n lo hi then none else some 0x2
  else s.ht.regionFail s.hand.ctx (bitOf s.tv 4) (some n) lo hi

/-- AGU_RCHK (05 R128). -/
def execAguRchk (s : State) : Out :=
  s.operate none fun s => s.result .agu (w64 (b2n s.rangeFail.isNone))

/-- The check of AGU_RASSERT. -/
def State.checkRassert (s : State) : Option Raise := s.rangeFail.map fun d => s.raise .region d

/-- AGU_RASSERT (05 R128). -/
def execAguRassert (s : State) : Out := s.operate s.checkRassert fun s => s.result .agu 1#64

/-- AGU_RGET (05 R128). -/
def execAguRget (s : State) : Out :=
  s.operate none fun s => s.result .agu (s.ht.rg (0x040 + bits s.tv 0 4))

/-- AGU_LEA (05 R129). -/
def execAguLea (s : State) : Out :=
  s.operate none fun s =>
    s.result .agu (ofInt 64 (uv (s.opo .agu) + sv s.tv * 2 ^ bits (s.opp .agu) 0 3))

end Sys2Proof.Machine
end

