-- ==== Sys2Proof/Machine/Alu.lean ====
section
/-!
DEFINITION. The operations of `alu0` and `alu1` (05 R104 to R112) and the guard and lane-mask operations in their block
(03 R70 to R74). Every one has latency 1 in both modes.
-/

namespace Sys2Proof.Machine

/-! ## Results as functions of the operands -/

/-- The result of a saturating operation and its flag word (05 R108). -/
def addSat (signed : Bool) (a b : W64) : W64 × W64 :=
  if signed then satFlags lo64 hi64 (sv a + sv b) else satFlags 0 (2 ^ 64 - 1) ((uv a : Int) + uv b)

def subSat (signed : Bool) (a b : W64) : W64 × W64 :=
  if signed then satFlags lo64 hi64 (sv a - sv b) else satFlags 0 (2 ^ 64 - 1) ((uv a : Int) - uv b)

/-- Shifts and rotates by the whole unsigned amount (05 R109). -/
def shlW (a b : W64) : W64 := if 64 ≤ uv b then 0#64 else a <<< uv b

def shrN (a b : W64) : W64 := if 64 ≤ uv b then 0#64 else a >>> uv b

def shrS (a b : W64) : W64 := a.sshiftRight (min (uv b) 63)

def rolW (a b : W64) : W64 := a.rotateLeft (uv b % 64)

def rorW (a b : W64) : W64 := a.rotateRight (uv b % 64)

/-- A truth value as a result (05 R110). -/
def truth (b : Bool) : W64 := w64 (b2n b)

def absSat (a : W64) : W64 := ofInt 64 (min (sv a).natAbs hi64)

def clzW (a : W64) : Nat := if a = 0#64 then 64 else 63 - highestBit 64 a.toNat

def ctzW (a : W64) : Nat := if a = 0#64 then 64 else lowestBit 64 a.toNat

/-- The position and clipped width of a bit field (05 R112). -/
def bfPos (tv : W64) : Nat := bits tv 0 6

def bfWidth (tv : W64) : Nat := min (bits tv 6 7) (64 - bfPos tv)

def bfxN (o tv : W64) : W64 := w64 (bits o (bfPos tv) (bfWidth tv))

def bfxS (o tv : W64) : W64 :=
  if bfWidth tv = 0 then 0#64 else ofInt 64 (sbits o (bfPos tv) (bfWidth tv))

def bfiW (o p tv : W64) : W64 := putBits o (bfPos tv) (bfWidth tv) p.toNat

/-- The guards of a context as a number: 24 of a routine context, 8 of another (03 R71). -/
def guardVis (k : Ctx) : Nat := if isRoutine k then 24 else 8

def guardPack (k : Ctx) (r : Regs) : Nat :=
  packNat 1 ((List.range (guardVis k)).map fun i => (spGet 0#1 r.g i).toNat)

/-- The mask of the first n lanes (03 R73). -/
def lanesBelow (n : Nat) : Nat := 2 ^ min n 32 - 1

/-! ## Meanings -/

/-- A result without flags (05 R104). -/
def State.aluR (s : State) (u : Twin) (v : W64) : Out := s.operate none fun s => s.result (aluSock u) v

/-- A result with its flag word (05 R104, R105). -/
def State.aluF (s : State) (u : Twin) (v : W64 × W64) : Out :=
  s.operate none fun s =>
    s.land s.hand.tile s.hand.ctx (aluSock u) 1 [(.r, wide v.1), (.f, wide v.2)]

/-- ALU_ADD (05 R107). -/
def execAluAdd (u : Twin) (s : State) : Out :=
  let (a, b) := s.ab (aluSock u) false
  s.aluF u (addFlags a b 0)

/-- ALU_SUB (05 R107). -/
def execAluSub (u : Twin) (x : Bool) (s : State) : Out :=
  let (a, b) := s.ab (aluSock u) x
  s.aluF u (subFlags a b 0)

/-- ALU_ADDC (05 R107). -/
def execAluAddc (u : Twin) (s : State) : Out :=
  let (a, b) := s.ab (aluSock u) false
  s.aluF u (addFlags a b (bits (s.opp (aluSock u)) 0 1))

/-- ALU_SUBB (05 R107). -/
def execAluSubb (u : Twin) (x : Bool) (s : State) : Out :=
  let (a, b) := s.ab (aluSock u) x
  s.aluF u (subFlags a b (bits (s.opp (aluSock u)) 0 1))

/-- ALU_ADDS_S64 (05 R108). -/
def execAluAddsS64 (u : Twin) (s : State) : Out :=
  let (a, b) := s.ab (aluSock u) false
  s.aluF u (addSat true a b)

/-- ALU_ADDS_N64 (05 R108). -/
def execAluAddsN64 (u : Twin) (s : State) : Out :=
  let (a, b) := s.ab (aluSock u) false
  s.aluF u (addSat false a b)

/-- ALU_SUBS_S64 (05 R108). -/
def execAluSubsS64 (u : Twin) (x : Bool) (s : State) : Out :=
  let (a, b) := s.ab (aluSock u) x
  s.aluF u (subSat true a b)

/-- ALU_SUBS_N64 (05 R108). -/
def execAluSubsN64 (u : Twin) (x : Bool) (s : State) : Out :=
  let (a, b) := s.ab (aluSock u) x
  s.aluF u (subSat false a b)

/-- ALU_AND (05 R109). -/
def execAluAnd (u : Twin) (s : State) : Out :=
  let (a, b) := s.ab (aluSock u) false
  s.aluR u (a &&& b)

/-- ALU_OR (05 R109). -/
def execAluOr (u : Twin) (s : State) : Out :=
  let (a, b) := s.ab (aluSock u) false
  s.aluR u (a ||| b)

/-- ALU_XOR (05 R109). -/
def execAluXor (u : Twin) (s : State) : Out :=
  let (a, b) := s.ab (aluSock u) false
  s.aluR u (a ^^^ b)

/-- ALU_ANDN (05 R109). -/
def execAluAndn (u : Twin) (x : Bool) (s : State) : Out :=
  let (a, b) := s.ab (aluSock u) x
  s.aluR u (a &&& ~~~b)

/-- ALU_SHL (05 R109). -/
def execAluShl (u : Twin) (x : Bool) (s : State) : Out :=
  let (a, b) := s.ab (aluSock u) x
  s.aluR u (shlW a b)

/-- ALU_SHR_N64 (05 R109). -/
def execAluShrN64 (u : Twin) (x : Bool) (s : State) : Out :=
  let (a, b) := s.ab (aluSock u) x
  s.aluR u (shrN a b)

/-- ALU_SHR_S64 (05 R109). -/
def execAluShrS64 (u : Twin) (x : Bool) (s : State) : Out :=
  let (a, b) := s.ab (aluSock u) x
  s.aluR u (shrS a b)

/-- ALU_ROL (05 R109). -/
def execAluRol (u : Twin) (x : Bool) (s : State) : Out :=
  let (a, b) := s.ab (aluSock u) x
  s.aluR u (rolW a b)

/-- ALU_ROR (05 R109). -/
def execAluRor (u : Twin) (x : Bool) (s : State) : Out :=
  let (a, b) := s.ab (aluSock u) x
  s.aluR u (rorW a b)

/-- ALU_CEQ (05 R110). -/
def execAluCeq (u : Twin) (s : State) : Out :=
  let (a, b) := s.ab (aluSock u) false
  s.aluR u (truth (a = b))

/-- ALU_CNE (05 R110). -/
def execAluCne (u : Twin) (s : State) : Out :=
  let (a, b) := s.ab (aluSock u) false
  s.aluR u (truth (a ≠ b))

/-- ALU_CLT_S64 (05 R110). -/
def execAluCltS64 (u : Twin) (x : Bool) (s : State) : Out :=
  let (a, b) := s.ab (aluSock u) x
  s.aluR u (truth (sv a < sv b))

/-- ALU_CLT_N64 (05 R110). -/
def execAluCltN64 (u : Twin) (x : Bool) (s : State) : Out :=
  let (a, b) := s.ab (aluSock u) x
  s.aluR u (truth (uv a < uv b))

/-- ALU_CLE_S64 (05 R110). -/
def execAluCleS64 (u : Twin) (x : Bool) (s : State) : Out :=
  let (a, b) := s.ab (aluSock u) x
  s.aluR u (truth (sv a ≤ sv b))

/-- ALU_CLE_N64 (05 R110). -/
def execAluCleN64 (u : Twin) (x : Bool) (s : State) : Out :=
  let (a, b) := s.ab (aluSock u) x
  s.aluR u (truth (uv a ≤ uv b))

/-- ALU_MIN_S64 (05 R110). -/
def execAluMinS64 (u : Twin) (s : State) : Out :=
  let (a, b) := s.ab (aluSock u) false
  s.aluR u (if sv a ≤ sv b then a else b)

/-- ALU_MIN_N64 (05 R110). -/
def execAluMinN64 (u : Twin) (s : State) : Out :=
  let (a, b) := s.ab (aluSock u) false
  s.aluR u (if uv a ≤ uv b then a else b)

/-- ALU_MAX_S64 (05 R110). -/
def execAluMaxS64 (u : Twin) (s : State) : Out :=
  let (a, b) := s.ab (aluSock u) false
  s.aluR u (if sv a ≤ sv b then b else a)

/-- ALU_MAX_N64 (05 R110). -/
def execAluMaxN64 (u : Twin) (s : State) : Out :=
  let (a, b) := s.ab (aluSock u) false
  s.aluR u (if uv a ≤ uv b then b else a)

/-- ALU_SEL (05 R110). -/
def execAluSel (u : Twin) (x : Bool) (s : State) : Out :=
  let (a, b) := s.ab (aluSock u) x
  s.aluR u (if bitOf (s.opp (aluSock u)) 0 then a else b)

/-- ALU_ABS_S64 (05 R111). -/
def execAluAbsS64 (u : Twin) (s : State) : Out := s.aluR u (absSat s.tv)

/-- ALU_PASS (05 R111). -/
def execAluPass (u : Twin) (s : State) : Out := s.aluR u s.tv

/-- ALU_POPC (05 R111). -/
def execAluPopc (u : Twin) (s : State) : Out := s.aluR u (w64 (popcount 64 (uv s.tv)))

/-- ALU_CLZ (05 R111). -/
def execAluClz (u : Twin) (s : State) : Out := s.aluR u (w64 (clzW s.tv))

/-- ALU_CTZ (05 R111). -/
def execAluCtz (u : Twin) (s : State) : Out := s.aluR u (w64 (ctzW s.tv))

/-- ALU_BFX_S64 (05 R112). -/
def execAluBfxS64 (u : Twin) (s : State) : Out := s.aluR u (bfxS (s.opo (aluSock u)) s.tv)

/-- ALU_BFX_N64 (05 R112). -/
def execAluBfxN64 (u : Twin) (s : State) : Out := s.aluR u (bfxN (s.opo (aluSock u)) s.tv)

/-- ALU_BFI (05 R112). -/
def execAluBfi (u : Twin) (s : State) : Out :=
  s.aluR u (bfiW (s.opo (aluSock u)) (s.opp (aluSock u)) s.tv)

/-- GPACK (03 R71): the guards before the word, under a mask. -/
def execGpack (u : Twin) (s : State) : Out :=
  s.aluR u (w64 (guardPack s.hand.ctx s.hc.regs &&& bits s.tv 0 24))

/-- GSET (03 R72): lands the guards as they stood; the update takes effect at the start of the next cycle. -/
def execGset (u : Twin) (x : Bool) (s : State) : Out :=
  let (mask, val) := s.ab (aluSock u) x
  s.operate none fun s =>
    (s.result (aluSock u) (w64 (guardPack s.hand.ctx s.hc.regs))).later s.hand.tile s.hand.ctx updGuards
      (w64 (bits mask 0 (guardVis s.hand.ctx) + bits val 0 24 * 2 ^ 24))

/-- KFILL (03 R73). -/
def execKfill (u : Twin) (s : State) : Out := s.aluR u (w64 (lanesBelow (uv s.tv)))

/-- KLOW (03 R74). -/
def execKlow (u : Twin) (s : State) : Out := s.aluR u (w64 (lowestBit 32 (bits s.tv 0 32)))

/-- KHIGH (03 R74). -/
def execKhigh (u : Twin) (s : State) : Out := s.aluR u (w64 (highestBit 32 (bits s.tv 0 32)))

end Sys2Proof.Machine
end

