-- ==== Sys2Proof/Machine/Control.lean ====
section
/-!
DEFINITION. The operations of the `ctl` socket (04 R93 to R103): transfers, loop nests, retire, yield, waits, queues,
position and handlers. A transfer sets the address the context issues next; the word it stands in takes it up at its end.
-/

namespace Sys2Proof.Machine

/-- A CTLFAULT at the trigger in hand (04 R95). -/
def State.ctlFault (s : State) (d : Nat) : Option Raise := some (s.raise .ctlfault d)

/-- Sets the address the context in hand issues next (04 R94). -/
def State.goto (s : State) (a : Nat) : State := s.modCtx s.hand.tile s.hand.ctx fun c => { c with next := some a }

/-- Leaves the loop nest where a transfer goes outside its body (04 R97). -/
def Nest.leave (x : Nest) (dest : Nat) : Nest :=
  if x.active && (dest > x.last || dest < x.start) then { x with active := false } else x

/-- The signed target of a jump: absolute, or relative to the address of its word. -/
def State.jumpDest (s : State) (rel : Bool) : Int :=
  if rel then (s.hc.pc : Int) + s.tv.toInt else (s.tv.toNat : Int)

def State.checkJump (s : State) (rel : Bool) : Option Raise :=
  let d := s.jumpDest rel
  if d > 2047 || d < 0 then s.ctlFault 0x1
  else if isRoutine s.hand.ctx && d ≤ s.hc.pc then s.ctlFault 0x2
  else none

def State.doJump (s : State) (rel : Bool) : State :=
  let d := (s.jumpDest rel).toNat
  (s.modCtx s.hand.tile s.hand.ctx fun c => { c with nest := c.nest.leave d }).goto d

/-- CTL_JMP (04 R97). -/
def execCtlJmp (s : State) : Out := s.operate (s.checkJump false) (State.doJump · false)

/-- CTL_JMPR (04 R97). -/
def execCtlJmpr (s : State) : Out := s.operate (s.checkJump true) (State.doJump · true)

def State.checkCall (s : State) : Option Raise :=
  let c := s.hc
  if s.tv.toNat > 2047 then s.ctlFault 0x1
  else if isRoutine s.hand.ctx && s.tv.toNat = c.entryPc then s.ctlFault 0x2
  else if c.nest.active then s.ctlFault 0x7
  else if c.saved.isSome then s.ctlFault 0x8
  else if c.rstack.length ≥ 4 then s.ctlFault 0x3
  else none

/-- CTL_CALL (04 R97): pushes the address after its word. -/
def execCtlCall (s : State) : Out :=
  s.operate s.checkCall fun s =>
    (s.modCtx s.hand.tile s.hand.ctx fun c => { c with rstack := (c.pc + 1) :: c.rstack }).goto s.tv.toNat

def State.checkRet (s : State) : Option Raise :=
  let c := s.hc
  if c.nest.active then s.ctlFault 0x7
  else
    match c.rstack with
    | [] => s.ctlFault 0x4
    | a :: _ => if a > 2047 then s.ctlFault 0x1 else none

/-- CTL_RET (04 R97). -/
def execCtlRet (s : State) : Out :=
  s.operate s.checkRet fun s =>
    match s.hc.rstack with
    | [] => s
    | a :: rest => (s.modCtx s.hand.tile s.hand.ctx fun c => { c with rstack := rest }).goto a

/-- The last word of the body that a nest armed at address a runs: the first with loopend within 64 words (04 R98). -/
def Tile.bodyEnd (t : Tile) (a : Nat) : Option Nat :=
  ((List.range 64).map (fun i => a + 1 + i)).find? fun i => i ≤ 2047 && bitOf (spGet 0#512 t.code i) 492

/-- The count of nest dimension d that the next arming takes: 1 unless set (04 R80, R98). -/
def Context.pendCount (c : Context) (d : Nat) : Nat := spGet 1 c.pend d

def State.checkLoop (s : State) : Option Raise :=
  let c := s.hc
  let d := s.tv.toNat
  if d < 1 || d > 6 then s.ctlFault 0x5
  else if c.nest.active then s.ctlFault 0x6
  else if c.saved.isSome then s.ctlFault 0x8
  else if (s.ht.bodyEnd c.pc).isNone then s.ctlFault 0x6
  else none

/-- CTL_LOOP (04 R98): arms a nest over the body after its word, or skips the body if a count is 0. -/
def execCtlLoop (s : State) : Out :=
  s.operate s.checkLoop fun s =>
    let c := s.hc
    let e := (s.ht.bodyEnd c.pc).getD c.pc
    let dims := s.tv.toNat
    let counts := (List.range dims).map (fun d => (d, c.pendCount d))
    let zero := counts.any (fun p => p.2 = 0)
    let nest : Nest :=
      { active := !zero, start := c.pc + 1, last := e, dims := dims, exit := false, filled := false, cnt := counts
        idx := [], buf := [] }
    (s.modCtx s.hand.tile s.hand.ctx fun c => { c with nest := nest }).goto (if zero then e + 1 else c.pc + 1)

/-- CTL_LDIM (04 R98). -/
def execCtlLdim (s : State) : Out :=
  s.operate (if (s.opo .ctl).toNat > 5 then s.ctlFault 0x5 else none) fun s =>
    s.modCtx s.hand.tile s.hand.ctx fun c =>
      { c with pend := spSet 1 c.pend (s.opo .ctl).toNat (bits s.tv 0 32) }

/-- CTL_LIDX (04 R98): the current index of a dimension, 0 outside the nest. -/
def execCtlLidx (s : State) : Out :=
  s.operate none fun s =>
    let x := s.hc.nest
    let d := s.tv.toNat
    s.result .ctl (w64 (if x.active && d < x.dims then spGet 0 x.idx d else 0))

/-- CTL_LEXIT (04 R98): the nest ends after the current pass. -/
def execCtlLexit (s : State) : Out :=
  s.operate none fun s =>
    s.modCtx s.hand.tile s.hand.ctx fun c =>
      if c.nest.active then { c with nest := { c.nest with exit := true } } else c

/-- What a retire does to its context: a routine retires, a service program ends (04 R81, R84, R88, R99). -/
def Context.retire (c : Context) (k : Ctx) : Context :=
  { c with
    run := if isRoutine k then .retiring else .idle
    ending := isRoutine k
    nest := { c.nest with active := false }
    rstack := [] }

/-- CTL_RETIRE (04 R99). In ballast mode too: it is K3's own control (log entry 16). -/
def execCtlRetire (s : State) : Out :=
  match if s.hc.saved.isSome then s.ctlFault 0x8 else none with
  | some r => .next (s.takeTrap s.hand.tile s.hand.ctx r)
  | none =>
    let n := s.hand.tile
    let k := s.hand.ctx
    let s := (s.modCtx n k fun c => c.retire k).farRef n k
    .next (match s.hc.entry with
      | some e =>
        if isRoutine k then
          s.modTile n fun t => { t with entries := spPut t.entries e { (spGet Entry.reset t.entries e) with st := 2 } }
        else s
      | none => s)

/-- CTL_YIELD (04 R99): a far reference; the context stays ready. -/
def execCtlYield (s : State) : Out := s.operate none fun s => s.farRef s.hand.tile s.hand.ctx

/-- CTL_TRAP (04 R99): USERTRAP with the code of tv[15:0], after the moves of its word; the context resumes at the next
word. A word takes it up last. -/
def execCtlTrap (s : State) : Out :=
  s.operate none fun s =>
    let c := s.hc
    s.takeTrapAt s.hand.tile s.hand.ctx (s.raise .usertrap (bits s.tv 0 16)) c.pc (c.next.getD (c.pc + 1)) s.now

/-- CTL_URET (04 R90, R103): restores address, guards and nest of the interrupted context. The guards are restored in
step 3: guard moves of its own word come after it and set no `dcoll`; 03 R64 names no such update (DESIGN CHOICE, log
entry 116). -/
def execCtlUret (s : State) : Out :=
  s.operate (if !isRoutine s.hand.ctx || s.hc.saved.isNone then s.ctlFault 0x8 else none) fun s =>
    match s.hc.saved with
    | none => s
    | some v =>
      (s.modCtx s.hand.tile s.hand.ctx fun c =>
        { c with regs := { c.regs with g := v.guards }, nest := v.nest, holds := v.holds, saved := none }).raiseCaptured
        s.hand.tile (.handler s.hand.ctx) |>.goto v.pc

/-- CTL_WTOK (04 R100): holds until the token is done, as it stands at the start of the next word's cycle: where the word
itself produces its token anew, until that production is done (DESIGN CHOICE, log entry 130; 12 R271). -/
def execCtlWtok (s : State) : Out :=
  s.operate none fun s => s.hold s.hand.tile s.hand.ctx (.token (bits s.tv 0 6))

/-- CTL_WCYC (04 R100): issues no word in cycles t + 1 to t + tv[23:0]. -/
def execCtlWcyc (s : State) : Out :=
  s.operate none fun s => s.hold s.hand.tile s.hand.ctx (.untilCycle (s.now + 1 + bits s.tv 0 24))

/-- The first and last entry of the selected list (04 R76). -/
def Tile.listFirst (t : Tile) : Nat := bits (t.rg 0x022) 0 6
def Tile.listLast (t : Tile) : Nat := bits (t.rg 0x022) 8 6

/-- An entry that 04 R101 admits: one of the active list, taken as the range that `rlsel` names, whether or not the list
runs (DESIGN CHOICE, log entry 119). -/
def State.checkEntry (s : State) (e : Nat) : Option Raise :=
  if s.ht.listFirst ≤ e && e ≤ s.ht.listLast then none else s.ctlFault 0x9

/-- CTL_QADD (04 R101): the addition is seen from the next cycle. -/
def execCtlQadd (s : State) : Out :=
  s.operate (s.checkEntry (bits (s.opo .ctl) 0 6)) fun s =>
    s.later s.hand.tile s.hand.ctx updQadd (w64 (bits (s.opo .ctl) 0 7 + bits s.tv 0 16 * 2 ^ 16))

/-- CTL_QREAD (04 R101). -/
def execCtlQread (s : State) : Out :=
  s.operate (s.checkEntry (bits s.tv 0 6)) fun s =>
    let e := spGet Entry.reset s.ht.entries (bits s.tv 0 6)
    s.result .ctl (w64 (if bitOf s.tv 6 then e.count1 else e.count0))

/-- CTL_WHERE (04 R102). -/
def execCtlWhere (s : State) : Out :=
  s.operate none fun s =>
    let c := s.hc
    let e := if isRoutine s.hand.ctx then c.entry.getD 0 else 0
    s.result .ctl (w64 (c.pc + e * 2 ^ 11 + ctxNum s.hand.ctx * 2 ^ 17 + b2n c.saved.isSome * 2 ^ 19
      + (if c.nest.active then c.nest.dims else 0) * 2 ^ 20))

/-- CTL_HSET (04 R103): handler address and enables, effective from the next cycle. -/
def execCtlHset (s : State) : Out :=
  s.operate (if isRoutine s.hand.ctx then none else s.ctlFault 0x8) fun s =>
    s.later s.hand.tile s.hand.ctx updEnables (w64 (bits (s.opo .ctl) 0 11 + bits s.tv 0 2 * 2 ^ 16))

end Sys2Proof.Machine
end

