-- ==== Sys2Proof/Machine/Numbers.lean ====
section
/-!
DEFINITION. Number formats, exact values, rounding, block sums and the canonical tree (06 R130 to R149). An exact value is
a sign, a magnitude m and an exponent e, worth m * 2^e; a value that is no dyadic number is cut far below every rounding
position with its last bit set, so that each rounding and each comparison comes out as that of the value itself.
-/

namespace Sys2Proof.Machine

/-- The floating-point and MX element formats (06 R132, R135). -/
inductive Fmt where
  | f32 | bf16 | f16 | e4m3 | e5m2 | e3m2 | e2m3 | e2m1 | mi8
deriving DecidableEq, Repr

/-- The element types of 07 R163. -/
inductive ElemTy where
  | flt (f : Fmt)
  | int (signed : Bool) (w : Nat)
deriving DecidableEq, Repr

/-- An exact value (06 R131, R137): NaN, an infinity, or a finite value with the sign of its zero. -/
inductive Ex where
  | nan
  | inf (neg : Bool)
  | fin (neg : Bool) (m : Nat) (e : Int)
deriving DecidableEq, Repr

/-- The modes an operation takes from `fpmode` (06 R144), and its rounding mode (06 R136). -/
structure FpMode where
  rm : Nat
  ftz : Bool
  ovfnan : Bool
deriving DecidableEq, Repr

/-! ## Formats (06 R132) -/

def Fmt.width (f : Fmt) : Nat :=
  match f with
  | .f32 => 32 | .bf16 => 16 | .f16 => 16 | .e4m3 => 8 | .e5m2 => 8 | .e3m2 => 6 | .e2m3 => 6 | .e2m1 => 4 | .mi8 => 8

def Fmt.mbits (f : Fmt) : Nat :=
  match f with
  | .f32 => 23 | .bf16 => 7 | .f16 => 10 | .e4m3 => 3 | .e5m2 => 2 | .e3m2 => 2 | .e2m3 => 3 | .e2m1 => 1 | .mi8 => 0

def Fmt.emin (f : Fmt) : Int :=
  match f with
  | .f32 => -126 | .bf16 => -126 | .f16 => -14 | .e4m3 => -6 | .e5m2 => -14 | .e3m2 => -2 | .e2m3 => 0 | .e2m1 => 0
  | .mi8 => -6

def Fmt.hasInf (f : Fmt) : Bool := f = .f32 || f = .bf16 || f = .f16 || f = .e5m2

def Fmt.hasNaN (f : Fmt) : Bool := f.hasInf || f = .e4m3

/-- The types whose subnormals `ftz` flushes (06 R139, R140). -/
def Fmt.flushes (f : Fmt) : Bool := f = .f32 || f = .bf16 || f = .f16

/-- The code of the greatest finite magnitude, without sign. -/
def Fmt.maxCode (f : Fmt) : Nat :=
  match f with
  | .f32 => 0x7F7FFFFF | .bf16 => 0x7F7F | .f16 => 0x7BFF | .e4m3 => 0x7E | .e5m2 => 0x7B | .e3m2 => 0x1F
  | .e2m3 => 0x1F | .e2m1 => 0x7 | .mi8 => 127

/-- The code of +infinity, of a format that has one. -/
def Fmt.infCode (f : Fmt) : Nat := f.maxCode + 1

/-- The canonical NaN (06 R132, R133). -/
def Fmt.nanCode (f : Fmt) : Nat :=
  match f with
  | .f32 => 0x7FC00000 | .bf16 => 0x7FC0 | .f16 => 0x7E00 | .e4m3 => 0x7F | .e5m2 => 0x7E | _ => 0

def Fmt.signBit (f : Fmt) (neg : Bool) : Nat := if neg then 2 ^ (f.width - 1) else 0

/-- The value of a code (06 R131, R135). -/
def decodeF (f : Fmt) (code : Nat) : Ex :=
  if f = .mi8 then
    let v := sx 8 code
    .fin (v < 0) v.natAbs (-6)
  else
    let neg := code.testBit (f.width - 1)
    let mag := code % 2 ^ (f.width - 1)
    if f.hasInf && mag = f.infCode then .inf neg
    else if f.hasNaN && f.maxCode < mag then .nan
    else
      let ef := mag / 2 ^ f.mbits
      let mf := mag % 2 ^ f.mbits
      if ef = 0 then .fin neg mf (f.emin - f.mbits)
      else .fin neg (2 ^ f.mbits + mf) (f.emin - f.mbits + (ef - 1 : Nat))

/-- The exponent of the leading bit of m * 2^e, for m > 0. -/
def topExp (m : Nat) (e : Int) : Int := (Nat.log2 m : Int) + e

/-- A subnormal input read as zero of its sign under ftz (06 R140). -/
def Ex.flush (x : Ex) (f : Fmt) (ftz : Bool) : Ex :=
  match x with
  | .fin neg m e => if ftz && f.flushes && m ≠ 0 && topExp m e < f.emin then .fin neg 0 e else x
  | _ => x

/-! ## Flags (06 R145) -/

def flNX : Nat := 1
def flUNF : Nat := 2
def flOVF : Nat := 4
def flDZ : Nat := 8
def flINV : Nat := 16
def flSAT : Nat := 32
def flROWEMPTY : Nat := 64
def flROWINF : Nat := 128
def flSCALENAN : Nat := 256

def flagIf (b : Bool) (f : Nat) : Nat := if b then f else 0

/-! ## Rounding (06 R136 to R139) -/

/-- m * 2^e in units of 2^q, rounded to an integer (06 R137); sr are the drawn bits of a stochastic rounding. -/
def roundUnits (neg : Bool) (m : Nat) (e q : Int) (mode sr : Nat) : Nat :=
  if q ≤ e then m * 2 ^ (e - q).toNat
  else
    let sh := (q - e).toNat
    let lo := m / 2 ^ sh
    let rem := m % 2 ^ sh
    let up :=
      match mode with
      | 1 => false
      | 2 => rem > 0 && !neg
      | 3 => rem > 0 && neg
      | 4 => decide (sr < rem * 2 ^ 24 / 2 ^ sh)
      | _ => 2 ^ sh < 2 * rem || (2 ^ sh = 2 * rem && lo % 2 = 1)
    if up then lo + 1 else lo

/-- Whether k units of 2^q are exactly m * 2^e. -/
def sameValue (k : Nat) (q : Int) (m : Nat) (e : Int) : Bool :=
  if q ≤ e then k = m * 2 ^ (e - q).toNat else k * 2 ^ (q - e).toNat = m

/-- The code of a rounded value and its flags where it fits or overflows (06 R139). -/
def fitCode (fp : FpMode) (f : Fmt) (mode : Nat) (conv : Bool) (neg : Bool) (k : Nat) (q : Int) (fl : Nat) : Nat × Nat :=
  if f = .mi8 then
    let top := if neg then 128 else 127
    if k > top then ((if neg then 0x80 else 0x7F), fl ||| flOVF ||| flSAT)
    else ((if neg then (256 - k) % 256 else k), fl)
  else
    let mag := k + ((q - (f.emin - f.mbits)).toNat) * 2 ^ f.mbits
    let s := f.signBit neg
    if k = 0 then (s, fl)
    else if f.maxCode < mag then
      if !conv then
        let toInf := !(mode = 1 || (mode = 2 && neg) || (mode = 3 && !neg))
        ((if toInf then s + f.infCode else s + f.maxCode), fl ||| flOVF ||| flNX)
      else if fp.ovfnan && f.hasNaN then (f.nanCode, fl ||| flOVF)
      else (s + f.maxCode, fl ||| flOVF ||| flSAT)
    else (s + mag, fl)

/-- `EncodeResult` (06 R139): the code of an exact value in a format, with its flags. -/
def encodeResult (fp : FpMode) (f : Fmt) (mode : Nat) (conv : Bool) (sr : Nat) (x : Ex) : Nat × Nat :=
  match x with
  | .nan => if f.hasNaN then (f.nanCode, 0) else (0, flINV)
  | .inf neg =>
    if f.hasInf then (f.signBit neg + f.infCode, 0)
    else if fp.ovfnan && f.hasNaN then (f.nanCode, 0)
    else if f = .mi8 then ((if neg then 0x80 else 0x7F), flSAT)
    else (f.signBit neg + f.maxCode, flSAT)
  | .fin neg m e =>
    if m = 0 then (if f = .mi8 then 0 else f.signBit neg, 0)
    else
      let tiny : Bool := topExp m e < f.emin
      if fp.ftz && f.flushes && tiny then (f.signBit neg, flUNF ||| flNX)
      else
        let q : Int := if f = .mi8 then -6 else max (topExp m e) f.emin - f.mbits
        let k := roundUnits neg m e q mode sr
        fitCode fp f mode conv neg k q (flagIf (!sameValue k q m e) flNX ||| flagIf tiny flUNF)

/-- An arithmetic result: mode 4 rounds as RNE (06 R136). -/
def arith (fp : FpMode) (f : Fmt) (x : Ex) : Nat × Nat :=
  encodeResult fp f (if fp.rm = 4 then 0 else fp.rm) false 0 x

/-- RNE with ftz 0, as nodes and row statistics round (06 R147, 08 R180). -/
def rneMode : FpMode := { rm := 0, ftz := false, ovfnan := false }

/-- The range of an integer type (06 R130). -/
def maxInt (signed : Bool) (w : Nat) : Int := if signed then 2 ^ (w - 1) - 1 else 2 ^ w - 1
def minInt (signed : Bool) (w : Nat) : Int := if signed then -(2 ^ (w - 1)) else 0

/-- `ConvertToInt` (06 R141): the pattern and its flags. -/
def convertToInt (signed : Bool) (w mode sr : Nat) (x : Ex) : Nat × Nat :=
  let hi := maxInt signed w
  let lo := minInt signed w
  let pat : Int → Nat := fun i => (ofInt w i).toNat
  match x with
  | .nan => (0, flINV)
  | .inf neg => (pat (if neg then lo else hi), flSAT)
  | .fin neg m e =>
    let k := roundUnits neg m e 0 mode sr
    let y : Int := if neg then -(k : Int) else k
    let nx := flagIf (!sameValue k 0 m e) flNX
    if y > hi then (pat hi, nx ||| flSAT) else if y < lo then (pat lo, nx ||| flSAT) else (pat y, nx)

/-- `StochasticBits` (06 R142). -/
def stochasticBits (seed ctr : W64) (el : Nat) : Nat :=
  let z := seed + (ctr * 256#64 + w64 el) * 0x9E3779B97F4A7C15#64
  let z := (z ^^^ (z >>> 30)) * 0xBF58476D1CE4E5B9#64
  let z := (z ^^^ (z >>> 27)) * 0x94D049BB133111EB#64
  bits (z ^^^ (z >>> 31)) 0 24

/-! ## Exact arithmetic -/

/-- The signed number of units of 2^q of a finite value with e ≥ q. -/
def scaled (neg : Bool) (m : Nat) (e q : Int) : Int :=
  let k : Int := (m * 2 ^ (e - q).toNat : Nat)
  if neg then -k else k

/-- An exact sum under IEEE 754 with its INV flag (07 R156); an exact zero sum is -0 under RDN. -/
def Ex.add (a b : Ex) (rdn : Bool) : Ex × Nat :=
  match a, b with
  | .nan, _ => (.nan, 0)
  | _, .nan => (.nan, 0)
  | .inf x, .inf y => if x = y then (.inf x, 0) else (.nan, flINV)
  | .inf x, _ => (.inf x, 0)
  | _, .inf y => (.inf y, 0)
  | .fin n1 m1 e1, .fin n2 m2 e2 =>
    let q := min e1 e2
    let s := scaled n1 m1 e1 q + scaled n2 m2 e2 q
    if s = 0 then
      (.fin (if m1 = 0 && m2 = 0 && n1 = n2 then n1 else rdn) 0 q, 0)
    else (.fin (s < 0) s.natAbs q, 0)

def Ex.neg (a : Ex) : Ex :=
  match a with
  | .nan => .nan
  | .inf x => .inf (!x)
  | .fin n m e => .fin (!n) m e

/-- An exact product under IEEE 754 with its INV flag (07 R156). -/
def Ex.mul (a b : Ex) : Ex × Nat :=
  match a, b with
  | .nan, _ => (.nan, 0)
  | _, .nan => (.nan, 0)
  | .inf x, .inf y => (.inf (x != y), 0)
  | .inf x, .fin n m _ => if m = 0 then (.nan, flINV) else (.inf (x != n), 0)
  | .fin n m _, .inf y => if m = 0 then (.nan, flINV) else (.inf (n != y), 0)
  | .fin n1 m1 e1, .fin n2 m2 e2 => (.fin (n1 != n2) (m1 * m2) (e1 + e2), 0)

/-- a * 2^k. -/
def Ex.scale (a : Ex) (k : Int) : Ex :=
  match a with
  | .fin n m e => .fin n m (e + k)
  | x => x

/-- a * b + c with the INV flags of both steps; the product is not rounded (07 R156). A NaN addend sets no flag
(06 R145). -/
def Ex.fma (a b c : Ex) (rdn : Bool) : Ex × Nat :=
  match c with
  | .nan => (.nan, 0)
  | _ =>
    let (p, f1) := a.mul b
    let (r, f2) := p.add c rdn
    (r, f1 ||| f2)

/-- a < b of values that are no NaN; zeros are equal. -/
def Ex.lt (a b : Ex) : Bool :=
  match a, b with
  | .inf x, .inf y => x && !y
  | .inf x, _ => x
  | _, .inf y => !y
  | .fin n1 m1 e1, .fin n2 m2 e2 =>
    let q := min e1 e2
    decide (scaled n1 m1 e1 q < scaled n2 m2 e2 q)
  | _, _ => false

def Ex.isNaN (a : Ex) : Bool := match a with | .nan => true | _ => false

/-- Whether a value is a zero. -/
def Ex.isZero (a : Ex) : Bool := match a with | .fin _ m _ => m = 0 | _ => false

def Ex.isNeg (a : Ex) : Bool :=
  match a with
  | .nan => false
  | .inf n => n
  | .fin n _ _ => n

/-- A quotient of magnitudes to n bits and more, its last bit set where it is not exact. -/
def quotSticky (m d : Nat) : Nat × Int :=
  let sh := 96 + Nat.log2 (d + 1)
  let x := m * 2 ^ sh
  (if x % d = 0 then x / d else (x / d) ||| 1, -(sh : Int))

/-! ## Block sums and the canonical tree (06 R146, R147) -/

/-- A code with the flags met so far. -/
abbrev Coded := Nat × Nat

/-- `AddNode` (06 R147). -/
def addNode (a b : Coded) : Coded :=
  let (x, f1) := (decodeF .f32 a.1).add (decodeF .f32 b.1) false
  let (c, f2) := encodeResult rneMode .f32 0 false 0 x
  (c, a.2 ||| b.2 ||| f1 ||| f2)

/-- One level of the tree: neighbours are joined, an absent half passes its partner up. -/
def treeLevel {α : Type} (f : α → α → α) : List α → List α
  | a :: b :: l => f a b :: treeLevel f l
  | l => l

/-- The tree over a list of leaves, of which there are at most 2^d. -/
def treeFold {α : Type} (f : α → α → α) : Nat → List α → Option α
  | 0, l => l.head?
  | d + 1, l => treeFold f d (treeLevel f l)

/-- The depth that a tree over n leaves needs. -/
def treeDepth (n : Nat) : Nat := Nat.log2 n + 1

/-- `CanonicalSum` (06 R147). -/
def canonicalSum (vals : List Coded) : Coded := (treeFold addNode (treeDepth vals.length) vals).getD (0, 0)

/-- What a block sum has met: exact sum, infinities, NaN, flags. -/
structure DotAcc where
  acc : Ex
  pinf : Bool
  ninf : Bool
  bad : Bool
  fl : Nat

def DotAcc.step (d : DotAcc) (p : Ex × Ex) : DotAcc :=
  match p.1.mul p.2 with
  | (.nan, f) => { d with bad := true, fl := d.fl ||| f }
  | (.inf n, _) => if n then { d with ninf := true } else { d with pinf := true }
  | (x, _) => { d with acc := (d.acc.add x false).1 }

/-- `BlockDot` (06 R146) over decoded pairs under the scales sa and sb. -/
def blockDot (fp : FpMode) (mode sa sb : Nat) (ps : List (Ex × Ex)) : Coded :=
  if sa = 0xFF || sb = 0xFF then (Fmt.nanCode .f32, flSCALENAN)
  else
    let d := ps.foldl DotAcc.step { acc := .fin false 0 0, pinf := false, ninf := false, bad := false, fl := 0 }
    let both := d.pinf && d.ninf
    let fl := d.fl ||| flagIf both flINV
    if d.bad || both then (Fmt.nanCode .f32, fl)
    else if d.pinf then (0x7F800000, fl)
    else if d.ninf then (0xFF800000, fl)
    else
      let z := d.acc.scale ((sa + sb : Nat) - 254 : Int)
      if z.isZero then (0, fl)
      else
        let (c, f) := encodeResult fp .f32 mode false 0 z
        (c, fl ||| f)

/-! ## Types by code (07 R163) and the modes of a context -/

/-- The formats of codes 0 to 8. -/
def fmtOf (code : Nat) : Option Fmt :=
  match code with
  | 0 => some .f32 | 1 => some .bf16 | 2 => some .f16 | 3 => some .e4m3 | 4 => some .e5m2 | 5 => some .e3m2
  | 6 => some .e2m3 | 7 => some .e2m1 | 8 => some .mi8 | _ => none

/-- The types of codes 0 to 14. -/
def elemTyOf (code : Nat) : Option ElemTy :=
  match fmtOf code with
  | some f => some (.flt f)
  | none =>
    match code with
    | 9 => some (.int true 8) | 10 => some (.int true 16) | 11 => some (.int true 32)
    | 12 => some (.int false 8) | 13 => some (.int false 16) | 14 => some (.int false 32)
    | _ => none

def ElemTy.width (t : ElemTy) : Nat := match t with | .flt f => f.width | .int _ w => w

/-- The value of an element under ftz (06 R131, R140). -/
def ElemTy.value (t : ElemTy) (ftz : Bool) (code : Nat) : Ex :=
  match t with
  | .flt f => (decodeF f code).flush f ftz
  | .int true w => let v := sx w code; .fin (v < 0) v.natAbs 0
  | .int false w => .fin false (code % 2 ^ w) 0

/-- The parts of 32 elements of width w in a value (07 R150). -/
def partsOf (w : Nat) : Nat := 1024 / (32 * w)

/-- Element i of part pt of width w (07 R150). -/
def partElem (v : V1024) (w pt i : Nat) : Nat := bits v (32 * w * pt + w * i) w

/-- The modes of a context (06 R144). -/
def Context.fpMode (c : Context) : FpMode :=
  let v := c.cr 0x028
  { rm := bits v 0 3, ftz := bitOf v 3, ovfnan := bitOf v 4 }

/-- A rounding mode field resolved: 7 takes `fpmode`, 5 and 6 act as 0 (06 R136). -/
def FpMode.resolve (fp : FpMode) (mode : Nat) : Nat :=
  if mode = 7 then fp.rm else if mode > 4 then 0 else mode

/-- The same for arithmetic, where stochastic rounding acts as RNE. -/
def FpMode.resolveArith (fp : FpMode) (mode : Nat) : Nat :=
  if fp.resolve mode = 4 then 0 else fp.resolve mode

/-- The lane mask of a socket: `vmsel` names a k register of a routine context (07 R153, R154). -/
def Context.laneMask (c : Context) (k : Ctx) (so : Sock) : Nat :=
  let v := c.cr 0x02C
  let lo := match so with | .vfa => 0 | .vfb => 4 | _ => 8
  if isRoutine k && bitOf v (lo + 3) then (spGet 0#32 c.regs.k (bits v lo 3)).toNat else 2 ^ 32 - 1

/-- The n elements of width w that f gives, packed, and the OR of their flags. -/
def mapCoded (w n : Nat) (f : Nat → Coded) : V1024 × Nat :=
  let l := (List.range n).map f
  (packV w (l.map (·.1)), l.foldl (fun a c => a ||| c.2) 0)

end Sys2Proof.Machine
end

