-- ==== Sys2Proof/Machine/Vector.lean ====
section
/-!
DEFINITION. What the operations of `vfa` and `vfb` compute (07 R150 to R167): functions of operand values, masks and
modes.
-/

namespace Sys2Proof.Machine

/-! ## Common -/

/-- Whether the lane mask excludes result lane i. -/
def excluded (msk i : Nat) : Bool := !msk.testBit i

/-- Whether the lane mask excludes element el of width w (07 R154). -/
def excludedElem (msk w el : Nat) : Bool := excluded msk (w * el / 32)

def ftyFmt (f : FTy) : Fmt := match f with | .f32 => .f32 | .bf16 => .bf16 | .f16 => .f16

def iwWidth (w : IW) : Nat := match w with | .n8 => 8 | .n16 => 16 | .n32 => 32

/-- The triggering context's mask and modes for the trigger in hand (07 R152). -/
def State.mask (s : State) (so : Sock) : Nat := s.hc.laneMask s.hand.ctx so

def State.fp (s : State) : FpMode := s.hc.fpMode

/-- A 1,024-bit result with its flag word in `.f` (07 R151). -/
def State.vecOut (s : State) (so : Sock) (lat : Nat) (r : V1024 × Nat) : Out :=
  s.operate none fun s =>
    s.land s.hand.tile s.hand.ctx so lat [(.r, r.1), (.f, BitVec.ofNat 1024 r.2)] r.2

/-- An integer, bitwise or data-movement result, with a flag word of 0. -/
def State.vecInt (s : State) (so : Sock) (lat : Nat) (v : V1024) : Out := s.vecOut so lat (v, 0)

/-! ## Typed operations of vfa (07 R156, R157) -/

/-- The elements of a typed operation: f of the decoded elements of a, b, c where the mask allows. -/
def typedMap (fp : FpMode) (msk : Nat) (f : Fmt) (g : Ex → Ex → Ex → Coded) (a b c : V1024) : V1024 × Nat :=
  let dec (v : V1024) (i : Nat) : Ex := (decodeF f (bits v (f.width * i) f.width)).flush f fp.ftz
  mapCoded f.width (1024 / f.width) fun i =>
    if excludedElem msk f.width i then (0, 0) else g (dec a i) (dec b i) (dec c i)

/-- An exact result with its flags, rounded once. -/
def rounded (fp : FpMode) (f : Fmt) (x : Ex × Nat) : Coded :=
  let (c, fl) := arith fp f x.1
  (c, fl ||| x.2)

def vAdd (fp : FpMode) (f : Fmt) (a _b c : Ex) : Coded := rounded fp f (a.add c (fp.rm = 3))
def vSub (fp : FpMode) (f : Fmt) (a _b c : Ex) : Coded := rounded fp f (a.add c.neg (fp.rm = 3))
def vMul (fp : FpMode) (f : Fmt) (a _b c : Ex) : Coded := rounded fp f (a.mul c)

/-- The four fused forms: the signs of the product and of the addend. -/
def vFma (fp : FpMode) (f : Fmt) (negP negC : Bool) (a b c : Ex) : Coded :=
  rounded fp f ((if negP then a.neg else a).fma b (if negC then c.neg else c) (fp.rm = 3))

/-- The total order of `min` and `max`: -0 below +0 (07 R157). -/
def Ex.before (a b : Ex) : Bool := a.lt b || (a.isZero && b.isZero && a.isNeg && !b.isNeg)

/-- The code of a value that a format holds exactly. -/
def exactCode (f : Fmt) (x : Ex) : Nat := (encodeResult rneMode f 0 false 0 x).1

def vMin (f : Fmt) (a _b c : Ex) : Coded :=
  if a.isNaN || c.isNaN then (f.nanCode, 0) else (exactCode f (if c.before a then c else a), 0)

def vMax (f : Fmt) (a _b c : Ex) : Coded :=
  if a.isNaN || c.isNaN then (f.nanCode, 0) else (exactCode f (if a.before c then c else a), 0)

/-- The predicates of `cmp` and `icmp` (07 R157) from the comparison outcomes. -/
def predicate (p : Nat) (unord less eq : Bool) : Bool :=
  match p with
  | 0 => !unord && eq
  | 1 => unord || !eq
  | 2 => !unord && less
  | 3 => !unord && (less || eq)
  | 4 => unord
  | 5 => !unord
  | 6 => !unord && !less && !eq
  | _ => !unord && !less

def vCmp (f : Fmt) (p : Nat) (a _b c : Ex) : Coded :=
  let un := a.isNaN || c.isNaN
  (if predicate p un (a.lt c) (!un && !a.lt c && !c.lt a) then 2 ^ f.width - 1 else 0, 0)

/-- The class mask of a code (07 R157). -/
def classBits (f : Fmt) (code : Nat) : Nat :=
  match decodeF f code with
  | .nan => 0x100
  | .inf neg => if neg then 0x001 else 0x080
  | .fin neg m e =>
    if m = 0 then if neg then 0x008 else 0x010
    else if topExp m e < f.emin then if neg then 0x004 else 0x020
    else if neg then 0x002 else 0x040

/-- `class`, which reads its input unflushed. -/
def vClass (msk : Nat) (f : Fmt) (c : V1024) : V1024 :=
  mapElems f.width (1024 / f.width) fun i =>
    if excludedElem msk f.width i then 0 else classBits f (bits c (f.width * i) f.width)

/-- `scale`: a * 2^k with k the signed element of the other operand. -/
def vScale (fp : FpMode) (msk : Nat) (f : Fmt) (a c : V1024) : V1024 × Nat :=
  mapCoded f.width (1024 / f.width) fun i =>
    if excludedElem msk f.width i then (0, 0)
    else
      let x := (decodeF f (bits a (f.width * i) f.width)).flush f fp.ftz
      let k := sbits c (f.width * i) f.width
      arith fp f (x.scale (min (max k (-2048)) 2048))

/-- `bdot` (07 R158): one block sum per lane; a descriptor error returns `o` with INV. -/
def vBdot (fp : FpMode) (msk : Nat) (a d b : V1024) : V1024 × Nat :=
  match fmtOf (bits d 0 4), fmtOf (bits d 4 4) with
  | some af, some bf =>
    let nb := min (partsOf af.width) (partsOf bf.width)
    let mode := fp.resolveArith (bits d 8 3)
    let sc (f : Fmt) (lo bl : Nat) : Nat := if f.flushes then 127 else bits d (lo + 8 * bl) 8
    mapCoded 32 32 fun bl =>
      if nb ≤ bl || excluded msk bl then (0, 0)
      else
        blockDot fp mode (sc af 32 bl) (sc bf 96 bl) ((List.range 32).map fun i =>
          ((decodeF af (partElem a af.width bl i)).flush af fp.ftz,
           (decodeF bf (partElem b bf.width bl i)).flush bf fp.ftz))
  | _, _ => (a, flINV)

/-! ## Integer and lane operations of vfb (07 R160 to R162) -/

/-- f of the elements of width w of a and b as numbers, where the mask allows. -/
def intMap (msk w : Nat) (f : Nat → Nat → Nat) (a b : V1024) : V1024 :=
  mapElems w (1024 / w) fun i =>
    if excludedElem msk w i then 0 else f (bits a (w * i) w) (bits b (w * i) w)

def iAdd (_w x y : Nat) : Nat := x + y
def iSub (w x y : Nat) : Nat := x + 2 ^ w - y
def iMul (_w x y : Nat) : Nat := x * y
def iAddS (w x y : Nat) : Nat :=
  (ofInt w (min (max (sx w x + sx w y) (minInt true w)) (maxInt true w))).toNat
def iMinS (w x y : Nat) : Nat := if sx w x ≤ sx w y then x else y
def iMaxS (w x y : Nat) : Nat := if sx w x ≤ sx w y then y else x
def iMinN (_w x y : Nat) : Nat := min x y
def iMaxN (_w x y : Nat) : Nat := max x y

/-- Lane shifts (07 R161, as 05 R109 with 32 in place of 64). -/
def lShl (x k : Nat) : Nat := if 32 ≤ k then 0 else x * 2 ^ k
def lShrN (x k : Nat) : Nat := if 32 ≤ k then 0 else x / 2 ^ k
def lShrS (x k : Nat) : Nat := (ofInt 32 (sx 32 x / 2 ^ min k 31)).toNat

/-- A lane compare under a predicate. -/
def lCmp (signed : Bool) (p x y : Nat) : Nat :=
  let less : Bool := if signed then sx 32 x < sx 32 y else x < y
  if predicate p false less (x = y) then 2 ^ 32 - 1 else 0

/-- A value with the lanes that the mask excludes cleared. -/
def maskLanes (msk : Nat) (v : V1024) : V1024 :=
  mapElems 32 32 fun i => if excluded msk i then 0 else bits v (32 * i) 32

/-- The sign bits of the lanes (07 R161). -/
def kpackV (msk : Nat) (v : V1024) : V1024 :=
  mapElems 1 32 fun i => if excluded msk i then 0 else bits v (32 * i + 31) 1

/-- A scalar spread over a value by the width code (07 R162). -/
def spread (wd : Nat) (v : W64) : V1024 :=
  match wd with
  | 0 => mapElems 32 32 fun _ => bits v 0 32
  | 1 => mapElems 64 16 fun _ => v.toNat
  | 2 => mapElems 16 64 fun _ => bits v 0 16
  | _ => mapElems 8 128 fun _ => bits v 0 8

def lbcastV (o tv : V1024) : V1024 := mapElems 32 32 fun _ => bits o (32 * bits tv 0 5) 32

def permV (o tv : V1024) : V1024 := mapElems 32 32 fun i => bits o (32 * bits tv (32 * i) 5) 32

/-- Lane j of the 64 lanes of lo and hi. -/
def lane64 (lo hi : V1024) (j : Nat) : Nat :=
  if j < 32 then bits lo (32 * j) 32 else if j < 64 then bits hi (32 * (j - 32)) 32 else 0

def slideDn (a p : V1024) (kc : Nat) : V1024 := mapElems 32 32 fun i => lane64 a p (i + kc)

def slideUp (a p : V1024) (kc : Nat) : V1024 :=
  mapElems 32 32 fun i => if kc ≤ i + 32 then lane64 p a (i + 32 - kc) else 0

/-! ## Conversions (07 R163 to R166) -/

/-- The fields of a descriptor (07 R163). -/
def dDty (d : V1024) : Nat := bits d 0 4
def dSty (d : V1024) : Nat := bits d 4 4
def dRm (d : V1024) : Nat := bits d 8 3
def dSpart (d : V1024) : Nat := bits d 12 3
def dDpart (d : V1024) : Nat := bits d 16 3
def dScale (d : V1024) : Nat := bits d 24 8

/-- base with the 32 elements of part pt of width w replaced by vs. -/
def putPart (base : V1024) (w pt : Nat) (vs : List Nat) : V1024 := putBits base (32 * w * pt) (32 * w) (packNat w vs)

/-- The code of a value in a destination type (07 R164). -/
def encodeTy (fp : FpMode) (t : ElemTy) (mode sr : Nat) (x : Ex) : Coded :=
  match t with
  | .flt f => encodeResult fp f mode true sr x
  | .int signed w => convertToInt signed w mode sr x

/-- The codes of a list of coded elements and the OR of their flags. -/
def orFlags (l : List Coded) : Nat := l.foldl (fun a c => a ||| c.2) 0

/-- `cvt` (07 R164): a part of tv converted into a part of a copy of o. -/
def vCvt (fp : FpMode) (msk : Nat) (seed ctr : W64) (o d tv : V1024) : V1024 × Nat :=
  match elemTyOf (dDty d), elemTyOf (dSty d) with
  | some dt, some st =>
    if partsOf st.width ≤ dSpart d || partsOf dt.width ≤ dDpart d then (o, flINV)
    else
      let mode := fp.resolve (dRm d)
      let l := (List.range 32).map fun i =>
        if excluded msk i then (0, 0)
        else encodeTy fp dt mode (stochasticBits seed ctr i)
          (st.value fp.ftz (partElem tv st.width (dSpart d) i))
      (putPart o dt.width (dDpart d) (l.map (·.1)), orFlags l)
  | _, _ => (o, flINV)

/-- The MX element formats of a type code (07 R165). -/
def mxFmtOf (code : Nat) : Option Fmt := if 3 ≤ code ∧ code ≤ 8 then fmtOf code else none

/-- The element maximum exponent (07 R165). -/
def Fmt.emax (f : Fmt) : Int :=
  match f with
  | .e4m3 => 8 | .e5m2 => 15 | .e3m2 => 4 | .e2m3 => 2 | .e2m1 => 2 | _ => 0

/-- The exponent of the leading bit of the largest magnitude of a list, if it is no zero. -/
def maxTop (l : List Ex) : Option Int :=
  l.foldl (fun a x =>
    match x with
    | .fin _ m e =>
      if m = 0 then a
      else match a with
        | some t => some (max t (topExp m e))
        | none => some (topExp m e)
    | _ => a) none

/-- Whether `mxpack` accepts its descriptor. -/
def mxpackOk (d : V1024) : Bool :=
  match mxFmtOf (dDty d) with
  | some f => dDpart d < partsOf f.width
  | none => false

/-- `mxpack` (07 R165): the block in part dpart of a copy of o, its scale, and the flags. -/
def vMxpack (fp : FpMode) (msk : Nat) (seed ctr : W64) (o d tv : V1024) : V1024 × Nat × Nat :=
  match mxFmtOf (dDty d) with
  | some f =>
    let xs := (List.range 32).map fun i => (decodeF .f32 (bits tv (32 * i) 32)).flush .f32 fp.ftz
    let live := (xs.zipIdx.filter (fun p => !excluded msk p.2)).map (·.1)
    if live.any (fun x => match x with | .fin _ _ _ => false | _ => true) then
      (putPart o f.width (dDpart d) [], 0xFF, flINV)
    else
      let sc := match maxTop live with
        | none => 0
        | some t => (min (max (t - f.emax + 127) 0) 254).toNat
      let mode := fp.resolve (dRm d)
      let l := xs.zipIdx.map fun (x, i) =>
        if excluded msk i then (0, 0)
        else encodeResult fp f mode true (stochasticBits seed ctr i) (x.scale (127 - (sc : Int)))
      (putPart o f.width (dDpart d) (l.map (·.1)), sc, orFlags l)
  | none => (o, 0, flINV)

/-- `mxunpack` (07 R166). -/
def vMxunpack (fp : FpMode) (msk : Nat) (d tv : V1024) : V1024 × Nat :=
  match mxFmtOf (dSty d) with
  | some f =>
    if partsOf f.width ≤ dSpart d then (0#1024, flINV)
    else
      mapCoded 32 32 fun i =>
        if excluded msk i then (0, 0)
        else if dScale d = 0xFF then (Fmt.nanCode .f32, flSCALENAN)
        else
          encodeResult fp .f32 (fp.resolveArith (dRm d)) false 0
            ((decodeF f (partElem tv f.width (dSpart d) i)).scale ((dScale d : Int) - 127))
  | none => (0#1024, flINV)

/-! ## Reductions (07 R167) -/

/-- The leaves of tv under a mask and ftz, masked ones +0. -/
def leaves (fp : FpMode) (msk : Nat) (tv : V1024) : List Coded :=
  (List.range 32).map fun i =>
    if excluded msk i then (0, 0)
    else
      let c := bits tv (32 * i) 32
      match (decodeF .f32 c).flush .f32 fp.ftz with
      | .fin n 0 _ => (Fmt.signBit .f32 n, 0)
      | _ => (c, 0)

def rsum (fp : FpMode) (msk : Nat) (tv : V1024) : V1024 × Nat :=
  let (c, f) := canonicalSum (leaves fp msk tv)
  (BitVec.ofNat 1024 c, f)

/-- The extreme of the unmasked lanes; dflt where there are none (07 R167). -/
def extreme (fp : FpMode) (msk : Nat) (greatest : Bool) (dflt : Nat) (tv : V1024) : V1024 :=
  let xs := ((List.range 32).filter (fun i => !excluded msk i)).map fun i =>
    (decodeF .f32 (bits tv (32 * i) 32)).flush .f32 fp.ftz
  match xs with
  | [] => BitVec.ofNat 1024 dflt
  | x :: rest =>
    if xs.any Ex.isNaN then BitVec.ofNat 1024 (Fmt.nanCode .f32)
    else
      let pick := fun a b : Ex => if greatest then (if a.before b then b else a) else (if b.before a then b else a)
      BitVec.ofNat 1024 (exactCode .f32 (rest.foldl pick x))

/-- The exact sum of the unmasked lanes as .s32, in 64 bits (07 R167). -/
def rsumInt (msk : Nat) (tv : V1024) : V1024 :=
  let sm : Int := (List.range 32).foldl (fun a i => if excluded msk i then a else a + sbits tv (32 * i) 32) 0
  wide (ofInt 64 sm)

end Sys2Proof.Machine
end

