-- ==== Sys2Proof/Machine/Memory.lean ====
section
/-!
DEFINITION. Byte memories in canonical form, the map of tile SRAM to banks and rows, its error log, error budgets and
the cairn's log of old contents (09 R182 to R199, 17 R391, R392, 18 R431).
-/

namespace Sys2Proof.Machine

/-! ## Byte memories -/

/-- A byte memory: an unlisted address reads as 0 (log entry 9). -/
abbrev Bytes := List Host.Cell

def memGet (m : Bytes) (a : Nat) : Byte := spGet 0#8 m a

def memSet (m : Bytes) (a : Nat) (b : Byte) : Bytes := spSet 0#8 m a b

/-- The canonical form of a byte memory. -/
def memWf (m : Bytes) : Bool := spWf 0#8 m

/-- The same, under the name of the type. -/
abbrev Memory.wf (m : Bytes) : Bool := memWf m

/-- n bytes from address a. -/
def memBytes (m : Bytes) (a n : Nat) : List Byte := (List.range n).map fun i => memGet m (a + i)

/-- Writes bytes at addresses, in order. -/
def memPuts (m : Bytes) (l : List (Nat × Byte)) : Bytes := l.foldl (fun m p => memSet m p.1 p.2) m

/-- Bytes from address a on. -/
def memPut (m : Bytes) (a : Nat) (bs : List Byte) : Bytes := memPuts m (bs.mapIdx fun i b => (a + i, b))

/-- n bytes from address a as a little-endian number (00 R4). -/
def memNat (m : Bytes) (a n : Nat) : Nat := ofLe (memBytes m a n)

/-! ## Tile SRAM addresses (09 R182 to R184) -/

def extraBase : Nat := 0x60000

/-- The last present address of a class. -/
def lastPresent (cls : Nat) : Nat := if cls = 0 then 0x5FFFF else 0x6BFFF

/-- Whether an address is present in a class. -/
def sramPresent (cls a : Nat) : Bool :=
  a ≤ lastPresent cls && !(cls = 1 && extraBase ≤ a && 14 ≤ a % 16)

def sramBank (a : Nat) : Nat := if a < extraBase then a / 128 % 8 else (a - extraBase) / 16 % 8

def sramRow (a : Nat) : Nat := if a < extraBase then a / 1024 else (a - extraBase) / 128

/-- The first cycle from lo in which requester q may touch bank b (09 R184). -/
def wheelCycle (lo q b : Nat) : Nat := firstCycle lo q 8 b

/-- The number of a unit of checking: a half of a row in P class, a row in D class (09 R195). -/
def unitKey (bank row half : Nat) : Nat := (bank * 384 + row) * 2 + half

/-- The unit of checking that holds a byte; none in U class. -/
def unitOf (cls a : Nat) : Option Nat :=
  match cls with
  | 0 => some (unitKey (sramBank a) (sramRow a) (a % 128 / 64))
  | 1 => some (unitKey (sramBank a) (sramRow a) 0)
  | _ => none

/-- The units of the row that holds a byte. -/
def rowUnits (cls a : Nat) : List Nat :=
  match cls with
  | 0 => [unitKey (sramBank a) (sramRow a) 0, unitKey (sramBank a) (sramRow a) 1]
  | 1 => [unitKey (sramBank a) (sramRow a) 0]
  | _ => []

/-- A list without repeats. -/
def dedup (l : List Nat) : List Nat := l.foldl (fun acc x => if acc.contains x then acc else acc ++ [x]) []

/-! ## The error log (09 R199) -/

/-- The class under which rows are checked: during a class rewrite, that which they had before (09 R198). -/
def Tile.markCls (t : Tile) : Nat := t.rewriteFrom.getD t.cls

/-- Logs an error of a unit met by requester q, which reads or stores: a lost unit that a read has met before is read
again, and is no further error (09 R199, 23 R492; DEDUCED, log 106). -/
def Tile.logSram (t : Tile) (read : Bool) (q key : Nat) (m : Mark) : Tile :=
  let again := m = .lost && read && spGet false t.markSeen key
  let o := t.rg 0x031
  let kind := match m with | .corrected => 0 | .lost => if again then 3 else if t.markCls = 1 then 1 else 2
  let v :=
    if bitOf o 63 then (if again then o else putBits o 62 1 1)
    else
      putBits (w64 (2 ^ 63 + kind * 2 ^ 60 + q * 2 ^ 57 + t.markCls * 2 ^ 55 + key % 2 * 2 ^ 54 + key / 2 % 384 * 2 ^ 35
        + key / 768 * 2 ^ 32)) 0 32 (bits o 0 32)
  let v := if m = .corrected then putBits v 0 32 (satNat 0xFFFFFFFF (bits v 0 32 + 1)) else v
  { t.setRg 0x031 v with markSeen := if read && m = .lost then spSet false t.markSeen key true else t.markSeen }

/-- The marked units among ks, with their marks. -/
def Tile.marked (t : Tile) (ks : List Nat) : List (Nat × Mark) :=
  (dedup ks).filterMap fun k => (spFind t.marks k).map fun m => (k, m)

/-! ## Error budgets (17 R391, R392) -/

/-- Charges one error to a context; answers the detail with which ERRBUDGET is raised, if it is. -/
def State.charge (s : State) (n : Nat) (k : Ctx) (corr : Bool) : State × Option Nat :=
  let v := (s.ctx n k).cr 0x062
  let lo := if corr then 32 else 0
  let f := bits v lo 32
  if f = 0xFFFFFFFF then (s, none)
  else if f = 0 then (s, some (if corr then 1 else 2))
  else (s.setCr n k 0x062 (putBits v lo 32 (f - 1)), none)

/-- What an access reports of the errors it consumed: a cause, its detail and its trapaux. -/
structure ErrRep where
  cause : Cause
  detail : Nat
  aux : Nat
deriving DecidableEq, Repr

/-- The location of the first error of an access, of which one part met `at'` and a later one es. -/
def firstAt (at' : Option Nat) (es : List (Bool × Nat)) : Option Nat := at'.orElse fun _ => es.head?.map (·.2)

/-- Charges a list of errors (whether corrected, location) of one access, which met its first error at `at'` before:
ERRBUDGET goes before the cause of a lost one, and names the first error (17 R392). -/
def State.chargeAll (s : State) (n : Nat) (k : Ctx) (lostCause : Cause) (memDetail : Nat) (es : List (Bool × Nat))
    (at' : Option Nat := none) : State × Option ErrRep :=
  let first := (firstAt at' es).getD 0
  let (s, bud) := es.foldl (fun (s, b) e =>
    let (s, r) := s.charge n k e.1
    (s, match b with | some x => some x | none => r)) (s, (none : Option Nat))
  let lost := es.find? (fun e => !e.1)
  (s, match bud, lost with
    | some d, _ => some { cause := .errbudget, detail := d, aux := first }
    | none, some (_, a) => some { cause := lostCause, detail := memDetail, aux := a }
    | none, none => none)

/-- trapaux and detail of a cause that is kept until its access reports it: the detail in bits [63:48]. -/
def errPack (r : ErrRep) : W64 := w64 (r.aux + r.detail * 2 ^ 48)

/-- The cause that an access has met, after a further report of it: one access raises one, ERRBUDGET before any other
(17 R392). -/
def joinErr (old : Option Cause × W64) (rep : Option ErrRep) : Option Cause × W64 :=
  match rep with
  | none => old
  | some r => if old.1.isNone || (r.cause = .errbudget && old.1 ≠ some .errbudget) then (some r.cause, errPack r) else old

/-! ## The cairn (18 R430, R431) -/

/-- The entries an area holds. -/
def Tile.cairnCap (t : Tile) : Nat := bits (t.rg 0x078) 56 8 * 1048576 / 320

/-- Adds one log entry, or sets ovf where the area is full. -/
def Tile.cairnAdd (t : Tile) (f : Cairn → Cairn) : Tile :=
  match t.cairn with
  | none => t
  | some c =>
    if c.used < t.cairnCap then { t with cairn := some { f c with used := c.used + 1, laid := [] } }
    else t.setRg 0x079 (putBits (t.rg 0x079) 62 1 1)

/-- Logs the 256-byte SRAM line of an address on its first write. -/
def Tile.cairnSram (t : Tile) (a : Nat) : Tile :=
  match t.cairn with
  | none => t
  | some c =>
    if (spFind c.sram (a / 256)).isSome then t
    else t.cairnAdd fun c => { c with sram := spPut c.sram (a / 256) (memBytes t.sram (a / 256 * 256) 256) }

/-! ## Writing tile SRAM (09 R197) -/

/-- Whether bytes at these addresses cover a whole half row. -/
def coversHalf (l : List (Nat × Byte)) (a : Nat) : Bool :=
  (List.range 64).all fun i => l.any fun p => p.1 = a / 64 * 64 + i

/-- Requester q writes bytes of one row: they land, errors of the row are logged, and marks clear as the class says. -/
def Tile.sramWrite (t : Tile) (q : Nat) (l : List (Nat × Byte)) : Tile :=
  let t := l.foldl (fun t p => t.cairnSram p.1) t
  let t := (t.marked (l.flatMap fun p => rowUnits t.cls p.1)).foldl (fun t km => t.logSram false q km.1 km.2) t
  let gone := (t.marked (l.filterMap fun p => unitOf t.cls p.1)).filter fun km =>
    t.cls = 0 && (km.2 = .corrected || l.any fun p => unitOf 0 p.1 = some km.1 && coversHalf l p.1)
  { t with
    sram := memPuts t.sram l
    marks := t.marks.filter fun p => !gone.any fun km => km.1 = p.1
    markSeen := t.markSeen.filter fun p => !gone.any fun km => km.1 = p.1 }

/-- The lowest of some addresses that lies in a unit of checking (log entry 18). -/
def lowestIn (cls key : Nat) (as : List Nat) : Nat :=
  match as.filter (fun a => unitOf cls a = some key) with
  | [] => 0
  | a :: l => l.foldl min a

/-- Fixes the rewrite of a corrected half to requester 7's next slot of its bank (09 R196). -/
def State.scheduleRewrite (s : State) (n key : Nat) : State :=
  s.schedule (wheelCycle (s.now + 1) 7 (key / 768)) prioRead
    (.sramCorrectedRewrite n (key / 768) (key / 2 % 384) (key % 2))

/-- Requester q reads bytes of one row: their values as the row holds them, and every consumed error, whether it was
corrected; every error of the row is logged (09 R196). -/
def State.sramRead (s : State) (n q : Nat) (as : List Nat) : State × List (Bool × Nat) :=
  let t := s.tile n
  let consumed := t.marked (as.filterMap (unitOf t.cls))
  let all := t.marked (as.flatMap (rowUnits t.cls))
  let s := s.setTile n (all.foldl (fun t km => t.logSram true q km.1 km.2) t)
  let s := consumed.foldl (fun s km => if km.2 = .corrected then s.scheduleRewrite n km.1 else s) s
  (s, consumed.map fun km => (decide (km.2 = .corrected), lowestIn t.cls km.1 as))

/-- The cause of a lost unit in a class: PARITY in D class, UNCORR in P class. -/
def lostCause (cls : Nat) : Cause := if cls = 1 then .parity else .uncorr

end Sys2Proof.Machine
end

