-- ==== Sys2Proof/Machine/ChainMem.lean ====
section
/-!
DEFINITION. The memories of a chain: tile store with its side words, weight buffer, their error marks and error log,
and the port order (11 R230 to R232, R240 to R245, 18 R431).
-/

namespace Sys2Proof.Machine

/-- Who meets an error in a chain memory (11 R242 agent). -/
def agArray : Nat := 0
def agTsw : Nat := 1
def agCopy : Nat := 2

/-- The key of a byte column of a tile-store row. -/
def tsKey (row col : Nat) : Nat := row * 512 + col

/-- The unit of checking of a byte of a row, and of its side word (11 R240, R242 where). -/
def segKey (row col : Nat) : Nat := 16 * row + col / 64
def sideKey (row : Nat) : Nat := 16 * row + 8

/-- n bytes of a row from a column. -/
def Chain.rowBytes (c : Chain) (row col n : Nat) : List Byte := memBytes c.ts (tsKey row col) n

/-- A whole row as its 4,096-bit value (11 R230). -/
def Chain.rowVal (c : Chain) (row : Nat) : BitVec 4096 := BitVec.ofNat 4096 (memNat c.ts (tsKey row 0) 512)

/-- The side word of a row and its fields (11 R230). -/
def Chain.sideOf (c : Chain) (row : Nat) : BitVec 288 := spGet 0#288 c.side row
def sideDseq (w : BitVec 288) : Nat := bits w 0 16
def sideSseq (w : BitVec 288) : Nat := bits w 16 16
def sideScale (w : BitVec 288) (slot : Nat) : Nat := bits w (32 + 8 * slot) 8

/-! ## Errors (11 R240 to R242) -/

/-- Logs an error of a unit in `tserr`. -/
def Chain.logErr (c : Chain) (m : Mark) (mem agent slot loc : Nat) : Chain :=
  let o := c.tserr
  let v :=
    if bitOf o 63 then putBits o 62 1 1
    else
      w64 (2 ^ 63 + b2n (m = .lost) * 2 ^ 61 + mem * 2 ^ 60 + agent * 2 ^ 58 + slot % 8 * 2 ^ 55 + loc % 2 ^ 21 * 2 ^ 32
        + bits o 0 32)
  { c with tserr := if m = .corrected then putBits v 0 32 (satNat 0xFFFFFFFF (bits v 0 32 + 1)) else v }

/-- The marked units among ks. -/
def markedIn (marks : Sparse Mark) (ks : List Nat) : List (Nat × Mark) :=
  (dedup ks).filterMap fun k => (spFind marks k).map fun m => (k, m)

/-- The keys of the segments that n bytes of a row from a column touch. -/
def segKeys (row col n : Nat) : List Nat := dedup ((List.range n).map fun i => segKey row (col + i))

/-- The keys of the lines of the weight buffer that n bytes from an address touch. -/
def lineKeys (addr n : Nat) : List Nat := dedup ((List.range n).map fun i => (addr + i) / 64)

/-- A read of tile-store units: their errors are logged, a corrected unit is rewritten before any later access; answers
the errors (whether corrected, the where field). -/
def Chain.readTs (c : Chain) (agent slot : Nat) (ks : List Nat) : Chain × List (Bool × Nat) :=
  let ms := markedIn c.tsMark ks
  let c := ms.foldl (fun c km => c.logErr km.2 0 agent slot km.1) c
  ({ c with tsMark := c.tsMark.filter fun p => !(p.2 = .corrected && ks.contains p.1) },
    ms.map fun km => (decide (km.2 = .corrected), km.1))

/-- The same for lines of the weight buffer. -/
def Chain.readWb (c : Chain) (agent slot : Nat) (ks : List Nat) : Chain × List (Bool × Nat) :=
  let ms := markedIn c.wbMark ks
  let c := ms.foldl (fun c km => c.logErr km.2 1 agent slot km.1) c
  ({ c with wbMark := c.wbMark.filter fun p => !(p.2 = .corrected && ks.contains p.1) },
    ms.map fun km => (decide (km.2 = .corrected), km.1))

/-- The marks a write leaves: a corrected unit is clean, an uncorrectable one only if all of it is written
(11 R240, 09 R197). -/
def marksAfter (marks : Sparse Mark) (ks : List Nat) (full : Nat → Bool) : Sparse Mark :=
  marks.filter fun p => !(ks.contains p.1 && (p.2 = .corrected || full p.1))

/-- Whether n bytes from a column cover segment key k of its row. -/
def fullSeg (row col n k : Nat) : Bool :=
  decide (col ≤ k % 16 * 64) && decide (k % 16 * 64 + 64 ≤ col + n) && k / 16 = row

def fullLine (addr n k : Nat) : Bool := decide (addr ≤ k * 64) && decide (k * 64 + 64 ≤ addr + n)

def Chain.writeTs (c : Chain) (agent slot row col : Nat) (bs : List Byte) : Chain :=
  let ks := segKeys row col bs.length
  let c := (markedIn c.tsMark ks).foldl (fun c km => c.logErr km.2 0 agent slot km.1) c
  { c with
    ts := memPut c.ts (tsKey row col) bs
    tsMark := marksAfter c.tsMark ks (fullSeg row col bs.length) }

/-- A write of a side word; `full` where all of its bytes are written. -/
def Chain.writeSide (c : Chain) (agent slot row : Nat) (v : BitVec 288) (full : Bool) : Chain :=
  let c := (markedIn c.tsMark [sideKey row]).foldl (fun c km => c.logErr km.2 0 agent slot km.1) c
  { c with side := spSet 0#288 c.side row v, tsMark := marksAfter c.tsMark [sideKey row] (fun _ => full) }

/-- Whether a matrix command of the chain may still read weights (11 R245). -/
def State.weightsInUse (s : State) (c : Nat) : Bool :=
  !(s.chain c).runs.isEmpty || (chainTiles c).any fun n => (s.tile n).eng.mx.isSome

/-- A write of weight-buffer bytes; where a command may still read weights, the bytes of its lines before a `tsw` copy are
kept with its cycle, its tile and its token (11 R245, 16 R353). -/
def Chain.writeWb (c : Chain) (agent slot addr : Nat) (bs : List Byte) (keep : Option (Nat × Nat × Nat)) : Chain :=
  let ks := lineKeys addr bs.length
  let c := (markedIn c.wbMark ks).foldl (fun c km => c.logErr km.2 1 agent slot km.1) c
  let old : List OldLine :=
    match keep with
    | some (now, n, tok) => c.wbOld ++ ks.map fun k =>
      { line := k, cyc := now, writer := n, tok := tok, bytes := memBytes c.wb (64 * k) 64 }
    | none => c.wbOld
  { c with
    wb := memPut c.wb addr bs, wbMark := marksAfter c.wbMark ks (fullLine addr bs.length), wbOld := old }

/-! ## Writes with the cairn's log of old contents (18 R431) -/

/-- The tile whose cairn logs a chain's memories: that of logical slot 0. -/
def State.cairnTile (s : State) (c : Nat) : Nat := s.slotTile c 0

/-- Logs the 256-byte lines of the tile store that n bytes from a key touch. -/
def State.cairnTs (s : State) (c key n : Nat) : State :=
  let ch := s.chain c
  s.modTile (s.cairnTile c) fun t =>
    (dedup ((List.range n).map fun i => (key + i) / 256)).foldl (fun t l =>
      match t.cairn with
      | none => t
      | some ca =>
        if (spFind ca.tsLines l).isSome then t
        else t.cairnAdd fun ca => { ca with tsLines := spPut ca.tsLines l (memBytes ch.ts (256 * l) 256) }) t

def State.cairnWb (s : State) (c addr n : Nat) : State :=
  let ch := s.chain c
  s.modTile (s.cairnTile c) fun t =>
    (dedup ((List.range n).map fun i => (addr + i) / 256)).foldl (fun t l =>
      match t.cairn with
      | none => t
      | some ca =>
        if (spFind ca.wbLines l).isSome then t
        else t.cairnAdd fun ca => { ca with wbLines := spPut ca.wbLines l (memBytes ch.wb (256 * l) 256) }) t

def State.cairnSide (s : State) (c row : Nat) : State :=
  let ch := s.chain c
  s.modTile (s.cairnTile c) fun t =>
    match t.cairn with
    | none => t
    | some ca =>
      if (spFind ca.sides row).isSome then t
      else t.cairnAdd fun ca => { ca with sides := spPut ca.sides row (ch.sideOf row) }

/-- Writes bytes of a tile-store row. -/
def State.putTs (s : State) (c agent slot row col : Nat) (bs : List Byte) : State :=
  (s.cairnTs c (tsKey row col) bs.length).modChain c fun ch => ch.writeTs agent slot row col bs

/-- Writes a side word. -/
def State.putSide (s : State) (c agent slot row : Nat) (v : BitVec 288) (full : Bool) : State :=
  (s.cairnSide c row).modChain c fun ch => ch.writeSide agent slot row v full

/-- Writes bytes of the weight buffer; `who` the tile and the token of a `tsw` copy. -/
def State.putWb (s : State) (c agent slot addr : Nat) (bs : List Byte) (who : Option (Nat × Nat) := none) : State :=
  let keep := if s.weightsInUse c then who.map fun w => (s.now, w) else none
  (s.cairnWb c addr bs.length).modChain c fun ch => ch.writeWb agent slot addr bs keep

/-- Reads tile-store units with their errors. -/
def State.getTs (s : State) (c agent slot : Nat) (ks : List Nat) : State × List (Bool × Nat) :=
  let (ch, es) := (s.chain c).readTs agent slot ks
  (s.setChain c ch, es)

def State.getWb (s : State) (c agent slot : Nat) (ks : List Nat) : State × List (Bool × Nat) :=
  let (ch, es) := (s.chain c).readWb agent slot ks
  (s.setChain c ch, es)

/-! ## The grants of the side port (11 R243) -/

/-- The first grant after cycle prev to the `tsw` socket of slot j. -/
def tswGrant (prev j : Nat) : Nat := firstCycle (prev + 1) 0 16 (2 * j)

/-- The first grant after cycle prev to the copy engine of slot j. -/
def copyGrant (prev j : Nat) : Nat := firstCycle (prev + 1) 0 16 (2 * j + 1)

/-- Raises the causes of the errors an engine's access consumed, on the issuing context (17 R392, 11 R251). -/
def State.raiseErrors (s : State) (n : Nat) (k : Ctx) (firing engine : Nat) (cause : Cause) (memDetail : Nat)
    (es : List (Bool × Nat)) : State :=
  match s.chargeAll n k cause memDetail es with
  | (s, none) => s
  | (s, some r) =>
    s.raiseEngine n k firing engine { cause := r.cause, slot := 15, detail := r.detail, aux := w64 r.aux, eng := false }

end Sys2Proof.Machine
end

