-- ==== Sys2Proof/Machine/Weights.lean ====
section
/-!
DEFINITION. Weight tiles: header, scale table, offset table, column streams and their rebuild, costs
(10 R205, R206, 11 R235 to R239).
-/

namespace Sys2Proof.Machine

/-! ## Header fields (11 R236) -/

def whSseq (h : W64) : Nat := bits h 48 16
def whDseq (h : W64) : Nat := bits h 32 16
def whLen (h : W64) : Nat := bits h 16 16
def whWide (h : W64) : Bool := bitOf h 11
def whKb (h : W64) : Nat := bits h 8 3 + 1
def whCmax (h : W64) : Nat := bits h 6 2
def whPair (h : W64) : Bool := bitOf h 5
def whFmt (h : W64) : Nat := bits h 0 4

/-- Columns a tile covers. -/
def whCols (h : W64) : Nat := if whWide h then 256 else 32

/-- Whether the scale table is absent: bfmt is `.bf16`. -/
def whPlain (h : W64) : Bool := whFmt h = 1

/-- x rounded up to a multiple of 64. -/
def up64 (x : Nat) : Nat := (x + 63) / 64 * 64

/-- Bytes of the scale table and of the offset table (11 R235). -/
def whScaleBytes (h : W64) : Nat := if whPlain h then 0 else up64 (whCols h * whKb h)
def whOffsetBytes (h : W64) : Nat := up64 (2 * whCols h)

/-- The exponent width of a format (06 R132). -/
def Fmt.ebits (f : Fmt) : Nat :=
  match f with
  | .f32 => 8 | .bf16 => 8 | .f16 => 5 | .e4m3 => 4 | .e5m2 => 5 | .e3m2 => 3 | .e2m3 => 2 | .e2m1 => 2 | .mi8 => 0

/-- The maximum term count of a format (10 R205). -/
def Fmt.maxTerms (f : Fmt) : Nat :=
  match f with
  | .e2m1 => 2 | .e3m2 => 2 | .e5m2 => 2 | .e4m3 => 3 | .e2m3 => 3 | .mi8 => 4 | .bf16 => 5 | _ => 0

/-- Whether a code is a NaN or an infinity. -/
def Fmt.special (f : Fmt) (code : Nat) : Bool :=
  match decodeF f code with
  | .nan => true
  | .inf _ => true
  | .fin _ _ _ => false

/-! ## Column streams (11 R237) -/

/-- A weight as the stream gives it: its code and its term count. -/
structure Weight where
  code : Nat
  terms : Nat
deriving DecidableEq, Repr

/-- The terms of a record at bit pos: digit sign and position, 5 bits each. -/
def termsAt (v pos n : Nat) : List (Bool × Nat) :=
  (List.range n).map fun i => (v.testBit (pos + 5 * i), (v >>> (pos + 5 * i + 1)) % 16)

/-- Whether positions rise by at least 2. -/
def spaced : List (Bool × Nat) → Bool
  | a :: b :: l => decide (a.2 + 2 ≤ b.2) && spaced (b :: l)
  | _ => true

/-- The code a weight record stands for, none where the rebuild fails. -/
def rebuild (f : Fmt) (sign : Bool) (ef : Nat) (ts : List (Bool × Nat)) : Option Nat :=
  let v : Int := ts.foldl (fun a t => if t.1 then a - 2 ^ t.2 else a + 2 ^ t.2) 0
  if !spaced ts || v ≤ 0 then none
  else if f = .mi8 then
    if v ≤ 127 || (v = 128 && sign) then some (ofInt 8 (if sign then -v else v)).toNat else none
  else
    let m := v.toNat
    let top := 2 ^ f.mbits
    let mf := if ef = 0 then m else m - top
    if (if ef = 0 then m < top else top ≤ m ∧ m < 2 * top) then
      let code := b2n sign * 2 ^ (f.width - 1) + ef * top + mf
      if f.special code then none else some code
    else none

/-- Reads records from bit pos of the stream v, of which `size` bits exist, until `need` weights are given; fuel bounds
the records. -/
def readStream (f : Fmt) (v size : Nat) : Nat → Nat → Nat → Option (List Weight)
  | _, 0, _ => some []
  | 0, _ + 1, _ => none
  | fuel + 1, need + 1, pos =>
    let tag := (v >>> pos) % 8
    if tag = 0 then
      let run := (v >>> (pos + 3)) % 32 + 1
      if run ≤ need + 1 && pos + 8 ≤ size then
        (readStream f v size fuel (need + 1 - run) (pos + 8)).map (List.replicate run { code := 0, terms := 0 } ++ ·)
      else none
    else if tag = 6 then none
    else if tag = 7 then
      let code := (v >>> (pos + 3)) % 2 ^ f.width
      if f.special code && pos + 3 + f.width ≤ size then
        (readStream f v size fuel need (pos + 3 + f.width)).map ({ code := code, terms := f.maxTerms } :: ·)
      else none
    else
      let e := f.ebits
      let next := pos + 4 + e + 5 * tag
      match rebuild f (v.testBit (pos + 3)) ((v >>> (pos + 4)) % 2 ^ e) (termsAt v (pos + 4 + e) tag) with
      | some code =>
        if next ≤ size then (readStream f v size fuel need next).map ({ code := code, terms := tag } :: ·) else none
      | none => none

/-- The weights of local column n of a tile whose bytes are given, none in format error (11 R235, R239). A tile too short to
hold its offset of the column gives offset 0 (DESIGN CHOICE, log entry 127). -/
def tileColumn (h : W64) (tile : List Byte) (n : Nat) : Option (List Weight) :=
  match fmtOf (whFmt h) with
  | none => none
  | some f =>
    let off := 4 * ofLe ((tile.drop (64 + whScaleBytes h + 2 * n)).take 2)
    if tile.length ≤ off then none
    else
      let rest := tile.drop off
      readStream f (ofLe rest) (8 * rest.length) (32 * whKb h) (32 * whKb h) 0

/-- The scale of local column n, block b; 0 where the tile is too short to hold it (DESIGN CHOICE, log entry 127). -/
def tileScale (h : W64) (tile : List Byte) (n b : Nat) : Nat :=
  if whPlain h then 127 else (tile.getD (64 + whKb h * n + b) 0#8).toNat

/-! ## Costs (10 R206) -/

/-- The terms of the cells of a column: one weight a row, or two in a pair pass. -/
def cellTerms (pair : Bool) : List Weight → List Nat
  | [] => []
  | a :: l =>
    if pair then
      match l with
      | b :: l' => (a.terms + b.terms) :: cellTerms pair l'
      | [] => [a.terms]
    else a.terms :: cellTerms pair l

/-- The cost of each column group that holds a weight. -/
def groupCosts : Nat → List Nat → List Nat
  | 0, _ => []
  | fuel + 1, l =>
    if l.isEmpty then []
    else ((l.take 16).foldl (fun m t => max m ((t + 1) / 2)) 0) :: groupCosts fuel (l.drop 16)

/-- The group costs of a column. -/
def columnCosts (pair : Bool) (ws : List Weight) : List Nat := groupCosts 8 (cellTerms pair ws)

/-- A decoded tile: the weights its streams give, and its columns, none in format error (11 R239). -/
structure Decoded where
  given : List (Option (List Weight))
  cols : List (Option (List Weight))
  bad : Bool
deriving DecidableEq, Repr

/-- Decodes a tile; where the largest group cost of the columns that decode is above cmax, or is not cmax and all decode,
every column is in format error (11 R239). -/
def decodeTile (h : W64) (tile : List Byte) : Decoded :=
  let cols := (List.range (whCols h)).map (tileColumn h tile)
  let top := cols.foldl (fun m c => match c with
    | some ws => (columnCosts (whPair h) ws).foldl max m
    | none => m) 0
  let all := cols.all Option.isSome
  if whCmax h < top || (all && top ≠ whCmax h) then { given := cols, cols := cols.map fun _ => none, bad := true }
  else { given := cols, cols := cols, bad := !all }

end Sys2Proof.Machine
end

