-- ==== Sys2Proof/Machine/Matrix.lean ====
section
/-!
DEFINITION. The chain's joint matrix array: the `mx` socket, the headers of slot 12, the arbiter, the hazard monitor,
the sequencer, the passes and their completion (10 R201 to R229).
-/

namespace Sys2Proof.Machine

/-! ## The fields of a command (10 R203, R211) -/

def MxCmd.isMul (x : MxCmd) : Bool := decide (1 ≤ x.kind) && decide (x.kind ≤ 4)
def MxCmd.isGang (x : MxCmd) : Bool := x.kind = 2 || x.kind = 4
def MxCmd.isSeq (x : MxCmd) : Bool := x.kind = 3 || x.kind = 4

/-- Staging register i as sampled. -/
def MxCmd.m (x : MxCmd) (i : Nat) : W64 := x.st.getD i 0#64

def MxCmd.arow (x : MxCmd) : Nat := bits (x.m 0) 0 12
def MxCmd.acol (x : MxCmd) : Nat := bits (x.m 0) 12 9
def MxCmd.waddr (x : MxCmd) : Nat := bits (x.m 1) 0 21
def MxCmd.crow (x : MxCmd) : Nat := bits (x.m 2) 0 12
def MxCmd.rot (x : MxCmd) : Nat := bits (x.m 3) 16 2
def MxCmd.nb (x : MxCmd) : Nat := if x.isMul then bits (x.m 3) 13 3 + 1 else 1
def MxCmd.kb (x : MxCmd) : Nat := bits (x.m 3) 10 3 + 1
def MxCmd.rows (x : MxCmd) : Nat := bits (x.m 3) 0 10 + 1
def MxCmd.declared (x : MxCmd) : Nat := bits (x.m 4) 0 32
def MxCmd.gtag (x : MxCmd) : Nat := bits (x.m 5) 0 16

def MxCmd.afmt (x : MxCmd) : Fmt := (fmtOf (bits x.fmt 0 4)).getD .f32
def MxCmd.bfmtCode (x : MxCmd) : Nat := bits x.fmt 4 4
def MxCmd.pair (x : MxCmd) : Bool := bitOf x.fmt 8
def MxCmd.scl (x : MxCmd) : Bool := bitOf x.fmt 9
def MxCmd.acc (x : MxCmd) : Bool := bitOf x.fmt 13

/-- The modes a command rounds with, sampled at issue (10 R204). -/
def MxCmd.fp (x : MxCmd) : FpMode := { rm := bits x.fpmode 0 3, ftz := bitOf x.fpmode 3, ovfnan := bitOf x.fpmode 4 }
def MxCmd.mode (x : MxCmd) : Nat := x.fp.resolveArith (bits x.fmt 10 3)

/-- Whether the A and the B scales come from the side band (10 R202, 11 R233, R234). -/
def MxCmd.aScaled (x : MxCmd) : Bool := x.scl && !x.afmt.flushes
def MxCmd.bScaled (x : MxCmd) : Bool := x.scl && x.bfmtCode ≠ 1

/-- Passes of one m-block and n-block (10 R218). -/
def MxCmd.np (x : MxCmd) : Nat := if x.isSeq && !x.pair then (x.kb + 3) / 4 else 1

/-- First K block and K blocks of pass p. -/
def MxCmd.blk0 (x : MxCmd) (p : Nat) : Nat := if x.np = 1 then 0 else 4 * p
def MxCmd.blks (x : MxCmd) (p : Nat) : Nat := if x.np = 1 then x.kb else min x.kb (4 * p + 4) - 4 * p

/-! ## Validity (10 R204, R211, R217, R218 to R220, 11 R232, R238) -/

/-- The format context is valid. -/
def fmtValid (v : W64) : Bool :=
  let a := bits v 0 4
  let b := bits v 4 4
  decide (1 ≤ a ∧ a ≤ 8) && (b = 1 || decide (3 ≤ b ∧ b ≤ 8)) && (!bitOf v 8 || b = 5 || b = 7)

/-- Whether the bits of v from lo upward are 0. -/
def zeroFrom (v : W64) (lo : Nat) : Bool := v.toNat >>> lo = 0

/-- The limits of a multiply header on its staging. -/
def MxCmd.mulLimits (x : MxCmd) : Bool :=
  let w := x.afmt.width
  fmtValid x.fmt && zeroFrom (x.m 0) 21 && zeroFrom (x.m 1) 21 && zeroFrom (x.m 2) 12 && zeroFrom (x.m 3) 18
    && zeroFrom (x.m 4) 32 && (!x.isGang || zeroFrom (x.m 5) 16)
    && x.waddr % 64 = 0
    && decide (x.acol + (32 * x.kb * w + 7) / 8 ≤ 512)
    && decide (x.arow + x.rows - 1 ≤ 4095)
    && decide (x.crow + 2 * x.rows * x.nb - 1 ≤ 4095)
    && (x.kind = 4 || x.nb = 1)
    && (x.isSeq || x.pair || decide (x.kb ≤ 4))
    && (!x.isSeq || decide (x.rows ≤ 256))
    && (if x.afmt.flushes then x.acol % 2 = 0 else x.acol % (4 * w) = 0)

/-- Rows, slices and zero bits of a tile addition. -/
def MxCmd.taddLimits (x : MxCmd) : Bool :=
  let last (r : W64) := bits r 0 12 + 2 * x.rows - 1
  zeroFrom (x.m 0) 12 && zeroFrom (x.m 1) 12 && zeroFrom (x.m 2) 12 && zeroFrom (x.m 3) 16 && zeroFrom (x.m 4) 32
    && decide (bits (x.m 3) 10 3 + bits (x.m 3) 13 3 + 1 ≤ 8)
    && decide (last (x.m 0) ≤ 4095) && decide (last (x.m 1) ≤ 4095) && decide (last (x.m 2) ≤ 4095)

/-- The headers of n consecutive weight tiles from an address. -/
def Chain.headers (c : Chain) : Nat → Nat → List WTile
  | 0, _ => []
  | n + 1, a =>
    let h := w64 (memNat c.wb a 8)
    { addr := a, hdr := h } :: c.headers n (a + 64 * whLen h)

/-- Whether weight tile i of a command has a header the command accepts (11 R238). -/
def MxCmd.tileOk (x : MxCmd) (c : Chain) (i : Nat) (t : WTile) : Bool :=
  let h := t.hdr
  bits h 12 4 = 0 && !bitOf h 4 && (memBytes c.wb (t.addr + 8) 56).all (fun b => b = 0#8)
    && decide (1 ≤ whLen h ∧ whLen h ≤ 4096) && decide (t.addr + 64 * whLen h ≤ 0x200000)
    && whFmt h = x.bfmtCode && whPair h = x.pair && whWide h != x.isGang
    && whKb h = x.blks (i % x.np) && spFind c.wbMark (t.addr / 64) ≠ some .lost

/-- Whether a command is valid, apart from where it is issued. -/
def MxCmd.valid (x : MxCmd) (c : Chain) : Bool :=
  match x.kind with
  | 5 => x.taddLimits
  | 6 => true
  | 7 => bits (x.m 0) 0 32 % 32 = 0 && decide (bits (x.m 0) 0 32 < extraBase) && zeroFrom (x.m 0) 32
  | _ => x.mulLimits && x.tiles.length = x.nb * x.np && (x.tiles.mapIdx fun i t => x.tileOk c i t).all id

/-! ## The headers (10 R210 to R212, R217) -/

/-- The format context of a slot (10 R203). -/
def Chain.fmt (c : Chain) (slot : Nat) : W64 := spGet 0x233#64 c.mxfmt slot

/-- Events of a matrix command: its start, its end (20 R453). -/
def State.mxBegins (s : State) (x : MxCmd) : State := s.event x.tile 0x06 x.ctx 2
def State.mxEnds (s : State) (x : MxCmd) : State := s.event x.tile 0x07 x.ctx (2 + x.h.tokp.toNat * 2 ^ 4)

/-- MXHAZ on the issuing context of a command, from this cycle (10 R217). -/
def State.mxRefuse (s : State) (x : MxCmd) (detail : Nat) : State :=
  ((s.mxEnds x).raiseEngine x.tile x.ctx x.firing 2 { cause := .mxhaz, slot := 15, detail := detail, aux := 0#64, eng := false }).tokenDoneAt
    x.tile x.h.tokp.toNat (s.now + 1)

/-- The command a header in hand forms from its slot's format context and its context's staging (10 R204). -/
def State.mxForm (s : State) (kind : Nat) (h : Hdr) (slot : Nat) : MxCmd :=
  let n := s.hand.tile
  let c := s.hc
  let ch := s.chain (chainOf n)
  let x : MxCmd :=
    { kind := kind, h := h, tile := n, slot := slot, ctx := s.hand.ctx, firing := c.firing, fmt := ch.fmt slot
      fpmode := c.cr 0x028, st := (List.range 6).map fun i => spGet 0#64 c.regs.m i, tiles := [], issued := s.now
      arrived := 0, granted := none, errs := [] }
  if x.isMul && x.mulLimits then { x with tiles := ch.headers (x.nb * x.np) x.waddr } else x

/-- TOKDUP where a produced token is pending (12 R272); 63 names none. -/
def State.tokdup (s : State) (k : Nat) : Option Raise :=
  if k ≠ 63 && s.ht.tokPending k then some (s.raise .tokdup 0x1) else none

/-- The errors that a refused command has met in its headers are charged (17 R392); the command does not complete, and so
raises no UNCORR (10 R217, 11 R238, R241; DEDUCED, log 57). -/
def State.chargeHeaders (s : State) (n : Nat) (x : MxCmd) (es : List (Bool × Nat)) : State :=
  match s.chargeAll n x.ctx .uncorr 0x2 es with
  | (s, some r) =>
    if r.cause = .errbudget then
      s.raiseEngine n x.ctx x.firing 2 { cause := r.cause, slot := 15, detail := r.detail, aux := w64 r.aux, eng := false }
    else s
  | (s, none) => s

/-- Issues a matrix header: its token becomes pending, and it is refused or held unstarted. An invalid header that finds an
unstarted command held is refused with 0x4 (DESIGN CHOICE, log entry 125). -/
def State.mxIssue (s : State) (kind : Nat) (h : Hdr) : Out :=
  s.operate (s.tokdup h.tokp.toNat) fun s =>
    let n := s.hand.tile
    let s := s.produce n h.tokp.toNat 2 s.hand.ctx
    match if s.chainUsable n then s.slotOfTile n else none with
    | none => s.mxRefuse (s.mxForm kind h 0) 0x5
    | some j =>
      let x := s.mxForm kind h j
      if (s.tile n).eng.mx.isSome then s.mxRefuse x 0x4
      else
        let keys := x.tiles.map fun t => t.addr / 64
        let ok := x.valid (s.chain (chainOf n))
        let (s, es) :=
          if x.isMul && x.mulLimits then s.getWb (chainOf n) agArray (if x.isGang then 0 else j) keys else (s, [])
        if ok then s.modEng n fun e => { e with mx := some { x with errs := es } }
        else (s.chargeHeaders n x es).mxRefuse x 0x5

/-- MX_MM (10 R210). -/
def execMxMm (h : Hdr) (s : State) : Out := s.mxIssue 1 h

/-- MX_GANG (10 R210). -/
def execMxGang (h : Hdr) (s : State) : Out := s.mxIssue 2 h

/-- MX_SEQ (10 R218). -/
def execMxSeq (h : Hdr) (s : State) : Out := s.mxIssue 3 h

/-- MX_GSEQ (10 R218). -/
def execMxGseq (h : Hdr) (s : State) : Out := s.mxIssue 4 h

/-- MX_TADD (10 R219). -/
def execMxTadd (h : Hdr) (s : State) : Out := s.mxIssue 5 h

/-- MX_DRAIN (10 R220). -/
def execMxDrain (h : Hdr) (s : State) : Out := s.mxIssue 6 h

/-- MX_TCSAVE (10 R220). -/
def execMxTcsave (h : Hdr) (s : State) : Out := s.mxIssue 7 h

/-! ## Durations and the plan of passes (10 R206, R207, R215, R218, R221) -/

/-- c_max of weight tile i over the members of a command. -/
def cmaxOf (ms : List MxCmd) (i : Nat) : Nat :=
  ms.foldl (fun m x => max m (whCmax ((x.tiles.map (·.hdr)).getD i 0#64))) 0

/-- The passes in order as (first row, rows, n-block, p). -/
def MxCmd.order (x : MxCmd) : List (Nat × Nat × Nat × Nat) :=
  if x.isSeq then
    (List.range ((x.rows + 127) / 128)).flatMap fun mb =>
      (List.range x.nb).flatMap fun nbk =>
        (List.range x.np).map fun p => (128 * mb, min 128 (x.rows - 128 * mb), nbk, p)
  else [(0, x.rows, 0, 0)]

/-- Lays passes out in time from a start, numbering them from a pass count; a checked pass is followed by its check
pass. -/
def planFrom (ms : List MxCmd) (x : MxCmd) (every : Nat) : List (Nat × Nat × Nat × Nat) → Nat → Nat → List Pass
  | [], _, _ => []
  | (r0, rows, nbk, p) :: l, start, count =>
    let i := nbk * x.np + p
    let c := cmaxOf ms i
    let d := 40 + rows * c
    let pn := count + 1
    let chk := every ≠ 0 && pn % every = 0
    let a : Pass :=
      { start := start, row0 := r0, rows := rows, blk0 := x.blk0 p, blks := x.blks p, nbk := nbk, wt := i, cmax := c
        checked := chk, write := p = x.np - 1, rep := false, pnum := pn }
    if chk then
      a :: { a with start := start + d, checked := false, write := false, rep := true }
        :: planFrom ms x every l (start + 2 * d) pn
    else a :: planFrom ms x every l (start + d) pn

/-- The plan of a multiply command that starts in cycle start. -/
def Chain.plan (c : Chain) (ms : List MxCmd) (start : Nat) : List Pass :=
  match ms with
  | [] => []
  | x :: _ => if x.isMul then planFrom ms x (bits c.mxcheck 0 16) x.order start c.passes else []

/-- The effective duration of a plan, or of a tile addition (10 R219). -/
def planLength (x : MxCmd) (ps : List Pass) : Nat :=
  if x.isMul then ps.foldl (fun t p => t + (40 + p.rows * p.cmax)) 0 else 8 + x.rows

/-! ## Starting (10 R213 to R216) -/

/-- Fixes row m of a pass's access to its cycle. -/
def State.rowLater (s : State) (c id p m cyc : Nat) (a : RowAct) : State :=
  s.schedule cyc (if a = .writeC then prioArray else prioUpdate) (.mxPassRowAccess c id p m a)

/-- The first accesses of a pass (10 R209). -/
def State.beginPass (s : State) (c id p : Nat) (acc : Bool) (a : Pass) : State :=
  let s := s.rowLater c id p 0 a.start .readA
  if a.write then
    let w := a.start + 39 + a.cmax
    (if acc then s.rowLater c id p 0 w .readC else s).rowLater c id p 0 w .writeC
  else s

/-- Fixes the accesses of a run's passes from number `skip` on, and its completion. -/
def State.beginRun (s : State) (c : Nat) (r : MxRun) (skip : Nat) : State :=
  match r.members with
  | [] => s
  | x :: _ =>
    let s :=
      if x.isMul then
        (r.passes.zipIdx.drop skip).foldl (fun s (a, p) => s.beginPass c r.id p (r.members.any (·.acc)) a) s
      else if skip = 0 then
        ((s.rowLater c r.id 0 0 r.start .readA).rowLater c r.id 0 0 r.start .readC).rowLater c r.id 0 0 (r.start + 8) .writeC
      else s
    s.schedule (r.start + r.total) prioDone (.mxCommandComplete c r.id)

/-- Starts a command of members ms in cycle start, this one or a later one: its plan, its interval, its completion. -/
def State.mxRun (s : State) (c : Nat) (ms : List MxCmd) (start : Nat) : State :=
  match ms with
  | [] => s
  | x :: _ =>
    let ch := s.chain c
    let ps := ch.plan ms start
    let len := planLength x ps
    let id := ch.nextId
    let run : MxRun :=
      { id := id, members := ms, start := start, total := len, passes := ps, arows := [], crows := [], flags := []
        diffs := [], scaleseq := false, wfmt := false, errs := ms.flatMap (·.errs) }
    let s := s.setChain c { ch with
      nextId := id + 1, runs := ch.runs ++ [run], ivEnd := start + len, granted := s.now + 1
      passes := ch.passes + (ps.filter (fun p => !p.rep)).length }
    s.beginRun c run 0

/-! ## Passes numbered anew while commands run (10 R221, log entry 54) -/

/-- The passes of a run that have started before cycle t, each with its check pass. -/
def MxRun.kept (r : MxRun) (t : Nat) : List Pass := r.passes.takeWhile fun a => decide (a.start < t) || a.rep

/-- A run whose passes that have not started before cycle t are laid out anew, from a pass count; one that has not started
itself starts in cycle `next`. -/
def MxRun.relaid (r : MxRun) (t every count next : Nat) : MxRun :=
  match r.members with
  | [] => r
  | x :: _ =>
    let start := if r.start < t then r.start else next
    let ks := r.kept t
    let after := match ks.getLast? with
      | some a => a.start + (40 + a.rows * a.cmax)
      | none => start
    let ps :=
      if x.isMul then ks ++ planFrom r.members x every (x.order.drop (ks.filter fun a => !a.rep).length) after count
      else r.passes
    { r with start := start, passes := ps, total := planLength x ps }

/-- The runs of a chain laid out anew one after another, and the passes then counted. -/
def relayAll (t every : Nat) : List MxRun → Nat → Option Nat → List MxRun × Nat
  | [], count, _ => ([], count)
  | r :: rs, count, prev =>
    let r' := r.relaid t every count (prev.getD r.start)
    let here := ((r'.passes.drop (r.kept t).length).filter fun a => !a.rep).length
    let (l, n) := relayAll t every rs (count + here) (some (r'.start + r'.total))
    (r' :: l, n)

/-- Whether a fixed step is one of a run that its new plan, which holds from cycle t, puts elsewhere; `skip` passes keep
theirs. -/
def MxRun.owns (r : MxRun) (c skip t : Nat) (i : Instr) : Bool :=
  match i with
  | .mxPassRowAccess d id p _ _ => d = c && id = r.id && decide (skip ≤ p)
  | .mxCommandComplete d id => d = c && id = r.id
  | .mxCommandStart n => decide (t ≤ r.start) && r.members.any fun x => x.tile = n
  | _ => false

/-- Moves the steps of a run to its new plan, which holds from cycle t. -/
def State.moveRun (s : State) (c t : Nat) (old new : MxRun) : State :=
  let mul := match old.members with
    | x :: _ => x.isMul
    | [] => false
  let skip := if mul then (old.kept t).length else if old.start < t then 1 else 0
  let s := { s with agenda := s.agenda.filter fun a => !old.owns c skip t a.ins }
  let s := s.beginRun c new skip
  if old.start < t then s
  else
    new.members.foldl (fun s x =>
      (s.modEng x.tile fun e => { e with mx := e.mx.map fun y => { y with granted := some new.start } }).schedule new.start
        prioLand (.mxCommandStart x.tile)) s

/-- The passes of a chain's commands that start from cycle t on follow the check register, counted on from `count`; a
command's end, and E, move with its check passes. A first command that has not started starts in cycle `first`, where one
is given. -/
def State.replan (s : State) (c t count : Nat) (first : Option Nat := none) : State :=
  let ch := s.chain c
  let (rs, n) := relayAll t (bits ch.mxcheck 0 16) ch.runs count first
  let s := s.setChain c { ch with
    runs := rs, passes := n
    ivEnd := match rs.getLast? with
      | some r => r.start + r.total
      | none => first.getD ch.ivEnd }
  (ch.runs.zip rs).foldl (fun s p => if p.1 = p.2 then s else s.moveRun c t p.1 p.2) s

/-- The passes of a chain that have been counted though they start after this cycle. -/
def Chain.ahead (c : Chain) (now : Nat) : Nat :=
  (c.runs.map fun r => (r.passes.filter fun p => !p.rep && decide (now < p.start)).length).foldl (· + ·) 0

/-- The command of a tile that froze before its queued grant has come to its start is unstarted again and arrives after the
resume; the grants behind it follow the one before it (10 R213, 18 R416; log entry 55). -/
def State.cancelGrant (s : State) (n : Nat) : State :=
  let c := chainOf n
  let ch := s.chain c
  let fixed : Option Nat := (s.tile n).eng.mx.bind (·.granted)
  match ch.runs.find? fun r => decide (s.now ≤ r.start ∧ fixed = some r.start) && r.members.any fun x => x.tile = n with
  | none => s
  | some r =>
    let s := s.modEng n fun e => { e with mx := e.mx.map fun x => { x with granted := none } }
    let count := ch.passes - ch.ahead s.now
    let s := { s with agenda := s.agenda.filter fun a => !r.owns c 0 0 a.ins }
    let s := s.setChain c { ch with runs := ch.runs.filter fun q => q.id ≠ r.id }
    s.replan c (s.now + 1) count (some r.start)

/-- Takes a tile's unstarted command out of its engine. -/
def State.mxTake (s : State) (n : Nat) : State := s.modEng n fun e => { e with mx := none }

/-- Whether a counter save has not ended: its write takes the cycle that the engine holds (10 R220). -/
def Engines.saving (e : Engines) (now : Nat) : Bool :=
  match e.tcsave with
  | some (c, _) => decide (now ≤ c)
  | none => false

/-- Whether every earlier command of a tile has completed or been refused (10 R220). -/
def State.mxIdle (s : State) (n : Nat) : Bool :=
  (n ≥ 1728 || (s.chain (chainOf n)).runs.all fun r => r.members.all fun x => x.tile ≠ n)
    && !(s.tile n).eng.saving s.now

/-- A refusal at the would-be start: the command leaves its engine, and the errors of its headers are charged
(10 R217, 11 R241). -/
def State.mxTurnAway (s : State) (x : MxCmd) (detail : Nat) : State :=
  ((s.mxTake x.tile).chargeHeaders x.tile x x.errs).mxRefuse x detail

/-- A solo grant (10 R213, R215): the duration test, then the test against E unless a grant of this cycle has started;
the rotation pointer moves on. -/
def State.soloGrant (s : State) (x : MxCmd) : State :=
  let x := { x with arrived := s.now }
  let c := chainOf x.tile
  let ch := s.chain c
  let s := s.modChain c fun ch => { ch with rp := (x.slot + 1) % 8 }
  let queued := ch.granted = s.now + 1
  let start := if queued then ch.ivEnd else s.now
  if planLength x (ch.plan [x] start) ≠ x.declared then s.mxTurnAway x 0x2
  else if !queued && s.now < ch.ivEnd then s.mxTurnAway x 0x1
  else
    let s := s.mxRun c [x] start
    if start = s.now then (s.mxTake x.tile).mxBegins x
    else
      (s.modEng x.tile fun e => { e with mx := some { x with granted := some start } }).schedule start prioLand
        (.mxCommandStart x.tile)

/-- A gang command joins the barrier of its chain; the eighth arrival fixes the start (10 R214). -/
def State.gangArrive (s : State) (x : MxCmd) : State :=
  let x := { x with arrived := s.now }
  let c := chainOf x.tile
  let s := s.modEng x.tile fun e => { e with mx := some { x with granted := some 0 } }
  let s := s.modChain c fun ch => { ch with arrivals := ch.arrivals ++ [(x, s.now)] }
  if (s.chain c).arrivals.length = 8 then s.schedule (s.now + 2) prioLand (.mxGangStart c) else s

/-- A counter save starts: its write is fixed to requester 6's next slot of its bank (10 R220). -/
def State.tcsaveStart (s : State) (x : MxCmd) : State :=
  let c := wheelCycle s.now 6 (sramBank (bits (x.m 0) 0 32))
  ((s.modEng x.tile fun e => { e with mx := none, tcsave := some (c, x) }).mxBegins x).schedule c prioRead
    (.mxTcsaveWrite x.tile)

/-- MX_COMMAND_START (10 R213 to R215): the arrival of a tile's unstarted command, or the start of a queued grant, which a
frozen tile's command loses (18 R416). -/
def execMxCommandStart (n : Nat) (s : State) : Out :=
  match (s.tile n).eng.mx with
  | none => .fault .noSuchStep
  | some x =>
    .next (if x.granted.isSome then (if (s.tile n).frozen then s.cancelGrant n else (s.mxTake n).mxBegins x)
      else if x.isGang then s.gangArrive x
      else if x.kind = 7 then s.tcsaveStart x
      else s.soloGrant x)

/-- The fields that the tiles of a gang share (10 R204, R211). The operation stands among them: the rules do not name
it, and `mx.gang` against `mx.gseq` is refused 0x3 (DESIGN CHOICE, log entry 108). -/
def MxCmd.shared (x : MxCmd) : List Nat :=
  [x.kind, (x.m 0).toNat, x.rot, x.nb, x.kb, x.rows, x.declared, x.gtag, bits x.fmt 0 4, b2n x.pair, b2n x.scl]

/-- MX_GANG_START (10 R214, R215): two cycles after the last arrival; a gang with a frozen member starts in the first cycle
after that in which none is frozen (18 R416; log entry 55). -/
def execMxGangStart (c : Nat) (s : State) : Out :=
  let ch := s.chain c
  let ms := (ch.arrivals.map (·.1)).mergeSort fun a b => a.slot ≤ b.slot
  match ms with
  | [] => .fault .noSuchStep
  | x :: l =>
    if ms.any fun y => (s.tile y.tile).frozen then .next (s.schedule (s.now + 1) prioLand (.mxGangStart c))
    else
    let s := s.setChain c { ch with arrivals := [] }
    let refuse (d : Nat) : State := ms.foldl (fun s y => s.mxTurnAway y d) s
    .next (if l.any fun y => y.shared ≠ x.shared then refuse 0x3
      else if planLength x (ch.plan ms s.now) ≠ x.declared then refuse 0x2
      else if s.now < ch.ivEnd then refuse 0x1
      else ms.foldl (fun s y => (s.mxTake y.tile).mxBegins y) (s.mxRun c ms s.now))

/-- Whether a tile's unstarted command arrives in this cycle (10 R212, R220). -/
def State.mxArrives (s : State) (n : Nat) : Bool :=
  let t := s.tile n
  match t.eng.mx with
  | none => false
  | some x =>
    x.granted.isNone && !t.frozen && decide (x.issued < s.now) && t.hdrReady s.now x.h
      && (x.kind < 6 || s.mxIdle n)

/-- The next arrival of a chain in grant order (10 R213). -/
def State.pollMx (s : State) (c : Nat) : Option Instr :=
  let ch := s.chain c
  let order := (List.range 8).map fun i => s.slotTile c ((ch.rp + i) % 8)
  match order.find? s.mxArrives with
  | none => none
  | some n =>
    match (s.tile n).eng.mx with
    | some x => some (if x.kind = 6 then .mxDrainDone n else .mxCommandStart n)
    | none => none

/-- MX_DRAIN_DONE (10 R220). -/
def execMxDrainDone (n : Nat) (s : State) : Out :=
  match (s.tile n).eng.mx with
  | some x => .next ((((s.mxTake n).mxBegins x).tokenDone n x.h.tokp.toNat).mxEnds x)
  | none => .fault .noSuchStep

/-- The four term counters of a slot (10 R225). -/
def Chain.counter (c : Chain) (slot i : Nat) : Nat := spGet 0 c.counts (4 * slot + i)

/-- MX_TCSAVE_WRITE (10 R220): the write, with whose cycle the command ends in its engine; a class rewrite holds it
(09 R198). -/
def execMxTcsaveWrite (n : Nat) (s : State) : Out :=
  match (s.tile n).eng.tcsave with
  | none => .fault .noSuchStep
  | some (_, x) =>
    if (s.tile n).busy then
      .next ((s.modEng n fun e => { e with tcsave := some (s.now + 8, x) }).schedule (s.now + 8) prioRead (.mxTcsaveWrite n))
    else
    let ch := s.chain (chainOf n)
    let a := bits (x.m 0) 0 32
    let bs := (List.range 4).flatMap fun i => leBytes 8 (ch.counter x.slot i)
    .next (((s.mxEnds x).modTile n fun t => t.sramWrite 6 (bs.mapIdx fun i b => (a + i, b))).tokenDoneAt n x.h.tokp.toNat (s.now + 1))

/-! ## What a pass computes (10 R208, 11 R228, R233, R234, R239, R241) -/

/-- The canonical NaN of `.f32`. -/
def nan32 : Nat := Fmt.nanCode .f32

/-- Whether a command's accesses follow a `tsw` copy that found an old line: the copy was made before the command was
issued, or before its arrival by a production of a token that it consumes (16 R353, 12 R271). -/
def MxCmd.follows (x : MxCmd) (o : OldLine) : Bool :=
  decide (o.cyc < x.issued) ||
    (decide (o.cyc < x.arrived ∧ o.writer = x.tile ∧ o.tok ≠ 63)
      && [x.h.toka.toNat, x.h.tokb.toNat, x.h.tokc.toNat].contains o.tok)

/-- Bytes of a weight tile as the decompressor reads them for a command: each byte of a line that a `tsw` copy has written
since its issue, in no order before it, is as one of those copies found it or as the last one left it (11 R244, R245, 16
R353; log entry 57). -/
def State.tileBytes (s : State) (c : Nat) (x : MxCmd) (addr n : Nat) : State × List Byte :=
  let ch := s.chain c
  let olds := ch.wbOld.filter fun o => !x.follows o
  let ks := lineKeys addr n
  if olds.all fun o => !ks.contains o.line then (s, memBytes ch.wb addr n)
  else
    let r := (List.range n).foldl (fun (r : State × List Byte) i =>
      let a := addr + i
      let new := memGet ch.wb a
      let vs := new :: (olds.filter fun o => o.line = a / 64).map fun o => o.bytes.getD (a % 64) 0#8
      if vs.all (· = new) then (r.1, new :: r.2)
      else
        let (d, s) := r.1.draw vs.length
        (s, vs.getD d new :: r.2)) (s, [])
    (r.1, r.2.reverse)

/-- A weight tile as a pass uses it. -/
structure TileUse where
  hdr : W64
  raw : List Byte
  dec : Decoded
  lost : Bool
deriving DecidableEq, Repr

/-- Reads and decodes weight tile i of a member; an uncorrectable error puts every column in format error without WFMT
(11 R241). -/
def State.useTile (s : State) (c : Nat) (x : MxCmd) (i : Nat) : State × TileUse :=
  let t := x.tiles.getD i { addr := 0, hdr := 0#64 }
  let n := 64 * whLen t.hdr
  let (s, raw) := s.tileBytes c x t.addr n
  let lost := (lineKeys (t.addr + 64) (n - 64)).any fun k => spFind (s.chain c).wbMark k = some .lost
  let d := decodeTile t.hdr raw
  (s, { hdr := t.hdr, raw := raw, lost := lost
        dec := if lost then { given := d.given.map fun _ => none, cols := d.cols.map fun _ => none, bad := false } else d })

/-- The element pairs of a block: A row elements against a column's weights. -/
def MxCmd.pairs (x : MxCmd) (row : BitVec 4096) (b : Nat) (ws : List Weight) (lb : Nat) : List (Ex × Ex) :=
  let w := x.afmt.width
  let bf := (fmtOf x.bfmtCode).getD .f32
  (List.range 32).map fun i =>
    ((decodeF x.afmt (bits row (8 * x.acol + 32 * w * b + w * i) w)).flush x.afmt x.fp.ftz,
      (decodeF bf ((ws.map (·.code)).getD (32 * lb + i) 0)).flush bf x.fp.ftz)

/-- The scale of A block b of a row (11 R232). -/
def MxCmd.aScale (x : MxCmd) (side : BitVec 288) (b : Nat) : Nat :=
  if x.aScaled then sideScale side (x.acol / (4 * x.afmt.width) + b) else 127

def MxCmd.bScale (x : MxCmd) (u : TileUse) (n lb : Nat) : Nat :=
  if x.bScaled then tileScale u.hdr u.raw n lb else 127

/-- Whether the block sums of a row and a tile are NaN for want of matching sequence numbers or of data. -/
def MxCmd.seqBad (x : MxCmd) (u : TileUse) : Bool := x.bScaled && whSseq u.hdr ≠ whDseq u.hdr

/-- One block sum: local column n, block b of the command, local block lb of the tile. -/
def MxCmd.blockSum (x : MxCmd) (r : ARow) (u : TileUse) (n b lb : Nat) : Coded :=
  match u.dec.cols.getD n none with
  | none => (nan32, 0)
  | some ws =>
    if r.uncorr || r.badSeq || x.seqBad u then (nan32, 0)
    else blockDot x.fp x.mode (x.aScale r.side b) (x.bScale u n lb) (x.pairs r.data b ws lb)

/-- What is exact about a block sum before rounding, for the self-check (10 R222). -/
def MxCmd.exact (x : MxCmd) (r : ARow) (u : TileUse) (n b lb : Nat) : Option DotAcc :=
  match u.dec.cols.getD n none with
  | none => none
  | some ws =>
    let sa := x.aScale r.side b
    let sb := x.bScale u n lb
    if r.uncorr || r.badSeq || x.seqBad u || sa = 0xFF || sb = 0xFF then none
    else
      let d := (x.pairs r.data b ws lb).foldl DotAcc.step
        { acc := .fin false 0 0, pinf := false, ninf := false, bad := false, fl := 0 }
      some { d with acc := d.acc.scale ((sa + sb : Nat) - 254 : Int) }

/-- Whether two exact block sums differ. -/
def exactDiffers (a b : Option DotAcc) : Bool :=
  match a, b with
  | none, none => false
  | some d, some e =>
    let bad (z : DotAcc) := z.bad || (z.pinf && z.ninf)
    if bad d || bad e then bad d != bad e
    else if d.pinf || d.ninf || e.pinf || e.ninf then d.pinf != e.pinf || d.ninf != e.ninf
    else d.acc.lt e.acc || e.acc.lt d.acc
  | _, _ => true

/-- The row m that pass p read. -/
def MxRun.arow (r : MxRun) (p m : Nat) : ARow :=
  (r.arows.find? fun a => a.p = p && a.m = m).getD
    { p := p, m := m, data := 0#4096, side := 0#288, badSeq := false, uncorr := false }

/-- The passes that add to the result of pass p: those of its m-block and n-block. -/
def MxRun.groupOf (r : MxRun) (a : Pass) : List (Nat × Pass) :=
  (r.passes.zipIdx.map fun (q, i) => (i, q)).filter fun iq =>
    !iq.2.rep && iq.2.row0 = a.row0 && iq.2.nbk = a.nbk

/-- The columns of a member as logical columns: all of them, or those of its slice. -/
def MxCmd.colBase (x : MxCmd) : Nat := if x.isGang then 32 * x.slot else 0
def MxCmd.cols (x : MxCmd) : Nat := if x.isGang then 32 else 256

/-- The results of accumulator row m for a member, before accumulation. -/
def MxRun.rowResult (r : MxRun) (x : MxCmd) (us : List (Nat × Pass × TileUse)) (m : Nat) : List Coded :=
  (List.range x.cols).map fun n =>
    canonicalSum (us.flatMap fun (i, a, u) =>
      (List.range a.blks).map fun lb => x.blockSum (r.arow i m) u n (a.blk0 + lb) lb)

/-- Uses the weight tiles of a group of passes. -/
def State.useTiles (s : State) (c : Nat) (x : MxCmd) (g : List (Nat × Pass)) : State × List (Nat × Pass × TileUse) :=
  g.foldl (fun (s, l) (i, a) => let (s, u) := s.useTile c x a.wt; (s, l ++ [(i, a, u)])) (s, [])

/-- The key of a member's accumulator row half among the rows read. -/
def ckey (p i : Nat) : Nat := 8 * p + i

/-- The old accumulator of logical column n. -/
def MxRun.oldAcc (r : MxRun) (p i m n : Nat) : Nat :=
  match r.crows.find? fun a => a.p = ckey p i && a.m = 2 * m + n / 128 with
  | some a => bits a.data (32 * (n % 128)) 32
  | none => 0

/-- The tile-store row and byte column of logical column n of accumulator row m (10 R202). -/
def accRow (crow m n : Nat) : Nat := crow + 2 * m + n / 128
def accCol (n : Nat) : Nat := 4 * (n % 128)

/-- Writes accumulators of consecutive logical columns from n0 of accumulator row m. -/
def State.putAcc (s : State) (c slot crow m n0 : Nat) (vs : List Nat) : State :=
  let part (lo hi : Nat) : List Byte :=
    ((vs.zipIdx.filter fun vi => decide (lo ≤ n0 + vi.2) && decide (n0 + vi.2 < hi)).map (·.1)).flatMap (leBytes 4)
  let s := if n0 < 128 then s.putTs c agArray slot (accRow crow m 0) (accCol n0) (part 0 128) else s
  if 128 < n0 + vs.length then
    s.putTs c agArray slot (accRow crow m 128) (accCol (max n0 128)) (part 128 256)
  else s

/-- Reads the accumulators of logical columns n0 to n1 - 1 of row m; those of an uncorrectable segment are NaN. -/
def State.getAcc (s : State) (c slot p crow m n0 n1 : Nat) : State × List ARow × List (Bool × Nat) :=
  let half (s : State) (h : Nat) : State × List ARow × List (Bool × Nat) :=
    let lo := max n0 (128 * h)
    let hi := min n1 (128 * h + 128)
    if lo < hi then
      let row := accRow crow m (128 * h)
      let (s, es) := s.getTs c agArray slot (segKeys row (accCol lo) (4 * (hi - lo)))
      let v := (es.filter (fun e => !e.1)).foldl (fun (v : BitVec 4096) e =>
        (List.range 16).foldl (fun v i => putBits v (512 * (e.2 % 16) + 32 * i) 32 nan32) v) ((s.chain c).rowVal row)
      (s, [{ p := p, m := 2 * m + h, data := v, side := 0#288, badSeq := false, uncorr := false }], es)
    else (s, [], [])
  let (s, a, e) := half s 0
  let (s, b, f) := half s 1
  (s, a ++ b, e ++ f)

/-! ## Steps of a started command (10 R209, R216) -/

def State.run? (s : State) (c id : Nat) : Option MxRun := (s.chain c).runs.find? fun r => r.id = id

def State.modRun (s : State) (c id : Nat) (f : MxRun → MxRun) : State :=
  s.modChain c fun ch => { ch with runs := ch.runs.map fun r => if r.id = id then f r else r }

/-- The slot that the error log names for an access of the array. -/
def MxRun.logSlot (r : MxRun) : Nat :=
  match r.members with
  | [x] => x.slot
  | _ => 0

/-- The first difference of a checked pass at row m, as a check record (10 R222, R223): each pass has its own row of A and
its own reading of the weights (11 R245). -/
def compareRow (us : List (MxCmd × TileUse × TileUse)) (a : Pass) (first second : ARow) (m : Nat) : Option W64 :=
  if first.data = second.data && first.side = second.side && first.badSeq = second.badSeq
      && first.uncorr = second.uncorr && us.all (fun u => u.2.1 = u.2.2) then none
  else
    let diff (x : MxCmd) (u v : TileUse) (n : Nat) : Nat :=
      (List.range a.blks).foldl (fun d lb =>
        if exactDiffers (x.exact first u n (a.blk0 + lb) lb) (x.exact second v n (a.blk0 + lb) lb) then d ||| 2 ^ lb else d) 0
    let all := us.flatMap fun (x, u, v) => (List.range x.cols).map fun n => (x.colBase + n, x, diff x u v n)
    (all.find? fun d => d.2.2 ≠ 0).map fun (n, x, mask) =>
      w64 (2 ^ 63 + a.pnum % 2 ^ 16 * 2 ^ 32 + b2n x.pair * 2 ^ 28 + x.rot * 2 ^ 26 + mask * 2 ^ 18 + m * 2 ^ 8 + n)

/-- Reads A row m of pass p with its side word where the scales come from the side band, and for a check pass compares
it with the first pass. -/
def State.readARow (s : State) (c : Nat) (r : MxRun) (x : MxCmd) (p m : Nat) (a : Pass) : State :=
  let row := x.arow + a.row0 + m
  let w := 4 * x.afmt.width
  let segs := segKeys row (x.acol + w * a.blk0) (w * a.blks)
  let keys := if x.aScaled then segs ++ [sideKey row] else segs
  let (s, es) := s.getTs c agArray r.logSlot keys
  let ch := s.chain c
  let side := ch.sideOf row
  let ar : ARow :=
    { p := p, m := m, data := ch.rowVal row, side := side, badSeq := x.aScaled && sideDseq side ≠ sideSseq side
      uncorr := es.any fun e => !e.1 }
  let werr (s : State) : State × List (Bool × Nat) :=
    if m = 0 then
      r.members.foldl (fun (s, l) y =>
        let t := y.tiles.getD a.wt { addr := 0, hdr := 0#64 }
        let (s, es) := s.getWb c agArray r.logSlot (lineKeys (t.addr + 64) (64 * whLen t.hdr - 64))
        (s, l ++ es)) (s, [])
    else (s, [])
  let (s, ws) := werr s
  let (s, rec) :=
    if a.rep then
      let (s, us) := r.members.foldl (fun (s, l) y =>
        let (s, u) := s.useTile c y a.wt
        let (s, v) := s.useTile c y a.wt
        (s, l ++ [(y, u, v)])) (s, ([] : List (MxCmd × TileUse × TileUse)))
      (s, compareRow us a (r.arow (p - 1) m) ar m)
    else (s, none)
  let s := s.modRun c r.id fun r =>
    { r with
      arows := r.arows ++ [ar], errs := r.errs ++ es ++ ws, scaleseq := r.scaleseq || ar.badSeq
      diffs := match rec with
        | some v => if r.diffs.any (fun d => d.1 = p) then r.diffs else r.diffs ++ [(p, v)]
        | none => r.diffs }
  if m + 1 < a.rows then s.rowLater c r.id p (m + 1) (a.start + (m + 1) * a.cmax) .readA else s

/-- Writes accumulator row m of pass p for one member. -/
def State.writeMember (s : State) (c : Nat) (r : MxRun) (p m : Nat) (a : Pass) (i : Nat) (x : MxCmd) : State :=
  let (s, us) := s.useTiles c x (r.groupOf a)
  let res := (r.rowResult x us m).mapIdx fun n v =>
    if x.acc then addNode (r.oldAcc p i m (x.colBase + n), 0) v else v
  let fl := res.foldl (fun f v => f ||| v.2) 0
  let bad := us.any fun u => u.2.2.dec.bad
  let seq := us.any fun u => x.seqBad u.2.2
  let s := s.putAcc c (if x.isGang then 0 else x.slot) x.crow (a.nbk * x.rows + a.row0 + m) x.colBase (res.map (·.1))
  s.modRun c r.id fun r =>
    { r with
      flags := spPut r.flags i (spGet 0 r.flags i ||| fl), wfmt := r.wfmt || bad, scaleseq := r.scaleseq || seq }

/-- The accesses of a multiply pass. -/
def State.mulAccess (s : State) (c : Nat) (r : MxRun) (p m : Nat) (act : RowAct) (a : Pass) (x : MxCmd) : State :=
  let next (s : State) (act : RowAct) : State :=
    if m + 1 < a.rows then s.rowLater c r.id p (m + 1) (a.start + 39 + (m + 2) * a.cmax) act else s
  match act with
  | .readA => s.readARow c r x p m a
  | .readC =>
    let s := r.members.zipIdx.foldl (fun s (y, i) =>
      if y.acc then
        let (s, rows, es) := s.getAcc c r.logSlot (ckey p i) y.crow (a.nbk * y.rows + a.row0 + m) y.colBase
          (y.colBase + y.cols)
        let rows := rows.map fun v => { v with m := 2 * m + v.m % 2 }
        s.modRun c r.id fun r => { r with crows := r.crows ++ rows, errs := r.errs ++ es }
      else s) s
    next s .readC
  | .writeC => next (r.members.zipIdx.foldl (fun s (y, i) => s.writeMember c r p m a i y) s) .writeC

/-- The accesses of a tile addition (10 R219). -/
def State.taddAccess (s : State) (c : Nat) (r : MxRun) (m : Nat) (act : RowAct) (x : MxCmd) : State :=
  let n0 := 32 * bits (x.m 3) 10 3
  let n1 := n0 + 32 * (bits (x.m 3) 13 3 + 1)
  let next (s : State) (cyc : Nat) : State := if m + 1 < x.rows then s.rowLater c r.id 0 (m + 1) cyc act else s
  let read (q : Nat) (base : W64) : State :=
    let (s, rows, es) := s.getAcc c x.slot (ckey 0 q) (bits base 0 12) m n0 n1
    next (s.modRun c r.id fun r => { r with crows := r.crows ++ rows, errs := r.errs ++ es }) (r.start + m + 1)
  match act with
  | .readA => read 0 (x.m 0)
  | .readC => read 1 (x.m 1)
  | .writeC =>
    let res := (List.range (n1 - n0)).map fun i =>
      addNode (r.oldAcc 0 0 m (n0 + i), 0) (r.oldAcc 0 1 m (n0 + i), 0)
    let s := s.putAcc c x.slot x.crow m n0 (res.map (·.1))
    let fl := res.foldl (fun f v => f ||| v.2) 0
    next (s.modRun c r.id fun r => { r with flags := spPut r.flags 0 (spGet 0 r.flags 0 ||| fl) }) (r.start + 8 + m + 1)

/-- MX_PASS_ROW_ACCESS (10 R208, R209, R219, R222): one access of a pass of a started command. -/
def execMxPassRowAccess (c id p m : Nat) (a : RowAct) (s : State) : Out :=
  match s.run? c id with
  | none => .fault .noSuchStep
  | some r =>
    match r.members with
    | [] => .fault .noSuchStep
    | x :: _ =>
      if x.isMul then
        match r.passes[p]? with
        | none => .fault .noSuchStep
        | some ps => .next (s.mulAccess c r p m a ps x)
      else .next (s.taddAccess c r m a x)

/-! ## Completion (10 R216, R223, R225) -/

/-- Adds to a counter, saturating. -/
def Chain.addCount (c : Chain) (slot i v : Nat) : Chain :=
  { c with counts := spSet 0 c.counts (4 * slot + i) (satNat (2 ^ 64 - 1) (c.counter slot i + v)) }

/-- Terms and skipped groups of one pass of a member; open where a column's stream gives no weights. -/
def State.passCounts (s : State) (c : Nat) (x : MxCmd) (a : Pass) : State × Nat × Nat :=
  let (s, u) := s.useTile c x a.wt
  if u.dec.given.all Option.isSome then
    let cols := u.dec.given.filterMap id
    (s, a.rows * ((cols.flatMap fun ws => ws.map (·.terms)).foldl (· + ·) 0),
      ((cols.flatMap fun ws => (columnCosts x.pair ws).filter (fun g => g = 0)).length))
  else
    let (d, s) := s.draw (2 ^ 32)
    let (e, s) := s.draw 2049
    (s, d, e)

/-- The counters of a member at completion. -/
def State.countMember (s : State) (c : Nat) (r : MxRun) (x : MxCmd) : State :=
  if x.isMul then
    let ps := r.passes.filter fun a => !a.rep
    let (s, terms, skip) := ps.foldl (fun (s, t, k) a =>
      let (s, t', k') := s.passCounts c x a
      (s, t + t', k + k')) (s, 0, 0)
    s.modChain c fun ch =>
      (((ch.addCount x.slot 0 terms).addCount x.slot 1 r.total).addCount x.slot 2 skip).addCount x.slot 3 ps.length
  else s

/-- The causes a completed command raises on a member. -/
def State.raiseMember (s : State) (r : MxRun) (x : MxCmd) : State :=
  let up (s : State) (b : Bool) (cause : Cause) : State :=
    if b then s.raiseEngine x.tile x.ctx x.firing 2 { cause := cause, slot := 15, detail := 0, aux := 0#64, eng := false }
    else s
  let s := up s (!r.diffs.isEmpty) .mxchk
  let s := up s r.scaleseq .scaleseq
  let s := up s r.wfmt .wfmt
  s.raiseErrors x.tile x.ctx x.firing 2 .uncorr 0x2 r.errs

/-- Records the differences of a command's checked passes. -/
def Chain.recordDiffs (c : Chain) (ds : List W64) : Chain :=
  ds.foldl (fun c d =>
    if bitOf c.chkrec 63 then { c with chkrec := putBits c.chkrec 62 1 1 } else { c with chkrec := d }) c

/-- MX_COMMAND_COMPLETE (10 R216): tokens, flags, counters, records and causes. -/
def execMxCommandComplete (c id : Nat) (s : State) : Out :=
  match s.run? c id with
  | none => .fault .noSuchStep
  | some r =>
    let s := r.members.zipIdx.foldl (fun s (x, i) =>
      let s := (s.tokenDone x.tile x.h.tokp.toNat).mxEnds x
      let s := s.modCtx x.tile x.ctx fun k => k.setCr 0x029 (k.cr 0x029 ||| w64 (spGet 0 r.flags i))
      (s.countMember c r x).raiseMember r x) s
    let s := s.modChain c fun ch =>
      { ch.recordDiffs (r.diffs.map (·.2)) with runs := ch.runs.filter fun q => q.id ≠ id }
    .next (if s.weightsInUse c then s else s.modChain c fun ch => { ch with wbOld := [] })

/-! ## The `mx` socket (10 R226, R227) -/

/-- An operation of the socket; on a tile that holds no slot of a chain it lands 0 and changes nothing. -/
def State.mxOp (s : State) (v : Chain → Nat → W64) (eff : State → State := id) : Out :=
  s.operate none fun s =>
    match s.slotOfTile s.hand.tile with
    | none => s.result .mx 0#64
    | some j => eff (s.result .mx (v (s.chain (chainOf s.hand.tile)) j))

/-- FSET (10 R226, R227). -/
def execFset (s : State) : Out :=
  s.mxOp (fun c j => c.fmt j) fun s => s.later s.hand.tile s.hand.ctx updFset (w64 (bits s.tv 0 14))

/-- FGET (10 R226). -/
def execFget (s : State) : Out := s.mxOp fun c j => c.fmt j

/-- TCREAD (10 R225, R226). -/
def execTcread (s : State) : Out := s.mxOp fun c j => w64 (c.counter j (bits s.tv 0 2))

/-- TCCLR (10 R226). -/
def execTcclr (s : State) : Out :=
  s.mxOp (fun c j => w64 (c.counter j 3)) fun s => s.later s.hand.tile s.hand.ctx updTcclr 0#64

/-- CHKRD (10 R223, R226). -/
def execChkrd (s : State) : Out := s.mxOp fun c _ => c.chkrec

/-- CHKCLR (10 R226). -/
def execChkclr (s : State) : Out :=
  s.mxOp (fun c _ => c.chkrec) fun s => s.later s.hand.tile s.hand.ctx updChkclr 0#64

/-- DUR (10 R226). -/
def execDur (s : State) : Out :=
  s.mxOp fun _ _ => w64 (40 + bits (s.opo .mx) 0 11 * bits s.tv 0 8)

/-- The status word (10 R227). Bit 36 takes no account of a counter save whose write has not performed: `mx.tcsave` takes
no array time (DESIGN CHOICE, log entry 126). -/
def State.mxStatus (s : State) (n : Nat) : W64 :=
  let c := s.chain (chainOf n)
  w64 (satNat 0xFFFFFFFF (c.ivEnd - s.now) + c.rp * 2 ^ 32 + b2n (s.tile n).eng.mx.isSome * 2 ^ 35
    + b2n (c.runs.any fun r => decide (r.start ≤ s.now)) * 2 ^ 36 + (c.passes - c.ahead s.now) % 2 ^ 16 * 2 ^ 48)

/-- MX_STAT (10 R226, R227). -/
def execMxStat (s : State) : Out := s.mxOp fun _ _ => s.mxStatus s.hand.tile

end Sys2Proof.Machine
end

