-- ==== Sys2Proof/Machine/Sram.lean ====
section
/-!
DEFINITION. Loads and stores of tile SRAM, far loads, and the steps of the memory itself (09 R186 to R200).
-/

namespace Sys2Proof.Machine

/-! ## Forms of access (09 R189 to R192) -/

/-- The form of an access: nb bytes, the masked form, or the strided one. -/
inductive Form where
  | plain (nb : Nat)
  | masked
  | strided
deriving DecidableEq, Repr

/-- The enabled lanes of a control word. -/
def enabledLanes (cw : W64) : List Nat := (List.range 32).filter fun i => bitOf cw (32 + i)

/-- The address of lane i of the strided form. -/
def laneAddr (a i : Nat) (cw : W64) : Nat := (((a : Int) + i * sbits cw 0 20) % 2 ^ 32).toNat

/-- The bytes an access touches: address and place in the operand, lanes in rising order. -/
def touches (f : Form) (a : Nat) (cw : W64) : List (Nat × Nat) :=
  match f with
  | .plain nb => (List.range nb).map fun i => (a + i, i)
  | .masked => (enabledLanes cw).flatMap fun i => (List.range 4).map fun b => (a + 4 * i + b, 4 * i + b)
  | .strided => (enabledLanes cw).flatMap fun i => (List.range 4).map fun b => (laneAddr a i cw + b, 4 * i + b)

/-- Whether the address, or a lane address, breaks the alignment (09 R193). Of a strided form the addresses of enabled
lanes count, which are those it accesses (DESIGN CHOICE, log entry 122). -/
def misaligned (f : Form) (a : Nat) (cw : W64) : Bool :=
  match f with
  | .plain nb => a % nb ≠ 0
  | .masked => a % 128 ≠ 0
  | .strided => (enabledLanes cw).any fun i => laneAddr a i cw % 4 ≠ 0

/-- Whether a form may not touch the extra region (09 R193 detail 0x3). -/
def mainOnly (f : Form) : Bool :=
  match f with
  | .plain nb => 32 ≤ nb
  | .masked => true
  | .strided => false

/-- The distinct rows of a bank among some bytes, in rising order. -/
def rowsOf (l : List (Nat × Nat)) (b : Nat) : List Nat :=
  (dedup ((l.filter (fun p => sramBank p.1 = b)).map (fun p => sramRow p.1))).mergeSort (fun x y => x ≤ y)

def lowest (l : List (Nat × Nat)) : Nat := match l with | [] => 0 | p :: r => r.foldl (fun m x => min m x.1) p.1
def highest (l : List (Nat × Nat)) : Nat := l.foldl (fun m x => max m x.1) 0

/-- The detail with which an access fails the tests of 09 R193. -/
def Tile.sramFail (t : Tile) (f : Form) (a : Nat) (cw : W64) : Option Nat :=
  let l := touches f a cw
  if l.isEmpty then none
  else if l.any (fun p => lastPresent t.cls < p.1) then some 0x1
  else if misaligned f a cw then some 0x2
  else if l.any (fun p => !sramPresent t.cls p.1 || (mainOnly f && extraBase ≤ p.1)) then some 0x3
  else if (List.range 8).any (fun b => 4 < (rowsOf l b).length) then some 0x4
  else none

/-- The step-3 check of a local access: SRAMACC, then REGION for a routine context (09 R193, 05 R123). -/
def State.checkAccess (s : State) (f : Form) (write : Bool) (a : Nat) (cw : W64) (tag : Option Nat) : Option Raise :=
  let t := s.ht
  match t.sramFail f a cw with
  | some d => some (s.raise .sramacc d)
  | none =>
    let l := touches f a cw
    if !isRoutine s.hand.ctx || l.isEmpty then none
    else (t.regionFail s.hand.ctx write tag (lowest l) (highest l)).map fun d => s.raise .region d

/-! ## Starting a local access (09 R186) -/

/-- The rows of an access with their cycles. -/
def accessRows (l : List (Nat × Nat)) (start q : Nat) : List RowTouch :=
  (List.range 8).flatMap fun b =>
    let cb := wheelCycle start q b
    (rowsOf l b).mapIdx fun k r =>
      { cyc := cb + 8 * k, bank := b, row := r
        bytes := l.filter (fun p => sramBank p.1 = b && sramRow p.1 = r) }

/-- The requester number of an access socket (09 R184). -/
def requester (so : Sock) : Nat :=
  match so with
  | .ld0 => 0 | .ld1 => 1 | .st0 => 2 | _ => 3

/-- Starts a local access with its cycles fixed; answers its id and its last cycle. -/
def State.startAccess (s : State) (so : Sock) (store : Bool) (sext : Nat) (data : V1024) (l : List (Nat × Nat)) :
    State × Nat × Nat :=
  let n := s.hand.tile
  let t := s.tile n
  let q := requester so
  let start := max s.now (spGet 0 t.plast q)
  let rows := accessRows l start q
  let last := rows.foldl (fun m r => max m r.cyc) start
  let acc : Access :=
    { id := t.nextId, q := q, ctx := s.hand.ctx, issued := s.now, store := store, sext := sext, data := data, rows := rows, last := last }
  let t := { t with
    accesses := t.accesses.filter (fun x => s.now ≤ x.last) ++ [acc]
    plast := spPut t.plast q (last + 1), nextId := t.nextId + 1 }
  let s := s.setTile n t
  (rows.zipIdx.foldl (fun s (r, j) => s.schedule r.cyc prioRead (.sramBankAccess n q acc.id j)) s, acc.id, last)

/-- Records the 128-byte blocks that a store of a coupled context writes first in its interval (18 R426, R428). -/
def State.noteUndo (s : State) (l : List (Nat × Nat)) : State :=
  s.modCtx s.hand.tile s.hand.ctx fun c =>
    match c.pair with
    | none => c
    | some p =>
      let new := (dedup (l.map fun x => x.1 / 128)).filter fun b => !p.undo.any (fun u => u.1 / 2 = b)
      { c with pair := some { p with undo := p.undo ++ new.map fun b => (2 * b, 0#1024) } }

/-- A load in form f: its result lands at the start of cycle last + 3 (09 R186, R190). -/
def State.doLoad (s : State) (so : Sock) (f : Form) (sext : Nat) : State :=
  let n := s.hand.tile
  let l := touches f (bits s.tv 0 32) (s.opo so)
  let (s, id, last) := s.startAccess so false sext 0#1024 l
  let t := s.tile n
  let fl : Flight :=
    { id := id, so := so, po := .r, ctx := s.hand.ctx, locked := t.lockedMode so, due := some (last + 3), val := 0#1024
      flags := 0, far := none, ready := none, err := none, errAux := 0#64, errAt := none, raised := false }
  (s.setTile n { t with flights := t.flights ++ [fl] }).schedule (last + 3) prioLand (.resultLands n so .r)

/-- A load operation: its checks and its effect. -/
def State.loadOp (s : State) (u : Twin) (f : Form) (sext : Nat := 0) : Out :=
  s.operate (s.checkAccess f false (bits s.tv 0 32) (s.opo (ldSock u)) (s.ht.tag (ldSock u)))
    fun s => s.doLoad (ldSock u) f sext

/-- A store operation: its checks and its effect (09 R191). -/
def State.storeOp (s : State) (u : Twin) (f : Form) : Out :=
  let so := stSock u
  let a := bits (s.opo so) 0 32
  s.operate (s.checkAccess f true a (s.opp so) (s.ht.tag so)) fun s =>
    let l := touches f a (s.opp so)
    ((s.noteUndo l).startAccess so true 0 s.hand.tv l).1

/-! ## Far loads (09 R194) -/

/-- The check of a far load of nb bytes (09 R193 detail 0x5, 01 R18). It takes the whole trigger value, as R193 and R194
speak of it, where R189 ignores the high half of a load's (DESIGN CHOICE, log entry 121). -/
def State.checkFar (s : State) (nb : Nat) : Option Raise :=
  if s.hand.tile = waymark || 0x800000 ≤ s.tv.toNat || s.tv.toNat % nb ≠ 0 then some (s.raise .sramacc 0x5) else none

/-- A far load of nb bytes: the result lands in an open cycle from t + 40 to t + 120, and holds the context until
then. -/
def State.farLoad (s : State) (u : Twin) (nb : Nat) : Out :=
  s.operate (s.checkFar nb) fun s =>
    let n := s.hand.tile
    let (d, s) := s.draw 81
    let t := s.tile n
    let due := s.now + 40 + d
    let fl : Flight :=
      { id := t.nextId, so := ldSock u, po := .r, ctx := s.hand.ctx, locked := true, due := some due, val := 0#1024
        flags := 0, far := some (s.tv.toNat, nb), ready := none, err := none, errAux := 0#64, errAt := none, raised := false }
    let s := s.setTile n { t with flights := t.flights ++ [fl], nextId := t.nextId + 1 }
    (s.schedule due prioLand (.resultLands n (ldSock u) .r)).hold n s.hand.ctx (.result fl.id)

/-! ## The occupancy of an access socket (09 R187) -/

/-- Whether a far load of a socket has not landed. -/
def Tile.farPending (t : Tile) (so : Sock) : Bool :=
  t.flights.any fun f => f.so = so && f.far.isSome

/-- Whether an earlier load of a socket has not landed. -/
def Tile.loadPending (t : Tile) (so : Sock) : Bool :=
  t.flights.any fun f => f.so = so

/-- Whether two local accesses triggered earlier on a socket, after the last resume (09 R200), have last ≥ now. -/
def Tile.twoPending (t : Tile) (now : Nat) (so : Sock) : Bool :=
  2 ≤ (t.accesses.filter fun x => x.q = requester so && now ≤ x.last && t.resumeAt.getD 0 ≤ x.issued).length

/-! ## Steps of the memory -/

/-- Changes the flight of an id, in flight or captured. -/
def Tile.modFlight (t : Tile) (id : Nat) (f : Flight → Flight) : Tile :=
  { t with
    flights := t.flights.map fun x => if x.id = id then f x else x
    captures := t.captures.map fun c => if c.fl.id = id then { c with fl := f c.fl } else c }

/-- The flight of an id, in flight or captured. -/
def Tile.flightOf (t : Tile) (id : Nat) : Option Flight :=
  (t.flights.find? fun f => f.id = id).orElse fun _ => (t.captures.find? fun c => c.fl.id = id).map (·.fl)

/-- The operand bytes of a row touch. -/
def rowData (data : V1024) (l : List (Nat × Nat)) : List (Nat × Byte) :=
  l.map fun p => (p.1, BitVec.ofNat 8 (bits data (8 * p.2) 8))

/-- A value with bytes put at places. -/
def gather (data : V1024) (l : List (Nat × Byte)) : V1024 :=
  l.foldl (fun v p => putBits v (8 * p.1) 8 p.2.toNat) data

/-- The value of a load with sign extension from bit sext - 1 to bit 63 (09 R190). -/
def extended (sext : Nat) (v : V1024) : V1024 := if sext = 0 then v else wide (ofInt 64 (sbits v 0 sext))

/-- The old content of the blocks a performing store of a coupled context writes (18 R428). -/
def Tile.fillUndo (t : Tile) (k : Ctx) (l : List (Nat × Byte)) : Tile :=
  let fill (u : Nat × V1024) : Nat × V1024 :=
    if u.1 % 2 = 0 && l.any (fun x => x.1 / 128 = u.1 / 2) then
      (u.1 + 1, BitVec.ofNat 1024 (memNat t.sram (u.1 / 2 * 128) 128))
    else u
  t.modCtx k fun c =>
    match c.pair with
    | none => c
    | some p => { c with pair := some { p with undo := p.undo.map fill } }

/-- Row j of access x reads in this cycle. -/
def State.readRow (s : State) (n : Nat) (x : Access) (r : RowTouch) : State :=
  let (s, es) := s.sramRead n x.q (r.bytes.map (·.1))
  let met := ((s.tile n).flightOf x.id).bind (·.errAt)
  let (s, rep) := s.chargeAll n x.ctx (lostCause (s.tile n).cls) 0x1 es met
  s.modTile n fun t =>
    let got := r.bytes.map fun p => (p.2, memGet t.sram p.1)
    let data := match t.accesses.find? (fun y => y.id = x.id) with | some y => gather y.data got | none => x.data
    let put (y : Access) : Access := if y.id = x.id then { y with data := data } else y
    let t : Tile := { t with accesses := t.accesses.map put }
    t.modFlight x.id fun f =>
      let e := if f.raised then (f.err, f.errAux) else joinErr (f.err, f.errAux) rep
      { f with val := extended x.sext data, err := e.1, errAux := e.2, errAt := firstAt f.errAt es }

/-- SRAM_BANK_ACCESS (09 R186): row j of a local access of requester q in its wheel cycle. -/
def execSramBankAccess (n q id j : Nat) (s : State) : Out :=
  match (s.tile n).accesses.find? (fun x => x.id = id && x.q = q) with
  | none => .fault .noSuchStep
  | some x =>
    match x.rows[j]? with
    | none => .fault .noSuchStep
    | some r =>
      if x.store then
        let l := rowData x.data r.bytes
        .next (s.modTile n fun t => (t.fillUndo x.ctx l).sramWrite q l)
      else .next (s.readRow n x r)

/-- The address of a half row of the main region. -/
def halfAddr (bank row half : Nat) : Nat := row * 1024 + bank * 128 + half * 64

/-- A mark is cleared. -/
def Tile.unmark (t : Tile) (key : Nat) : Tile :=
  { t with marks := spErase t.marks key, markSeen := spErase t.markSeen key }

/-- SRAM_CORRECTED_REWRITE (09 R196): requester 7 writes the corrected half back unless a store has been there. In a class
rewrite it meets a lost unit, which is logged (09 R198). The cairn logs the line first (18 R431). -/
def execSramCorrectedRewrite (n bank row half : Nat) (s : State) : Out :=
  let key := unitKey bank row half
  .next (s.modTile n fun t =>
    match spFind t.marks key with
    | some .corrected => (t.cairnSram (halfAddr bank row half)).unmark key
    | some .lost => if t.busy then (t.logSram true 7 key .lost).unmark key else t
    | none => t)

/-- Whether the conditions for a class rewrite hold (09 R198). -/
def State.canRewrite (s : State) (n : Nat) : Bool :=
  let t := s.tile n
  (t.frozen || allCtx.all fun k => (t.ctx k).run = .idle || (t.ctx k).run = .trapped) && !t.busy
    && t.accesses.all (fun x => x.last < s.now)

/-- The slots of a bank, of the 384 of a class rewrite, that no row has taken yet; rows taken stand with their bank and
slot. -/
def freeSlots (taken : List (Nat × Nat)) (bank : Nat) : List Nat :=
  (List.range 384).filter fun d => !taken.contains (bank, d)

/-- Requester 7 meets each row once in a class rewrite, in one of the 384 slots of its bank, each of which takes one row:
those of rows with lost units are fixed (09 R198, log entry 99). A row is named by its bank and row as one number. -/
def State.rewriteMeets (s : State) (n : Nat) : State :=
  let lost := ((s.tile n).marks.filter fun p => p.2 = .lost).map (·.1)
  ((dedup (lost.map (· / 2))).foldl (fun (x : State × List (Nat × Nat)) r =>
    let bank := r / 384
    let free := freeSlots x.2 bank
    let (i, s) := x.1.draw free.length
    let d := free.getD i 0
    let meet (s : State) (key : Nat) : State :=
      s.schedule (wheelCycle s.now 7 bank + 8 * d) prioRead (.sramCorrectedRewrite n bank (r % 384) (key % 2))
    ((lost.filter fun k => k / 2 = r).foldl meet s, (bank, d) :: x.2)) (s, [])).1

/-- SRAMCFG_WRITE (09 R198): a write that takes effect starts a class rewrite of 3,072 cycles; one that has passed its test
takes effect (18 R405). -/
def execSramcfgWrite (n : Nat) (v : W64) (s : State) : Out :=
  if !s.accepted.contains (.sramcfgWrite n v) && (bits v 0 2 = 3 || !s.canRewrite n) then .next s
  else
    let s := (s.landed (.sramcfgWrite n v)).modTile n fun t =>
      { t.setRg 0x030 (w64 (bits v 0 2 + 4)) with rewriteFrom := some t.cls }
    .next ((s.rewriteMeets n).schedule (s.now + 3072) prioWrite (.classRewriteEnd n))

/-- The cairn logs every line of tile SRAM that a class rewrite writes (18 R431). -/
def Tile.cairnAll (t : Tile) : Tile :=
  if t.cairn.isNone then t else (List.range (0x6C000 / 256)).foldl (fun t i => t.cairnSram (256 * i)) t

/-- CLASS_REWRITE_END (09 R198): every mark is cleared, and the extra region reads 0. -/
def execClassRewriteEnd (n : Nat) (s : State) : Out :=
  .next (s.modTile n fun t =>
    let t := t.cairnAll
    { t.setRg 0x030 (putBits (t.rg 0x030) 2 1 0) with
      sram := t.sram.filter (fun p => p.1 < extraBase), marks := [], markSeen := [], rewriteFrom := none })

/-! ## Meanings of the operations -/

/-- LD_N8 (09 R190). -/
def execLdN8 (u : Twin) (s : State) : Out := s.loadOp u (.plain 1)

/-- LD_N16 (09 R190). -/
def execLdN16 (u : Twin) (s : State) : Out := s.loadOp u (.plain 2)

/-- LD_N32 (09 R190). -/
def execLdN32 (u : Twin) (s : State) : Out := s.loadOp u (.plain 4)

/-- LD_X64 (09 R190). -/
def execLdX64 (u : Twin) (s : State) : Out := s.loadOp u (.plain 8)

/-- LD_S8 (09 R190). -/
def execLdS8 (u : Twin) (s : State) : Out := s.loadOp u (.plain 1) 8

/-- LD_S16 (09 R190). -/
def execLdS16 (u : Twin) (s : State) : Out := s.loadOp u (.plain 2) 16

/-- LD_S32 (09 R190). -/
def execLdS32 (u : Twin) (s : State) : Out := s.loadOp u (.plain 4) 32

/-- LD_B128 (09 R190). -/
def execLdB128 (u : Twin) (s : State) : Out := s.loadOp u (.plain 16)

/-- LD_B256 (09 R190). -/
def execLdB256 (u : Twin) (s : State) : Out := s.loadOp u (.plain 32)

/-- LD_B512 (09 R190). -/
def execLdB512 (u : Twin) (s : State) : Out := s.loadOp u (.plain 64)

/-- LD_B1024 (09 R190). -/
def execLdB1024 (u : Twin) (s : State) : Out := s.loadOp u (.plain 128)

/-- LD_M1024 (09 R190). -/
def execLdM1024 (u : Twin) (s : State) : Out := s.loadOp u .masked

/-- LD_SD32 (09 R190). -/
def execLdSd32 (u : Twin) (s : State) : Out := s.loadOp u .strided

/-- LD_FL64 (09 R194). -/
def execLdFl64 (u : Twin) (s : State) : Out := s.farLoad u 8

/-- LD_FL1024 (09 R194). -/
def execLdFl1024 (u : Twin) (s : State) : Out := s.farLoad u 128

/-- ST_B8 (09 R191). -/
def execStB8 (u : Twin) (s : State) : Out := s.storeOp u (.plain 1)

/-- ST_B16 (09 R191). -/
def execStB16 (u : Twin) (s : State) : Out := s.storeOp u (.plain 2)

/-- ST_B32 (09 R191). -/
def execStB32 (u : Twin) (s : State) : Out := s.storeOp u (.plain 4)

/-- ST_B64 (09 R191). -/
def execStB64 (u : Twin) (s : State) : Out := s.storeOp u (.plain 8)

/-- ST_B128 (09 R191). -/
def execStB128 (u : Twin) (s : State) : Out := s.storeOp u (.plain 16)

/-- ST_B256 (09 R191). -/
def execStB256 (u : Twin) (s : State) : Out := s.storeOp u (.plain 32)

/-- ST_B512 (09 R191). -/
def execStB512 (u : Twin) (s : State) : Out := s.storeOp u (.plain 64)

/-- ST_B1024 (09 R191). -/
def execStB1024 (u : Twin) (s : State) : Out := s.storeOp u (.plain 128)

/-- ST_M1024 (09 R191). -/
def execStM1024 (u : Twin) (s : State) : Out := s.storeOp u .masked

/-- ST_SD32 (09 R191). -/
def execStSd32 (u : Twin) (s : State) : Out := s.storeOp u .strided

end Sys2Proof.Machine
end

