-- ==== Sys2Proof/Machine/Tsw.lean ====
section
/-!
DEFINITION. The `tsw` socket: copies between tile SRAM and the memories of the chain (11 R246 to R251).
-/

namespace Sys2Proof.Machine

/-! ## Operand fields (11 R248). Operations by opcode: 0 tsin, 1 tsout, 2 tscopy, 3 tsfill, 4 scin, 5 scout, 6 wbin,
7 wbout. -/

def Tsw.tokp (x : Tsw) : Nat := bits x.opo 0 6
def Tsw.toka (x : Tsw) : Nat := bits x.opo 6 6
def Tsw.count (x : Tsw) : Nat := bits x.opo 12 12 + 1
def Tsw.seq (x : Tsw) : Nat := bits x.opo 24 16
def Tsw.row (x : Tsw) : Nat := bits x.opp 0 12
def Tsw.col (x : Tsw) : Nat := bits x.opp 12 9
def Tsw.len (x : Tsw) : Nat := 4 * (bits x.opp 21 7 + 1)
def Tsw.drow (x : Tsw) : Nat := bits x.opp 28 12
def Tsw.dcol (x : Tsw) : Nat := bits x.opp 40 9
def Tsw.waddr (x : Tsw) : Nat := bits x.opp 0 21
def Tsw.addr (x : Tsw) : Nat := bits x.tv 0 32
def Tsw.pitch (x : Tsw) : Nat := bits x.tv 32 20
def Tsw.fill (x : Tsw) : Nat := bits x.tv 0 32

def Tsw.isWb (x : Tsw) : Bool := x.op = 6 || x.op = 7

/-- Whether the operation reads, or writes, tile SRAM. -/
def Tsw.readsSram (x : Tsw) : Bool := x.op = 0 || x.op = 4 || x.op = 6
def Tsw.writesSram (x : Tsw) : Bool := x.op = 1 || x.op = 5 || x.op = 7

/-- Units: rows, or the parts of a weight-buffer copy in 512-byte-aligned rows (11 R247). -/
def Tsw.units (x : Tsw) : Nat :=
  if x.isWb then (x.waddr + 64 * x.count - 1) / 512 - x.waddr / 512 + 1 else x.count

/-- First byte and bytes of unit i of a weight-buffer copy, from its start. -/
def Tsw.wbOff (x : Tsw) (i : Nat) : Nat := if i = 0 then 0 else (x.waddr / 512 + i) * 512 - x.waddr
def Tsw.wbLen (x : Tsw) (i : Nat) : Nat :=
  min (64 * x.count) ((x.waddr / 512 + i + 1) * 512 - x.waddr) - x.wbOff i

/-- The tile SRAM bytes of unit i: first address and number. -/
def Tsw.sramAt (x : Tsw) (i : Nat) : Nat × Nat :=
  match x.op with
  | 0 => (x.addr + i * x.pitch, x.len)
  | 1 => (x.addr + i * x.pitch, x.len)
  | 4 => (x.addr + i * x.pitch, 32)
  | 5 => (x.addr + i * x.pitch, 64)
  | 6 => (x.addr + x.wbOff i, x.wbLen i)
  | 7 => (x.addr + x.wbOff i, x.wbLen i)
  | _ => (0, 0)

/-! ## The tests at the trigger (11 R249) -/

/-- Whether a bit that must be 0 is set, low bits of aligned fields included. -/
def Tsw.badBits (x : Tsw) : Bool :=
  let seqUsed := x.op = 0 || x.op = 2 || x.op = 3 || x.op = 4
  let lens := x.op < 4
  let oBad := !zeroFrom x.opo 40 || (!seqUsed && x.seq ≠ 0)
  let pBad :=
    if x.isWb then !zeroFrom x.opp 21 || x.waddr % 64 ≠ 0
    else if x.op = 2 then !zeroFrom x.opp 49 || x.col % 4 ≠ 0 || x.dcol % 4 ≠ 0
    else if lens then !zeroFrom x.opp 28 || x.col % 4 ≠ 0
    else !zeroFrom x.opp 12
  let tBad :=
    if x.isWb then !zeroFrom x.tv 32 || x.addr % 64 ≠ 0
    else if x.op = 2 then x.tv ≠ 0#64
    else if x.op = 3 then !zeroFrom x.tv 32
    else !zeroFrom x.tv 52 || x.addr % 4 ≠ 0 || x.pitch % 4 ≠ 0
  oBad || pBad || tBad

/-- The highest tile SRAM byte a tsw operation touches; the units rise. -/
def Tsw.sramTop (x : Tsw) : Nat :=
  let l := x.sramAt (x.units - 1)
  l.1 + l.2 - 1

/-- The detail with which an operation fails, if it does. A tile of a chain in use that holds no slot of it fails with 0x6
too, where the rules name a withdrawn chain and the waymark tile alone (01 R16, R18; DESIGN CHOICE, log entry 128). -/
def State.tswFail (s : State) (x : Tsw) : Option Nat :=
  let lens := x.op < 4
  if x.badBits then some 0x1
  else if !x.isWb && (decide (4095 < x.row + x.count - 1) || (lens && decide (512 < x.col + x.len))
      || (x.op = 2 && (decide (4095 < x.drow + x.count - 1) || decide (512 < x.dcol + x.len)))) then some 0x2
  else if x.isWb && decide (0x200000 < x.waddr + 64 * x.count) then some 0x3
  else if (x.readsSram || x.writesSram) && decide (extraBase ≤ x.sramTop) then some 0x4
  else if x.tokp ≠ 63 && x.tokp = x.toka then some 0x5
  else if !s.chainUsable s.hand.tile || (s.slotOfTile s.hand.tile).isNone then some 0x6
  else none

/-- The operation that the trigger in hand names. -/
def State.tswForm (s : State) (op : Nat) : Tsw :=
  { op := op, ctx := s.hand.ctx, slot := s.hand.slot, firing := s.hc.firing, opo := s.opo .tsw, opp := s.opp .tsw
    tv := s.tv, issued := s.now, started := none, left := 0, buf := [], side := 0#288, err := none, errAux := 0#64, errAt := none }

/-- TSWACC, then the region check as an untagged access, then TOKDUP. -/
def State.checkTsw (s : State) (op : Nat) : Option Raise :=
  let x := s.tswForm op
  match s.tswFail x with
  | some d => some (s.raise .tswacc d)
  | none =>
    let region :=
      if isRoutine s.hand.ctx && (x.readsSram || x.writesSram) then
        s.ht.regionFail s.hand.ctx x.writesSram none x.addr x.sramTop
      else none
    match region with
    | some d => some (s.raise .region d)
    | none => s.tokdup x.tokp

/-- A trigger of the socket: the produced token becomes pending and the operation waits for its start. -/
def State.tswOp (s : State) (op : Nat) : Out :=
  s.operate (s.checkTsw op) fun s =>
    let x := s.tswForm op
    (s.produce s.hand.tile x.tokp 5 s.hand.ctx).modEng s.hand.tile fun e => { e with tsw := some x }

/-! ## The run of an operation (11 R250) -/

/-- The banks that n bytes from an address touch, with the bytes of each. -/
def banksOf (a n : Nat) : List (Nat × List Nat) :=
  let l := (List.range n).map (a + ·)
  (dedup (l.map sramBank)).map fun b => (b, l.filter fun x => sramBank x = b)

/-- Fixes the accesses of one stage of a unit, and counts them. -/
def State.tswBanks (s : State) (n e : Nat) (x : Tsw) (kind : UnitKind) (from' : Nat) : State :=
  let (a, len) := x.sramAt e
  let bs := banksOf a len
  let s := s.modEng n fun g => { g with tsw := g.tsw.map fun y => { y with left := bs.length } }
  bs.foldl (fun s (b, _) =>
    s.schedule (wheelCycle from' 6 b) prioRead (.tswUnitAccess n { e := e, kind := kind, j := b })) s

/-- Fixes unit e's access to the chain's memory after cycle prev. -/
def State.tswChainLater (s : State) (n e prev : Nat) : State :=
  let g := tswGrant prev ((s.slotOfTile n).getD 0)
  s.schedule g prioRead (.tswUnitAccess n { e := e, kind := .chain, j := 0 })

/-- Starts unit e after cycle prev, or fixes completion where there is none. -/
def State.tswUnit (s : State) (n : Nat) (x : Tsw) (e prev : Nat) : State :=
  if x.units ≤ e then s.schedule (prev + 1) prioDone (.tswComplete n)
  else if x.readsSram then s.tswBanks n e x .read (prev + 1)
  else s.tswChainLater n e prev

/-- Whether the operation of a tile starts in this cycle (11 R250, 18 R416). -/
def State.tswReady (s : State) (n : Nat) : Bool :=
  let t := s.tile n
  match t.eng.tsw with
  | none => false
  | some x => x.started.isNone && decide (x.issued < s.now) && !t.frozen && t.tokReady s.now x.toka

/-- TSW_START (11 R250). -/
def execTswStart (n : Nat) (s : State) : Out :=
  match (s.tile n).eng.tsw with
  | none => .fault .noSuchStep
  | some x =>
    let x := { x with started := some s.now }
    .next (((s.modEng n fun e => { e with tsw := some x }).event n 0x06 x.ctx 3).tswUnit n x 0 (s.now - 1))

/-- Notes the errors an access consumed: the first cause decides (11 R251); each is charged at once. -/
def State.tswErrors (s : State) (n : Nat) (x : Tsw) (cause : Cause) (detail : Nat) (es : List (Bool × Nat)) : State :=
  let (s, rep) := s.chargeAll n x.ctx cause detail es x.errAt
  s.modEng n fun g => { g with tsw := g.tsw.map fun y =>
    let e := joinErr (y.err, y.errAux) rep
    { y with err := e.1, errAux := e.2, errAt := firstAt x.errAt es } }

/-- The bytes gathered for a unit, in address order. -/
def Tsw.gathered (x : Tsw) (a n : Nat) : List Byte := (List.range n).map fun i => spGet 0#8 x.buf (a + i)

/-- The bytes of the side word as `scout` stores them (11 R247). -/
def sideBytes (w : BitVec 288) : List Byte :=
  (List.range 32).map (fun i => BitVec.ofNat 8 (sideScale w i)) ++ leBytes 2 (sideDseq w) ++ leBytes 2 (sideSseq w)
    ++ List.replicate 28 0#8

/-- A bank read of unit e. -/
def State.tswRead (s : State) (n : Nat) (x : Tsw) (a : UnitAct) : State :=
  let (a0, len) := x.sramAt a.e
  let as := ((banksOf a0 len).filter (fun b => b.1 = a.j)).flatMap (·.2)
  let data := as.map fun b => (b, memGet (s.tile n).sram b)
  let (s, es) := s.sramRead n 6 as
  let s := s.tswErrors n x (lostCause (s.tile n).cls) 0x1 es
  let s := s.modEng n fun g => { g with tsw := g.tsw.map fun y =>
    { y with buf := data.foldl (fun m p => spPut m p.1 p.2) y.buf, left := y.left - 1 } }
  if x.left ≤ 1 then s.tswChainLater n a.e s.now else s

/-- A bank write of unit e. -/
def State.tswWrite (s : State) (n : Nat) (x : Tsw) (a : UnitAct) : State :=
  let (a0, len) := x.sramAt a.e
  let as := ((banksOf a0 len).filter (fun b => b.1 = a.j)).flatMap (·.2)
  let s := s.modTile n fun t => t.sramWrite 6 (as.map fun b => (b, spGet 0#8 x.buf b))
  let s := s.modEng n fun g => { g with tsw := g.tsw.map fun y => { y with left := y.left - 1 } }
  if x.left ≤ 1 then s.tswUnit n x (a.e + 1) s.now else s

/-- What a unit writes into the chain's memory: fixed here, written with this cycle's side-port writes (11 R244). -/
def State.tswChainRead (s : State) (n : Nat) (x : Tsw) (e : Nat) : State :=
  let c := chainOf n
  let j := (s.slotOfTile n).getD 0
  let row := x.row + e
  let (a0, len) := x.sramAt e
  let keep (s : State) (bs : List Byte) (base : Nat) : State :=
    s.modEng n fun g => { g with tsw := g.tsw.map fun y =>
      { y with buf := (bs.zipIdx).foldl (fun m p => spPut m (base + p.2) p.1) [] } }
  match x.op with
  | 1 =>
    let (s, es) := s.getTs c agTsw j (segKeys row x.col x.len)
    keep (s.tswErrors n x .uncorr 0x2 es) ((s.chain c).rowBytes row x.col x.len) a0
  | 2 =>
    let (s, es) := s.getTs c agTsw j (segKeys row x.col x.len)
    keep (s.tswErrors n x .uncorr 0x2 es) ((s.chain c).rowBytes row x.col x.len) 0
  | 5 =>
    let (s, es) := s.getTs c agTsw j [sideKey row]
    keep (s.tswErrors n x .uncorr 0x2 es) (sideBytes ((s.chain c).sideOf row)) a0
  | 7 =>
    let wa := x.waddr + x.wbOff e
    let (s, es) := s.getWb c agTsw j (lineKeys wa len)
    keep (s.tswErrors n x .uncorr 0x2 es) (memBytes (s.chain c).wb wa len) a0
  | _ => s

/-- The chain-memory write of a unit, at the side port. -/
def State.tswChainWrite (s : State) (n : Nat) (x : Tsw) (e : Nat) : State :=
  let c := chainOf n
  let j := (s.slotOfTile n).getD 0
  let (a0, len) := x.sramAt e
  let tag (s : State) (row : Nat) : State :=
    s.putSide c agTsw j row (putBits ((s.chain c).sideOf row) 0 16 x.seq) false
  match x.op with
  | 0 => tag (s.putTs c agTsw j (x.row + e) x.col (x.gathered a0 len)) (x.row + e)
  | 2 => tag (s.putTs c agTsw j (x.drow + e) x.dcol (x.gathered 0 x.len)) (x.drow + e)
  | 3 =>
    let bs := (List.range x.len).map fun i => BitVec.ofNat 8 (x.fill >>> (8 * (i % 4)))
    tag (s.putTs c agTsw j (x.row + e) x.col bs) (x.row + e)
  | 4 =>
    let w := (s.chain c).sideOf (x.row + e)
    let v := putBits (putBits w 32 256 (ofLe (x.gathered a0 32))) 16 16 x.seq
    s.putSide c agTsw j (x.row + e) v false
  | 6 => s.putWb c agTsw j (x.waddr + x.wbOff e) (x.gathered a0 len) (some (n, x.tokp))
  | _ => s

/-- TSW_UNIT_ACCESS (11 R250): a bank access of unit e, which `mx.tcsave` puts off by 8 cycles (10 R220), as a class
rewrite does (09 R198), or its
chain-memory access: its read with j = 0, its write with j = 1. -/
def execTswUnitAccess (n : Nat) (a : UnitAct) (s : State) : Out :=
  match (s.tile n).eng.tsw with
  | none => .fault .noSuchStep
  | some x =>
    let taken : Bool :=
      (s.tile n).busy || (match (s.tile n).eng.tcsave with | some (c, _) => c == s.now | none => false)
    match a.kind with
    | .chain =>
      .next (if a.j = 0 then
          (s.tswChainRead n x a.e).schedule s.now prioSide (.tswUnitAccess n { a with j := 1 })
        else
          let s := s.tswChainWrite n x a.e
          if x.writesSram then s.tswBanks n a.e x .write (s.now + 1) else s.tswUnit n x (a.e + 1) s.now)
    | .read => .next (if taken then s.schedule (s.now + 8) prioRead (.tswUnitAccess n a) else s.tswRead n x a)
    | .write => .next (if taken then s.schedule (s.now + 8) prioRead (.tswUnitAccess n a) else s.tswWrite n x a)

/-- TSW_COMPLETE (11 R250, R251). -/
def execTswComplete (n : Nat) (s : State) : Out :=
  match (s.tile n).eng.tsw with
  | none => .fault .noSuchStep
  | some x =>
    let s := ((s.modEng n fun e => { e with tsw := none }).tokenDone n x.tokp).event n 0x07 x.ctx (3 + x.tokp * 2 ^ 4)
    .next (match x.err with
      | none => s
      | some c =>
        s.raiseEngine n x.ctx x.firing 3
          { cause := c, slot := 15, detail := bits x.errAux 48 16, aux := w64 (bits x.errAux 0 48), eng := false })

/-! ## Operations (11 R247) -/

/-- TSIN (11 R247). -/
def execTsin (s : State) : Out := s.tswOp 0

/-- TSOUT (11 R247). -/
def execTsout (s : State) : Out := s.tswOp 1

/-- TSCOPY (11 R247). -/
def execTscopy (s : State) : Out := s.tswOp 2

/-- TSFILL (11 R247). -/
def execTsfill (s : State) : Out := s.tswOp 3

/-- SCIN (11 R247). -/
def execScin (s : State) : Out := s.tswOp 4

/-- SCOUT (11 R247). -/
def execScout (s : State) : Out := s.tswOp 5

/-- WBIN (11 R247). -/
def execWbin (s : State) : Out := s.tswOp 6

/-- WBOUT (11 R247). -/
def execWbout (s : State) : Out := s.tswOp 7

end Sys2Proof.Machine
end

