-- ==== Sys2Proof/Machine/Aes.lean ====
section
/-! DEFINITION. Memory encryption: XTS-AES-256 of IEEE 1619 on a line of 64 bytes (17 R381). The cipher is that of FIPS
197, and the places of the two keys in a slot's material are PRESUMED (log entry 19). -/

namespace Sys2Proof.Aes

/-- The S-box and its inverse, 32 bytes a number, byte 0 lowest. -/
def sbox : List Nat :=
  [ 0xc072a49cafa2d4adf04759fa7dc982ca76abd7fe2b670130c56f6bf27b777c63,
    0x75b227ebe28012079a059618c323c7041531d871f1e5a534ccf73f362693fdb7,
    0xcf584c4a39becb6a5bb1fc20ed00d153842fe329b3d63b52a05a6e1b1a2c8309,
    0xd2f3ff1021dab6bcf5389d928f40a351a89f3c507f02f94585334d43fbaaefd0,
    0xdb0b5ede14b8ee4688902a22dc4f816073195d643d7ea7c41744975fec130ccd,
    0x08ae7a65eaf4566ca94ed58d6d37c8e779e4959162acd3c25c2406490a3a32e0,
    0x9e1dc186b95735610ef6034866b53e708a8bbd4b1f74dde8c6b4a61c2e2578ba,
    0x16bb54b00f2d99416842e6bf0d89a18cdf2855cee9871e9b948ed9691198f8e1 ]

def invSbox : List Nat :=
  [ 0xcbe9dec444438e3487ff2f9b8239e37cfbd7f3819ea340bf38a53630d56a0952,
    0x25d18b6d49a25b76b224d92866a12e084ec3fa420b954cee3d23c2a632947b54,
    0x849d8da75746155edab9edfd5048706c92b6655dcc5ca4d41698688664f6f872,
    0x6b8a130103bdafc1020f3fca8f1e2cd00645b3b80558e4f70ad3bc8c00abd890,
    0x6edf751ce837f9e28535ade72274ac9673e6b4f0cecff297eadc674f4111913a,
    0xf45acd78fec0db9a2079d2c64b3e56fc1bbe18aa0e62b76f89c5291d711af147,
    0xef9cc9939f7ae52d0d4ab519a97f51605fec8027591012b131c7078833a8dd1f,
    0x7d0c2155631469e126d677ba7e042b17619953833cbbebc8b0f52aae4d3be0a0 ]

/-- A byte through a table. -/
def sub (t : List Nat) (b : Nat) : Nat := (t.getD (b / 32) 0 >>> (8 * (b % 32))) % 256

/-- A byte times x in the field of the cipher. -/
def xtime (b : Nat) : Nat := if b < 128 then 2 * b else (2 * b) ^^^ 0x11B

/-- A byte times 9, 11, 13 or 14, as bit i of m adds b times x^i. -/
def times (m b : Nat) : Nat :=
  let b2 := xtime b
  let b4 := xtime b2
  let b8 := xtime b4
  (if m.testBit 0 then b else 0) ^^^ (if m.testBit 1 then b2 else 0) ^^^ (if m.testBit 2 then b4 else 0)
    ^^^ (if m.testBit 3 then b8 else 0)

/-- Bytes added in the field. -/
def add (a b : List Nat) : List Nat := a.zipWith (fun x y => x ^^^ y) b

/-- Words of the key schedule until there are n more. -/
def expand : Nat → List (List Nat) → List (List Nat)
  | 0, ws => ws
  | n + 1, ws =>
    let i := ws.length
    let p := ws.getD (i - 1) []
    let t :=
      if i % 8 = 0 then add ((p.drop 1 ++ p.take 1).map (sub sbox)) [2 ^ (i / 8 - 1), 0, 0, 0]
      else if i % 8 = 4 then p.map (sub sbox)
      else p
    expand n (ws ++ [add (ws.getD (i - 8) []) t])

/-- The 15 round keys of 16 bytes of a key of 32 bytes. -/
def roundKeys (key : List Nat) : List (List Nat) :=
  let ws := expand 52 ((List.range 8).map fun i => (key.drop (4 * i)).take 4)
  (List.range 15).map fun r => ((ws.drop (4 * r)).take 4).flatten

/-- Row r of the state is turned by r columns, by 4 - r for the inverse. -/
def shiftRows (turn : Nat → Nat) (b : List Nat) : List Nat :=
  (List.range 16).map fun i => b.getD (4 * ((i / 4 + turn (i % 4)) % 4) + i % 4) 0

/-- Each column times the matrix whose first row is m. -/
def mixColumns (m : List Nat) (b : List Nat) : List Nat :=
  (List.range 16).map fun i =>
    (List.range 4).foldl (fun a k => a ^^^ times (m.getD ((k + 4 - i % 4) % 4) 0) (b.getD (i / 4 * 4 + k) 0)) 0

/-- AES-256 of a block. -/
def encrypt (rk : List (List Nat)) (b : List Nat) : List Nat :=
  let k (r : Nat) : List Nat := rk.getD r []
  let step (b : List Nat) : List Nat := shiftRows id (b.map (sub sbox))
  let b := (List.range 13).foldl (fun b r => add (mixColumns [2, 3, 1, 1] (step b)) (k (r + 1))) (add b (k 0))
  add (step b) (k 14)

/-- The inverse of AES-256. -/
def decrypt (rk : List (List Nat)) (b : List Nat) : List Nat :=
  let k (r : Nat) : List Nat := rk.getD r []
  let step (b : List Nat) : List Nat := (shiftRows (fun r => 4 - r) b).map (sub invSbox)
  let b := (List.range 13).foldl (fun b r => mixColumns [14, 11, 13, 9] (add (step b) (k (13 - r)))) (add b (k 14))
  add (step b) (k 0)

/-- A number as n bytes, byte 0 lowest. -/
def bytesOf (n v : Nat) : List Nat := (List.range n).map fun i => v >>> (8 * i) % 256

def natOf (b : List Nat) : Nat := packNat 8 b

/-- The next tweak (IEEE 1619): times x modulo the polynomial of 128 bits. -/
def nextTweak (t : Nat) : Nat := if t < 2 ^ 127 then 2 * t else (2 * t - 2 ^ 128) ^^^ 0x87

/-- XTS over the four blocks of a line with a block cipher under the data key. -/
def xts (f : List Nat → List Nat) : Nat → Nat → Nat → List Nat
  | 0, _, _ => []
  | n + 1, t, v =>
    let w := bytesOf 16 t
    add (f (add (bytesOf 16 (v % 2 ^ 128)) w)) w ++ xts f n (nextTweak t) (v / 2 ^ 128)

/-- The first tweak of a line: its number under the second key. -/
def tweak (material : BitVec 512) (line : Nat) : Nat :=
  natOf (encrypt (roundKeys (bytesOf 32 (bits material 256 256))) (bytesOf 16 line))

/-- The round keys of the data key. -/
def dataKeys (material : BitVec 512) : List (List Nat) := roundKeys (bytesOf 32 (bits material 0 256))

/-- A line under a slot's material, and back. -/
def cipherLine (material : BitVec 512) (line : Nat) (v : BitVec 512) : BitVec 512 :=
  BitVec.ofNat 512 (natOf (xts (encrypt (dataKeys material)) 4 (tweak material line) v.toNat))

def decipherLine (material : BitVec 512) (line : Nat) (v : BitVec 512) : BitVec 512 :=
  BitVec.ofNat 512 (natOf (xts (decrypt (dataKeys material)) 4 (tweak material line) v.toNat))

end Sys2Proof.Aes
end

