-- ==== Sys2Proof/Machine/Xlate.lean ====
section
/-!
DEFINITION. Physical memory, granules, memory keys, page tables, translation and the structures that cache it
(17 R366 to R399).
-/

namespace Sys2Proof.Machine

/-! ## The physical map (17 R366, R367) -/

def hostBase : Nat := 2 ^ 51

def isHbm (pa : Nat) : Bool := pa < 2 ^ 39
def isHost (pa : Nat) : Bool := hostBase ≤ pa && pa < 2 ^ 52

/-- The granule of an HBM address. -/
def granuleOf (pa : Nat) : Nat := pa / 2 ^ 30

def State.granule (s : State) (g : Nat) : Granule := (spFind s.granules g).getD Granule.reset

def State.setGranule (s : State) (g : Nat) (x : Granule) : State := { s with granules := spPut s.granules g x }

/-- Backed bytes of a granule of a class (17 R367). -/
def backedBytes (cls : Nat) : Nat := if cls = 0 then 0x38000000 else if cls = 1 then 0x3E000000 else 0x40000000

/-- Whether a physical address's granule accepts accesses: online, or begun to drain in this very cycle (17 R387). -/
def State.online (s : State) (pa : Nat) : Bool :=
  let g := s.granule (granuleOf pa)
  g.st = 0 || (g.st = 1 && g.drainAt = s.now)

/-- Whether a physical address holds memory that accepts accesses. -/
def State.backed (s : State) (pa : Nat) : Bool :=
  isHost pa || (isHbm pa && decide (pa % 2 ^ 30 < backedBytes (s.granule (granuleOf pa)).cls))

/-- The class of the memory at an address: host memory counts as P (13 R286). -/
def State.pmClass (s : State) (pa : Nat) : Nat := if isHbm pa then (s.granule (granuleOf pa)).cls else 0

/-! ## Lines (17 R381, R383 to R385) -/

/-- The mark of a line, if its class checks it; host memory counts as P (13 R286). -/
def State.lineMark (s : State) (pa : Nat) : Option Mark :=
  if s.pmClass pa ≠ 2 then spFind s.hbmMark (pa / 64) else none

/-- Logs an error in `hbmerr` (17 R385). -/
def State.logHbm (s : State) (kind agent line : Nat) : State :=
  let o := s.hubRg 0x067
  s.setHubRg 0x067 (if bitOf o 63 then putBits o 62 1 1
    else w64 (2 ^ 63 + kind * 2 ^ 60 + agent * 2 ^ 58 + line % 2 ^ 46))

/-- The kind `hbmerr` gives a mark in a class. -/
def markKind (m : Mark) (cls : Nat) : Nat := match m with | .corrected => 0 | .lost => if cls = 1 then 1 else 2

/-- The stored bits of the line of an address. -/
def State.lineRaw (s : State) (pa : Nat) : BitVec 512 :=
  BitVec.ofNat 512 (if isHbm pa then memNat s.hbm (pa / 64 * 64) 64 else memNat s.host ((pa - hostBase) / 64 * 64) 64)

def State.setLineRaw (s : State) (pa : Nat) (v : BitVec 512) : State :=
  if isHbm pa then { s with hbm := memPut s.hbm (pa / 64 * 64) (leBytes 64 v.toNat) }
  else { s with host := memPut s.host ((pa - hostBase) / 64 * 64) (leBytes 64 v.toNat) }

/-- The line of an address under a key; key 0 applies no encryption. -/
def State.linePlain (s : State) (pa key : Nat) : BitVec 512 :=
  if key = 0 then s.lineRaw pa
  else Aes.decipherLine (spGet 0#512 s.hub.keys key) (pa / 64) (s.lineRaw pa)

def State.setLinePlain (s : State) (pa key : Nat) (v : BitVec 512) : State :=
  s.setLineRaw pa (if key = 0 then v else Aes.cipherLine (spGet 0#512 s.hub.keys key) (pa / 64) v)

/-- Whether an address lies in the 640 KiB of the tile image with key k (18 R419). -/
def inImage (k pa : Nat) : Bool := decide (k * 0x10000 ≤ pa ∧ pa < k * 0x10000 + 0xA0000)

/-- Whether an address lies in the area that holds the entries of a tile's cairn (18 R430). -/
def Tile.inCairn (t : Tile) (pa : Nat) : Bool :=
  let r := t.rg 0x078
  t.cairn.isSome && decide (bits r 20 32 * 2 ^ 20 ≤ pa ∧ pa < (bits r 20 32 + bits r 56 8) * 2 ^ 20)

/-- The tile whose open cairn has a line in its area, with bytes that are not known. -/
def State.cairnOver (s : State) (pa : Nat) : Option Nat :=
  (s.tiles.find? fun p => p.2.inCairn pa && !(match p.2.cairn with | some c => c.laid.contains (pa / 64) | none => true)).map (·.1)

/-- Whether a line holds what the architecture gives no layout for: part of a tile image, or of a cairn, that has been
neither read nor written since (log entry 14). -/
def State.unlaid (s : State) (pa : Nat) : Bool :=
  (s.images.any fun i => inImage i.1 pa && !i.2.laid.contains (pa / 64)) || (s.cairnOver pa).isSome

/-- A line of an image or of a cairn whose bytes are known from now on. -/
def State.noteLaid (s : State) (pa : Nat) : State :=
  let s : State := { s with
    images := s.images.map fun i => if inImage i.1 pa then (i.1, { i.2 with laid := i.2.laid.insert (pa / 64) }) else i }
  match s.cairnOver pa with
  | none => s
  | some n => s.modTile n fun t => { t with cairn := t.cairn.map fun c => { c with laid := c.laid.insert (pa / 64) } }

/-- The bytes of a line that has no layout are open, and stay as the first access finds them. -/
def State.layLine (s : State) (pa : Nat) : State :=
  if s.unlaid pa then
    let (v, s) := s.drawBits
    (s.setLineRaw pa (BitVec.ofNat 512 v.toNat)).noteLaid pa
  else s

/-- The bytes of a line as a read finds them. -/
def State.lineFound (s : State) (pa key : Nat) : State × BitVec 512 :=
  let s := s.layLine pa
  (s, s.linePlain pa key)

/-- Reads n bytes of one line with the error it reports: whether corrected, its address. -/
def State.pmRead (s : State) (pa n key agent : Nat) : State × List Byte × List (Bool × Nat) :=
  let (s, v) := s.lineFound pa key
  let bs := (leBytes 64 v.toNat).drop (pa % 64) |>.take n
  match s.lineMark pa with
  | none => (s, bs, [])
  | some m =>
    (if isHbm pa then s.logHbm (markKind m (s.pmClass pa)) agent (pa / 64) else s, bs,
      [(decide (m = .corrected), pa / 64 * 64)])

/-- A monitored line is written after the arming: the waymark context that watches it wakes in the next cycle
(18 R408). -/
def State.wakeMonitors (s : State) (line : Nat) : State :=
  allCtx.foldl (fun s k =>
    match spFind s.hub.monitors (ctxNum k) with
    | some m => if m.line = line && decide (m.armed < s.now) then s.schedule (s.now + 1) prioUpdate (.mwaitWake k 1) else s
    | none => s) s

/-- Writes bytes of one line from an address; an image with a line that is written is no longer usable; `bad` marks the
line as holding data with an error (13 R287, 09 R197). -/
def State.pmWrite (s : State) (pa key : Nat) (bs : List Byte) (bad : Bool) : State :=
  let s := s.layLine pa
  let old := leBytes 64 (s.linePlain pa key).toNat
  let o := pa % 64
  let new := old.take o ++ bs ++ old.drop (o + bs.length)
  let s := (s.setLinePlain pa key (BitVec.ofNat 512 (ofLe new))).wakeMonitors (pa / 64)
  let s : State := { s with
    images := s.images.map fun i => if inImage i.1 pa then (i.1, { i.2 with usable := false }) else i }
  let l := pa / 64
  let keep := bs.length < 64 && spFind s.hbmMark l = some .lost
  { s with
    hbmMark := if s.pmClass pa = 2 then spErase s.hbmMark l
      else if bad || keep then spPut s.hbmMark l .lost else spErase s.hbmMark l }

/-! ## Table entries (17 R368 to R372) -/

def teV (m : W64) : Bool := bitOf m 63
def teLeaf (m : W64) : Bool := bitOf m 62
def teNext (m : W64) : Nat := bits m 12 40
def teSize (m : W64) : Nat := bits m 58 4
def teKey (m : W64) : Nat := bits m 52 6

/-- The bytes of a page of size s. -/
def pageBytes (s : Nat) : Nat := 4096 * 4 ^ s

/-- The index at a level. -/
def levelIndex (va lvl : Nat) : Nat := if lvl = 5 then va / 2 ^ 52 % 32 else va / 2 ^ (12 + 8 * lvl) % 256

/-- A pointer entry is well formed at its level. -/
def pointerOk (m c : W64) (lvl : Nat) : Bool := lvl ≠ 0 && bits m 52 10 = 0 && bits m 0 12 = 0 && c = 0#64

/-- A leaf entry is well formed at its level. -/
def leafOk (m c : W64) (lvl : Nat) : Bool :=
  teSize m / 4 = lvl && lvl ≤ 3 && (teNext m * 4096) % pageBytes (teSize m) = 0 && bits m 0 6 = 0 && bits c 48 16 = 0

/-! ## Requests and their caches (17 R373, R376, R377) -/

/-- A translation fault: cause and detail. -/
structure XFault where
  cause : Cause
  detail : Nat
deriving DecidableEq, Repr

/-- What a translation is made for: kind 0 read, 1 write, 2 code. -/
structure XReq where
  tile : Nat
  va : Nat
  kind : Nat
  ptbase : W64
  keyperm : W64
  clsfloor : Nat
  sys : Bool
deriving DecidableEq, Repr

/-- A physical address, its key, the size of its page, and whether its leaf is global. -/
structure XResult where
  pa : Nat
  key : Nat
  size : Nat
  glob : Bool
deriving DecidableEq, Repr

def XReq.asid (q : XReq) : Nat := bits q.ptbase 48 16
def XReq.gen (q : XReq) : Nat := bits q.ptbase 40 8
def XReq.root (q : XReq) : Nat := bits q.ptbase 0 40

/-- Whether a cached leaf matches a request (17 R377). -/
def TlbEntry.matches' (e : TlbEntry) (q : XReq) : Bool :=
  q.va / pageBytes e.size = e.vbase && (e.glob || (e.asid = q.asid && e.gen = q.gen))

/-- Whether a walk-cache entry matches: it points to the table of its level for the request's prefix. -/
def WalkEntry.matches' (e : WalkEntry) (q : XReq) : Bool :=
  e.asid = q.asid && e.gen = q.gen && q.va / 2 ^ (20 + 8 * e.level) = e.vbase

/-- Enters an entry into a structure of n places; which entry a full one gives up is open. -/
def State.enter {α : Type} (s : State) (l : List α) (n : Nat) (x : α) : State × List α :=
  if l.length < n then (s, l ++ [x])
  else
    let (d, s) := s.draw l.length
    (s, l.eraseIdx d ++ [x])

/-- One of the elements of a list, or none: an open choice, since an entry may have been replaced at any time. -/
def State.pickSome {α : Type} (s : State) (l : List α) : State × Option α :=
  if l.isEmpty then (s, none)
  else
    let (d, s) := s.draw (l.length + 1)
    (s, l[d]?)

/-- The furlong that serves a tile's translations; the waymark tile's own second level in the hub counts as furlong 48
(01 R18). -/
def xFurlong (n : Nat) : Nat := if n < 1728 then furlongOf n else 48

/-- The leaves a tile's own TLB holds for a kind. -/
def Tile.tlbOf (t : Tile) (kind : Nat) : List TlbEntry := if kind = 2 then t.itlb else t.dtlb

/-- Fills the TLBs with a leaf. -/
def State.fillTlbs (s : State) (q : XReq) (e : TlbEntry) : State :=
  let t := s.tile q.tile
  let (s, l) := s.enter (t.tlbOf q.kind) (if q.kind = 2 then 8 else 32) e
  let s := s.modTile q.tile fun t => if q.kind = 2 then { t with itlb := l } else { t with dtlb := l }
  let f := xFurlong q.tile
  let (s, l) := s.enter (s.furlong f).tlb 2048 e
  s.modFurlong f fun x => { x with tlb := l }

/-- Enters a pointer into the furlong's walk cache. -/
def State.fillWalk (s : State) (q : XReq) (e : WalkEntry) : State :=
  let f := xFurlong q.tile
  let (s, l) := s.enter (s.furlong f).walk 256 e
  s.modFurlong f fun x => { x with walk := l }

/-- A walk meets an uncorrectable error in a table: the frame is poisoned (17 R393). -/
def State.poisonFrame (s : State) (q : XReq) (frame : Nat) : State :=
  let s := s.modHub fun h =>
    if h.poison.contains frame || 64 ≤ h.poison.length then h else { h with poison := h.poison ++ [frame] }
  s.modFurlong (xFurlong q.tile) fun x =>
    { x with walk := x.walk.map fun e => if e.frame = frame then { e with poison := true } else e }

/-- A cached leaf as a walk forms it. -/
def leafEntry (q : XReq) (m c : W64) : TlbEntry :=
  { asid := q.asid, gen := q.gen, glob := bitOf m 11, vbase := q.va / pageBytes (teSize m), size := teSize m, main := m
    comp := c }

/-- Whether a frame may hold a table: in an online P-class granule (17 R368). -/
def State.tableAt (s : State) (pa : Nat) : Bool := isHbm pa && s.online pa && s.pmClass pa = 0 && s.backed pa

/-- The walk from the table at a frame and level (17 R374); the levels bound it. -/
def State.walk (s : State) (q : XReq) : Nat → Nat → State × Except XFault TlbEntry
  | lvl, tf =>
    let pa := tf * 4096 + 16 * levelIndex q.va lvl
    if !s.tableAt pa then (s, .error ⟨.pageflt, 0x4⟩)
    else if s.hub.poison.contains tf then (s, .error ⟨.ptpoison, 0x1⟩)
    else
      let (s, bs, es) := s.pmRead pa 16 0 1
      if es.any (fun e => !e.1) then (s.poisonFrame q tf, .error ⟨.ptpoison, 0x1⟩)
      else
        let m := w64 (ofLe (bs.take 8))
        let c := w64 (ofLe (bs.drop 8))
        if !teV m then (s, .error ⟨.pageflt, 0x2⟩)
        else if teLeaf m then
          if leafOk m c lvl then (s.fillTlbs q (leafEntry q m c), .ok (leafEntry q m c)) else (s, .error ⟨.pageflt, 0x3⟩)
        else if !pointerOk m c lvl then (s, .error ⟨.pageflt, 0x3⟩)
        else
          match lvl with
          | 0 => (s, .error ⟨.pageflt, 0x3⟩)
          | l + 1 =>
            let s := s.fillWalk q
              { asid := q.asid, gen := q.gen, level := l, vbase := q.va / 2 ^ (20 + 8 * l), frame := teNext m, poison := false }
            s.walk q l (teNext m)

/-- The leaf of a request: from the tile's TLB, the second level, or a walk that may begin at a cached pointer. -/
def State.leafFor (s : State) (q : XReq) : State × Except XFault TlbEntry :=
  let second := (s.furlong (xFurlong q.tile)).tlb
  match s.pickSome (((s.tile q.tile).tlbOf q.kind ++ second).filter (·.matches' q)) with
  | (s, some e) => (s, .ok e)
  | (s, none) =>
    let cached := (s.furlong (xFurlong q.tile)).walk.filter (·.matches' q)
    match s.pickSome cached with
    | (s, some w) => if w.poison && s.tableAt (w.frame * 4096) then (s, .error ⟨.ptpoison, 0x1⟩) else s.walk q w.level w.frame
    | (s, none) => s.walk q 5 q.root

/-- The tests on a leaf, in the order of 17 R374. -/
def State.checkLeaf (s : State) (q : XReq) (e : TlbEntry) : Except XFault XResult :=
  let m := e.main
  let pa := teNext m * 4096 + q.va % pageBytes e.size
  let grpOk := q.tile ≥ 1728 || bitOf e.comp (furlongOf q.tile)
  if !grpOk then .error ⟨.perm, 0x3⟩
  else if !(bitOf m (if q.kind = 0 then 7 else if q.kind = 1 then 8 else 9)) then .error ⟨.perm, 0x1⟩
  else if !bitOf m 6 && !q.sys then .error ⟨.perm, 0x2⟩
  else if !(bitOf q.keyperm (teKey m) && bitOf (s.hubRg 0x064) (teKey m)) then .error ⟨.perm, 0x4⟩
  else if !s.backed pa || (isHbm pa && !s.online pa) then .error ⟨.pageflt, 0x5⟩
  else if isHbm pa && q.clsfloor < s.pmClass pa then .error ⟨.classdeny, 0x1⟩
  else if q.kind = 1 && bitOf m 10 && isHbm pa && s.pmClass pa ≠ 0 then .error ⟨.classdeny, 0x2⟩
  else .ok { pa := pa, key := teKey m, size := e.size, glob := e.glob }

/-- Translation (17 R374). -/
def State.translate (s : State) (q : XReq) : State × Except XFault XResult :=
  if 2 ^ 57 ≤ q.va then (s, .error ⟨.pageflt, 0x1⟩)
  else
    match s.leafFor q with
    | (s, .error f) => (s, .error f)
    | (s, .ok e) => (s, s.checkLeaf q e)

/-- The walk of the tables as they stand, without caches and without effects: the class of the memory an address maps
to, for the class test of a copy at its issue (log entry 33). -/
def State.peekClass (s : State) (q : XReq) : Option Nat :=
  let s0 := { s with furlongs := [], tiles := [] }
  match s0.walk q 5 q.root with
  | (s', .ok e) =>
    match s'.checkLeaf q e with
    | .ok r => some (s.pmClass r.pa)
    | .error _ => none
  | (_, .error _) => none

end Sys2Proof.Machine
end

