-- ==== Sys2Proof/Machine/Copy.lean ====
section
/-!
DEFINITION. The copy engine of a tile: headers of slot 13, the nest of elements, the spaces, cycles, faults, errors,
suspension and the `ce` socket (13 R275 to R291).
-/

namespace Sys2Proof.Machine

/-! ## The parameter image (13 R276). Kinds: 1 copy, 2 xcopy, 3 fill, 4 place, 5 code. -/

def Copy.c (x : Copy) (i : Nat) : W64 := x.image.getD i 0#64

def Copy.ssp (x : Copy) : Nat := bits (x.c 2) 0 4
def Copy.dsp (x : Copy) : Nat := bits (x.c 2) 4 4
def Copy.ndm (x : Copy) : Nat := bits (x.c 2) 8 4
def Copy.esz (x : Copy) : Nat := bits (x.c 2) 12 4
def Copy.irq (x : Copy) : Bool := bitOf (x.c 2) 17
def Copy.progress (x : Copy) : Nat := bits (x.c 13) 0 48
def Copy.seq (x : Copy) : Nat := bits (x.c 12) 0 16

/-- Bytes of an element. -/
def Copy.size (x : Copy) : Nat := 2 ^ x.esz

/-- The count of dimension d; 1 at or above ndm + 1. -/
def Copy.cnt (x : Copy) (d : Nat) : Nat :=
  if x.ndm < d then 1
  else if d < 4 then bits (x.c 3) (16 * d) 16 + 1 else bits (x.c 4) (16 * (d - 4)) 16 + 1

/-- The byte strides of dimension d; those of a dimension of count 1 are ignored. -/
def Copy.sstr (x : Copy) (d : Nat) : Int := if x.cnt d = 1 then 0 else sbits (x.c (5 + d)) 0 32
def Copy.dstr (x : Copy) (d : Nat) : Int := if x.cnt d = 1 then 0 else sbits (x.c (5 + d)) 32 32

/-- The number of elements (13 R277). -/
def Copy.total (x : Copy) : Nat := ((List.range 6).map x.cnt).foldl (· * ·) 1

/-- Index d of element e, dimension 0 varying fastest. -/
def Copy.index (x : Copy) (e d : Nat) : Nat := e / (((List.range d).map x.cnt).foldl (· * ·) 1) % x.cnt d

/-- Source and destination address of element e, exact. -/
def Copy.sa (x : Copy) (e : Nat) : Int :=
  ((List.range 6).map fun d => (x.index e d : Int) * x.sstr d).foldl (· + ·) ((x.c 0).toNat : Int)
def Copy.da (x : Copy) (e : Nat) : Int :=
  ((List.range 6).map fun d => (x.index e d : Int) * x.dstr d).foldl (· + ·) ((x.c 1).toNat : Int)

/-- The lowest and highest byte over the nest of one endpoint (13 R279). -/
def Copy.lowByte (x : Copy) (base : W64) (str : Nat → Int) : Int :=
  ((List.range 6).map fun d => min 0 (((x.cnt d : Int) - 1) * str d)).foldl (· + ·) (base.toNat : Int)
def Copy.highByte (x : Copy) (base : W64) (str : Nat → Int) : Int :=
  ((List.range 6).map fun d => max 0 (((x.cnt d : Int) - 1) * str d)).foldl (· + ·) (base.toNat : Int) + x.size - 1

/-- Whether a command has a source space. -/
def Copy.hasSrc (x : Copy) : Bool := x.kind ≠ 3

/-! ## The tests at the header (13 R279) -/

/-- The bytes of a space (13 R275). -/
def spaceBytes (cls sp : Nat) : Nat :=
  match sp with
  | 0 => lastPresent cls + 1
  | 1 => 0x800000
  | 2 => 2 ^ 57
  | 3 => 0x200000
  | 4 => 0x200000
  | 5 => 0x20000
  | 6 => 0x600
  | _ => 0x80

/-- Whether an endpoint leaves its space's range or touches an absent byte. -/
def Copy.outside (x : Copy) (cls sp : Nat) (base : W64) (str : Nat → Int) (at' : Nat → Int) : Bool :=
  let lo := x.lowByte base str
  let hi := x.highByte base str
  decide (lo < 0) || decide ((spaceBytes cls sp : Int) ≤ hi)
    || (sp = 0 && cls = 1 && decide ((extraBase : Int) ≤ hi)
      && (List.range x.total).any fun e => (List.range x.size).any fun b => !sramPresent 1 ((at' e).toNat + b))

/-- Whether an address or a stride of an endpoint breaks the alignment. -/
def Copy.unaligned (x : Copy) (base : W64) (str : Nat → Int) : Bool :=
  let a := min x.size 64
  base.toNat % a ≠ 0 || (List.range 6).any fun d => str d % a ≠ 0

def Copy.spacesOk (x : Copy) (wm : Bool) : Bool :=
  let s := x.ssp
  let d := x.dsp
  let ok := match x.kind with
    | 1 => decide (s ≤ 4) && decide (d ≤ 4)
    | 2 => decide (s ≤ 4) && decide (d ≤ 4)
    | 3 => decide (d ≤ 4)
    | 4 => (s = 0 || decide (2 ≤ s ∧ s ≤ 4)) && d = 1
    | _ => decide (s ≤ 4) && decide (5 ≤ d)
  ok && !(wm && ((x.hasSrc && s = 1) || d = 1))

/-- Whether a bit that must be 0 is set, or a field is outside its range. -/
def Copy.badFields (x : Copy) : Bool :=
  !zeroFrom (x.c 2) 18 || bitOf (x.c 2) 16 || !zeroFrom (x.c 4) 32 || !zeroFrom (x.c 12) 16 || !zeroFrom (x.c 13) 48
    || decide (12 < x.esz) || decide (5 < x.ndm) || decide (7 < x.dsp) || (x.hasSrc && decide (7 < x.ssp))

/-- The translation request of an address of a command. -/
def Copy.req (x : Copy) (n va kind : Nat) : XReq :=
  { tile := n, va := va, kind := kind, ptbase := x.ptbase, keyperm := x.keyperm, clsfloor := bits x.clsfloor 0 2
    sys := x.sys }

/-- The class an endpoint's address counts as (13 R286); none where its translation faults. -/
def State.endClass (s : State) (n : Nat) (x : Copy) (sp a kind : Nat) : Option Nat :=
  if sp = 0 then some (s.tile n).cls else if sp = 2 then s.peekClass (x.req n a kind) else some 0

/-- Whether an element of a copy has a weaker destination than its source (13 R286). -/
def State.weakens (s : State) (n : Nat) (x : Copy) : Bool :=
  if x.ssp ≠ 2 && x.dsp ≠ 2 then
    match s.endClass n x x.ssp 0 0, s.endClass n x x.dsp 0 1 with
    | some a, some b => decide (a < b)
    | _, _ => false
  else
    (List.range (x.total - x.progress)).any fun i =>
      (List.range ((x.size + 63) / 64)).any fun l =>
        let e := x.progress + i
        match s.endClass n x x.ssp ((x.sa e).toNat + 64 * l) 0, s.endClass n x x.dsp ((x.da e).toNat + 64 * l) 1 with
        | some a, some b => decide (a < b)
        | _, _ => false

/-- The physical tile a `ce.code` names. -/
def State.codeTarget (s : State) (x : Copy) : Nat := s.physical (bits (x.c 11) 0 11)

/-- Whether a code load or a place breaks its conditions (13 R279 detail 0x6). -/
def State.badTarget (s : State) (x : Copy) : Bool :=
  match x.kind with
  | 5 =>
    let l := bits (x.c 11) 0 11
    let t := s.tile (s.codeTarget x)
    !x.sys || decide (1535 < l) || s.withdrawn (l / 8) || t.dead
      || !(t.frozen || allCtx.all fun k => (t.ctx k).run = .idle || (t.ctx k).run = .trapped)
  | 4 => bits (x.c 11) 0 48 = 0
  | _ => false

/-- The detail with which a header fails, if it does. -/
def State.ceFail (s : State) (n : Nat) (x : Copy) : Option Nat :=
  let cls := (s.tile n).cls
  let chain := (x.hasSrc && (x.ssp = 3 || x.ssp = 4)) || x.dsp = 3 || x.dsp = 4
  if x.badFields then some 0x1
  else if !x.spacesOk (n = waymark) then some 0x2
  else if (x.hasSrc && x.outside cls x.ssp (x.c 0) x.sstr x.sa) || x.outside cls x.dsp (x.c 1) x.dstr x.da then some 0x3
  else if (x.hasSrc && x.unaligned (x.c 0) x.sstr) || x.unaligned (x.c 1) x.dstr then some 0x4
  else if x.kind = 1 && s.weakens n x then some 0x5
  else if s.badTarget x then some 0x6
  else if 4 ≤ (s.tile n).eng.copies.length then some 0x7
  else if x.total ≤ x.progress then some 0x8
  else if chain && (!s.chainUsable n || (s.slotOfTile n).isNone) then some 0x9
  else none

/-- The command a header in hand forms. -/
def State.ceForm (s : State) (kind : Nat) (h : Hdr) : Copy :=
  let c := s.hc
  let img := (List.range 14).map fun i => spGet 0#64 c.regs.c i
  { kind := kind, h := h, ctx := s.hand.ctx, firing := c.firing, image := img, issued := s.now, ptbase := c.cr 0x060
    keyperm := c.cr 0x061, clsfloor := c.cr 0x063, sys := c.isSys, started := none, susp := false
    done := bits (img.getD 13 0#64) 0 48, errs := 0, lost := false, firstErr := none, errAux := 0#64, errAt := none, fault := none
    aborted := false, buf := [], bufBad := [], sx := [], dx := [], olds := [], outs := [], resting := false }

/-- TOKDUP, then CEACC. -/
def State.checkCe (s : State) (kind : Nat) (h : Hdr) : Option Raise :=
  match s.tokdup h.tokp.toNat with
  | some r => some r
  | none => (s.ceFail s.hand.tile (s.ceForm kind h)).map fun d => s.raise .ceacc d

/-- Issues a copy header. -/
def State.ceIssue (s : State) (kind : Nat) (h : Hdr) : Out :=
  s.operate (s.checkCe kind h) fun s =>
    let x := s.ceForm kind h
    (s.produce s.hand.tile h.tokp.toNat 3 s.hand.ctx).modEng s.hand.tile fun e => { e with copies := e.copies ++ [x] }

/-- CE_COPY (13 R278). -/
def execCeCopy (h : Hdr) (s : State) : Out := s.ceIssue 1 h

/-- CE_XCOPY (13 R278). -/
def execCeXcopy (h : Hdr) (s : State) : Out := s.ceIssue 2 h

/-- CE_FILL (13 R278). -/
def execCeFill (h : Hdr) (s : State) : Out := s.ceIssue 3 h

/-- CE_PLACE (13 R278). -/
def execCePlace (h : Hdr) (s : State) : Out := s.ceIssue 4 h

/-- CE_CODE (13 R278). -/
def execCeCode (h : Hdr) (s : State) : Out := s.ceIssue 5 h

/-! ## Units and cycles (13 R282) -/

/-- The bytes up to the end of the block of b bytes that holds address a. -/
def toEnd (a b : Nat) : Nat := b - a % b

/-- The width of the block that one access of a space reaches at an address. -/
def unitWidth (sp a : Nat) : Nat :=
  match sp with
  | 0 => if a < extraBase then 128 else 16
  | 3 => 512
  | 4 => 512
  | 6 => 8
  | 7 => 8
  | _ => 64

/-- The units of n bytes from an address: offset in the element and bytes; fuel bounds their number. -/
def unitsFrom (sp a : Nat) : Nat → Nat → Nat → List (Nat × Nat)
  | 0, _, _ => []
  | fuel + 1, off, n =>
    if n = 0 then []
    else
      let w := min n (toEnd (a + off) (unitWidth sp (a + off)))
      (off, w) :: unitsFrom sp a fuel (off + w) (n - w)

def unitsOf (sp a n : Nat) : List (Nat × Nat) := unitsFrom sp a n 0 n

/-- Whether a command runs in exact cycles. -/
def Copy.exact (x : Copy) : Bool :=
  let loc (sp : Nat) : Bool := sp = 0 || sp = 3 || sp = 4
  (!x.hasSrc || loc x.ssp) && loc x.dsp

/-- The cycle of an access after cycle prev: the requester's or the engine's slot, at an open distance where the command
does not run in exact cycles; a line of the staging slice comes within 128 cycles (13 R284, log entry 107). -/
def State.ceCycle (s : State) (n : Nat) (x : Copy) (sp a prev : Nat) : State × Nat :=
  let (d, s) := if x.exact then (0, s) else if sp = 1 then s.draw 128 else s.delay
  let j := (s.slotOfTile n).getD 0
  (s, if sp = 0 then wheelCycle (prev + d + 1) 4 (sramBank a)
    else if sp = 3 || sp = 4 then copyGrant (prev + d) j
    else prev + d + 1)

/-- Whether a command writes to a space without exact cycles, in any order (16 R353). -/
def Copy.apart (x : Copy) : Bool := !(x.dsp = 0 || x.dsp = 3 || x.dsp = 4)

/-- Fixes unit j of element e, reading or writing, after cycle prev. -/
def State.ceUnit (s : State) (n : Nat) (x : Copy) (e : Nat) (kind : UnitKind) (j prev : Nat) : State :=
  let read : Bool := kind = .read
  let sp := if read then x.ssp else x.dsp
  let a := (if read then x.sa e else x.da e).toNat
  let off := ((unitsOf sp a x.size).getD j (0, 0)).1
  let (s, c) := s.ceCycle n x sp (a + off) prev
  s.schedule c (if read then prioRead else prioSide) (.ceElementMove n { e := e, kind := kind, j := j })

/-- Begins element e after cycle prev: with its first read, a fill with its first write in order, or at once. -/
def State.ceBegin (s : State) (n : Nat) (x : Copy) (e prev : Nat) : State :=
  if x.hasSrc then s.ceUnit n x e .read 0 prev
  else if x.apart then s.schedule (prev + 1) prioRead (.ceElementMove n { e := e, kind := .read, j := 0 })
  else s.ceUnit n x e .write 0 prev

/-- The executing command, or the next one. -/
def Tile.ceHead (t : Tile) : Option Copy := t.eng.copies.head?

/-- Changes the first command. -/
def State.modCopy (s : State) (n : Nat) (f : Copy → Copy) : State :=
  s.modEng n fun e => { e with copies := match e.copies with | x :: l => f x :: l | [] => [] }

/-- Whether the engine's next command starts in this cycle (13 R280, R288). -/
def State.ceReady (s : State) (n : Nat) : Bool :=
  let t := s.tile n
  match t.ceHead with
  | none => false
  | some x => x.started.isNone && !t.frozen && (x.susp || (decide (x.issued < s.now) && t.hdrReady s.now x.h))

/-- CE_COMMAND_START (13 R280). -/
def execCeCommandStart (n : Nat) (s : State) : Out :=
  match (s.tile n).ceHead with
  | none => .fault .noSuchStep
  | some x =>
    let x := { x with started := some s.now, susp := false }
    .next (((s.modCopy n fun _ => x).event n 0x06 x.ctx 1).ceBegin n x x.done (s.now - 1))

/-! ## Stops (13 R277, R281, R285, R288) -/

/-- The last stop point reached after `done` elements. -/
def Copy.stopPoint (x : Copy) : Nat := max x.progress (if x.done = x.total then x.done else x.done * x.size / 4096 * 4096 / x.size)

/-- Whether the end of element e is a stop point. -/
def Copy.isStop (x : Copy) (e : Nat) : Bool := (e + 1) * x.size % 4096 = 0 || e + 1 = x.total

/-- The image with progress at the last stop point reached. -/
def Copy.imageNow (x : Copy) : List W64 := x.image.set 13 (putBits (x.c 13) 0 48 x.stopPoint)

/-- Writes an image to `c0` to `c13` of its context as a hardware update. -/
def State.writeImage (s : State) (n : Nat) (k : Ctx) (img : List W64) : State :=
  s.modTile n fun t =>
    let t := t.modCtx k fun c => { c with regs := img.zipIdx.foldl (fun r v => r.write .c v.2 v.1.toNat) c.regs }
    (List.range 14).foldl (fun t i => t.noteUpdate s.now k (regIdent .c i)) t

/-- The status word of a command (13 R281). -/
def Copy.status (x : Copy) (code : Nat) : BitVec 32 :=
  BitVec.ofNat 32 (code * 2 ^ 24 + x.h.tokp.toNat * 2 ^ 18 + ctxNum x.ctx * 2 ^ 16 + satNat 0xFFFF x.errs)

def State.recordCe (s : State) (n : Nat) (x : Copy) (code : Nat) : State :=
  s.modCtx n x.ctx fun c => { c with lastCe := x.status code }

/-- CE_SUSPEND (13 R288): at a stop point of a frozen tile. -/
def execCeSuspend (n : Nat) (s : State) : Out :=
  match (s.tile n).ceHead with
  | none => .fault .noSuchStep
  | some x =>
    let img := x.imageNow
    let y := { x with image := img, started := none, susp := true, done := bits (img.getD 13 0#64) 0 48 }
    .next (((s.modCopy n fun _ => y).writeImage n x.ctx img).recordCe n y 0x06)

/-- Whether the executing command goes no further: it met a fault, moved its last element, or stands at a stop point it
has reached, aborted or on a frozen tile (13 R281, R285, R288, R291). -/
def Copy.halts (x : Copy) (frozen : Bool) : Bool :=
  x.fault.isSome || decide (x.done = x.total)
    || (decide (x.progress < x.done) && x.isStop (x.done - 1) && (x.aborted || frozen))

/-- Goes on with the next element, or, once every write is performed, completes or suspends (13 R281, R288). -/
def State.ceGoesOn (s : State) (n : Nat) : State :=
  match (s.tile n).ceHead with
  | none => s
  | some x =>
    if !x.halts (s.tile n).frozen then s.ceBegin n x x.done s.now
    else if !x.outs.isEmpty then s.modCopy n fun y => { y with resting := true }
    else if x.fault.isSome || x.aborted || x.done = x.total then s.schedule (s.now + 1) prioDone (.ceCommandComplete n)
    else s.schedule (s.now + 1) prioUpdate (.ceSuspend n)

/-- Ends element e in the engine's hand, its writes on their way `ws`. -/
def State.ceElementEnd (s : State) (n : Nat) (e : Nat) (ws : List OutWrite) : State :=
  (s.modCopy n fun x =>
    { x with done := e + 1, buf := [], bufBad := [], sx := [], dx := [], outs := x.outs ++ ws }).ceGoesOn n

/-- A translation fault ends the command at its element (13 R285). -/
def State.ceFault (s : State) (n : Nat) (f : XFault) (va : Nat) : State :=
  let code := match f.cause with | .perm => 0x03 | .classdeny => 0x04 | _ => 0x02
  let r : Raise := { cause := f.cause, slot := 15, detail := f.detail, aux := w64 va, eng := false }
  (s.modCopy n fun x => { x with fault := some (code, r) }).ceGoesOn n

/-- The causes that a command raises at its completion: ERRBUDGET that its errors met, and its fault; without a fault
the cause of its errors (13 R281, 17 R392; that a fault takes the place of PARITY and UNCORR alone is DEDUCED, log
137). -/
def Copy.causes (x : Copy) : List Raise :=
  let err := x.firstErr.map fun c =>
    { cause := c, slot := 15, detail := bits x.errAux 48 16, aux := w64 (bits x.errAux 0 48), eng := false }
  if x.aborted then []
  else match x.fault with
    | none => err.toList
    | some (_, r) => (err.toList.filter fun y => y.cause = .errbudget) ++ [r]

/-- CE_COMMAND_COMPLETE (13 R281): token, status word, interrupt, and the causes of a fault and of errors. -/
def execCeCommandComplete (n : Nat) (s : State) : Out :=
  match (s.tile n).ceHead with
  | none => .fault .noSuchStep
  | some x =>
    let code := if x.aborted then 0x01
      else match x.fault with
        | some (c, _) => c
        | none => if x.lost then 0x05 else 0x00
    let s := s.modEng n fun e => { e with copies := e.copies.drop 1 }
    let s := if x.fault.isSome || x.aborted then s.writeImage n x.ctx x.imageNow else s
    let s := ((s.tokenDone n x.h.tokp.toNat).recordCe n x code).event n 0x07 x.ctx (1 + x.h.tokp.toNat * 2 ^ 4)
    let s := if x.irq then s.raiseIrq n x.ctx x.firing { src := 1, tok := x.h.tokp.toNat, status := (x.status code).toNat }
      else s
    .next (x.causes.foldl (fun s r => s.raiseEngine n x.ctx x.firing 1 r) s)

/-! ## Moving an element (13 R277, R283 to R287) -/

/-- Takes up the errors that a unit read consumed: each is charged; the first one names the cause; places whose data
held a lost error are noted. -/
def State.ceErrors (s : State) (n : Nat) (x : Copy) (cause : Cause) (detail : Nat) (es : List (Bool × Nat))
    (bad : List Nat) : State :=
  let (s, rep) := s.chargeAll n x.ctx cause detail es x.errAt
  s.modCopy n fun y =>
    let e := joinErr (y.firstErr, y.errAux) rep
    { y with
      errs := y.errs + es.length, lost := y.lost || es.any (fun e => !e.1), bufBad := y.bufBad ++ bad, firstErr := e.1
      errAux := e.2, errAt := firstAt x.errAt es }

/-- The addresses at which an element of n bytes meets its pages of 4 KiB. -/
def elementPages (a n : Nat) : List Nat :=
  (List.range ((a + n - 1) / 4096 + 1 - a / 4096)).map fun i => max a ((a / 4096 + i) * 4096)

/-- Translates the pages of an endpoint in space 2. -/
def State.xlatePages (s : State) (n : Nat) (x : Copy) (kind : Nat) : List Nat → State × Except XFault (List XPage)
  | [] => (s, .ok [])
  | a :: l =>
    let q := x.req n a kind
    match s.translate q with
    | (s, .error f) => (s, .error f)
    | (s, .ok r) =>
      let p : XPage := { asid := q.asid, glob := r.glob, vpage := a / 4096, size := r.size, pa := r.pa - a % 4096, key := r.key }
      match s.xlatePages n x kind l with
      | (s, .ok ps) => (s, .ok (p :: ps))
      | (s, .error f) => (s, .error f)

/-- The page of an address among those translated. -/
def xpageOf (l : List XPage) (a : Nat) : Option XPage := l.find? fun p => p.vpage = a / 4096

/-- Before the first access of element e each of its endpoints in space 2 is translated, the source first (13 R285, 17
R373): whether the element may go on, or has ended the command. -/
def State.ceTranslate (s : State) (n : Nat) (x : Copy) (e : Nat) : State × Bool :=
  let src := if x.hasSrc && x.ssp = 2 then elementPages (x.sa e).toNat x.size else []
  let dst := if x.dsp = 2 then elementPages (x.da e).toNat x.size else []
  match s.xlatePages n x (if x.kind = 5 then 2 else 0) src with
  | (s, .error f) => (s.ceFault n f (x.sa e).toNat, false)
  | (s, .ok ps) =>
    match s.xlatePages n x 1 dst with
    | (s, .error f) => (s.ceFault n f (x.da e).toNat, false)
    | (s, .ok qs) => (s.modCopy n fun y => { y with sx := ps, dx := qs }, true)

/-- A write to a line that the host may cache waits for the host's response to a snoop that invalidates it (16 R364). -/
def State.snoopFirst (s : State) (n : Nat) (a : UnitAct) (line : Nat) : State :=
  let s := ({ s with hostCached := spErase s.hostCached line } : State).send (.backInvalidate line)
  let (d, s) := s.delay
  s.schedule (s.now + 1 + d) prioSide (.ceElementMove n a)

/-- A key of a byte of a space, for the bytes a command has itself overwritten. -/
def overKey (sp a : Nat) : Nat := sp * 2 ^ 60 + a

/-- Chooses the old value for bytes this command has overwritten, where which one it reads is not architectural
(13 R277). -/
def State.oldOrNew (s : State) (x : Copy) (sp a : Nat) (bs : List Byte) : State × List Byte :=
  if x.exact || x.olds.isEmpty then (s, bs)
  else
    let r := bs.zipIdx.foldl (fun (r : State × List Byte) bi =>
      match spFind x.olds (overKey sp (a + bi.2)) with
      | none => (r.1, bi.1 :: r.2)
      | some old =>
        let (d, s) := r.1.draw 2
        (s, (if d = 0 then bi.1 else old) :: r.2)) (s, [])
    (r.1, r.2.reverse)

/-- Bytes off to off + w - 1 of the element in hand: those read, or the fill pattern repeated. -/
def Copy.data (x : Copy) (off w : Nat) : List Byte :=
  if x.hasSrc then
    (List.range w).map fun i => ((x.buf.find? fun b => b.1 = off + i).map (·.2)).getD 0#8
  else (List.range w).map fun i => BitVec.ofNat 8 ((x.c 11).toNat >>> (8 * ((off + i) % 8)))

/-- The writes of element e, one for each unit; a code load whose element held an error writes zeros (13 R287). -/
def Copy.writes (x : Copy) (e : Nat) : List OutWrite :=
  let base := (x.da e).toNat
  (unitsOf x.dsp base x.size).zipIdx.map fun u =>
    let off := u.1.1
    let w := u.1.2
    { e := e, j := u.2, addr := base + off, page := xpageOf x.dx (base + off)
      bytes := if 5 ≤ x.dsp && !x.bufBad.isEmpty then List.replicate w 0#8 else x.data off w
      bad := x.bufBad.any fun o => decide (off ≤ o) && decide (o < off + w) }

/-- A cycle in which a write on its way performs, `waiting` of them before it: for the slice so soon that a line performs
in every 128 cycles (13 R284), else at an open distance (16 R353, log entry 107). -/
def State.outCycle (s : State) (x : Copy) (waiting : Nat) : State × Nat :=
  let (d, s) := if x.dsp = 1 then s.draw (128 * (waiting + 1)) else s.delay
  (s, s.now + 1 + d)

/-- Sends the writes of element e on their way, and goes on. -/
def State.ceSends (s : State) (n : Nat) (x : Copy) (e : Nat) : State :=
  let ws := x.writes e
  (ws.zipIdx.foldl (fun s o =>
    let (s, c) := s.outCycle x (x.outs.length + o.2)
    s.schedule c prioSide (.ceElementMove n { e := e, kind := .write, j := o.1.j })) s).ceElementEnd n e ws

/-- What follows the last read of element e: its writes, in the engine's order or on their way. -/
def State.ceGathered (s : State) (n : Nat) (x : Copy) (e : Nat) : State :=
  if x.apart then s.ceSends n (((s.tile n).ceHead).getD x) e else s.ceUnit n x e .write 0 s.now

/-- Puts a read unit into the element's buffer and fixes what follows. -/
def State.ceTaken (s : State) (n : Nat) (x : Copy) (a : UnitAct) (off : Nat) (bs : List Byte) : State :=
  let s := s.modCopy n fun y => { y with buf := y.buf ++ bs.zipIdx.map fun b => (off + b.2, b.1) }
  let us := unitsOf x.ssp (x.sa a.e).toNat x.size
  if a.j + 1 < us.length then s.ceUnit n x a.e .read (a.j + 1) s.now else s.ceGathered n x a.e

/-- Reads unit j of element e from its source. -/
def State.ceRead (s : State) (n : Nat) (x : Copy) (a : UnitAct) : State :=
  let base := (x.sa a.e).toNat
  let (off, w) := (unitsOf x.ssp base x.size).getD a.j (0, 0)
  let at' := base + off
  let c := chainOf n
  let j := (s.slotOfTile n).getD 0
  let whole := (List.range w).map (off + ·)
  match x.ssp with
  | 0 =>
    let t := s.tile n
    let as := (List.range w).map (at' + ·)
    let bs := memBytes t.sram at' w
    let lost := as.filter fun b => match unitOf t.cls b with
      | some k => spFind t.marks k = some .lost
      | none => false
    let (s, es) := s.sramRead n 4 as
    (s.ceErrors n x (lostCause t.cls) 0x1 es (lost.map (· - base))).ceTaken n x a off bs
  | 1 =>
    let f := s.furlong (furlongOf n)
    let bad := spGet false f.mark (at' / 64)
    let (s, bs) := s.oldOrNew x 1 at' (memBytes f.slice at' w)
    (s.ceErrors n x .uncorr 0x2 (if bad then [(false, at' / 64 * 64)] else []) (if bad then whole else [])).ceTaken
      n x a off bs
  | 3 =>
    let ch := s.chain c
    let row := at' / 512
    let ks := segKeys row (at' % 512) w
    let lost := (List.range w).filter fun i => spFind ch.tsMark (segKey row (at' % 512 + i)) = some .lost
    let bs := memBytes ch.ts at' w
    let (s, es) := s.getTs c agCopy j ks
    (s.ceErrors n x .uncorr 0x2 es (lost.map (off + ·))).ceTaken n x a off bs
  | 4 =>
    let ch := s.chain c
    let lost := (List.range w).filter fun i => spFind ch.wbMark ((at' + i) / 64) = some .lost
    let bs := memBytes ch.wb at' w
    let (s, es) := s.getWb c agCopy j (lineKeys at' w)
    (s.ceErrors n x .uncorr 0x2 es (lost.map (off + ·))).ceTaken n x a off bs
  | _ =>
    match xpageOf x.sx at' with
    | none => s
    | some p =>
      let pa := p.pa + at' % 4096
      let (s, bs, es) := s.pmRead pa w p.key 0
      let (s, bs) := s.oldOrNew x 2 pa bs
      let cause := lostCause (s.pmClass pa)
      (s.ceErrors n x cause 0x4 es (if es.any (fun e => !e.1) then whole else [])).ceTaken n x a off bs

/-- Bytes put into a word at a byte offset. -/
def putBytes {w : Nat} (v : BitVec w) (o : Nat) (bs : List Byte) : BitVec w :=
  bs.zipIdx.foldl (fun v b => putBits v (8 * (o + b.2)) 8 b.1.toNat) v

/-- Writes bytes of a staging slice; `bad` marks the line, a whole clean line clears it (13 R287). -/
def Furlong.put (f : Furlong) (a : Nat) (bs : List Byte) (bad : Bool) : Furlong :=
  let keep := bs.length < 64 && spGet false f.mark (a / 64)
  { f with slice := memPut f.slice a bs, mark := spSet false f.mark (a / 64) (bad || keep) }

/-- Keeps the old bytes of what a command overwrites in the slice or in physical memory. -/
def State.keepOlds (s : State) (n : Nat) (x : Copy) (sp a : Nat) (old : List Byte) : State :=
  if x.exact then s
  else s.modCopy n fun y =>
    { y with olds := old.zipIdx.foldl (fun m b =>
        if (spFind m (overKey sp (a + b.2))).isSome then m else spPut m (overKey sp (a + b.2)) b.1) y.olds }

/-- Writes into the code store, the list table or the region table of the target. -/
def State.codeWrite (s : State) (x : Copy) (a : Nat) (bs : List Byte) : State :=
  s.modTile (s.codeTarget x) fun t =>
    match x.dsp with
    | 5 => { t with code := spSet 0#512 t.code (a / 64) (putBytes (spGet 0#512 t.code (a / 64)) (a % 64) bs) }
    | 6 => t.setRg (0x100 + a / 8) (putBytes (t.rg (0x100 + a / 8)) (a % 8) bs)
    | _ => t.setRg (0x040 + a / 8) (putBytes (t.rg (0x040 + a / 8)) (a % 8) bs)

/-- What follows a written unit. -/
def State.ceWritten (s : State) (n : Nat) (x : Copy) (a : UnitAct) : State :=
  let us := unitsOf x.dsp (x.da a.e).toNat x.size
  if a.j + 1 < us.length then s.ceUnit n x a.e .write (a.j + 1) s.now else s.ceElementEnd n a.e []

/-- Writes unit j of element e to its destination, in the engine's order. -/
def State.ceWrite (s : State) (n : Nat) (x : Copy) (a : UnitAct) : State :=
  let base := (x.da a.e).toNat
  let (off, w) := (unitsOf x.dsp base x.size).getD a.j (0, 0)
  let at' := base + off
  let c := chainOf n
  let j := (s.slotOfTile n).getD 0
  let bs := x.data off w
  let badOff := x.bufBad.filter fun o => decide (off ≤ o) && decide (o < off + w)
  let marksAt (ks : List Nat) (m : Sparse Mark) : Sparse Mark := ks.foldl (fun m k => spPut m k .lost) m
  match x.dsp with
  | 0 =>
    let s := s.modTile n fun t =>
      let t := t.sramWrite 4 (bs.zipIdx.map fun b => (at' + b.2, b.1))
      { t with marks := marksAt (dedup (badOff.filterMap fun o => unitOf t.cls (base + o))) t.marks }
    s.ceWritten n x a
  | 3 =>
    let row := at' / 512
    let s := s.putTs c agCopy j row (at' % 512) bs
    let s := s.putSide c agCopy j row (putBits ((s.chain c).sideOf row) 0 16 x.seq) false
    let s := s.modChain c fun ch =>
      { ch with tsMark := marksAt (dedup (badOff.map fun o => segKey row ((base + o) % 512))) ch.tsMark }
    s.ceWritten n x a
  | _ =>
    let s := s.putWb c agCopy j at' bs
    let s := s.modChain c fun ch =>
      { ch with wbMark := marksAt (dedup (badOff.map fun o => (base + o) / 64)) ch.wbMark }
    s.ceWritten n x a

/-- Takes a performed write off the way; a command that waits for its last one goes on. -/
def State.ceArrived (s : State) (n : Nat) (a : UnitAct) : State :=
  let s := s.modCopy n fun y => { y with outs := y.outs.filter fun o => !(o.e = a.e && o.j = a.j) }
  match (s.tile n).ceHead with
  | none => s
  | some y =>
    if y.resting && y.outs.isEmpty then (s.modCopy n fun y => { y with resting := false }).ceGoesOn n else s

/-- Performs a write on its way: to slices, to physical memory, or to the target of a code load. -/
def State.cePerforms (s : State) (n : Nat) (x : Copy) (a : UnitAct) : State :=
  match x.outs.find? fun o => o.e = a.e && o.j = a.j with
  | none => s
  | some o =>
    match x.dsp, o.page with
    | 1, _ =>
      let fs := if x.kind = 4 then (List.range 48).filter (fun f => bitOf (x.c 11) f) else [furlongOf n]
      let old := memBytes (s.furlong (furlongOf n)).slice o.addr o.bytes.length
      let s := fs.foldl (fun s f => s.modFurlong f fun u => u.put o.addr o.bytes o.bad) s
      (s.keepOlds n x 1 o.addr old).ceArrived n a
    | 2, some p =>
      let pa := p.pa + o.addr % 4096
      if spGet false s.hostCached (pa / 64) then s.snoopFirst n a (pa / 64)
      else
        let (s, v) := s.lineFound pa p.key
        let old := (leBytes 64 v.toNat).drop (pa % 64) |>.take o.bytes.length
        ((s.pmWrite pa p.key o.bytes o.bad).keepOlds n x 2 pa old).ceArrived n a
    | 2, none => s.ceArrived n a
    | _, _ => (s.codeWrite x o.addr o.bytes).ceArrived n a

/-- CE_ELEMENT_MOVE (13 R277, R282): one access of the executing command. A tile that froze, or an abort, at a stop point
stops it before the first access of the next element (13 R288, R291); a class rewrite holds accesses of tile SRAM
(09 R198). -/
def execCeElementMove (n : Nat) (a : UnitAct) (s : State) : Out :=
  match (s.tile n).ceHead with
  | none => .fault .noSuchStep
  | some x =>
    let read : Bool := a.kind = .read
    if !read && x.apart then .next (s.cePerforms n x a)
    else
      let first := a.j = 0 && (read || !x.hasSrc)
      if first && x.halts (s.tile n).frozen then .next (s.ceGoesOn n)
      else if (s.tile n).busy && (if read then decide (x.hasSrc ∧ x.ssp = 0) else decide (x.dsp = 0)) then
        .next (s.schedule (s.now + 8) (if read then prioRead else prioSide) (.ceElementMove n a))
      else
        let (s, ok) := if first then s.ceTranslate n x a.e else (s, true)
        let x := ((s.tile n).ceHead).getD x
        .next (if !ok then s
          else if !read then s.ceWrite n x a
          else if x.hasSrc then s.ceRead n x a
          else s.ceGathered n x a.e)

/-! ## The `ce` socket (13 R290, R291) -/

/-- The executing command. -/
def Tile.executing (t : Tile) : Option Copy :=
  match t.ceHead with
  | some x => if x.started.isSome then some x else none
  | none => none

/-- CE_STAT (13 R290). -/
def execCeStat (s : State) : Out :=
  s.operate none fun s =>
    let t := s.ht
    let tok := match t.executing with | some x => x.h.tokp.toNat | none => 63
    s.result .ce (w64 (t.eng.copies.length + b2n t.executing.isSome * 8 + b2n (t.eng.copies.any (·.susp)) * 16 + tok * 32))

/-- The elements a command has finished: those whose writes have all performed. -/
def Copy.finished (x : Copy) : Nat := x.done - (dedup (x.outs.map (·.e))).length

/-- CE_PROG (13 R290). -/
def execCeProg (s : State) : Out :=
  s.operate none fun s => s.result .ce (w64 (match s.ht.executing with | some x => x.finished | none => 0))

/-- CE_LAST (13 R290). -/
def execCeLast (s : State) : Out := s.operate none fun s => s.result .ce (w64 s.hc.lastCe.toNat)

/-- CE_ABORT (13 R291). -/
def execCeAbort (s : State) : Out :=
  s.operate none fun s =>
    let n := s.hand.tile
    let k := s.hand.ctx
    let l := (s.tile n).eng.copies
    let mine (x : Copy) : Bool := x.ctx = k
    let gone := l.filter fun x => mine x && x.started.isNone
    let rest := (l.filter fun x => !(mine x && x.started.isNone)).map fun x =>
      if mine x then { x with aborted := true } else x
    let s := s.modEng n fun e => { e with copies := rest }
    let s := gone.foldl (fun s x =>
      ((s.tokenDoneAt n x.h.tokp.toNat (s.now + 1)).recordCe n x 0x01).event n 0x07 x.ctx (1 + x.h.tokp.toNat * 2 ^ 4)) s
    s.result .ce (w64 (l.filter mine).length)

end Sys2Proof.Machine
end

