-- ==== Sys2Proof/Machine/Packets.lean ====
section
/-! DEFINITION. How packets travel: their flits (14 R292 to R295), who they reach, when they are returned, when they
settle, and what a release form or a fence waits for (14 R296, R304, R305, R316, 15 R326, 16 R357, R358). -/

namespace Sys2Proof.Machine

/-! ## Check codes (log entry 42: the bit order the spec leaves open) -/

/-- One byte of CRC-16 with polynomial 0x1021, most significant bit first. -/
def crc16Byte (c : Nat) (b : Byte) : Nat :=
  (List.range 8).foldl (fun c _ => if 2 ^ 15 ≤ c then ((2 * c) % 2 ^ 16) ^^^ 0x1021 else 2 * c) (c ^^^ (b.toNat * 2 ^ 8))

/-- One byte of the CRC-32 of IEEE 802.3. -/
def crc32Byte (c : Nat) (b : Byte) : Nat :=
  (List.range 8).foldl (fun c _ => if c % 2 = 1 then (c / 2) ^^^ 0xEDB88320 else c / 2) (c ^^^ b.toNat)

def crc32 (bs : List Byte) : Nat := (bs.foldl crc32Byte 0xFFFFFFFF) ^^^ 0xFFFFFFFF

/-- One byte of the CRC-64 of fingerprints and digests, least significant bit first (18 R427). -/
def crc64Byte (c : Nat) (b : Byte) : Nat :=
  (List.range 8).foldl (fun c i =>
    let fb := (c / 2 ^ 63) ^^^ ((b.toNat >>> i) % 2)
    let c := (2 * c) % 2 ^ 64
    if fb = 1 then c ^^^ 0x42F0E1EBA9EA3693 else c) c

/-- Folds bytes into a CRC-64. -/
def crc64 (c : W64) (bs : List Byte) : W64 := w64 (bs.foldl crc64Byte c.toNat)

/-! ## Flits (14 R292, R293) -/

def Fovh.lseq (f : Flit) : Nat := bits f.ovh 8 8
def Fovh.fcls (f : Flit) : Nat := bits f.ovh 6 2
def Fovh.pair (f : Flit) : Nat := 2 * (bits f.ovh 6 2 - 1) + bits f.ovh 5 1
def Fovh.head (f : Flit) : Bool := bitOf f.ovh 4
def Fovh.tail (f : Flit) : Bool := bitOf f.ovh 3
def Fovh.cancel (f : Flit) : Bool := bitOf f.ovh 2

/-- The bytes under the CRC: the data, then overhead bits [7:0] and [15:8]. -/
def flitBytes (f : Flit) : List Byte := leBytes 32 f.data.toNat ++ leBytes 2 f.ovh.toNat

def flitCrc (f : Flit) : Nat := (flitBytes f).foldl crc16Byte 0xFFFF

/-- Whether a flit passes its CRC; one with reserved bits set does not. -/
def flitOk (f : Flit) : Bool := bits f.ovh 16 16 = flitCrc f && bits f.ovh 0 2 = 0

/-- A flit with its link sequence number and its CRC. -/
def sealFlit (f : Flit) (lseq : Nat) : Flit :=
  let f : Flit := { f with ovh := putBits f.ovh 8 8 lseq }
  { f with ovh := putBits f.ovh 16 16 (flitCrc f) }

/-- A control flit; its link sequence number is 0. -/
def controlFlit (ctype cseq : Nat) (stop : BitVec 6) : Flit :=
  sealFlit { data := BitVec.ofNat 256 (ctype * 2 ^ 248 + cseq % 256 * 2 ^ 240 + stop.toNat * 2 ^ 234), ovh := 0#32 } 0

/-! ## Packets as flits (14 R294, R295) -/

/-- The head flit's data bits. -/
def headBits (p : Packet) : BitVec 256 :=
  let pchk := if p.npay = 0#3 then 0 else crc32 (leBytes (p.nbm.toNat + 1) p.payload.toNat)
  (p.ptype ++ p.cls ++ p.vc ++ p.npay ++ p.ddev ++ p.dtile ++ p.sdev ++ p.stile ++ p.nbm ++ p.tag ++ p.reason ++ p.seq
    ++ p.aop ++ p.addr ++ 0#78 ++ BitVec.ofNat 32 pchk)

/-- The packet of a head flit and its payload flits. -/
def packetOf (d : BitVec 256) (pay : List (BitVec 256)) : Packet :=
  { ptype := d.extractLsb' 252 4, cls := d.extractLsb' 250 2, vc := d.extractLsb' 249 1, npay := d.extractLsb' 246 3
    ddev := d.extractLsb' 226 20, dtile := d.extractLsb' 215 11, sdev := d.extractLsb' 195 20
    stile := d.extractLsb' 184 11, nbm := d.extractLsb' 177 7, tag := d.extractLsb' 169 8
    reason := d.extractLsb' 162 7, seq := d.extractLsb' 146 16, aop := d.extractLsb' 142 4, addr := d.extractLsb' 110 32
    payload := BitVec.ofNat 1024 (packNat 256 (pay.map (·.toNat))) }

/-- The flits of a packet, without link sequence numbers. -/
def flitsFor (p : Packet) : List Flit :=
  let o (head tail : Bool) : BitVec 32 :=
    BitVec.ofNat 32 (p.cls.toNat * 2 ^ 6 + p.vc.toNat * 2 ^ 5 + b2n head * 2 ^ 4 + b2n tail * 2 ^ 3)
  let n := p.npay.toNat
  let h : Flit := { data := headBits p, ovh := o true (n = 0) }
  let pay := (List.range n).map fun i =>
    ({ data := p.payload.extractLsb' (256 * i) 256, ovh := o false (i + 1 = n) } : Flit)
  h :: pay

/-- A whole packet of this device at an output. -/
def Sending.whole (p : Packet) : Sending := { pkt := p, left := flitsFor p, src := none, more := false }

/-! ## Who a packet reaches -/

/-- The last device id that names a device (01 R11). -/
def maxDevice : Nat := 786431

/-- The logical number a tile's packets carry: 0x7FF for a tile that holds none (01 R18, log entry 34). -/
def State.ownNumber (s : State) (n : Nat) : Nat := (s.logical n).getD waymark

/-- The physical tile that a logical number names, if it names one (01 R10, R18). -/
def State.destTile (s : State) (l : Nat) : Option Nat :=
  if l = waymark then some waymark else if l < 1536 then some (s.physical l) else none

/-- The reason for which a tile accepts no packet (14 R304, 01 R16, 18 R422, R423). -/
def State.refuses (s : State) (n : Nat) : Option Nat :=
  let t := s.tile n
  if t.dead || (n ≠ waymark && (s.withdrawn (chainOf n) || (s.slotOfTile n).isNone)) then some 0x02
  else if t.halted then some 0x01
  else none

/-! ## Returns and answers (14 R303 to R305) -/

/-- Whether a packet is ever returned. -/
def canReturn (p : Packet) : Bool := p.cls ≠ 3#2 && !([2, 6, 7].contains p.ptype.toNat)

/-- What the aop field of a return holds: the operation of a request with reply, and one of the codes that no operation has
for the other types, by which the source tells them apart (log entry 36). -/
def returnAop (p : Packet) : BitVec 4 :=
  match p.ptype.toNat with
  | 3 => 14#4
  | 4 => p.aop
  | 5 => 15#4
  | _ => 13#4

/-- What the seq field of an answer to a packet holds: its own, but for a remote store, which has none, its class (log entry
36). -/
def answerSeq (p : Packet) : BitVec 16 := if p.ptype = 3#4 then BitVec.ofNat 16 p.cls.toNat else p.seq

/-- The return of a packet with a reason; `whole` where its payload was held whole. Beside tag and nbm it keeps the other
fields of the head but aop (log entry 36). -/
def returnOf (p : Packet) (why : Nat) (whole : Bool) : Packet :=
  let keep := whole && [1, 4, 5].contains p.ptype.toNat
  { p with
    ptype := 2#4, cls := 2#2, vc := 1#1, npay := if keep then p.npay else 0#3, ddev := p.sdev, dtile := p.stile
    sdev := p.ddev, stile := p.dtile, reason := BitVec.ofNat 7 why, seq := answerSeq p, aop := returnAop p
    payload := if keep then p.payload else 0#1024 }

/-- The acknowledgement of a remote store (14 R295, R311; log entry 36). -/
def ackOf (p : Packet) : Packet :=
  { p with
    ptype := 7#4, cls := 2#2, vc := 1#1, npay := 0#3, ddev := p.sdev, dtile := p.stile, sdev := p.ddev, stile := p.dtile
    seq := answerSeq p, payload := 0#1024 }

/-- Whether an answer's kept head fields are those of a packet: a request's sequence number, else tag, size and address,
and a store's class where the answer names one (log entry 36). -/
def answers (q p : Packet) : Bool :=
  q.ddev = p.sdev && q.dtile = p.stile
    && (if q.ptype = 4#4 then decide (q.seq = p.seq)
      else q.tag = p.tag && q.nbm = p.nbm && q.addr = p.addr && (q.ptype ≠ 3#4 || p.seq = 0#16 || p.seq = answerSeq q))
    && (p.ptype ≠ 2#4 || (q.tag = p.tag && q.nbm = p.nbm && returnAop q = p.aop && q.addr = p.addr))

/-- The answer awaited that a packet from a peer gives: the oldest of its type whose fields it keeps. -/
def Tile.awaits (t : Tile) (p : Packet) (ptype : Nat) : Option Awaited :=
  t.net.awaited.find? fun a => a.pkt.ptype.toNat = ptype && answers a.pkt p

/-- The packet of a tile away at another device that a return is of. -/
def Tile.awayOf (t : Tile) (p : Packet) : Option Nat := (t.net.away.find? fun a => answers a.2.1 p).map (·.1)

/-! ## Settling (15 R326, R329, 18 R435) -/

/-- Whether a packet is one that a phase owns: a send, a semaphore request, an exchange transfer, or a return of one. -/
def owned (p : Packet) : Bool := [1, 2, 3, 4, 5, 8].contains p.ptype.toNat

/-- The tile whose packet it is: its source, or the destination of a return. -/
def ownerOf (p : Packet) : Nat × Nat :=
  if p.ptype = 2#4 then (p.ddev.toNat, p.dtile.toNat) else (p.sdev.toNat, p.stile.toNat)

/-- A member of a milestone group at the level of the domain. -/
def Tile.domainMember (t : Tile) : Bool := bitOf (t.rg 0x050) 30 && bits (t.rg 0x050) 32 3 = 4

/-- A tile injects a packet that its phase owns. -/
def State.countInjected (s : State) (n : Nat) : State :=
  let s := s.modTile n fun t => { t with seqr := { t.seqr with injected := t.seqr.injected + 1 } }
  if (s.tile n).domainMember then s.modHub fun h => { h with injected := h.injected + 1 } else s

/-- A tile's packet settles in this cycle. -/
def State.tileSettles (s : State) (n : Nat) : State :=
  s.modTile n fun t => { t with seqr := { t.seqr with settled := t.seqr.settled + 1, lastSettle := s.now } }

/-- A tile's packet under number id, which went to another device, settles, unless it has. -/
def State.awaySettles (s : State) (n id : Nat) : State :=
  if (s.tile n).net.away.any fun a => a.1 = id then
    (s.modNet n fun x => { x with away := x.away.filter fun a => a.1 ≠ id }).tileSettles n
  else s

/-- Whether a domain milestone awaits its release at this device, which is not the root. -/
def State.awaitsRelease (s : State) : Bool :=
  !bitOf (s.hubRg 0x056) 31 && s.hub.miles.any fun p => p.1.lvl = 4 && p.2.sentSettled.isSome && p.2.start.isNone

/-- A packet of a tile of another device settles here. Whether the tile is a member of the domain, whose phase owns its
packets, and while a release is awaited whether the packet is of the phase that follows, is known at that device only: it is
open (15 R329; log entry 44). -/
def State.strangerSettles (s : State) : State :=
  match s.draw 3 with
  | (0, s) => s
  | (1, s) => s.modHub fun h => { h with settledN := h.settledN + 1 }
  | (_, s) =>
    s.modHub fun h =>
      if s.awaitsRelease then { h with settledNext := h.settledNext + 1 } else { h with settledN := h.settledN + 1 }

/-- A packet settles at this device in this cycle; the return of one that went to another device settles that one,
unless it has been counted at its open time (log entry 35). -/
def State.settle (s : State) (p : Packet) : State :=
  if !owned p then s
  else
    let (dev, l) := ownerOf p
    let mine := match s.destTile l with
      | some n => (s.tile n).domainMember
      | none => false
    let s := match s.destTile l with
      | some n =>
        if dev ≠ s.deviceId then s
        else if p.ptype = 2#4 && p.sdev.toNat ≠ s.deviceId then
          match (s.tile n).awayOf p with
          | some id => s.awaySettles n id
          | none => s
        else s.tileSettles n
      | none => s
    if dev ≠ s.deviceId then s.strangerSettles
    else if mine then s.modHub fun h => { h with settledN := h.settledN + 1 }
    else s

/-- Counts a loss in `nserr`: 0 an ended packet, 1 a return (14 R310). -/
def Tile.countLoss (t : Tile) (ret : Bool) : Tile :=
  let lo := if ret then 16 else 0
  t.setRg 0x03A (putBits (t.rg 0x03A) lo 16 (satNat 0xFFFF (bits (t.rg 0x03A) lo 16 + 1)))

/-- A packet that ends without a return: a return is counted at the tile it was for. -/
def State.dropPacket (s : State) (p : Packet) : State :=
  let s := s.settle p
  if p.ptype = 2#4 && p.ddev.toNat = s.deviceId then
    match s.destTile p.dtile.toNat with
    | some n => s.modTile n fun t => t.countLoss true
    | none => s
  else s

/-! ## Routes (14 R296, R306, 15 R337) -/

/-- The step with which a packet arrives at a tile of this device. -/
def arrivalOf (n : Nat) (p : Packet) : Instr :=
  match p.ptype.toNat with
  | 2 =>
    if p.aop = 14#4 then .storeAcknowledgement n p
    else if p.aop.toNat < 13 then .semReplyArrival n p
    else .messageDelivery n p
  | 3 => .remoteStoreWrite n p 0
  | 4 => .semRemoteArrival n p
  | 5 => .semRemoteArrival n p
  | 6 => .semReplyArrival n p
  | 7 => .storeAcknowledgement n p
  | 8 => .exchangeDelivery n p 0
  | 9 =>
    match bits p.payload 0 2 with
    | 0 => .milestoneArrivePacket p
    | 1 => .milestoneReleasePacket p
    | _ => .milestoneFailPacket p
  | _ => .messageDelivery n p

/-- The packet a step delivers. -/
def delivered (i : Instr) : Option Packet :=
  match i with
  | .storeAcknowledgement _ p => some p
  | .semReplyArrival _ p => some p
  | .messageDelivery _ p => some p
  | .remoteStoreWrite _ p b => if b = 0 then some p else none
  | .semRemoteArrival _ p => some p
  | .exchangeDelivery _ p b => if b = 0 then some p else none
  | _ => none

/-- Two packets of one path: from one tile to one tile on one class and VC. -/
def samePath (p q : Packet) : Bool :=
  p.sdev = q.sdev && p.stile = q.stile && p.ddev = q.ddev && p.dtile = q.dtile && p.cls = q.cls && p.vc = q.vc

/-- The latest arrival already fixed on a packet's path. -/
def State.pathLast (s : State) (p : Packet) : Nat :=
  s.agenda.foldl (fun m a =>
    match delivered a.ins with
    | some q => if samePath p q then max m a.cyc else m
    | none => m) 0

/-- The first cycle in which a request of this tile to itself may arrive: two cycles after its trigger (14 R306). -/
def Tile.selfFrom (t : Tile) (p : Packet) : Nat :=
  (t.net.awaited.filter fun a => a.pkt = p).foldl (fun m a => max m (a.issued + 2)) 0

/-- A packet arrives at a tile of this device in an open later cycle, in order on its path; a fail packet freezes, and
so acts at the end of its cycle (18 R415). One that is under way when a remap succeeds keeps the tile it was routed to,
of which 01 R15 says nothing (DESIGN CHOICE, log entry 115). -/
def State.sendLocal (s : State) (n : Nat) (p : Packet) : State :=
  let (d, s) := s.delay
  let fails := decide (p.ptype = 9#4) && decide (2 ≤ bits p.payload 0 2)
  s.schedule (max (max (s.now + 1 + d) ((s.tile n).selfFrom p)) (s.pathLast p)) (if fails then prioEnd else prioDeliver) (arrivalOf n p)

/-- A packet at the input of a tile: where packets of its class and VC wait there it waits behind them, and where the input
has let some go it goes behind them; those that the input has let go pass (14 R296, R299, R307). -/
def State.atInput (s : State) (n : Nat) (p : Packet) (enter : State → State) : State :=
  let x := (s.tile n).net
  let before (q : Packet) : Bool := q.cls = p.cls && q.vc = p.vc
  if x.passing.contains p then enter (s.modNet n fun x => { x with passing := x.passing.erase p })
  else if x.waiting.any before then s.modNet n fun x => { x with waiting := x.waiting ++ [p] }
  else if x.passing.any before then
    (s.modNet n fun x => { x with passing := x.passing ++ [p] }).schedule (s.now + 1) prioDeliver (arrivalOf n p)
  else enter s

/-- The trained fabric ports. -/
def State.upPorts (s : State) : List Nat := (List.range 32).filter fun l => (s.link l).up && !(s.link l).dead

/-- The port that packets for another device take: the one that they have taken, while it is not dead; else one of the
trained ports (14 R296). -/
def State.portFor (s : State) (dev : Nat) : Option Nat :=
  let l := s.upPorts
  let pick : Option Nat := if l.isEmpty then none else l[Config.route dev % l.length]?
  match spFind s.hub.paths dev with
  | some o => if (s.link o).dead then pick else some o
  | none => pick

/-- Port o is the path to another device from now on. -/
def State.fixPath (s : State) (dev o : Nat) : State := s.modHub fun h => { h with paths := spPut h.paths dev o }

/-- Whether a packet of this device still stands at a port, or may come back to it unacknowledged. -/
def State.atPort (s : State) (p : Packet) : Bool :=
  s.links.any fun x =>
    (x.2.outq ++ x.2.cur.map (·.2)).any (fun c => decide (c.pkt = p)) || x.2.sent.any fun f => Fovh.head f && f.data = headBits p

/-- The open time at which a packet away is looked at (log entry 35). -/
def State.awayLater (s : State) (n id : Nat) : State :=
  let (d, s) := s.delay
  s.schedule (s.now + 1 + d) prioUpdate (.registerWrite { tile := n, ctx := .k0, num := updSettle } (w64 id))

/-- A packet of this device for another one, which its tile's phase awaits: it settles with its return, where it has not
left or its return is to come, else at an open time after it has left. Which of the two is open (log entry 35). -/
def State.goesAway (s : State) (p : Packet) (left : Bool) : State :=
  if owned p && p.ptype ≠ 2#4 && p.sdev.toNat = s.deviceId then
    match s.destTile p.stile.toNat with
    | some n =>
      let id := (s.tile n).nextId
      let (d, s) := if left then s.draw 2 else (0, s)
      let s := s.modTile n fun t =>
        { t with nextId := id + 1, net := { t.net with away := t.net.away ++ [(id, p, decide (d = 0))] } }
      if d = 0 then s else s.awayLater n id
    | none => s
  else s

/-- The open time of a packet away has come: it settles, unless it still stands at a port, or this device has returned
it. -/
def State.awayTime (s : State) (n id : Nat) : State :=
  match (s.tile n).net.away.find? fun a => a.1 = id with
  | some (_, p, back) => if back then s else if s.atPort p then s.awayLater n id else s.awaySettles n id
  | none => s

/-- This device returns a packet of its own that was to go to another one: it settles with its return. -/
def State.comesBack (s : State) (p : Packet) : State :=
  match if p.sdev.toNat = s.deviceId then s.destTile p.stile.toNat else none with
  | none => s
  | some n => s.modNet n fun x =>
    match x.away.find? fun a => { a.2.1 with payload := 0#1024 } = { p with payload := 0#1024 } with
    | some a => { x with away := x.away.map fun b => if b.1 = a.1 then (b.1, b.2.1, true) else b }
    | none => x

/-- Sends a packet toward its destination, if there is a way. -/
def State.tryRoute (s : State) (p : Packet) : Option State :=
  let dev := p.ddev.toNat
  if dev = s.deviceId then (s.destTile p.dtile.toNat).map fun n => s.sendLocal n p
  else if maxDevice < dev then none
  else
    (s.portFor dev).map fun l =>
      ((s.fixPath dev l).modLink l fun x => { x with outq := x.outq ++ [Sending.whole p] }).goesAway p true

/-- Sends a packet; one that is not returned and finds no way is dropped. -/
def State.route (s : State) (p : Packet) : State :=
  match s.tryRoute p with
  | some s' => s'
  | none =>
    if canReturn p then
      let away := if p.ddev.toNat = s.deviceId then s else s.goesAway p false
      match away.tryRoute (returnOf p 0x03 true) with
      | some s' => s'
      | none => s.dropPacket p
    else s.dropPacket p

/-- The node that detects a cause returns a packet, or drops it where it is never returned. -/
def State.bounce (s : State) (p : Packet) (why : Nat) (whole : Bool := true) : State :=
  if canReturn p then (s.comesBack p).route (returnOf p why whole) else s.dropPacket p

/-! ## What a release form and a fence wait for (12 R268, 14 R316, 16 R357) -/

/-- Whether a result of an operation has not landed. -/
def Tile.unlanded (t : Tile) (id : Nat) : Bool := (t.flights.any fun f => f.id = id) || t.captures.any fun c => c.fl.id = id

/-- A `sem` request has its answer. -/
def Tile.answer (t : Tile) (a : Awaited) : Tile :=
  { t with net := { t.net with
      awaited := t.net.awaited.filter fun b => b.id ≠ a.id
      answered := (t.net.answered.filter fun b => t.unlanded b.id) ++ [a] } }

/-- The context's accesses triggered in earlier words that have not performed: local stores, a `tsw` operation, and the
remote operations of some types that lie in scope. -/
def Tile.waits (t : Tile) (now : Nat) (k : Ctx) (types : List Nat) (inScope : Packet → Bool) : Waits :=
  { stores := (t.accesses.filter fun x =>
      x.store && decide (x.q < 4) && x.ctx = k && decide (x.issued < now) && decide (now ≤ x.last)).map
        (·.id)
    tsw := match t.eng.tsw with
      | some x => if x.ctx = k && x.issued < now then some x.issued else none
      | none => none
    remote := ((t.net.awaited ++ t.net.answered.filter fun a => t.unlanded a.id).filter fun a =>
      a.ctx = k && decide (a.issued < now) && types.contains a.pkt.ptype.toNat && inScope a.pkt).map (·.id) }

/-- Whether everything waited for has performed: a store from the cycle after its last one on (log entry 37). -/
def Tile.waitsDone (t : Tile) (now : Nat) (w : Waits) : Bool :=
  !(t.accesses.any fun x => w.stores.contains x.id && decide (now ≤ x.last))
    && (match t.eng.tsw with | some x => w.tsw ≠ some x.issued | none => true)
    && !(t.net.awaited.any fun a => w.remote.contains a.id)
    && !(w.remote.any t.unlanded)

end Sys2Proof.Machine
end

