-- ==== Sys2Proof/Machine/Sem.lean ====
section
/-!
DEFINITION. The semaphore file: its operations, deferred takes, release and acquire forms, remote requests and the source
table (12 R252 to R268).
-/

namespace Sys2Proof.Machine

/-! ## Operations by opcode (12 R258): 0 take, 1 put, 2 ld, 3 st, 4 add, 5 and, 6 or, 7 max.s64, 8 max.n64, 9 min.s64,
10 min.n64, 11 cas, 12 wadd, 13 qlen, 14 srcrd, 15 srcdrop -/

def SemOp.word (o : SemOp) : Nat := bits o.addr 0 9
def SemOp.gsz (o : SemOp) : Nat := bits o.addr 9 2
def SemOp.kw (o : SemOp) : Nat := bits o.addr 11 3
def SemOp.acquire (o : SemOp) : Bool := bitOf o.addr 14
def SemOp.release (o : SemOp) : Bool := bitOf o.addr 15
def SemOp.remote (o : SemOp) : Bool := bitOf o.addr 63

/-- The words of a group (12 R263); 1 outside `wadd`. -/
def SemOp.words (o : SemOp) : Nat := if o.op = 12 then 2 ^ o.gsz else 1

/-- The detail with which an address word fails (12 R259). -/
def semFail (op : Nat) (a : W64) : Option Nat :=
  let rem := bitOf a 63
  let gsz := bits a 9 2
  if (!rem && bits a 16 47 ≠ 0) || (op ≠ 12 && bits a 9 5 ≠ 0) || (rem && (op = 3 || decide (13 ≤ op))) then some 0x1
  else if op = 12 && (gsz = 0 || bits a 0 9 % 2 ^ gsz ≠ 0 || decide (2 ^ gsz ≤ bits a 11 3)) then some 0x2
  else if rem && decide (1535 < bits a 32 11) then some 0x3
  else none

/-- The status word (12 R257). -/
structure SemFlags where
  ok : Bool := false
  wasfull : Bool := false
  deferred : Bool := false
  carry : Bool := false
  ovf : Bool := false
  dup : Bool := false
  code : Nat := 0
deriving DecidableEq, Repr

def SemFlags.word (f : SemFlags) : W64 :=
  w64 (b2n f.ok + b2n f.wasfull * 2 + b2n f.deferred * 4 + b2n f.carry * 8 + b2n f.ovf * 16 + b2n f.dup * 32
    + f.code * 2 ^ 8)

/-! ## The file and its log of old contents -/

def Tile.sem (t : Tile) (w : Nat) : SemWord := spGet SemWord.reset t.sems w

/-- Logs the source table, and a group of 32 words, on their first change (18 R431). -/
def Tile.cairnSrcs (t : Tile) : Tile :=
  match t.cairn with
  | none => t
  | some c => if c.srcsLogged then t else t.cairnAdd fun c => { c with srcs := t.srcs, srcsLogged := true }

def Tile.cairnSem (t : Tile) (w : Nat) : Tile :=
  match t.cairn with
  | none => t
  | some c =>
    if (spFind c.sems (w / 32)).isSome then t
    else t.cairnAdd fun c =>
      { c with sems := spPut c.sems (w / 32) ((List.range 32).map fun i => t.sem (w / 32 * 32 + i)) }

def Tile.setSem (t : Tile) (w : Nat) (x : SemWord) : Tile :=
  let t := t.cairnSem w
  { t with sems := spSet SemWord.reset t.sems w x }

def Tile.setSrcs (t : Tile) (l : Sparse SrcEntry) : Tile :=
  let t := t.cairnSrcs
  { t with srcs := l }

/-! ## Results (12 R255) -/

/-- A `sem` operation's results are known; they may land from cycle r on. -/
def State.semReady (s : State) (n id : Nat) (r st : W64) (ready : Nat) : State :=
  let f (v : W64) (x : Flight) : Flight := { x with val := wide v, ready := some ready }
  let cap (c : Capture) : Capture :=
    if c.fl.id = id || c.fl.id = id + 1 then { c with fl := { c.fl with due := some ready } } else c
  State.semLands (s.modTile n fun t =>
    let t := (t.modFlight id (f r)).modFlight (id + 1) (f st)
    { t with captures := t.captures.map cap }) n

/-- The head taker of a word is served in this cycle (12 R260). -/
def State.semServe (s : State) (n : Nat) (o : SemOp) (v : W64) : State :=
  s.semReady n o.id v (SemFlags.word { ok := true, deferred := true }) (s.now + 2)

/-! ## Actions (12 R260 to R263, R266) -/

/-- The value an atomic writes from the old one, and whether it did what it names (12 R262). -/
def atomic (op : Nat) (old tv opp : W64) : W64 × Bool :=
  match op with
  | 4 => (old + tv, true)
  | 5 => (old &&& tv, true)
  | 6 => (old ||| tv, true)
  | 7 => (if old.toInt < tv.toInt then tv else old, true)
  | 8 => (if old.toNat < tv.toNat then tv else old, true)
  | 9 => (if tv.toInt < old.toInt then tv else old, true)
  | 10 => (if tv.toNat < old.toNat then tv else old, true)
  | _ => if old = opp then (tv, true) else (old, false)

/-- The value of a group of n words from word w, word w lowest (12 R263). -/
def Tile.semGroup (t : Tile) (w n : Nat) : Nat :=
  ((List.range n).map fun i => (t.sem (w + i)).val.toNat * 2 ^ (64 * i)).foldl (· + ·) 0

/-- `wadd` on a group (12 R263). -/
def Tile.semWadd (t : Tile) (o : SemOp) : Tile × W64 × SemFlags :=
  let n := o.words
  let x := t.semGroup o.word n
  let a : Int := sx 128 (o.opp.toNat * 2 ^ 64 + o.tv.toNat) * 2 ^ (64 * o.kw)
  let ex : Int := x + a
  let xs : Int := sx (64 * n) x + a
  let new := (ex % 2 ^ (64 * n)).toNat
  let r := (t.sem (o.word + o.kw)).val
  let t' := (List.range n).foldl (fun t i =>
    t.setSem (o.word + i) { t.sem (o.word + i) with val := w64 (new / 2 ^ (64 * i) % 2 ^ 64) }) t
  (t', r,
    { ok := true, wasfull := (t.sem o.word).full, carry := ex < 0 || 2 ^ (64 * n) ≤ ex
      ovf := xs < -(2 ^ (64 * n - 1)) || 2 ^ (64 * n - 1) - 1 < xs })

/-- The `srcrd` layout of an entry (12 R266). -/
def SrcEntry.word (e : SrcEntry) : W64 :=
  w64 (e.src.toNat + e.lseq.toNat * 2 ^ 31 + 2 ^ 47 + b2n e.awaiting * 2 ^ 48)

/-- A put, or a store that makes the word full: the head taker takes it, or it stays (12 R260). -/
def State.semFill (s : State) (n : Nat) (o : SemOp) (x : SemWord) : State :=
  match x.takers with
  | first :: rest =>
    (s.modTile n fun t => t.setSem o.word { x with val := o.tv, full := false, takers := rest, bad := false }).semServe
      n first o.tv
  | [] => s.modTile n fun t => t.setSem o.word { x with val := o.tv, full := true, bad := false }

/-- The words of an operation that hold an uncorrectable error (12 R254). -/
def Tile.badWords (t : Tile) (o : SemOp) : List Nat :=
  ((List.range o.words).map fun i => o.word + i).filter fun w => (t.sem w).bad

/-- Acts on the file; no answer where a take is deferred. A remote take is not deferred (12 R265). What `srcrd` and
`srcdrop` return for an invalid entry, 0 with ok, is DESIGN CHOICE, log entry 129 (12 R266). -/
def State.semAct (s : State) (n : Nat) (o : SemOp) (remote : Bool) : State × Option (W64 × SemFlags) :=
  let t := s.tile n
  let x := t.sem o.word
  let lost := !(t.badWords o).isEmpty
  let ok : SemFlags := { ok := true, wasfull := x.full }
  if o.op = 14 || o.op = 15 then
    let i := bits o.tv 0 6
    match spFind t.srcs i with
    | none => (s, some (0#64, { ok := true }))
    | some e =>
      let s := if o.op = 15 && !e.awaiting then s.modTile n fun t => t.setSrcs (spErase t.srcs i) else s
      (s, some (e.word, { ok := true }))
  else if o.op ≠ 3 && lost then (s, some (0#64, { wasfull := x.full, code := 0x06 }))
  else
    match o.op with
    | 0 =>
      if x.full then (s.modTile n fun t => t.setSem o.word { x with full := false }, some (x.val, ok))
      else if remote then (s, some (0#64, { code := 0x07 }))
      else if x.takers.length < 16 then (s.modTile n fun t => t.setSem o.word { x with takers := x.takers ++ [o] }, none)
      else (s, some (0#64, { code := 0x01 }))
    | 1 =>
      if x.full then (s, some (0#64, { wasfull := true, code := 0x02 }))
      else (s.semFill n o x, some (0#64, ok))
    | 2 => (s, some (x.val, ok))
    | 3 =>
      if bitOf o.opp 0 then (s.semFill n o x, some (0#64, ok))
      else (s.modTile n fun t => t.setSem o.word { x with val := o.tv, full := false, bad := false }, some (0#64, ok))
    | 12 =>
      let (t, r, f) := t.semWadd o
      (s.setTile n t, some (r, f))
    | 13 => (s, some (w64 x.takers.length, ok))
    | _ =>
      let (v, done) := atomic o.op x.val o.tv o.opp
      (s.modTile n fun t => t.setSem o.word { x with val := v }, some (x.val, { ok with ok := done }))

/-- A local operation acts in this cycle; its result is ready two cycles later. An uncorrectable word is charged, and
raises its cause when the result lands (12 R254, R255). -/
def State.semLocal (s : State) (n : Nat) (o : SemOp) : State :=
  let bad := (s.tile n).badWords o
  let s := s.modTile n fun t => { t with semActed := s.now + 1 }
  match s.semAct n o false with
  | (s, none) => s
  | (s, some (r, f)) =>
    let s := s.semReady n o.id r f.word (s.now + 2)
    if f.code = 0x06 then
      match s.chargeAll n o.ctx .uncorr 0x3 (bad.map fun w => (false, w)) with
      | (s, none) => s
      | (s, some e) => s.modTile n fun t => t.modFlight o.id fun x => { x with err := some e.cause, errAux := errPack e }
    else s

/-- The packet of a remote operation (14 R295). -/
def State.semPacket (s : State) (n : Nat) (o : SemOp) : Packet :=
  { ptype := 4#4, cls := 2#2, vc := 0#1, npay := 1#3, ddev := BitVec.ofNat 20 (bits o.addr 43 20)
    dtile := BitVec.ofNat 11 (bits o.addr 32 11), sdev := BitVec.ofNat 20 s.deviceId
    stile := BitVec.ofNat 11 (s.ownNumber n), nbm := 15#7, tag := 0#8, reason := 0#7
    seq := BitVec.ofNat 16 (bits o.addr 16 16), aop := BitVec.ofNat 4 o.op, addr := BitVec.ofNat 32 (bits o.addr 0 16)
    payload := BitVec.ofNat 1024 (o.tv.toNat + o.opp.toNat * 2 ^ 64) }

/-- A remote operation's request leaves its tile. -/
def State.semSend (s : State) (n : Nat) (o : SemOp) : State := (s.countInjected n).route (s.semPacket n o)

/-- The results of a `sem` operation, in flight from its trigger with no cycle yet. -/
def semFlights (id : Nat) (k : Ctx) : List Flight :=
  let f (i : Nat) (po : Port) : Flight :=
    { id := i, so := .sem, po := po, ctx := k, locked := true, due := none, val := 0#1024, flags := 0, far := none
      ready := none, err := none, errAux := 0#64, errAt := none, raised := false }
  [f id .r, f (id + 1) .f]

/-- The operation of the trigger in hand. -/
def State.semForm (s : State) (op : Nat) : SemOp :=
  { id := s.ht.nextId, ctx := s.hand.ctx, op := op, addr := s.opo .sem, opp := s.opp .sem, tv := s.tv }

/-- Sends or does what a release form has waited for. -/
def State.semGo (s : State) (n : Nat) (o : SemOp) : State := if o.remote then s.semSend n o else s.semLocal n o

/-- A `sem` operation that passes its checks. -/
def State.doSem (s : State) (op : Nat) : State :=
  let n := s.hand.tile
  let k := s.hand.ctx
  let o := s.semForm op
  let w := s.ht.waits s.now k (if o.remote then [3] else []) (fun _ => true)
  let s := s.modTile n fun t => { t with flights := t.flights ++ semFlights o.id k, nextId := o.id + 2 }
  let s := if o.acquire then s.hold n k (.result o.id) else if o.remote then s.farRef n k else s
  let a : Awaited :=
    { id := o.id, pkt := s.semPacket n o, ctx := k, firing := s.hc.firing, tok := 63, irq := false, issued := s.now }
  let s := if o.remote then s.modNet n fun x => { x with awaited := x.awaited ++ [a] } else s
  if o.release && !s.ht.waitsDone s.now w then s.modTile n fun t => { t with delayed := t.delayed ++ [(o, w)] }
  else s.semGo n o

/-- A trigger of the `sem` socket. -/
def State.semOp (s : State) (op : Nat) : Out :=
  s.operate ((semFail op (s.opo .sem)).map fun d => s.raise .semacc d) fun s => s.doSem op

/-- The delayed release form that acts in this cycle: what it waits for has performed, and the file has not acted on
another local operation in this cycle (12 R253, R268, log entry 38). -/
def State.semRelease (s : State) (n : Nat) : Option Nat :=
  let t := s.tile n
  (t.delayed.find? fun d => t.waitsDone s.now d.2 && (d.1.remote || t.semActed ≠ s.now + 1)).map fun d => d.1.id

/-- SEM_RELEASE_ACT (12 R268). A take of release form whose context froze, trapped or entered a handler meanwhile acts all
the same, and may be deferred then: it stood on no deferred list to be withdrawn from (DESIGN CHOICE, log entry 131;
12 R261). -/
def execSemReleaseAct (n id : Nat) (s : State) : Out :=
  match (s.tile n).delayed.find? (fun d => d.1.id = id) with
  | none => .fault .noSuchStep
  | some (o, _) =>
    .next ((s.modTile n fun t => { t with delayed := t.delayed.filter fun d => d.1.id ≠ id }).semGo n o)

/-! ## Remote requests (12 R265, R266) -/

/-- The source a request names. -/
def srcOf (p : Packet) : BitVec 31 := BitVec.ofNat 31 (p.sdev.toNat * 2 ^ 11 + p.stile.toNat)

/-- The reply to a request (14 R295). -/
def replyTo (p : Packet) (r st : W64) : Packet :=
  { p with
    ptype := 6#4, cls := 2#2, vc := 1#1, npay := 1#3, nbm := 15#7, ddev := p.sdev, dtile := p.stile, sdev := p.ddev
    stile := p.dtile, payload := BitVec.ofNat 1024 (r.toNat + st.toNat * 2 ^ 64) }

/-- Answers a request: with a reply, or, without one, by its return where the code is not 0 (14 R311). -/
def State.semAnswer (s : State) (p : Packet) (r : W64) (f : W64) : State :=
  if p.ptype = 4#4 then (s.settle p).route (replyTo p r f)
  else if bits f 8 8 = 0 then s.settle p
  else s.bounce p (0x10 + bits f 8 8)

/-- Accepts a request: it waits in the file's queue and acts in the first free cycle. -/
def State.semQueue (s : State) (n : Nat) (p : Packet) : State :=
  let a := max s.now (s.tile n).semNext
  (s.modTile n fun t => { t with remoteQ := t.remoteQ ++ [p], semNext := a + 1 }).schedule a prioDeliver (.semRemoteAct n)

/-- A semaphore request has come in: the source table is consulted (12 R266). -/
def State.semRequest (s : State) (n : Nat) (p : Packet) : State :=
    let t := s.tile n
    let put (i : Nat) (e : SrcEntry) : State := s.modTile n fun t => t.setSrcs (spPut t.srcs i e)
    match t.srcs.find? (fun e => e.2.src = srcOf p) with
      | none =>
        match (List.range 64).find? (fun i => (spFind t.srcs i).isNone) with
        | none => s.semAnswer p 0#64 (SemFlags.word { code := 0x05 })
        | some i =>
          (put i { src := srcOf p, lseq := p.seq, r := 0#64, status := 0#64, awaiting := true }).semQueue n p
      | some (i, e) =>
        if p.seq = e.lseq + 1#16 then (put i { e with lseq := p.seq, awaiting := true }).semQueue n p
        else if p.seq = e.lseq then
          if e.awaiting then s.settle p else s.semAnswer p e.r (e.status ||| 0x20#64)
        else s.semAnswer p 0#64 (SemFlags.word { code := 0x04 })

/-- SEM_REMOTE_ARRIVAL (12 R266). -/
def execSemRemoteArrival (n : Nat) (p : Packet) (s : State) : Out :=
  match s.refuses n with
  | some why => .next (s.bounce p why)
  | none => .next (s.atInput n p fun s => s.semRequest n p)

/-- The operation of a request. -/
def opOf (p : Packet) : SemOp :=
  { id := 0, ctx := .k0, op := p.aop.toNat, addr := w64 (bits p.addr 0 16), opp := w64 (bits p.payload 64 64)
    tv := w64 (bits p.payload 0 64) }

/-- SEM_REMOTE_ACT (12 R253, R266): the oldest request acts and is answered. -/
def execSemRemoteAct (n : Nat) (s : State) : Out :=
  match (s.tile n).remoteQ with
  | [] => .next s
  | p :: rest =>
    let s := s.modTile n fun t => { t with remoteQ := rest }
    match s.semAct n (opOf p) true with
    | (s, none) => .next s
    | (s, some (r, f)) =>
      let note (e : SrcEntry) : SrcEntry :=
        if e.src = srcOf p then { e with r := r, status := f.word, awaiting := false } else e
      .next ((s.modTile n fun t => t.setSrcs (t.srcs.map fun e => (e.1, note e.2))).semAnswer p r f.word)

/-- SEM_REPLY_ARRIVAL (12 R255, 14 R305): a reply, or the return of a request with reply. -/
def execSemReplyArrival (n : Nat) (p : Packet) (s : State) : Out :=
  match s.refuses n with
  | some _ => .next (s.dropPacket p)
  | none =>
    let s := s.settle p
    .next (match (s.tile n).awaits p 4 with
      | none => s
      | some a =>
        let s := s.modTile n fun t => t.answer a
        if p.ptype = 2#4 then s.semReady n a.id 0#64 (SemFlags.word { code := 0x80 + p.reason.toNat }) (s.now + 1)
        else s.semReady n a.id (w64 (bits p.payload 0 64)) (w64 (bits p.payload 64 64)) (s.now + 1))

/-! ## Operations (12 R258) -/

/-- SEM_TAKE (12 R260). -/
def execSemTake (s : State) : Out := s.semOp 0

/-- SEM_PUT (12 R260). -/
def execSemPut (s : State) : Out := s.semOp 1

/-- SEM_LD (12 R260). -/
def execSemLd (s : State) : Out := s.semOp 2

/-- SEM_ST (12 R260). -/
def execSemSt (s : State) : Out := s.semOp 3

/-- SEM_ADD (12 R262). -/
def execSemAdd (s : State) : Out := s.semOp 4

/-- SEM_AND (12 R262). -/
def execSemAnd (s : State) : Out := s.semOp 5

/-- SEM_OR (12 R262). -/
def execSemOr (s : State) : Out := s.semOp 6

/-- SEM_MAX_S64 (12 R262). -/
def execSemMaxS64 (s : State) : Out := s.semOp 7

/-- SEM_MAX_N64 (12 R262). -/
def execSemMaxN64 (s : State) : Out := s.semOp 8

/-- SEM_MIN_S64 (12 R262). -/
def execSemMinS64 (s : State) : Out := s.semOp 9

/-- SEM_MIN_N64 (12 R262). -/
def execSemMinN64 (s : State) : Out := s.semOp 10

/-- SEM_CAS (12 R262). -/
def execSemCas (s : State) : Out := s.semOp 11

/-- SEM_WADD (12 R263). -/
def execSemWadd (s : State) : Out := s.semOp 12

/-- SEM_QLEN (12 R258). -/
def execSemQlen (s : State) : Out := s.semOp 13

/-- SEM_SRCRD (12 R266). -/
def execSemSrcrd (s : State) : Out := s.semOp 14

/-- SEM_SRCDROP (12 R266). -/
def execSemSrcdrop (s : State) : Out := s.semOp 15

end Sys2Proof.Machine
end

