-- ==== Sys2Proof/Machine/Syn.lean ====
section
/-!
DEFINITION. The `syn` socket: dependence tokens, reads of time, the synchronisation engine and the chain barrier
(12 R269 to R274, 15 R342 to R347).
-/

namespace Sys2Proof.Machine

/-! ## Token operations (12 R273, R274) -/

/-- The token that a trigger value names. -/
def State.tokOf (s : State) : Nat := bits s.tv 0 6

/-- The check of `tpend`: a pending token (12 R272). -/
def State.checkTpend (s : State) : Option Raise :=
  if s.ht.tokPending s.tokOf then some (s.raise .tokdup 0x1) else none

/-- TPEND (12 R273): the token becomes pending with owner 1. -/
def execTpend (s : State) : Out :=
  s.operate s.checkTpend fun s =>
    State.result (s.modTile s.hand.tile fun t => t.produce s.tokOf 1 s.hand.ctx) .syn 0#64

/-- The check of `tdone`: a pending token of another owner (12 R272). -/
def State.checkTdone (s : State) : Option Raise :=
  match spFind s.ht.tokens s.tokOf with
  | some k => if k.owner ≠ 1 then some (s.raise .tokdup 0x3) else none
  | none => none

/-- TDONE (12 R273): a token of a program becomes done at the start of the next cycle. -/
def execTdone (s : State) : Out :=
  s.operate s.checkTdone fun s =>
    let t := s.tokOf
    let s := s.result .syn 0#64
    if s.ht.tokPending t then
      s.schedule (s.now + 1) prioUpdate
        (.registerWrite { tile := s.hand.tile, ctx := .k0, num := updTokDone } (w64 (t + 2 ^ 8)))
    else s

/-- The token record (12 R274). -/
def Tile.tokRecord (t : Tile) (k : Nat) : W64 :=
  match spFind t.tokens k with
  | some x => w64 (1 + x.owner * 2 + ctxNum x.ctx * 16)
  | none => 0#64

/-- TSTAT (12 R273, R274). -/
def execTstat (s : State) : Out := s.operate none fun s => s.result .syn (s.ht.tokRecord s.tokOf)

/-- TMAP (12 R273). -/
def execTmap (s : State) : Out :=
  s.operate none fun s =>
    s.result .syn (w64 (((List.range 64).map fun k => b2n (s.ht.tokPending k) * 2 ^ k).foldl (· + ·) 0))

/-! ## Reads of time (15 R338, R342, R343) -/

/-- The pace counter as it stood some cycles ago: integer ns and fraction. -/
def State.paceAgo (s : State) (lag : Nat) : BitVec 64 × BitVec 32 :=
  match lag with
  | 0 => (s.hub.paceNs, s.hub.paceFr)
  | l + 1 => (s.hub.paceOld[l]?).getD (s.hub.paceNs, s.hub.paceFr)

/-- Which of the cycles now - 2 to now a read of the counter sees is open (15 R342). -/
def State.paceLag (s : State) : Nat × State := s.draw 3

/-- PACE (15 R343). -/
def execPace (s : State) : Out :=
  s.operate none fun s =>
    let (l, s) := s.paceLag
    s.result .syn (s.paceAgo l).1

/-- PACEFX (15 R343). -/
def execPacefx (s : State) : Out :=
  s.operate none fun s =>
    let (l, s) := s.paceLag
    let p := s.paceAgo l
    s.result .syn (w64 (bits p.1 0 48 * 2 ^ 16 + bits p.2 16 16))

/-- WTIME (15 R344): holds the context until pace time reaches the trigger value; a far reference in either case. -/
def execWtime (s : State) : Out :=
  s.operate none fun s =>
    let (l, s) := s.paceLag
    let p := (s.paceAgo l).1.toNat
    let v := s.tv.toNat
    if v ≤ p then (s.result .syn (w64 (2 ^ 63 + min (p - v) (2 ^ 63 - 1)))).farRef s.hand.tile s.hand.ctx
    else (s.result .syn (w64 (v - p))).hold s.hand.tile s.hand.ctx (.untilPace v l)

/-- SYN_MSTAT (15 R343). -/
def execSynMstat (s : State) : Out := s.operate none fun s => s.result .syn (s.ht.rg 0x051)

/-- The exchange cycle of a word issued now (15 R332, R343). -/
def Tile.exchangeCycle (t : Tile) (now : Nat) : Option Nat :=
  match t.seqr.xstart with
  | some x => if t.exchange then some (now - x) else none
  | none => none

/-- XCYC (15 R343). -/
def execXcyc (s : State) : Out :=
  s.operate none fun s =>
    s.result .syn (match s.ht.exchangeCycle s.now with
      | some c => w64 c
      | none => BitVec.allOnes 64)

/-- The chain barrier status (15 R345). -/
def State.barStatus (s : State) (n : Nat) : W64 :=
  let e := (s.tile n).eng
  let slots := if n < 1728 then (s.chain (chainOf n)).bar.map (·.1) else []
  w64 ((match e.barPending with | some v => v.toNat + 2 ^ 16 | none => 0)
    + ((List.range 8).map fun j => b2n (slots.contains j) * 2 ^ (17 + j)).foldl (· + ·) 0
    + b2n e.barMismatch * 2 ^ 25)

/-- BSTAT (15 R345). -/
def execBstat (s : State) : Out := s.operate none fun s => s.result .syn (s.barStatus s.hand.tile)

/-! ## The synchronisation engine (15 R346, R347). Kinds: 1 timer, 2 delay, 3 gbar, 4 join. -/

/-- The detail with which a header fails. -/
def State.synFail (s : State) (kind : Nat) : Option Nat :=
  let e := s.ht.eng
  if kind = 3 && !zeroFrom (s.opo .syn) 16 then some 0x1
  else if 8 ≤ e.syn.length then some 0x2
  else if kind = 3 && e.barPending.isSome then some 0x4
  else if kind = 3 && (!s.chainUsable s.hand.tile || (s.slotOfTile s.hand.tile).isNone) then some 0x5
  else none

/-- TOKDUP, then SYNACC. -/
def State.checkSyn (s : State) (kind : Nat) (h : Hdr) : Option Raise :=
  match s.tokdup h.tokp.toNat with
  | some r => some r
  | none => (s.synFail kind).map fun d => s.raise .synacc d

/-- Issues a synchronisation header. -/
def State.synIssue (s : State) (kind : Nat) (h : Hdr) : Out :=
  s.operate (s.checkSyn kind h) fun s =>
    let n := s.hand.tile
    let x : SynCmd :=
      { id := s.ht.nextId, kind := kind, h := h, ctx := s.hand.ctx, firing := s.hc.firing, o := s.opo .syn
        issued := s.now, arrived := none, doneAt := none, lag := 0 }
    let s := (s.produce n h.tokp.toNat 4 s.hand.ctx).modTile n fun t => { t with nextId := t.nextId + 1 }
    s.modEng n fun e =>
      { e with
        syn := e.syn ++ [x]
        barPending := if kind = 3 then some (BitVec.ofNat 16 (bits x.o 0 16)) else e.barPending }

/-- SYN_TIMER (15 R346). -/
def execSynTimer (h : Hdr) (s : State) : Out := s.synIssue 1 h

/-- SYN_DELAY (15 R346). -/
def execSynDelay (h : Hdr) (s : State) : Out := s.synIssue 2 h

/-- SYN_GBAR (15 R346). -/
def execSynGbar (h : Hdr) (s : State) : Out := s.synIssue 3 h

/-- SYN_JOIN (15 R346). -/
def execSynJoin (h : Hdr) (s : State) : Out := s.synIssue 4 h

/-- Changes a command of a tile. -/
def State.modSyn (s : State) (n id : Nat) (f : SynCmd → SynCmd) : State :=
  s.modEng n fun e => { e with syn := e.syn.map fun x => if x.id = id then f x else x }

/-- Fixes the end of a command. -/
def State.synEnds (s : State) (n id cyc : Nat) : State :=
  (s.modSyn n id fun x => { x with doneAt := some cyc }).schedule cyc prioDone (.synCommandDone n id)

/-- A slot arrives at its chain's barrier; with the eighth, every one of the eight ends two cycles later. -/
def State.barArrive (s : State) (n id : Nat) (tag : BitVec 16) : State :=
  let c := chainOf n
  let s := s.modChain c fun ch => { ch with bar := ch.bar ++ [((s.slotOfTile n).getD 0, tag, id)] }
  let bar := (s.chain c).bar
  if bar.length < 8 then s else bar.foldl (fun s b => s.synEnds (s.slotTile c b.1) b.2.2 (s.now + 2)) s

/-- A command arrives in this cycle (15 R346). -/
def State.synArrive (s : State) (n : Nat) (x : SynCmd) : State :=
  let (l, s) := if x.kind = 1 then s.paceLag else (0, s)
  let s := (s.modSyn n x.id fun y => { y with arrived := some s.now, lag := l }).event n 0x06 x.ctx 5
  match x.kind with
  | 1 => s
  | 2 => s.synEnds n x.id (s.now + max (bits x.o 0 32) 1)
  | 3 => s.barArrive n x.id (BitVec.ofNat 16 (bits x.o 0 16))
  | _ => s.synEnds n x.id (s.now + 1)

/-- The arrivals of a tile's commands in this cycle: those whose consumed tokens let them proceed; a frozen tile's are
held. -/
def State.synArrivals (s : State) (n : Nat) : State :=
  let t := s.tile n
  if t.frozen then s
  else
    (t.eng.syn.filter fun x => x.arrived.isNone && decide (x.issued < s.now) && t.hdrReady s.now x.h).foldl
      (fun s x => s.synArrive n x) s

/-- The timer of a tile that ends in this cycle: the first one after its arrival whose pace read gives its time. -/
def State.timerDone (s : State) (n : Nat) : Option Nat :=
  ((s.tile n).eng.syn.find? fun x =>
    x.kind = 1 && (match x.arrived with | some a => decide (a < s.now) | none => false)
      && decide (x.o.toNat ≤ (s.paceAgo x.lag).1.toNat)).map (·.id)

/-- Whether the tags at a chain's barrier differ. -/
def Chain.barDiffers (c : Chain) : Bool :=
  match c.bar with
  | [] => false
  | b :: l => l.any fun x => x.2.1 ≠ b.2.1

/-- The slots of a barrier that have ended leave it once its last one has. -/
def State.barLeave (s : State) (n : Nat) : State :=
  let c := chainOf n
  let waiting := (s.chain c).bar.any fun b => (s.tile (s.slotTile c b.1)).eng.syn.any fun x => x.id = b.2.2
  if waiting then s else s.modChain c fun ch => { ch with bar := [] }

/-- SYN_COMMAND_DONE (15 R346, R347): its token becomes done; a barrier whose tags differ raises SYNACC. -/
def execSynCommandDone (n id : Nat) (s : State) : Out :=
  match (s.tile n).eng.syn.find? (fun x => x.id = id) with
  | none => .fault .noSuchStep
  | some x =>
    let s := (s.modEng n fun e => { e with syn := e.syn.filter fun y => y.id ≠ id }).tokenDone n x.h.tokp.toNat
    let s := s.event n 0x07 x.ctx (5 + x.h.tokp.toNat * 2 ^ 4)
    if x.kind ≠ 3 then .next s
    else
      let bad := (s.chain (chainOf n)).barDiffers
      let s := s.modEng n fun e => { e with barPending := none, barMismatch := bad }
      let s := s.barLeave n
      .next (if bad then
          s.raiseEngine n x.ctx x.firing 5 { cause := .synacc, slot := 15, detail := 0x3, aux := 0#64, eng := false }
        else s)

end Sys2Proof.Machine
end

