-- ==== Sys2Proof/Machine/Net.lean ====
section
/-!
DEFINITION. The `ns` socket, the inbox with its overflow service, remote stores and the exchange plane (14 R306 to R320,
15 R334, R335, 16 R361 to R363).
-/

namespace Sys2Proof.Machine

/-! ## Command and target words (14 R314). Operations: 0 send, 1 rst, 2 ratom, 3 xsend. -/

structure NsForm where
  op : Nat
  cmd : W64
  tgt : W64
deriving DecidableEq, Repr

def NsForm.nbm (x : NsForm) : Nat := bits x.cmd 21 7
def NsForm.tag (x : NsForm) : Nat := bits x.cmd 13 8
def NsForm.aop (x : NsForm) : Nat := bits x.cmd 9 4
def NsForm.rel (x : NsForm) : Bool := bitOf x.cmd 8
def NsForm.urg (x : NsForm) : Bool := bitOf x.cmd 7
def NsForm.irq (x : NsForm) : Bool := bitOf x.cmd 6
def NsForm.tokp (x : NsForm) : Nat := bits x.cmd 0 6
def NsForm.rem (x : NsForm) : Bool := bitOf x.tgt 63
def NsForm.tile (x : NsForm) : Nat := bits x.tgt 32 11
def NsForm.addr (x : NsForm) : Nat := bits x.tgt 0 32

/-- The sizes an operation takes. -/
def NsForm.nbmOk (x : NsForm) : Bool :=
  match x.op with
  | 0 => x.nbm ≤ 63
  | 1 => [0, 1, 3, 7, 15, 31, 63, 127].contains x.nbm
  | 2 => x.nbm = 15
  | _ => x.nbm % 4 = 3

/-- A field that must be 0 is not, or one is out of its range (14 R315 detail 0x1). -/
def NsForm.badFields (x : NsForm) : Bool :=
  !zeroFrom x.cmd 28 || !x.nbmOk || (x.op ≠ 2 && x.aop ≠ 0) || (x.op = 3 && (x.rel || x.urg))
    || x.rem ≠ decide (x.op = 2)
    || (x.op = 0 && x.addr ≠ 0) || (x.op = 1 && x.addr % (x.nbm + 1) ≠ 0)
    || (x.op = 3 && (x.addr % 4 ≠ 0 || decide (0x5FFFF < x.addr + x.nbm)))

/-- The address word of a `ratom`, tested as a remote form under R259 (log entry 39). -/
def NsForm.semFail (x : NsForm) : Option Nat :=
  if x.aop = 12 then Sys2Proof.Machine.semFail 12 (x.tgt ||| w64 (2 ^ 63))
  else Sys2Proof.Machine.semFail 4 (x.tgt ||| w64 (2 ^ 63))

/-- The form of the trigger in hand. -/
def State.nsForm (s : State) (op : Nat) : NsForm := { op := op, cmd := s.tv, tgt := s.opo .ns }

/-- The detail with which a send operation fails (14 R315). -/
def State.nsFail (s : State) (x : NsForm) : Option Nat :=
  let free := bitOf (s.ht.rg 0x022) 16
  if x.badFields then some 0x1
  else if x.op ≠ 2 && decide (1535 < x.tile) then some 0x2
  else if (x.op = 3 && !s.ht.exchange) || (x.op ≠ 3 && isRoutine s.hand.ctx && !free) then some 0x4
  else if x.op = 2 && !([1, 4, 5, 6, 7, 8, 9, 10, 11, 12].contains x.aop) then some 0x5
  else none

/-- SEMACC of a `ratom`, then NSACC, then TOKDUP. -/
def State.checkSend (s : State) (op : Nat) : Option Raise :=
  let x := s.nsForm op
  match if op = 2 then x.semFail else none with
  | some d => some (s.raise .semacc d)
  | none =>
    match s.nsFail x with
    | some d => some (s.raise .nsacc d)
    | none => s.tokdup x.tokp

/-! ## Sends (14 R316) -/

/-- Flits of a packet, its head among them. -/
def flitsOf (p : Packet) : Nat := p.npay.toNat + 1

/-- The packet of a send operation. -/
def State.nsPacket (s : State) (x : NsForm) : Packet :=
  let n := s.hand.tile
  let bytes := x.nbm + 1
  { ptype := match x.op with | 0 => 1#4 | 1 => 3#4 | 2 => 5#4 | _ => 8#4
    cls := if x.urg then 2#2 else 1#2, vc := 0#1, npay := BitVec.ofNat 3 ((bytes + 31) / 32)
    ddev := BitVec.ofNat 20 (bits x.tgt 43 20), dtile := BitVec.ofNat 11 x.tile, sdev := BitVec.ofNat 20 s.deviceId
    stile := BitVec.ofNat 11 (s.ownNumber n), nbm := BitVec.ofNat 7 x.nbm, tag := BitVec.ofNat 8 x.tag, reason := 0#7
    seq := if x.op = 2 then BitVec.ofNat 16 (bits x.tgt 16 16) else 0#16
    aop := if x.op = 2 then BitVec.ofNat 4 x.aop else 0#4
    addr := BitVec.ofNat 32 (if x.op = 2 then bits x.tgt 0 16 else x.addr)
    payload := BitVec.ofNat 1024 ((s.ht.opp .ns).toNat % 2 ^ (8 * bytes)) }

/-- The plane or class on which a packet leaves its tile: 0 the exchange plane of the die (15 R334). -/
def State.injClass (s : State) (p : Packet) : BitVec 2 :=
  if p.ptype = 8#4 && p.ddev.toNat = s.deviceId then 0#2 else p.cls

/-- A send operation that passes: its token becomes pending and its packet joins the injection queue. A transfer on the
exchange plane injects from the next cycle on when the port is free (15 R334); the cycle of another packet is open. -/
def State.doSend (s : State) (op : Nat) : State :=
  let n := s.hand.tile
  let k := s.hand.ctx
  let x := s.nsForm op
  let p := s.nsPacket x
  let id := s.ht.nextId
  let plane := s.injClass p = 0#2
  let first := max (s.now + 1) s.ht.net.injFree
  let (d, s) := if plane then (0, s) else s.delay
  let leaves := if plane then first + flitsOf p - 1 else s.now + flitsOf p + d
  let o : Outgoing :=
    { id := id, pkt := p, ctx := k, firing := s.hc.firing, tok := x.tokp, irq := x.irq
      rel := if x.rel then some (s.ht.waits s.now k [3] fun _ => true) else none, issued := s.now, leaves := some leaves }
  let a : Awaited :=
    { id := id, pkt := p, ctx := k, firing := s.hc.firing, tok := x.tokp, irq := x.irq, issued := s.now }
  let s := (s.produce n x.tokp 6 k).modTile n fun t => { t with nextId := id + 1 }
  let s := s.modNet n fun y =>
    { y with
      out := y.out ++ [o], awaited := if op = 1 then y.awaited ++ [a] else y.awaited
      injFree := if plane then leaves + 1 else y.injFree }
  s.result .ns 0#64

/-- A send trigger of the `ns` socket. -/
def State.sendOp (s : State) (op : Nat) : Out := s.operate (s.checkSend op) fun s => s.doSend op

/-- NS_SEND (14 R316). -/
def execNsSend (s : State) : Out := s.sendOp 0

/-- NS_RST (14 R316). -/
def execNsRst (s : State) : Out := s.sendOp 1

/-- NS_RATOM (14 R316). -/
def execNsRatom (s : State) : Out := s.sendOp 2

/-- NS_XSEND (14 R316). -/
def execNsXsend (s : State) : Out := s.sendOp 3

/-! ## The end of a command (14 R316, R317) -/

/-- A status word with what its end needs: bit 32 the interrupt request, bits [63:33] the firing. -/
def nsEnd (tok k code reason tag : Nat) (irq : Bool) (firing : Nat) : W64 :=
  w64 (code * 2 ^ 24 + tok * 2 ^ 18 + k * 2 ^ 16 + reason * 2 ^ 8 + tag + b2n irq * 2 ^ 32 + firing % 2 ^ 31 * 2 ^ 33)

/-- Fixes the end of a command to the start of the next cycle. -/
def State.nsEnds (s : State) (n tok : Nat) (k : Ctx) (code reason : Nat) (p : Packet) (irq : Bool) (firing : Nat) : State :=
  s.later n k updNsDone (nsEnd tok (ctxNum k) code reason p.tag.toNat irq firing)

/-- The end of a command: its token, its status word, its interrupt. -/
def State.nsDone (s : State) (n : Nat) (k : Ctx) (v : W64) : State :=
  let st := bits v 0 32
  let tok := bits v 18 6
  let s := ((s.tokenDone n tok).event n 0x07 k (4 + tok * 2 ^ 4)).modCtx n k fun c => { c with lastNs := BitVec.ofNat 32 st }
  let f := (s.ctx n k).firing
  if bitOf v 32 && f % 2 ^ 31 = bits v 33 31 then s.raiseIrq n k f { src := 2, tok := tok, status := st } else s

/-! ## Injection (14 R316, 15 R334) -/

/-- The first packet of a tile's queue on a plane or class. -/
def State.injHead (s : State) (n : Nat) (cls : BitVec 2) : Option Outgoing :=
  (s.tile n).net.out.find? fun o => s.injClass o.pkt = cls

/-- Whether it leaves by this cycle: its cycle has come and what a release form waits for has performed. -/
def State.injReady (s : State) (n : Nat) (cls : BitVec 2) : Bool :=
  match s.injHead n cls with
  | none => false
  | some o =>
    decide (o.leaves.getD 0 ≤ s.now) && (match o.rel with | some w => (s.tile n).waitsDone s.now w | none => true)

/-- The Manhattan distance of two furlongs of a league in its grid (15 R334). -/
def gridDist (a b : Nat) : Nat :=
  let d (x y : Nat) : Nat := if x < y then y - x else x - y
  d (a % 12 % 4) (b % 12 % 4) + d (a % 12 / 4) (b % 12 / 4)

/-- `lat` from one logical tile to another (15 R334). -/
def exchangeLat (a b : Nat) : Nat :=
  if a = waymark || b = waymark then 48
  else if a / 8 = b / 8 then 6
  else if a / 32 = b / 32 then 10
  else if a / 384 = b / 384 then 12 + 2 * gridDist (a / 32) (b / 32)
  else 48

/-- Puts a transfer among those on their way to a delivery port, each with the due cycle of its head and the cycle in which
the head is there: by the due cycle, then by the source. -/
def insertDue (x : Nat × Nat × Packet) : List (Nat × Nat × Packet) → List (Nat × Nat × Packet)
  | [] => [x]
  | y :: l =>
    if x.1 < y.1 || (x.1 = y.1 && x.2.2.stile.toNat < y.2.2.stile.toNat) then x :: y :: l else y :: insertDue x l

/-- A transfer triggered in cycle `issued` whose tail leaves now: its head is due by the cycle of its trigger, and is at
its destination's delivery port by that in which it left (15 R334). -/
def State.planeSend (s : State) (p : Packet) (issued : Nat) : State :=
  match s.destTile p.dtile.toNat with
  | none => s.route p
  | some m =>
    let lat := exchangeLat p.stile.toNat p.dtile.toNat
    let there := s.now + 1 - flitsOf p + lat
    (s.modNet m fun x => { x with xin := insertDue (issued + 1 + lat, there, p) x.xin }).schedule there prioDeliver
      (.exchangeDelivery m p 1)

/-- PACKET_INJECT (14 R316): a packet's tail leaves its tile in this cycle. -/
def execPacketInject (n : Nat) (cls : BitVec 2) (s : State) : Out :=
  match s.injHead n cls with
  | none => .fault .noSuchStep
  | some o =>
    let s := s.modNet n fun x =>
      { x with out := x.out.filter fun y => y.id ≠ o.id, injFree := max x.injFree (s.now + 1) }
    let s := (s.countInjected n).event n 0x06 o.ctx 4
    let s := if o.pkt.ptype = 3#4 then s else s.nsEnds n o.tok o.ctx 0x00 0 o.pkt o.irq o.firing
    .next (if cls = 0#2 then s.planeSend o.pkt o.issued else s.route o.pkt)

/-! ## The inbox (14 R306, R307, R318) -/

/-- The arrival record of a packet without its slot (14 R318). -/
def recordOf (p : Packet) : W64 :=
  w64 (2 ^ 5 + b2n (decide (p.ptype = 2#4)) * 2 ^ 6 + b2n (decide (p.cls = 2#2)) * 2 ^ 7 + p.nbm.toNat % 64 * 2 ^ 8
    + p.tag.toNat * 2 ^ 14 + p.reason.toNat * 2 ^ 22 + (p.sdev.toNat * 2 ^ 11 + p.stile.toNat) * 2 ^ 29)

/-- What a window slot takes of a payload: bytes 0 to nbm, the rest 0. -/
def slotBytes (nbm : Nat) (payload : V1024) : W512 := BitVec.ofNat 512 (payload.toNat % 2 ^ (8 * (min nbm 63 + 1)))

/-- The lowest free slot. -/
def Inbox.free (x : Inbox) : Option Nat := (List.range 32).find? fun i => !spGet false x.full i

/-- Delivers into a slot: its bytes, its record, and its number at the tail of the queue. -/
def Inbox.deliver (x : Inbox) (i : Nat) (rec : W64) (v : W512) : Inbox :=
  { x with
    win := spSet 0#512 x.win i v, full := spSet false x.full i true, queue := x.queue ++ [i]
    recs := spSet 0#64 x.recs i (putBits rec 0 5 i) }

/-- Whether a packet is a message, which overflow mode holds (14 R307). -/
def isMessage (p : Packet) : Bool := p.ptype = 1#4

/-- Which packets that wait at an input can go on, and which stay: behind a message of their class and VC (14 R296). -/
def unblocked : List Packet → List Packet → List Packet × List Packet
  | [], _ => ([], [])
  | p :: l, ms =>
    if isMessage p || ms.any fun q => q.cls = p.cls && q.vc = p.vc then
      let (go, stay) := unblocked l (p :: ms)
      (go, p :: stay)
    else
      let (go, stay) := unblocked l ms
      (p :: go, stay)

/-- A packet becomes the held arrival; it is returned if nothing is done with it within 4,096 cycles. -/
def State.holdArrival (s : State) (n : Nat) (p : Packet) : State :=
  let a : Arrival := { record := recordOf p, payload := slotBytes p.nbm.toNat p.payload }
  (s.modNet n fun x => { x with held := some (s.now, a, p) }).schedule (s.now + 4096) prioDeliver (.heldArrivalTimeout n)

/-- Packets that have waited at an input go on in the next cycle. -/
def State.passOn (s : State) (n : Nat) (go : List Packet) : State :=
  go.foldl (fun s p => s.schedule (s.now + 1) prioDeliver (arrivalOf n p))
    (s.modNet n fun x => { x with passing := x.passing ++ go })

/-- The hold ends: the next message that waits at the input becomes held, and the packets that stood behind it alone go
on. -/
def State.holdEnds (s : State) (n : Nat) : State :=
  let x := (s.tile n).net
  let next := x.waiting.find? isMessage
  let rest := match next with
    | some p => x.waiting.erase p
    | none => x.waiting
  let (go, stay) := unblocked rest []
  let s := s.modNet n fun x => { x with held := none, waiting := stay }
  let s := match next with
    | some p => s.holdArrival n p
    | none => s
  s.passOn n go

/-- No arrival is held any more, and the packets that waited at the input go on (18 R433). -/
def State.inputFrees (s : State) (n : Nat) : State :=
  (s.modNet n fun x => { x with waiting := [] }).passOn n (s.tile n).net.waiting

/-- Whether overflow of the inbox is served by K2 (14 R308). -/
def Tile.ovsvc (t : Tile) : Bool := bitOf (t.rg 0x038) 0

/-- A packet for the inbox has come in: a message is held in overflow mode, and sets it where no slot is free; a return
or a recovery packet takes a free slot or is dropped (14 R305 to R307; DEDUCED, log entry 102). -/
def State.intoInbox (s : State) (n : Nat) (p : Packet) : State :=
  let t := s.tile n
  if t.net.overflow && isMessage p then
    if t.net.held.isNone then s.holdArrival n p
    else s.modNet n fun x => { x with waiting := x.waiting ++ [p] }
  else
    match t.net.free with
    | some i =>
      ((s.settle p).modNet n fun x => x.deliver i (recordOf p) (slotBytes p.nbm.toNat p.payload)).event n 0x08 .k0
        (i + p.reason.toNat * 2 ^ 5)
    | none =>
      if t.ovsvc && isMessage p then (s.modNet n fun x => { x with overflow := true }).holdArrival n p else s.bounce p 0x06

/-- MESSAGE_DELIVERY (14 R306, R307): a message, a recovery packet, or a return for the inbox. -/
def execMessageDelivery (n : Nat) (p : Packet) (s : State) : Out :=
  match s.refuses n with
  | some why => .next (s.bounce p why)
  | none => .next (s.atInput n p fun s => s.intoInbox n p)

/-- Whether K2 of a tile wakes in this cycle (14 R307, 04 R84). -/
def State.k2Wakes (s : State) (n : Nat) : Bool :=
  let t := s.tile n
  t.net.overflow && t.k2.run = .idle

/-- K2_WAKE (14 R307): K2 wakes at `svcaddr` [10:0]. -/
def execK2Wake (n : Nat) (s : State) : Out :=
  .next (s.modTile n fun t => { t with k2 := { t.k2 with run := .ready, pc := bits (t.rg 0x023) 0 11, next := none } })

/-- HELD_ARRIVAL_TIMEOUT (14 R307). -/
def execHeldArrivalTimeout (n : Nat) (s : State) : Out :=
  match (s.tile n).net.held with
  | some (c, _, p) =>
    .next (if c + 4096 = s.now && (s.tile n).net.spillAt.all (· < s.now) then (s.holdEnds n).bounce p 0x04 else s)
  | none => .next s

/-! ## Receive and service operations (14 R318, R319) -/

/-- The record of the queue head. -/
def Inbox.headRecord (x : Inbox) : W64 :=
  match x.queue with
  | [] => 0#64
  | i :: _ => spGet 0#64 x.recs i

/-- NS_RECV (14 R318). -/
def execNsRecv (s : State) : Out :=
  s.operate none fun s =>
    (s.result .ns s.ht.net.headRecord).modNet s.hand.tile fun x => { x with queue := x.queue.drop 1 }

/-- NS_PEEK (14 R318). -/
def execNsPeek (s : State) : Out := s.operate none fun s => s.result .ns s.ht.net.headRecord

/-- NS_RELEASE (14 R318). -/
def execNsRelease (s : State) : Out :=
  s.operate none fun s =>
    let i := bits s.tv 0 5
    (s.result .ns (w64 (b2n (spGet false s.ht.net.full i)))).modNet s.hand.tile fun x =>
      { x with full := spSet false x.full i false, queue := x.queue.filter fun j => j ≠ i }

/-- The inbox status (14 R318). -/
def Tile.inboxStatus (t : Tile) : W64 :=
  let x := t.net
  w64 (((List.range 32).filter fun i => !spGet false x.full i).length + x.queue.length * 2 ^ 6 + b2n x.overflow * 2 ^ 12
    + b2n x.held.isSome * 2 ^ 13 + x.out.length % 16 * 2 ^ 14 + b2n t.ovsvc * 2 ^ 18)

/-- NS_STAT (14 R318). -/
def execNsStat (s : State) : Out := s.operate none fun s => s.result .ns s.ht.inboxStatus

/-- NS_LAST (14 R313). -/
def execNsLast (s : State) : Out := s.operate none fun s => s.result .ns (w64 s.hc.lastNs.toNat)

/-- A service operation outside K2 traps (14 R315 detail 0x3). -/
def State.checkService (s : State) : Option Raise :=
  if s.hand.ctx ≠ .k2 then some (s.raise .nsacc 0x3) else none

/-- The checks of a spill: context, then address (14 R315). -/
def State.checkSpill (s : State) : Option Raise :=
  let a := bits s.tv 0 32
  match s.checkService with
  | some r => some r
  | none =>
    if a % 64 ≠ 0 || (List.range 64).any (fun i => !sramPresent s.ht.cls (a + i)) then some (s.raise .nsacc 0x6) else none

/-- NS_SPILL (14 R319): the held arrival's slot bytes are written through requester 5; its record lands in the next
cycle, behind the results still to come (03 R60), and the hold of that arrival ends. -/
def execNsSpill (s : State) : Out :=
  s.operate s.checkSpill fun s =>
    let n := s.hand.tile
    match s.ht.net.held with
    | none => s.result .ns 0#64
    | some (since, a, _) =>
      let addr := bits s.tv 0 32
      let b := sramBank addr
      let c := wheelCycle (s.now + 1) 5 b
      let row : RowTouch := { cyc := c, bank := b, row := sramRow addr, bytes := (List.range 64).map fun i => (addr + i, i) }
      let id := s.ht.nextId
      let acc : Access :=
        { id := id, q := 5, ctx := s.hand.ctx, issued := s.now, store := true, sext := 0
          data := BitVec.ofNat 1024 a.payload.toNat, rows := [row], last := c }
      let s := s.modTile n fun t =>
        { t with
          accesses := t.accesses.filter (fun x => s.now ≤ x.last) ++ [acc], nextId := id + 1
          net := { t.net with spillAt := t.net.spillAt.filter (s.now ≤ ·) ++ [c] } }
      let due := s.lockedDue n .ns (c - s.now) 9
      let s := (s.schedule c prioRead (.sramBankAccess n 5 id 0)).landAt n s.hand.ctx .ns due true [(.r, wide a.record)] 0
      s.schedule (c + 1) prioUpdate (.registerWrite { tile := n, ctx := .k2, num := updSpill } (w64 since))

/-- The end of a spill of the arrival held since a cycle: the packet has settled and the hold ends, unless another one
stands there by then. -/
def State.spillDone (s : State) (n : Nat) (since : W64) : State :=
  match (s.tile n).net.held with
  | some (c, _, p) => if w64 c = since then (s.settle p).holdEnds n else s
  | none => s

/-- NS_LBACK (14 R319): delivers a message with the record in `opo`. -/
def execNsLback (s : State) : Out :=
  s.operate s.checkService fun s =>
    match s.ht.net.free with
    | none => s.result .ns 0#64
    | some i =>
      let v := putBits (s.opo .ns) 0 6 32
      ((s.result .ns 1#64).modNet s.hand.tile fun x =>
        x.deliver i v (slotBytes (bits (s.opo .ns) 8 6) (s.ht.opp .ns))).later s.hand.tile s.hand.ctx updEvent
          (w64 (0x08 * 2 ^ 32 + i + bits (s.opo .ns) 22 7 * 2 ^ 5))

/-- NS_REJECT (14 R319). -/
def execNsReject (s : State) : Out :=
  s.operate s.checkService fun s =>
    match s.ht.net.held with
    | none => s.result .ns 0#64
    | some (_, a, p) => ((s.result .ns a.record).holdEnds s.hand.tile).bounce p 0x04

/-- NS_OVCLR (14 R319). -/
def execNsOvclr (s : State) : Out :=
  s.operate s.checkService fun s =>
    if s.ht.net.held.isSome then s.result .ns 0#64
    else (s.result .ns 1#64).modNet s.hand.tile fun x => { x with overflow := false }

/-! ## Writes through requester 5 (14 R311, 15 R335) -/

/-- The bank rows a packet writes, in increasing address order: offset and bytes of each (log entry 40). -/
def rowsOfPacket (p : Packet) : List (Nat × Nat) := unitsOf 0 p.addr.toNat (p.nbm.toNat + 1)

/-- The step that writes part b of a packet. -/
def writeStep (n : Nat) (p : Packet) (b : Nat) : Instr :=
  if p.ptype = 3#4 then .remoteStoreWrite n p (b + 1) else .exchangeDelivery n p (b + 2)

/-- Fixes part b of a packet's write after a cycle. -/
def State.partLater (s : State) (n : Nat) (p : Packet) (b after : Nat) : State :=
  let o := ((rowsOfPacket p).getD b (0, 0)).1
  s.schedule (wheelCycle (after + 1) 5 (sramBank (p.addr.toNat + o))) prioRead (writeStep n p b)

/-- A packet has arrived whole: it is written after those that arrived before it. -/
def State.joinWrites (s : State) (n : Nat) (p : Packet) : State :=
  let first := (s.tile n).net.wq.isEmpty
  let s := s.modNet n fun x => { x with wq := x.wq ++ [(p, s.now)] }
  if first then s.partLater n p 0 s.now else s

/-- Whether requester 5 is taken in this cycle by a spill, or held by a class rewrite (14 R311, 09 R198). -/
def State.fiveTaken (s : State) (n : Nat) : Bool :=
  (s.tile n).busy || (s.tile n).net.spillAt.contains s.now

/-- Writes part b of a packet. -/
def State.writePart (s : State) (n : Nat) (p : Packet) (b : Nat) : State :=
  let (o, w) := (rowsOfPacket p).getD b (0, 0)
  let l := (List.range w).map fun i => (p.addr.toNat + o + i, BitVec.ofNat 8 (bits p.payload (8 * (o + i)) 8))
  s.modTile n fun t => t.sramWrite 5 (l.filter fun x => sramPresent t.cls x.1)

/-- The last part has been written: the next packet's writes begin. -/
def State.writesDone (s : State) (n : Nat) : State :=
  let s := s.modNet n fun x => { x with wq := x.wq.drop 1 }
  match (s.tile n).net.wq with
  | [] => s
  | (p, _) :: _ => s.partLater n p 0 s.now

/-- Logs a remote store in the trace ring (16 R362, R363). -/
def State.logRing (s : State) (n : Nat) (p : Packet) : State :=
  s.modTile n fun t =>
    let h := t.rg 0x03B
    let i := bits h 0 10
    let t := t.setRg (0x800 + 2 * i) (w64 (p.nbm.toNat + bits s.hub.paceNs 0 57 * 2 ^ 7))
    let t := t.setRg (0x801 + 2 * i)
      (w64 (p.addr.toNat + p.stile.toNat * 2 ^ 32 + p.sdev.toNat * 2 ^ 43 + 2 ^ 63))
    t.setRg 0x03B (w64 ((i + 1) % 1024 + satNat 0xFFFFFFFF (bits h 32 32 + 1) * 2 ^ 32))

/-- Whether a remote store is accepted (14 R309, R311). -/
def Tile.storeOk (t : Tile) (p : Packet) : Bool :=
  let v := t.rg 0x039
  let a := p.addr.toNat
  decide (bits v 0 32 ≤ a) && decide (a + p.nbm.toNat < bits v 0 32 + bits v 32 32)
    && (List.range (p.nbm.toNat + 1)).all fun i => sramPresent t.cls (a + i)

/-- REMOTE_STORE_WRITE (14 R311): the arrival of a remote store (b = 0), or the write of its part b - 1; with the last
one it is logged and acknowledged. -/
def execRemoteStoreWrite (n : Nat) (p : Packet) (b : Nat) (s : State) : Out :=
  if b = 0 then
    match s.refuses n with
    | some why => .next (s.bounce p why)
    | none => .next (s.atInput n p fun s => if (s.tile n).storeOk p then s.joinWrites n p else s.bounce p 0x07)
  else if s.fiveTaken n then .next (s.schedule (s.now + 8) prioRead (.remoteStoreWrite n p b))
  else
    let s := s.writePart n p (b - 1)
    .next (if b < (rowsOfPacket p).length then s.partLater n p b s.now
      else (((s.logRing n p).settle p).writesDone n).route (ackOf p))

/-- STORE_ACKNOWLEDGEMENT (14 R305, R316, R317): the acknowledgement or the return of a remote store. -/
def execStoreAcknowledgement (n : Nat) (p : Packet) (s : State) : Out :=
  match s.refuses n with
  | some _ => .next (s.dropPacket p)
  | none =>
    let s := s.settle p
    .next (match (s.tile n).awaits p 3 with
      | none => s
      | some a =>
        let s := s.modNet n fun x => { x with awaited := x.awaited.filter fun y => y.id ≠ a.id }
        let ret : Bool := p.ptype = 2#4
        s.nsEnds n a.tok a.ctx (if ret then 0x02 else 0x01) (if ret then p.reason.toNat else 0) a.pkt a.irq a.firing)

/-! ## The exchange plane (15 R335, R336) -/

/-- A flit is delivered after its due cycle: a conflict. -/
def Tile.conflict (t : Tile) (due : Nat) : Tile :=
  let v := t.rg 0x052
  if bitOf v 63 then t
  else t.setRg 0x052 (putBits (putBits v 63 1 1) 0 16 (satNat 0xFFFF (due - t.seqr.xstart.getD 0)))

/-- The head of a transfer is at its delivery port, which takes whole packets in the order of their due cycles. -/
def State.portTake (s : State) (n : Nat) (p : Packet) : State :=
  let x := (s.tile n).net
  if s.now < x.portFree then s.schedule x.portFree prioDeliver (.exchangeDelivery n p 1)
  else
    match x.xin.find? fun y => decide (y.2.1 ≤ s.now) with
    | none => s
    | some (due, there, q) =>
      if q ≠ p then s.schedule s.now prioDeliver (.exchangeDelivery n p 1)
      else
        let s := s.modNet n fun x => { x with xin := x.xin.erase (due, there, q), portFree := s.now + flitsOf p }
        let s := if due < s.now then s.modTile n fun t => t.conflict due else s
        s.schedule (s.now + flitsOf p - 1) prioDeliver (.exchangeDelivery n p 0)

/-- EXCHANGE_DELIVERY (15 R335): the head of a transfer at its delivery port (b = 1), the arrival of its tail (b = 0), or
the write of its part b - 2. -/
def execExchangeDelivery (n : Nat) (p : Packet) (b : Nat) (s : State) : Out :=
  match b with
  | 0 =>
    match s.refuses n with
    | some why => .next (s.bounce p why)
    | none =>
      .next (if p.sdev.toNat = s.deviceId then s.joinWrites n p else s.atInput n p fun s => s.joinWrites n p)
  | 1 => .next (s.portTake n p)
  | i + 2 =>
    if s.fiveTaken n then .next (s.schedule (s.now + 8) prioRead (.exchangeDelivery n p b))
    else
      let s := s.writePart n p i
      .next (if i + 1 < (rowsOfPacket p).length then s.partLater n p (i + 1) s.now
        else (s.settle p).writesDone n)

end Sys2Proof.Machine
end

