-- ==== Sys2Proof/Machine/Ready.lean ====
section
/-!
DEFINITION. When a context is ready (04 R84): its state, the waits of its last word, and what holds its next word (03 R57,
R60, 09 R187, 11 R247, 14 R316, 16 R357).
-/

namespace Sys2Proof.Machine

/-- The next word of a context. -/
def Tile.nextWord (t : Tile) (k : Ctx) : Option Word := (t.fetch k (t.ctx k).pc).map wordOf

/-- Whether the words of a tile may issue in cycle now: it is not frozen, no class rewrite runs, and a resume has begun. -/
def Tile.live (t : Tile) (now : Nat) : Bool :=
  !t.frozen && !t.busy && (match t.resumeAt with | some u => decide (u ≤ now) | none => true)

/-- Whether a result has still to come: in flight, or captured before its value. -/
def Tile.resultToCome (t : Tile) (now id : Nat) : Bool :=
  t.flights.any (fun f => f.id = id)
    || t.captures.any fun c => c.fl.id = id && (match c.fl.due with | some d => decide (now < d) | none => true)

/-- Whether a hold still holds. -/
def State.holding (s : State) (n : Nat) (h : Hold) : Bool :=
  match h with
  | .result id => (s.tile n).resultToCome s.now id
  | .token k => (s.tile n).tokPending k
  | .untilCycle c => decide (s.now < c)
  | .untilPace ns lag => decide ((s.paceAgo lag).1.toNat < ns)
  | _ => true

/-- Ends the holds of tile n whose condition has come true. -/
def State.endWaits (s : State) (n : Nat) : State :=
  let t := s.tile n
  if allCtx.all fun k => (t.ctx k).holds.isEmpty then s
  else
    let prune (t : Tile) (k : Ctx) : Tile :=
      t.modCtx k fun c => { c with holds := c.holds.filter fun h => s.holding n h }
    s.setTile n (allCtx.foldl prune t)

/-- The value a socket's `o` latch has after step 2 of a word's performed moves. -/
def Tile.opoAfter (t : Tile) (ms : List Move) (so : Sock) : V1024 :=
  match (winners ms).find? fun m => decide (m.dst = .opnd so false) with
  | some m => t.readSrc m
  | none => t.opo so

/-- Whether a trigger stores, sends, or acts on a remote semaphore other than by `ld` (16 R357). -/
def Tile.writing (t : Tile) (ms : List Move) (so : Sock) (opc : Nat) : Bool :=
  match so with
  | .st0 => true
  | .st1 => true
  | .tsw => true
  | .ns => opc < 4
  | .sem => bitOf (t.opoAfter ms so) 63 && opc ≠ 2
  | _ => false

/-- Whether a trigger falls inside an occupancy that holds its context. -/
def Tile.occupied (t : Tile) (now : Nat) (so : Sock) (opc : Nat) : Bool :=
  match so with
  | .mul => t.lockedMode .mul && decide (now < t.mulFree)
  | .ld0 =>
    t.farPending so || (if opc = 16 || opc = 17 then t.loadPending so else t.lockedMode so && t.twoPending now so)
  | .ld1 =>
    t.farPending so || (if opc = 16 || opc = 17 then t.loadPending so else t.lockedMode so && t.twoPending now so)
  | .st0 => t.twoPending now so
  | .st1 => t.twoPending now so
  | .ns => opc < 4 && decide (8 ≤ t.net.out.length)
  | .tsw => t.eng.tsw.isSome
  | _ => false

/-- Whether a trigger inside an occupancy traps SOCKBUSY instead (03 R57, 09 R187). -/
def Tile.sockbusy (t : Tile) (now : Nat) (so : Sock) (opc : Nat) : Bool :=
  match so with
  | .mul => !t.lockedMode .mul && decide (now < t.mulFree)
  | .ld0 => !(opc = 16 || opc = 17) && !t.lockedMode so && t.twoPending now so
  | .ld1 => !(opc = 16 || opc = 17) && !t.lockedMode so && t.twoPending now so
  | _ => false

/-- Whether a move reads a pending port (03 R60); `vfb.q` also where a result is pending in `vfb.r` (07 R152). -/
def Tile.readsPending (t : Tile) (m : Move) : Bool :=
  match m.src with
  | .port so po => t.pending so po || (so = .vfb && po = .q && t.pending so .r)
  | _ => false

/-- Whether an incomplete fence of kind w is there (16 R357). -/
def Context.fencedW (c : Context) : Bool := c.fences.any fun f => !f.rw

/-- Whether a legal word of context k is held by what it reads or triggers. -/
def Tile.wordHeld (t : Tile) (now : Nat) (k : Ctx) (w : Word) : Bool :=
  let ms := t.performed k w
  ms.any t.readsPending
    || (winners ms).any fun m =>
        match m.dst with
        | .trig so _ opc =>
          !t.inBallast k && (t.occupied now so opc || ((t.ctx k).fencedW && t.writing ms so opc))
        | _ => false

/-- Whether the next word of a context is held; an illegal word and one past word 2,047 are not. -/
def Tile.nextHeld (t : Tile) (now : Nat) (k : Ctx) : Bool :=
  match t.nextWord k with
  | none => false
  | some w => (wordCheck k w).isNone && t.wordHeld now k w

/-- Whether the captured results that come back with the next word of a context have all their values: a capture waits
for them (03 R68, R69, 18 R420). -/
def Tile.comesBack (t : Tile) (now : Nat) (k : Ctx) : Bool :=
  t.captured now (.trap k) && ((t.ctx k).saved.isSome || t.captured now (.handler k))

/-- Whether a context waits: by a wait of its last word, by a fence, for the values of captured results, or with its next
word held (04 R84). -/
def Tile.waiting (t : Tile) (now : Nat) (k : Ctx) : Bool :=
  let c := t.ctx k
  !c.holds.isEmpty || c.fences.any (·.rw) || !t.comesBack now k || t.nextHeld now k

/-- Whether a completion interrupt can be taken: one whose source is enabled, outside a handler (04 R90, R103). -/
def Context.takeable (c : Context) : Option Intr :=
  if c.saved.isSome then none else c.irqs.find? fun x => bitOf c.ien (x.src - 1)

/-- Whether a cause is due that is taken in place of a held word. -/
def Context.urgent (c : Context) : Bool := c.dues.any (·.urgent)

/-- Whether a context runs and its tile may issue. -/
def Tile.awake (t : Tile) (now : Nat) (k : Ctx) : Bool :=
  let c := t.ctx k
  c.run = .ready && decide (c.wstart ≤ now) && t.live now

/-- Whether context k is ready in cycle now: its next word, a trap or an interrupt in place of it, could be taken. -/
def Tile.ready (t : Tile) (now : Nat) (k : Ctx) : Bool :=
  t.awake now k && (!t.waiting now k || (t.ctx k).urgent || (t.ctx k).takeable.isSome)

/-- Whether K3 may issue in its ballast mode in a cycle (04 R88). -/
def Tile.ballastTurn (t : Tile) (now : Nat) : Bool :=
  let d := min (bits (t.rg 0x024) 0 5) 16
  decide ((now % 16 * d) % 16 < d)

/-- Whether a cycle is throttled (04 R88); none of an exchange phase is (15 R332). -/
def Tile.throttled (t : Tile) (now : Nat) : Bool :=
  let l := bits (t.rg 0x025) 0 4
  decide ((now % 16 * l) % 16 < l) && !t.exchange

end Sys2Proof.Machine
end

