-- ==== Sys2Proof/Machine/Fences.lean ====
section
/-!
DEFINITION. Fences (16 R355 to R357).
-/

namespace Sys2Proof.Machine

/-- Whether a packet's target lies within scope lv of tile n (16 R355). -/
def State.inScope (s : State) (n lv : Nat) (p : Packet) : Bool :=
  if lv = 5 then true
  else if p.ddev.toNat ≠ s.deviceId then false
  else if lv = 4 then true
  else
    match s.destTile p.dtile.toNat with
    | none => false
    | some m =>
      let size := if lv = 1 then 9 else if lv = 2 then 36 else 432
      m = n || (lv ≠ 0 && decide (m < 1728 ∧ n < 1728) && m / size = n / size)

/-- Whether a wait set is empty. -/
def Waits.isEmpty (w : Waits) : Bool := w.stores.isEmpty && w.tsw.isNone && w.remote.isEmpty

/-- A fence forms its wait set at step 3 of its word; one with nothing to wait for is complete (16 R357). -/
def State.fence (s : State) (rw : Bool) (lv : Nat) : Out :=
  s.operate none fun s =>
    let n := s.hand.tile
    let k := s.hand.ctx
    let w := s.ht.waits s.now k [3, 4] (s.inScope n lv)
    let s := s.result .sys 0#64
    if w.isEmpty then s else s.modCtx n k fun c => { c with fences := c.fences ++ [{ rw := rw, waits := w }] }

/-- FENCE_W (16 R357). -/
def execFenceW (lv : Nat) (s : State) : Out := s.fence false lv

/-- FENCE_RW (16 R357). -/
def execFenceRw (lv : Nat) (s : State) : Out := s.fence true lv

/-- Whether a fence of a context completes in this cycle. -/
def State.fenceDone (s : State) (n : Nat) (k : Ctx) : Bool :=
  let t := s.tile n
  (t.ctx k).fences.any fun f => t.waitsDone s.now f.waits

/-- FENCE_COMPLETE (16 R357). -/
def execFenceComplete (n : Nat) (k : Ctx) (s : State) : Out :=
  let t := s.tile n
  .next (s.modCtx n k fun c => { c with fences := c.fences.filter fun f => !t.waitsDone s.now f.waits })

end Sys2Proof.Machine
end

