-- ==== Sys2Proof/Machine/Landing.lean ====
section
/-!
DEFINITION. A result lands in its port at the start of a cycle (03 R55 to R62, 06 R145, 09 R194, R196).
-/

namespace Sys2Proof.Machine

/-- The results that land in a port in this cycle, in trigger order. -/
def Tile.landing (t : Tile) (now : Nat) (so : Sock) (po : Port) : List Flight :=
  t.flights.filter fun f => f.so = so && f.po = po && f.due = some now

/-- The latest trigger among results. -/
def latest (l : List Flight) : Option Flight :=
  l.foldl (fun a f => match a with | some g => if g.id < f.id then some f else a | none => some f) none

/-- The slice lines of 64 bytes that a far load of nb bytes at an offset reads and that are marked. -/
def Furlong.badLines (f : Furlong) (off nb : Nat) : List Nat :=
  ((List.range ((off + nb - 1) / 64 - off / 64 + 1)).map (fun i => off / 64 + i)).filter fun l => spGet false f.mark l

/-- The value a result lands with: a far load reads the slice now; each line of it with an uncorrectable error is charged,
and they raise one cause (09 R194, R196, 13 R287, 17 R392). -/
def State.farValue (s : State) (n : Nat) (f : Flight) : State × Flight :=
  match f.far with
  | none => (s, f)
  | some (off, nb) =>
    let fu := s.furlong (furlongOf n)
    let f := { f with val := BitVec.ofNat 1024 (memNat fu.slice off nb) }
    let (s, rep) := s.chargeAll n f.ctx .uncorr 0x2 ((fu.badLines off nb).map fun l => (false, l * 64))
    match rep with
    | some r => (s, { f with err := some r.cause, errAux := w64 (r.aux + r.detail * 2 ^ 48) })
    | none => (s, f)

/-- A captured far load that is due now reads now; the value lands with its word (09 R200). -/
def State.farArrives (s : State) (n : Nat) (so : Sock) (po : Port) : State :=
  let cs := (s.tile n).captures.filter fun c => c.fl.so = so && c.fl.po = po && c.fl.due = some s.now && c.fl.far.isSome
  cs.foldl (fun s c =>
    let (s, f) := s.farValue n c.fl
    s.modTile n fun t =>
      { t with captures := t.captures.map fun x => if x.fl.id = f.id then { x with fl := { f with far := none } } else x }) s

/-- A landing collision of socket so in context k (03 R62, R66). -/
def State.noteLcoll (s : State) (n : Nat) (k : Ctx) (so : Sock) : State :=
  s.modCtx n k fun c => c.setCr 0x021 (putBits (putBits (c.cr 0x021) 16 5 (sockNum so)) 1 1 1)

/-- Ends the holds that wait for results. -/
def State.endHolds (s : State) (n : Nat) (fs : List Flight) : State :=
  fs.foldl (fun s f => s.unhold n f.ctx (.result f.id)) s

/-- The results that have landed in this cycle. -/
def Tile.landedNow (t : Tile) (now : Nat) : List (W64 × Flight) := t.landed.filter fun p => p.2.due = some now

/-- Those among them that landed in a port. -/
def Tile.landedIn (t : Tile) (now : Nat) (so : Sock) (po : Port) : List Flight :=
  ((t.landedNow now).filter fun p => p.2.so = so && p.2.po = po).map (·.2)

/-- The `fpflags` that a context had before the landings of this cycle. -/
def Tile.flagsBefore (t : Tile) (now : Nat) (k : Ctx) : W64 :=
  match (t.landedNow now).find? fun p => p.2.ctx = k with
  | some p => p.1
  | none => (t.ctx k).cr 0x029

/-- One result lands: its value is its port's unless that of a later trigger has landed there in this cycle, its flags join
`fpflags`, and the cause it brings is due (03 R56, R60, 06 R145, 09 R196). -/
def State.landOne (n : Nat) (s : State) (f : Flight) : State :=
  let (s, f) := s.farValue n f
  let s := s.modTile n fun t =>
    { (if (t.landedIn s.now f.so f.po).any (fun g => f.id < g.id) then t else t.setPort f.so f.po f.val) with
      landed := t.landedNow s.now ++ [(t.flagsBefore s.now f.ctx, f)] }
  (s.modCtx n f.ctx fun c => c.setCr 0x029 (c.cr 0x029 ||| w64 f.flags)).raiseLanded n f

/-- The results that have landed in a port in this cycle are discarded: their flags leave `fpflags` (03 R62, 06 R145). -/
def Tile.discardLanded (t : Tile) (now : Nat) (so : Sock) (po : Port) : Tile :=
  if (t.landedIn now so po).isEmpty then t
  else
  let rest := (t.landedNow now).filter fun p => !(p.2.so = so && p.2.po = po)
  let flags (k : Ctx) : W64 :=
    (rest.filter fun p => p.2.ctx = k).foldl (fun v p => v ||| w64 p.2.flags) (t.flagsBefore now k)
  let t := { t with landed := rest }
  (t.landedNow now).foldl (fun t p => t.modCtx p.2.ctx fun c => c.setCr 0x029 (flags p.2.ctx)) t

/-- RESULT_LANDS (03 R56, R60, R62): results of a locked socket land in trigger order; of several results due of which one
is free-running, that of the latest trigger lands and the others are discarded. A captured result that comes back with a
word meets those that have landed in the port at the start of its cycle in the same way. -/
def execResultLands (n : Nat) (so : Sock) (po : Port) (s : State) : Out :=
  let s := s.farArrives n so po
  let fs := (s.tile n).landing s.now so po
  let old := (s.tile n).landedIn s.now so po
  let s := (s.modTile n fun t =>
    { t with flights := t.flights.filter fun g => !(g.so = so && g.po = po && g.due = some s.now) }).endHolds n fs
  if fs.isEmpty || (old ++ fs).all (·.locked) then .next (fs.foldl (State.landOne n) s)
  else
    match latest (old ++ fs) with
    | none => .next s
    | some f =>
      let s := if fs.any (fun g => g.id = f.id) then (s.modTile n fun t => t.discardLanded s.now so po).landOne n f else s
      .next (if 1 < (old ++ fs).length then s.noteLcoll n f.ctx so else s)

end Sys2Proof.Machine
end

