-- ==== Sys2Proof/Machine/Links.lean ====
section
/-!
DEFINITION. Link ends: flits, recovery, flow, the classes, reassembly and truncation (14 R292 to R303), port digests (20
R458) and the training of fabric ports (21 R470, R471). The links held are the 32 fabric ports; the mesh and the chiplet
links show only as the open time of a packet (log entry 41).
-/

namespace Sys2Proof.Machine

/-- Whether l is a fabric port. -/
def isPort (l : Nat) : Bool := l < 32

/-! ## Types (14 R295) -/

/-- Whether cls, vc and npay are values that the packet's type allows. -/
def typeOk (p : Packet) : Bool :=
  let c := p.cls.toNat
  let v := p.vc.toNat
  let n := p.npay.toNat
  match p.ptype.toNat with
  | 1 => (c = 1 || c = 2) && v = 0 && (n = 1 || n = 2)
  | 2 => c = 2 && v = 1 && n ≤ 2
  | 3 => (c = 1 || c = 2) && v = 0 && decide (1 ≤ n ∧ n ≤ 4)
  | 4 => c = 2 && v = 0 && n = 1
  | 5 => (c = 1 || c = 2) && v = 0 && n = 1
  | 6 => c = 2 && v = 1 && n = 1
  | 7 => c = 2 && v = 1 && n = 0
  | 8 => c = 1 && v = 0 && decide (1 ≤ n ∧ n ≤ 4)
  | 9 => c = 3 && v = 0 && n ≤ 1
  | 10 => c = 3 && v = 0 && n ≤ 1
  | 11 => c = 3 && v = 1 && n ≤ 1
  | _ => false

/-! ## Port digests (20 R458, R460) -/

/-- Whether a packet comes from or goes to a confidential tile of this device. -/
def State.nearConf (s : State) (p : Packet) : Bool :=
  let at' (dev : BitVec 20) (l : BitVec 11) : Bool :=
    dev.toNat = s.deviceId && (match s.destTile l.toNat with | some n => (s.tile n).confidential | none => false)
  at' p.ddev p.dtile || at' p.sdev p.stile

/-- The tail of a packet folds its head bytes into the port's digest. -/
def State.foldDigest (s : State) (l : Nat) (head : BitVec 256) (cancel : Bool) : State :=
  let p := packetOf head []
  if (decide (1 ≤ p.ptype.toNat ∧ p.ptype.toNat ≤ 8)) && !s.nearConf p then
    s.modLink l fun x =>
      { x with
        digest := crc64 x.digest (leBytes 32 head.toNat ++ (if cancel then [0xCA#8] else []))
        digCount := w64 (satNat 0xFFFFFFFF (x.digCount.toNat + 1)) }
  else s

/-- DIGEST_RESET (20 R458): a write of any value to a port's digest or its count. -/
def execDigestReset (l : Nat) (s : State) : Out :=
  if isPort l then .next (s.modLink l fun x => { x with digest := BitVec.allOnes 64, digCount := 0#64 })
  else .fault .noSuchUnit

/-! ## Receiving (14 R297, R299, R302) -/

/-- A control flit is owed. -/
def LinkEnd.owe (x : LinkEnd) (ctype cseq : Nat) : LinkEnd :=
  { x with ctl := x.ctl ++ [(controlFlit ctype cseq x.stopRx).data] }

/-- Whether a packet at an output comes from pair of the input of port l, with flits to come. -/
def Sending.from (c : Sending) (l pair : Nat) : Bool := c.more && c.src = some (l, pair)

/-- A flit goes on to the output chosen for its packet. -/
def LinkEnd.extend (x : LinkEnd) (l pair : Nat) (f : Flit) : LinkEnd :=
  let add (c : Sending) : Sending := if c.from l pair then { c with left := c.left ++ [f], more := !Fovh.tail f } else c
  { x with outq := x.outq.map add, cur := x.cur.map fun p => (p.1, add p.2) }

/-- A packet of which an output has sent flits ends there with a tail that has cancel set; one whose head has not left is
gone (14 R303). -/
def LinkEnd.cancelFrom (x : LinkEnd) (l pair : Nat) : LinkEnd :=
  let tail (c : Sending) : Flit :=
    { data := 0#256, ovh := BitVec.ofNat 32 (c.pkt.cls.toNat * 2 ^ 6 + c.pkt.vc.toNat * 2 ^ 5 + 2 ^ 3 + 2 ^ 2) }
  { x with
    outq := x.outq.filter fun c => !c.from l pair
    cur := x.cur.map fun p => (p.1, if p.2.from l pair then { p.2 with left := [tail p.2], more := false } else p.2) }

/-- The packet in progress at an input ends as discarded on the output chosen for it. -/
def State.cancelOut (s : State) (l pair : Nat) (r : Reasm) : State :=
  match r.out with
  | some o => s.modLink o fun x => x.cancelFrom l pair
  | none => s

/-- A packet in progress at an input is truncated: its output ends it, and it is returned without payload, or its loss left
to its timeout (14 R303). -/
def State.truncate (s : State) (l pair : Nat) : State :=
  match spFind (s.link l).inp pair with
  | none => s
  | some r =>
    let s := (s.modLink l fun x => { x with inp := spErase x.inp pair }).cancelOut l pair r
    if r.valid then s.bounce (packetOf r.head []) 0x05 false else s

/-- A packet is whole at an input. A heartbeat ends here; one with an output has gone there flit by flit; any other goes
on. A payload that pchk does not match is taken like any other: no rule says what becomes of it (DESIGN CHOICE, log entry
134). -/
def State.packetIn (s : State) (l : Nat) (r : Reasm) : State :=
  let p := packetOf r.head r.flits
  let s := s.foldDigest l r.head false
  if p.ptype = 10#4 then s.schedule s.now prioEnd (.heartbeatReceive (.port l) p)
  else if r.out.isSome then s
  else s.route p

/-- The output chosen for a packet at its head (14 R302): none for one that ends on this device, or has no way. -/
def State.outputFor (s : State) (p : Packet) : Option Nat :=
  if p.ptype = 10#4 || p.ddev.toNat = s.deviceId || decide (maxDevice < p.ddev.toNat) then none else s.portFor p.ddev.toNat

/-- A packet that its upstream ended as discarded (14 R303): it is counted at its destination (14 R310). -/
def State.packetCancelled (s : State) (l : Nat) (r : Reasm) : State :=
  let p := packetOf r.head r.flits
  let s := s.foldDigest l r.head true
  if p.ddev.toNat = s.deviceId then
    match s.destTile p.dtile.toNat with
    | some n => s.modTile n fun t => t.countLoss false
    | none => s
  else s

/-- A data flit accepted in sequence goes to its reassembly state. -/
def State.reassemble (s : State) (l : Nat) (f : Flit) : State :=
  let pair := Fovh.pair f
  let s := if Fovh.head f then s.truncate l pair else s
  let x := s.link l
  let r : Option Reasm :=
    if Fovh.head f then
      let p := packetOf f.data []
      let valid := typeOk p && p.cls.toNat = Fovh.fcls f && p.vc.toNat = bits f.ovh 5 1
      some { head := f.data, valid := valid, out := if valid then s.outputFor p else none, flits := [], lastAt := s.now }
    else (spFind x.inp pair).map fun r => { r with flits := r.flits ++ [f.data], lastAt := s.now }
  match r with
  | none => s.setLink l { x with protoErr := x.protoErr + 1 }
  | some r =>
    let bad := (Fovh.head f && !r.valid)
      || (Fovh.tail f && !Fovh.cancel f && r.valid && r.flits.length ≠ (packetOf r.head []).npay.toNat)
    let x := if bad then { x with protoErr := x.protoErr + 1 } else x
    let s := s.setLink l { x with inp := if Fovh.tail f then spErase x.inp pair else spPut x.inp pair r }
    let s := match r.out with
      | some o => if Fovh.head f then s.fixPath (packetOf f.data []).ddev.toNat o else s
      | none => s
    let ends := Fovh.tail f && (bad || Fovh.cancel f)
    let s := match r.out with
      | none => s
      | some o =>
        if ends then s.cancelOut l pair r
        else if Fovh.head f then
          s.modLink o fun y => { y with outq := y.outq ++
            [{ pkt := packetOf f.data [], left := [f], src := some (l, pair), more := !Fovh.tail f }] }
        else s.modLink o fun y => y.extend l pair f
    if !Fovh.tail f || !r.valid || bad then s
    else if Fovh.cancel f then s.packetCancelled l r
    else s.packetIn l r

/-- A data flit fails or is out of sequence: one nak names the number expected, again where that number itself failed; any
other CRC failure is answered by a control flit (14 R293, R297). -/
def LinkEnd.reject (x : LinkEnd) (crcFail : Bool) (lseq : Nat) : LinkEnd :=
  let same := crcFail && lseq = x.nextRx
  let run := if x.failSeq = x.nextRx then x.failRun + 1 else 1
  let x := if same then { x with failSeq := x.nextRx, failRun := run } else x
  if !x.nakSent || same then { x.owe 2 x.nextRx with nakSent := true } else if crcFail then x.owe 0 0 else x

/-- A data flit accepted: it is acknowledged at every sixteenth. -/
def LinkEnd.accept (x : LinkEnd) : LinkEnd :=
  let at' := x.nextRx
  let x := { x with nextRx := (x.nextRx + 1) % 256, nakSent := false, failRun := 0, accepted := (x.accepted + 1) % 16 }
  if x.accepted = 0 then x.owe 1 at' else x

/-- IDLE (14 R293): a control flit that carries the stop bitmap only. -/
def execIdle (l : Nat) (_cseq : BitVec 8) (stop : BitVec 6) (s : State) : Out :=
  if isPort l then .next (s.modLink l fun x => { x with stopTx := stop }) else .fault .noSuchUnit

/-- ACK (14 R293, R297): every data flit up to cseq leaves the retransmit buffer. -/
def execAck (l : Nat) (cseq : BitVec 8) (stop : BitVec 6) (s : State) : Out :=
  if isPort l then
    .next (s.modLink l fun x =>
      let x := { x with stopTx := stop }
      if x.sent.any (fun f => Fovh.lseq f = cseq.toNat) then
        let keep := (x.sent.dropWhile fun f => Fovh.lseq f ≠ cseq.toNat).drop 1
        { x with sent := keep, resend := x.resend.filter fun f => keep.contains f, sinceAck := s.now }
      else x)
  else .fault .noSuchUnit

/-- NAK (14 R297): the flits from cseq onward are sent again in their first order. -/
def execNak (l : Nat) (cseq : BitVec 8) (stop : BitVec 6) (s : State) : Out :=
  if isPort l then
    .next (s.modLink l fun x =>
      let x := { x with stopTx := stop }
      if x.sent.any (fun f => Fovh.lseq f = cseq.toNat) then
        { x with resend := x.sent.dropWhile fun f => Fovh.lseq f ≠ cseq.toNat }
      else x)
  else .fault .noSuchUnit

/-- A flit arrives at a trained port. -/
def State.takeFlit (s : State) (l : Nat) (f : Flit) : Out :=
  let x := s.link l
  if Fovh.fcls f = 0 then
    if !flitOk f then .next (s.setLink l (x.owe 0 0))
    else
      let cseq := f.data.extractLsb' 240 8
      let stop := f.data.extractLsb' 234 6
      match bits f.data 248 8 with
      | 0 => execIdle l cseq stop s
      | 1 => execAck l cseq stop s
      | 2 => execNak l cseq stop s
      | _ => .next (s.setLink l { x with linkErr := x.linkErr + 1 })
  else if flitOk f && Fovh.lseq f = x.nextRx then .next ((s.setLink l x.accept).reassemble l f)
  else .next (s.setLink l (x.reject (!flitOk f) (Fovh.lseq f)))

/-- FLIT_RECEIVE (14 R292 to R305). A port that is not trained receives nothing. -/
def execFlitReceive (l : Nat) (f : Flit) (s : State) : Out :=
  if !isPort l then .fault .noSuchUnit else if !(s.link l).up then .next s else s.takeFlit l f

/-! ## Sending (14 R299 to R301) -/

/-- The next flit of a class and VC: of the packet in progress, or the head of the first packet that waits. -/
def LinkEnd.nextOf (x : LinkEnd) (cls vc : Nat) : Option (Bool × Flit × Sending) :=
  match spFind x.cur (2 * (cls - 1) + vc) with
  | some c =>
    match c.left with
    | f :: l => some (true, f, { c with left := l })
    | [] => none
  | none =>
    match x.outq.find? (fun c => c.pkt.cls.toNat = cls && c.pkt.vc.toNat = vc) with
    | some c =>
      match c.left with
      | f :: l => some (false, f, { c with left := l })
      | [] => none
    | none => none

/-- Whether stop forbids a flit of a class and VC; a critical packet once begun is sent whole. -/
def LinkEnd.stopped (x : LinkEnd) (cls vc : Nat) (begun : Bool) : Bool :=
  bitOf x.stopTx (2 * (cls - 1) + vc) && !(cls = 3 && begun)

/-- Whether a packet of a class is in progress on a VC. -/
def LinkEnd.begun (x : LinkEnd) (cls vc : Nat) : Bool := (spFind x.cur (2 * (cls - 1) + vc)).isSome

/-- Whether a packet in progress on the other VC of a class may not be cut into: that VC is not stopped, and a packet in
progress on this one is not the one used last (14 R300). -/
def LinkEnd.uncut (x : LinkEnd) (cls vc : Nat) : Bool :=
  x.begun cls (1 - vc) && !x.stopped cls (1 - vc) true && (!x.begun cls vc || spGet 0 x.lastVc cls % 2 ≠ vc)

/-- Whether a class and VC has a flit that may go. -/
def LinkEnd.canSend (x : LinkEnd) (cls vc : Nat) : Bool :=
  match x.nextOf cls vc with
  | some (b, _, _) => !x.stopped cls vc b && !x.uncut cls vc
  | none => false

def LinkEnd.eligible (x : LinkEnd) (cls : Nat) : Bool := x.canSend cls 0 || x.canSend cls 1

/-- The class chosen at a flit boundary. -/
def LinkEnd.pickClass (x : LinkEnd) : Option Nat :=
  if x.begun 3 0 || x.begun 3 1 then some 3
  else if x.eligible 2 && decide (6 ≤ x.wu) then some 2
  else if x.eligible 1 && decide (29 ≤ x.wb) then some 1
  else [3, 2, 1].find? fun c => x.eligible c

/-- The VC chosen within a class. -/
def LinkEnd.pickVc (x : LinkEnd) (cls : Nat) : Option Nat :=
  let v := spGet 0 x.lastVc cls % 2
  [(true, v), (true, 1 - v), (false, 1), (false, 0)].findSome? fun (b, w) =>
    if x.canSend cls w && x.begun cls w = b then some w else none

/-- The counts after a choice. -/
def LinkEnd.weigh (x : LinkEnd) (picked : Option Nat) : LinkEnd :=
  { x with
    wu := if picked = some 2 || !x.eligible 2 then 0 else x.wu + 1
    wb := if picked = some 1 || !x.eligible 1 then 0 else x.wb + 1 }

/-- A data flit goes out; its number is the next, and it stays in the retransmit buffer. -/
def LinkEnd.sendData (x : LinkEnd) (now cls vc : Nat) : LinkEnd × Option Flit :=
  match x.nextOf cls vc with
  | none => (x, none)
  | some (b, f, c) =>
    let pair := 2 * (cls - 1) + vc
    let f := sealFlit f x.nextTx
    ({ x with
        nextTx := (x.nextTx + 1) % 256, sent := x.sent ++ [f], sinceAck := if x.sent.isEmpty then now else x.sinceAck
        cur := if c.left.isEmpty && !c.more then spErase x.cur pair else spPut x.cur pair c
        outq := if b then x.outq else x.outq.eraseP fun c => c.pkt.cls.toNat = cls && c.pkt.vc.toNat = vc
        lastVc := spPut x.lastVc cls vc
        flits := spPut x.flits pair ((spGet 0 x.flits pair + 1) % 2 ^ 32) }, some f)

/-- Whether stop forbids to send a flit again (14 R299). -/
def LinkEnd.holdsBack (x : LinkEnd) (f : Flit) : Bool :=
  x.stopped (Fovh.fcls f) (bits f.ovh 5 1) (!Fovh.head f)

/-- Whether a flit of a class and VC is ready but stopped: the next one to be sent again, or its next new one. -/
def LinkEnd.stalled (x : LinkEnd) (cls vc : Nat) : Bool :=
  (match x.resend with
    | f :: _ => Fovh.pair f = 2 * (cls - 1) + vc && x.holdsBack f
    | [] => false)
  || (match x.nextOf cls vc with
    | some (b, _, _) => x.stopped cls vc b
    | none => false)

/-- The pairs whose next flit is ready but stopped count a stalled cycle (20 R457). -/
def LinkEnd.countStalls (x : LinkEnd) : LinkEnd :=
  [(1, 0), (1, 1), (2, 0), (2, 1), (3, 0), (3, 1)].foldl (fun x (c, v) =>
    let pair := 2 * (c - 1) + v
    if x.stalled c v then { x with stalls := spPut x.stalls pair ((spGet 0 x.stalls pair + 1) % 2 ^ 32) } else x) x

/-- The flit of one flit time: a control flit owed, with the stop bitmap of now, a flit to be sent again, a new data
flit, or an idle flit. A control flit that is not owed for a 16th accepted flit, a nak or a stop is idle, so that fewer than
16 accepted flits are not acknowledged (14 R293; DESIGN CHOICE, log entry 133). Where a critical packet in progress has no
next flit, an idle flit goes and the time counts in wu and wb (14 R301; DESIGN CHOICE, log entry 135). -/
def LinkEnd.select (x : LinkEnd) (now : Nat) : LinkEnd × Flit :=
  let idle := controlFlit 0 0 x.stopRx
  match x.ctl, x.resend with
  | d :: l, _ => ({ x with ctl := l }, sealFlit { data := putBits d 234 6 x.stopRx.toNat, ovh := 0#32 } 0)
  | [], f :: l =>
    let pair := Fovh.pair f
    if x.holdsBack f then (x, idle)
    else
    ({ x with resend := l, flits := spPut x.flits pair ((spGet 0 x.flits pair + 1) % 2 ^ 32) }, f)
  | [], [] =>
    if 64 ≤ x.sent.length then (x, idle)
    else
      let c := x.pickClass
      let y := x.weigh c
      match c with
      | none => (y, idle)
      | some c =>
        match x.pickVc c with
        | none => (y, idle)
        | some v =>
          match y.sendData now c v with
          | (z, some f) => (z, f)
          | (z, none) => (z, idle)

/-- The flits that the buffer of an input holds for a pair: those of a packet that ends on this device, and those that
have not left through the output chosen (14 R299). -/
def State.heldFlits (s : State) (l pair : Nat) : Nat :=
  let here := match spFind (s.link l).inp pair with
    | some r => if r.out.isNone then r.flits.length + 1 else 0
    | none => 0
  s.links.foldl (fun m p => (p.2.outq ++ p.2.cur.map (·.2)).foldl (fun m c =>
    if c.src = some (l, pair) then m + c.left.length else m) m) here

/-- The stop bitmap of an input is brought up to date; a change is told at once (14 R293, R299). -/
def State.updateStop (s : State) (l : Nat) : State :=
  let b := BitVec.ofNat 6 ((List.range 6).foldl (fun v q => v + b2n (decide (Config.stopFrom q ≤ s.heldFlits l q)) * 2 ^ q) 0)
  if b = (s.link l).stopRx then s else s.modLink l fun x => { x with stopRx := b }.owe 0 0

/-- OUTPUT_FLIT_SELECT (14 R293, R299 to R301): one flit time is one cycle (log entry 41). -/
def execOutputFlitSelect (l : Nat) (s : State) : Out :=
  if !isPort l then .fault .noSuchUnit
  else if !(s.link l).up then .next s
  else
    let (x, f) := (s.link l).countStalls.select s.now
    .next ((s.setLink l x).modHub fun h => { h with outputs := h.outputs ++ [.flit l f] })

/-! ## Truncation, down and dead (14 R298, R303) -/

/-- A packet in progress at an input whose last flit is 4,096 cycles old. -/
def State.truncates (s : State) (l : Nat) : Option Nat :=
  ((s.link l).inp.find? fun p => decide (p.2.lastAt + 4096 ≤ s.now)).map (·.1)

/-- TRUNCATION_TIMEOUT (14 R303). -/
def execTruncationTimeout (l : Nat) (cls : BitVec 2) (vc : BitVec 1) (s : State) : Out :=
  if isPort l && cls ≠ 0#2 then .next (s.truncate l (2 * (cls.toNat - 1) + vc.toNat)) else .fault .noSuchUnit

/-- Whether a link that is up is to be declared down. -/
def LinkEnd.fails (x : LinkEnd) (now : Nat) : Bool :=
  x.up && (decide (8 ≤ x.failRun) || (!x.sent.isEmpty && decide (x.sinceAck + 16384 ≤ now)))

/-- LINK_DOWN (14 R298, 21 R470): it retrains, and is dead if it does not train within 2^21 cycles. -/
def execLinkDown (l : Nat) (s : State) : Out :=
  if !isPort l then .fault .noSuchUnit
  else
    let s := s.modLink l fun x => { x with up := false, training := true }
    .next (s.schedule (s.now + 2 ^ 21) prioDone (.linkDead l))

/-- The packets of which a head among flits fs was sent and not acknowledged, with the flits that follow it. -/
def unackedHeads : List Flit → List (Flit × List Flit)
  | [] => []
  | f :: l =>
    if Fovh.head f then
      (f, (l.filter fun g => Fovh.pair g = Fovh.pair f).takeWhile fun g => !Fovh.head g) :: unackedHeads l
    else unackedHeads l

/-- A packet that waits at an output that is dead takes another way: one that is whole is routed again, one whose flits
still come has another output chosen at its input. -/
def State.sendElsewhere (s : State) (c : Sending) : State :=
  match c.more, c.src with
  | true, some (l, pair) =>
    let o := s.portFor c.pkt.ddev.toNat
    let s := match o with
      | some o => s.fixPath c.pkt.ddev.toNat o
      | none => s
    let s := s.modLink l fun x =>
      { x with inp := x.inp.map fun p => if p.1 = pair then (p.1, { p.2 with out := o }) else p }
    match o with
    | some o => s.modLink o fun x => { x with outq := x.outq ++ [c] }
    | none => s
  | _, _ =>
    match c.left with
    | h :: fs => s.route (packetOf h.data (fs.map (·.data)))
    | [] => s

/-- A port is dead: the packets it carried are disposed of, and those that wait take another way (14 R298). A packet that
was cut short is held in part (14 R303, R305). -/
def State.portDies (s : State) (l : Nat) : State :=
  let x := s.link l
  let left (pair : Nat) : List Flit := match spFind x.cur pair with | some c => c.left | none => []
  let heads := unackedHeads x.sent
  let back := heads.map fun (h, fs) =>
    let done := match fs.getLast? with | some g => Fovh.tail g | none => Fovh.tail h
    let rest := if done then fs else fs ++ left (Fovh.pair h)
    let pay := rest.filter fun g => !Fovh.cancel g
    (packetOf h.data (pay.map (·.data)), decide (rest.length = (packetOf h.data []).npay.toNat) && !rest.any Fovh.cancel)
  let waiting := x.outq
  let s := s.modLink l fun x =>
    { x with
      dead := true, up := false, training := false, sent := [], resend := [], cur := [], outq := [], ctl := [] }
  let s := (List.range 6).foldl (fun s pair => s.truncate l pair) s
  let s := back.foldl (fun s (p, whole) => s.bounce p 0x08 whole) s
  waiting.foldl State.sendElsewhere s

/-- LINK_DEAD (14 R298). -/
def execLinkDead (l : Nat) (s : State) : Out := if isPort l then .next (s.portDies l) else .fault .noSuchUnit

/-! ## Training (21 R470, R471) -/

/-- The width code of the working lanes: the widest of 8, 4 and 2 lanes in one contiguous group, 3 for none. -/
def trainedWidth (lanes : Nat) : Nat :=
  let group (w : Nat) : Bool :=
    (List.range (9 - w)).any fun i => (List.range w).all fun j => lanes.testBit (i + j)
  if group 8 then 0 else if group 4 then 1 else if group 2 then 2 else 3

/-- FABRIC_PORT_TRAIN (21 R470): the working lanes, the asymmetry measured in ns, and whether the partner answers. A port
that was dead, or is trained for the first time, starts its sequence state anew; one that was down goes on from the last
acknowledged flit. -/
def execFabricPortTrain (l : Nat) (lanes : Nat) (asym : Int) (ok : Bool) (s : State) : Out :=
  if !isPort l then .fault .noSuchUnit
  else
    let w := trainedWidth lanes
    let x := s.link l
    if !ok || w = 3 then
      if x.training then .next (s.setLink l { x with width := w })
      else
        let s := s.setLink l { x with training := true, up := false, width := w }
        .next (s.schedule (s.now + 2 ^ 21) prioDone (.linkDead l))
    else
      let s := { s with agenda := s.agenda.filter fun a => decide (a.ins ≠ Instr.linkDead l) }
      let fresh := x.dead || !x.training
      .next (s.setLink l
        { x with
          up := true, dead := false, training := false, width := w, asym := decide (2 < asym.natAbs), missed := 0
          beat := true
          nextTx := if fresh then 0 else x.nextTx, nextRx := if fresh then 0 else x.nextRx
          nakSent := false, failRun := 0, accepted := if fresh then 0 else x.accepted, sinceAck := s.now
          stopTx := 0#6, resend := if fresh then [] else x.sent, sent := if fresh then [] else x.sent })

/-- The byte of a port in `fpstat0` to `fpstat3` (21 R471). -/
def State.portStatus (s : State) (l : Nat) : Nat :=
  let x := s.link l
  let st := if x.up then 2 else if x.dead then 3 else if x.training then 1 else 0
  b2n x.asym * 32 + b2n (bits (s.hubRg 0x053) 48 8 = l) * 16 + x.width % 4 * 4 + st

/-- The value of `fpstat` r (21 R471). -/
def State.fpstat (s : State) (r : Nat) : W64 := w64 (packNat 8 ((List.range 8).map fun i => s.portStatus (8 * r + i)))

end Sys2Proof.Machine
end

