-- ==== Sys2Proof/Machine/Routines.lean ====
section
/-!
DEFINITION. The events of the `ctl` scheduler: firing and retiring, the watchdog, stalled lists, ballast, interrupt entry,
displacement and trap taking (04 R75 to R92, 18 R410, R411).
-/

namespace Sys2Proof.Machine

/-! ## The list table (04 R75) -/

def Tile.listEntry (t : Tile) (e w : Nat) : W64 := t.rg (0x100 + 3 * e + w)
def Tile.need (t : Tile) (e q : Nat) : Nat := bits (t.listEntry e 0) (32 + 16 * q) 16
def Tile.rset (t : Tile) (e : Nat) : Nat := bits (t.listEntry e 0) 0 16
def Tile.wset (t : Tile) (e : Nat) : Nat := bits (t.listEntry e 0) 16 16
def Tile.makes (t : Tile) (e q : Nat) : Nat := bits (t.listEntry e 1) (32 + 16 * q) 16
def Tile.makeDest (t : Tile) (e q : Nat) : Nat := bits (t.listEntry e 1) (19 + 7 * q) 6
def Tile.makeQueue (t : Tile) (e q : Nat) : Nat := bits (t.listEntry e 1) (18 + 7 * q) 1
def Tile.budget (t : Tile) (e : Nat) : Nat := bits (t.listEntry e 2) 0 32

def Tile.entry (t : Tile) (e : Nat) : Entry := spGet Entry.reset t.entries e

def Entry.count (x : Entry) (q : Nat) : Nat := if q = 0 then x.count0 else x.count1

/-- An entry as its list starts, or as a rollback leaves it: waiting, its counters 0, with the context of its last firing
(04 R78, 18 R433). -/
def Entry.afresh (x : Entry) : Entry := { x with st := 0, count0 := 0, count1 := 0 }

/-- Adds to a queue counter, saturating (04 R78). -/
def Tile.queueAdd (t : Tile) (e q v : Nat) : Tile :=
  let x := t.entry e
  { t with
    entries := spPut t.entries e
      (if q = 0 then { x with count0 := min 0xFFFFFF (x.count0 + v) }
       else { x with count1 := min 0xFFFFFF (x.count1 + v) }) }

/-! ## Firing (04 R79, R80, R92) -/

/-- The entry that a routine context runs or retires. -/
def Tile.current (t : Tile) (k : Ctx) : Option Nat :=
  let c := t.ctx k
  if c.run = .idle then none else c.entry

/-- Condition 2 of 04 R79. -/
def Tile.fed (t : Tile) (e : Nat) : Bool :=
  [0, 1].all fun q => t.need e q = 0 || decide (t.need e q ≤ (t.entry e).count q)

/-- Condition 4 of 04 R79 against entry r. -/
def Tile.disjoint (t : Tile) (e r : Nat) : Bool :=
  (t.wset e &&& (t.rset r ||| t.wset r)) = 0 && (t.rset e &&& t.wset r) = 0

/-- Whether a context is coupled (18 R425). -/
def Context.coupled (c : Context) : Bool := match c.pair with | some p => p.coupled | none => false

/-- The routine context that a firing takes: none while the other one is coupled (18 R425). -/
def Tile.idleRoutine (t : Tile) : Option Ctx :=
  if t.k0.run = .idle && !t.k1.coupled then some .k0
  else if t.k1.run = .idle && !t.k0.coupled then some .k1
  else none

/-- Whether the next unfired entry fires in this cycle. -/
def Tile.fires (t : Tile) : Option Nat :=
  let e := t.nextEntry
  if t.running && !t.frozen && decide (e ≤ t.listLast) && t.fed e && t.idleRoutine.isSome
      && ([Ctx.k0, .k1].filterMap t.current).all (t.disjoint e) then some e
  else none

/-- The start of a firing, or of an exchange schedule, in a context (04 R80, 15 R325). -/
def Context.begin (c : Context) (entry : Option Nat) (pc budget first : Nat) : Context :=
  { c with
    run := .ready, pc := pc, next := none, entry := entry, entryPc := pc, firing := c.firing + 1, exch := entry.isNone
    ending := false, rstack := [], nest := Nest.reset, pend := [], holds := [], wdog := some budget, wstart := first
    waited := 0, ien := 0#2, saved := none }

/-- ENTRY_FIRE (04 R80): its first word issues no earlier than the next cycle. -/
def execEntryFire (n e : Nat) (s : State) : Out :=
  let t := s.tile n
  match t.idleRoutine with
  | none => .fault .noSuchStep
  | some k =>
    let x := t.entry e
    let x : Entry :=
      { st := 1, ctx := ctxNum k, count0 := x.count0 - t.need e 0, count1 := x.count1 - t.need e 1 }
    let t := { t with entries := spPut t.entries e x, nextEntry := e + 1, stalled := 0 }
    .next (s.setTile n
      ((t.modCtx k fun c => c.begin (some e) (bits (t.listEntry e 1) 0 11) (t.budget e) (s.now + 1)).event 0x03 k 0 e))

/-- Whether the list stalls in this cycle (04 R92): no entry runs or retires and the next one waits for its queues. -/
def Tile.stalls (t : Tile) : Bool :=
  t.running && !t.frozen && decide (t.nextEntry ≤ t.listLast) && ([Ctx.k0, .k1].filterMap t.current).isEmpty
    && !t.fed t.nextEntry

/-- Whether the count of stalled cycles has just reached the budget of the next entry plus 1. -/
def Tile.stalledOut (t : Tile) : Bool := t.stalls && t.stalled = t.budget t.nextEntry + 1

/-- A cause that K0 takes though it may be idle (04 R77, R92): slot 15 as a cause due before a word. On a frozen tile it is
due, and taken after the resume (18 R410). -/
def State.trapK0 (s : State) (n : Nat) (c : Cause) (detail : Nat) : State :=
  let r := raiseAt c 15 detail
  if (s.tile n).frozen then s.raiseDue n .k0 r else s.takeTrap n .k0 r

/-- WAITUNSAT_LIST (04 R92). -/
def execWaitunsatList (n : Nat) (s : State) : Out :=
  if isTile n then .next (s.trapK0 n .waitunsat 0x01) else .fault .noSuchUnit

/-! ## Retiring (04 R81, R82) -/

/-- Whether everything a retiring context waits for has come: its results have landed and its stores have performed, its
`tsw` operation among them (11 R251). -/
def Tile.quitted (t : Tile) (now : Nat) (k : Ctx) : Bool :=
  !(t.flights.any fun f => f.ctx = k) && !(t.captures.any fun c => c.fl.ctx = k)
    && (match t.eng.tsw with | some x => decide (x.ctx ≠ k) | none => true)
    && !(t.accesses.any fun x => x.store && decide (x.q < 4) && x.ctx = k && decide (now ≤ x.last))

/-- Whether a retiring context is done in this cycle, with no cause due (09 R196). -/
def Tile.retires (t : Tile) (now : Nat) (k : Ctx) : Bool :=
  let c := t.ctx k
  c.run = .retiring && !t.frozen && c.dues.isEmpty && t.quitted now k

/-- The phase of the tile has ended in this cycle: it is at its milestone (15 R326, R331). -/
def Tile.phaseEnds (t : Tile) (now : Nat) : Tile :=
  let p := bits (t.rg 0x051) 40 3
  let t := if p = 2 || p = 4 then t.setRg 0x051 (putBits (t.rg 0x051) 40 3 (p + 1)) else t
  { t with seqr := { t.seqr with ended := some now } }

/-- Whether every entry of the list is retired. -/
def Tile.listDone (t : Tile) : Bool :=
  (List.range 64).all fun e => !(decide (t.listFirst ≤ e ∧ e ≤ t.listLast)) || (t.entry e).st = 3

/-- ROUTINE_RETIRED (04 R81): makes are added, the entry is retired and the context idle. The compute phase ends with
the last entry of the list (R82), the exchange phase with its schedule. -/
def execRoutineRetired (n : Nat) (k : Ctx) (s : State) : Out :=
  let t := s.tile n
  let c := t.ctx k
  if c.run ≠ .retiring then .fault .noSuchStep
  else
    let idle (t : Tile) : Tile :=
      t.modCtx k fun c => { c with run := .idle, ending := false, wdog := none, entry := none, exch := false }
    match c.entry with
    | some e =>
      let t := [0, 1].foldl (fun t q =>
        if t.makes e q = 0 then t else t.queueAdd (t.makeDest e q) (t.makeQueue e q) (t.makes e q)) t
      let t := (idle { t with entries := spPut t.entries e { t.entry e with st := 3 } }).event 0x04 k 0 e
      .next (s.setTile n (if t.running && t.listDone then { (t.phaseEnds s.now) with running := false } else t))
    | none => .next (s.setTile n (if c.exch then (idle t).phaseEnds s.now else idle t))

/-! ## The watchdog (04 R91) -/

/-- Whether the watchdog of a context counts in this cycle. -/
def Tile.wdogCounts (t : Tile) (now : Nat) (k : Ctx) : Bool :=
  let c := t.ctx k
  isRoutine k && (c.run = .ready || c.run = .retiring) && !t.frozen && !t.busy && decide (c.wstart ≤ now)

/-- WATCHDOG (04 R91): the count has reached 0 at the end of this cycle. -/
def execWatchdog (n : Nat) (k : Ctx) (s : State) : Out :=
  let c := if (s.tile n).waiting s.now k && (s.ctx n k).run = .ready then Cause.waitunsat else .watchdog
  .next (s.raiseDue n k (raiseAt c 15 0) true)

/-! ## Ballast (04 R88) -/

/-- Whether K3 starts its service program in this cycle. -/
def Tile.ballastStarts (t : Tile) : Bool := t.ballast && t.k3.run = .idle && !t.frozen

/-- BALLAST_START (04 R88): from the K3 entry, with an empty return stack, no nest and private latches of zero. -/
def execBallastStart (n : Nat) (s : State) : Out :=
  .next (s.modTile n fun t =>
    { t.modCtx .k3 (fun c =>
        { c with
          run := .ready, pc := bits (t.rg 0x023) 16 11, next := none, rstack := [], nest := Nest.reset, holds := [] }) with
      privO := [], privP := [] })

/-- The program of K3 starts or ends as the enable has been written (04 R88). -/
def State.ballastSet (s : State) (n : Nat) (on : Bool) : State :=
  s.modTile n fun t =>
    if on then { t with ballast := true }
    else if t.ballast then
      { (t.modCtx .k3 fun c => { c with run := if c.run = .trapped then .trapped else .idle, holds := [] }).leaveSlot .k3 with
        ballast := false, privO := [], privP := [] }
    else t

/-- SVCADDR_WRITE (04 R88): reserved fields read 0; the enable takes effect in the next cycle. -/
def execSvcaddrWrite (n : Nat) (v : W64) (s : State) : Out :=
  let s := s.setRg n 0x023 (w64 (bits v 0 11 + bits v 16 11 * 2 ^ 16 + bits v 32 1 * 2 ^ 32))
  .next (s.later n .k3 updBallast (w64 (bits v 32 1)))

/-! ## Interrupts (04 R90) -/

/-- A result that was captured at a trap and has not come back yet comes back after the handler (03 R69). -/
def Capture.toHandler (k : Ctx) (c : Capture) : Capture := if c.by' = .trap k then { c with by' := .handler k } else c

/-- INTERRUPT_ENTRY (04 R90, 12 R261): the handler's first word issues from the next cycle on (log entry 43); `h0` to `h2`
change by hardware updates (03 R64). -/
def execInterruptEntry (n : Nat) (k : Ctx) (s : State) : Out :=
  match (s.ctx n k).takeable with
  | none => .fault .noSuchStep
  | some x =>
    let s := (s.withdraw n [k]).capture n (.handler k) [k] (s.now - 1)
    let s := s.modTile n fun t => { t with captures := t.captures.map (Capture.toHandler k) }
    .next ((s.modCtx n k fun c =>
      let g := ofLe ((List.range 3).map fun i =>
        BitVec.ofNat 8 (((List.range 8).map fun j => (spGet 0#1 c.regs.g (8 * i + j)).toNat * 2 ^ j).foldl (· + ·) 0))
      let h1 := x.src + x.tok * 2 ^ 4 + b2n c.irqOvf * 2 ^ 10 + x.status % 2 ^ 32 * 2 ^ 32
      let regs := ((c.regs.write .h 0 c.pc).write .h 1 h1).write .h 2 g
      { c with
        regs := regs, pc := c.handler, next := none, nest := Nest.reset, holds := [], irqs := c.irqs.erase x
        irqOvf := false
        saved := some { pc := c.pc, guards := c.regs.g, nest := c.nest, holds := c.holds } }).modTile n
      fun t => [0, 1, 2].foldl (fun t i => t.noteUpdate s.now k (regIdent .h i)) t)

/-! ## Slots (04 R85, R86, R88) -/

/-- THROTTLED_CYCLE (04 R88): the tile issues an all-null word. -/
def execThrottledCycle (n : Nat) (s : State) : Out := if isTile n then .next s else .fault .noSuchUnit

/-- The counts of displacement after context k has displaced a holder: its own is 0, and the holder, which is ready without
the slot in this cycle, has counted it (04 R86). -/
def displacedCounts (m : Sparse Nat) (k : Ctx) (holder : Option Ctx) : Sparse Nat :=
  match holder with
  | some h => if h = .k3 then spErase m (ctxNum k) else spPut (spErase m (ctxNum k)) (ctxNum h) 1
  | none => spErase m (ctxNum k)

/-- DISPLACEMENT (04 R86): the context takes the primary slot and its count returns to 0. -/
def execDisplacement (n : Nat) (k : Ctx) (s : State) : Out :=
  .next (s.modTile n fun t =>
    { t with
      primary := some k, lastPrimary := t.primary.getD t.lastPrimary, displ := displacedCounts t.displ k t.primary })

/-! ## Causes due (18 R411) -/

/-- The first of the causes due: by cycle, and within one cycle by code. An access raises ERRBUDGET alone where it exhausts
a budget, so no PARITY or UNCORR of its own stands beside it (17 R392). -/
def firstDue : List Due → Option Due
  | [] => none
  | d :: l =>
    match firstDue l with
    | none => some d
    | some e =>
      if d.at' < e.at' || (d.at' = e.at' && decide (d.what.cause.code ≤ e.what.cause.code)) then some d else some e

end Sys2Proof.Machine
end

