-- ==== Sys2Proof/Machine/Miles.lean ====
section
/-!
DEFINITION. Supersteps: the step sequencer, milestones at every level, the domain tree, timeouts, pace adjustment (15 R321
to R331, R339) and heartbeats (18 R423).
-/

namespace Sys2Proof.Machine

/-! ## The step table and the sequencer's registers (15 R322 to R324, R331) -/

def Tile.stepWord (t : Tile) (r w : Nat) : W64 := t.rg (0x200 + 2 * r + w)
def Tile.stepCur (t : Tile) : Nat := bits (t.rg 0x050) 0 5
def Tile.stepLast (t : Tile) : Nat := bits (t.rg 0x050) 8 5
def Tile.stepWrap (t : Tile) : Bool := bitOf (t.rg 0x050) 13
def Tile.stepMember (t : Tile) : Bool := bitOf (t.rg 0x050) 30
def Tile.stepRun (t : Tile) : Bool := bitOf (t.rg 0x050) 31
def Tile.stepLevel (t : Tile) : Nat := bits (t.rg 0x050) 32 3
def Tile.stepRound (t : Tile) : Nat := bits (t.rg 0x050) 48 16
def Tile.xpres (t : Tile) : Bool := bitOf (t.stepWord t.stepCur 0) 17

/-- The phase of the tile's sequencer (15 R331). -/
def Tile.phase (t : Tile) : Nat := bits (t.rg 0x051) 40 3

def Tile.setPhase (t : Tile) (p : Nat) : Tile := t.setRg 0x051 (putBits (t.rg 0x051) 40 3 p)

/-- A step record fails its check (15 R323). -/
def Tile.recordBad (t : Tile) (r : Nat) : Bool :=
  let a := t.stepWord r 0
  let b := t.stepWord r 1
  bits a 43 21 ≠ 0 || bits a 18 14 ≠ 0 || bits a 14 2 ≠ 0 || bits a 6 2 ≠ 0 || bits b 0 32 ≠ 0
    || (bitOf a 16 && bitOf a 17) || (bitOf a 17 && bits b 32 32 = 0)

/-- The selected list fails its check (04 R77). -/
def Tile.listBad (t : Tile) : Bool :=
  let l := t.listLast
  let bad (e : Nat) : Bool :=
    let w := t.listEntry e 1
    !bitOf w 11 || bits w 12 6 ≠ 0 || bits (t.listEntry e 2) 32 32 ≠ 0 || t.budget e = 0
      || [0, 1].any fun q => t.makes e q ≠ 0 && (decide (t.makeDest e q ≤ e) || decide (l < t.makeDest e q))
  decide (l < t.listFirst) || (List.range 64).any fun e => decide (t.listFirst ≤ e ∧ e ≤ l) && bad e

/-! ## The starts of phases (15 R325, 18 R431) -/

/-- A cairn opens at the start of a compute phase; its token states are one entry (18 R430 to R432). -/
def Tile.openCairn (t : Tile) : Tile :=
  if t.stepMember && 0 < t.cairnCap then
    let t := { t with
      cairn := some
        { sram := [], sems := [], srcs := [], srcsLogged := false, toks := t.tokens, tsLines := [], sides := []
          wbLines := [], fmts := [], laid := [], used := 1 } }
    t.setRg 0x079 (w64 (2 ^ 63 + t.stepRound * 2 ^ 32 + t.stepCur * 2 ^ 24))
  else { t.setRg 0x079 0#64 with cairn := none }

/-- Tile n starts a compute phase in this cycle (15 R325): the list of record cur is selected and checked. -/
def State.startCompute (s : State) (n : Nat) : State :=
  let s := s.modTile n fun t =>
    let w := t.stepWord t.stepCur 0
    let t := t.setRg 0x022 (w64 (bits w 0 6 + bits w 8 6 * 2 ^ 8 + bits w 16 1 * 2 ^ 16))
    let t := (t.openCairn).setPhase 2
    { t with
      entries := t.entries.map fun p => if t.listFirst ≤ p.1 ∧ p.1 ≤ t.listLast then (p.1, p.2.afresh) else p
      nextEntry := t.listFirst, stalled := 0, running := !(t.recordBad t.stepCur || t.listBad)
      seqr := { t.seqr with ended := none, arrived := none, injected := 0, settled := 0 } }
  let s := if n < 1728 then (s.modChain (chainOf n) fun c => { c with rp := 0 }).replan (chainOf n) (s.now + 1) 0 else s
  if (s.tile n).running then s else s.trapK0 n .ctlfault 0xC

/-- Tile n starts its exchange phase in this cycle (15 R325, R336): K0 issues from xentry now. -/
def State.startExchange (s : State) (n : Nat) : State :=
  s.modTile n fun t =>
    let c := t.stepCur
    let t := (t.setRg 0x052 0#64).setPhase 4
    let t := t.modCtx .k0 fun k =>
      k.begin none (bits (t.stepWord c 0) 32 11) (bits (t.stepWord c 1) 32 32) s.now
    { t with seqr := { t.seqr with xstart := some s.now, ended := none, arrived := none } }

/-! ## Completion of a milestone (15 R325, R331) -/

/-- The fields that `mstat` takes at a release. -/
def Tile.carry (t : Tile) (round step wait phase : Nat) (late : Bool) : Tile :=
  t.setRg 0x051 (w64 (round % 2 ^ 16 * 2 ^ 48 + step % 32 * 2 ^ 43 + phase % 8 * 2 ^ 40 + b2n late * 2 ^ 39
    + satNat 0xFFFFFFFF wait))

/-- cur and round after a superstep, and whether the sequence ends (15 R325). -/
def Tile.advanced (t : Tile) : Tile × Bool :=
  let o := t.rg 0x050
  if t.stepCur = t.stepLast then
    if t.stepWrap then (t.setRg 0x050 (putBits (putBits o 0 5 0) 48 16 (t.stepRound + 1)), false)
    else (t.setRg 0x050 (putBits o 31 1 0), true)
  else (t.setRg 0x050 (putBits o 0 5 (t.stepCur + 1)), false)

/-- Whether the sequence goes on after a milestone. -/
def Tile.goesOn (t : Tile) : Bool := t.stepRun && !t.seqr.restart

/-- The round and cur that the milestone carries at which the tile stands: those of the compute phase that its release
starts, else those of its own superstep (15 R331). -/
def Tile.carried (t : Tile) : Nat × Nat :=
  let (u, ends) := t.advanced
  if t.phase = 1 || (t.phase = 3 && t.xpres) || ends || !u.goesOn then (t.stepRound, t.stepCur) else (u.stepRound, u.stepCur)

/-- Whether the last start of the domain came late (15 R331). -/
def Tile.wasLate (t : Tile) : Bool := bitOf (t.rg 0x051) 39

/-- A member's milestone completes in this cycle. -/
def State.releaseTile (s : State) (n : Nat) (late : Bool) : State :=
  let s := s.modTile n fun t => t.event 0x09 .k0 0 (t.carried.1 + t.carried.2 * 2 ^ 16)
  let t := s.tile n
  let wait := s.now - t.seqr.arrived.getD s.now
  let round := t.stepRound
  let step := t.stepCur
  let goesOn := Tile.goesOn
  let stop (t : Tile) : Tile :=
    let t := t.carry round step wait (if t.seqr.restart then 1 else 0) late
    { t with seqr := { t.seqr with ended := none, arrived := none, restart := false } }
  let compute (t : Tile) : State :=
    (s.setTile n (t.carry t.stepRound t.stepCur wait 2 late)).startCompute n
  if t.phase = 1 then if goesOn t then compute t else s.setTile n (stop t)
  else if t.phase = 3 && t.xpres then
    if goesOn t then (s.setTile n (t.carry round step wait 4 late)).startExchange n else s.setTile n (stop t)
  else
    let (t, ends) := t.advanced
    if ends || !goesOn t then s.setTile n (stop t) else compute t

/-! ## Groups (15 R326, R327, 01 R10) -/

/-- The group of a tile at a level; the waymark tile is alone at the levels of the die (01 R18). -/
def groupOf (n lvl : Nat) : Group :=
  { lvl := lvl
    idx := if lvl = 4 then 0
      else if n = waymark then waymark
      else if lvl = 0 then n / 9 else if lvl = 1 then n / 36 else if lvl = 2 then n / 432 else 0 }

/-- Whether a tile is a member of a group; a retired position is in none. -/
def State.isMember (s : State) (gr : Group) (n : Nat) : Bool :=
  let t := s.tile n
  t.stepMember && groupOf n t.stepLevel = gr && (n = waymark || (s.slotOfTile n).isSome)

def State.membersOf (s : State) (gr : Group) : List Nat := (s.tiles.map (·.1)).filter fun n => s.isMember gr n

def Mile.new (now : Nat) : Mile :=
  { first := now, arrived := [], last := now, since := 0, children := [], sentSettled := none, start := none, late := false }

def groupEq (a b : Group) : Bool := a = b

def State.mile (s : State) (gr : Group) : Option Mile := (s.hub.miles.find? fun p => groupEq p.1 gr).map (·.2)

def State.setMile (s : State) (gr : Group) (m : Mile) : State :=
  s.modHub fun h => { h with miles := h.miles.filter (fun p => !groupEq p.1 gr) ++ [(gr, m)] }

def State.dropMile (s : State) (gr : Group) : State :=
  s.modHub fun h => { h with miles := h.miles.filter fun p => !groupEq p.1 gr }

def theDomain : Group := { lvl := 4, idx := 0 }

/-! ## Arrival (15 R326) -/

/-- Whether the tile's engines have completed or refused every command. -/
def State.enginesDone (s : State) (n : Nat) : Bool :=
  let e := (s.tile n).eng
  let c := s.chain (chainOf n)
  e.copies.isEmpty && e.tsw.isNone && e.mx.isNone && !e.saving s.now && e.syn.isEmpty
    && (1728 ≤ n || (!(c.runs.any fun r => r.members.any fun m => m.tile = n) && !(c.arrivals.any fun a => a.1.tile = n)))

/-- Whether tile n arrives at its milestone in this cycle. -/
def State.arrives (s : State) (n : Nat) : Bool :=
  let t := s.tile n
  (t.phase = 1 || t.phase = 3 || t.phase = 5) && t.seqr.arrived.isNone && t.stepMember && !t.frozen
    && (match t.seqr.ended with | some e => decide (e < s.now) | none => true)
    && t.net.out.isEmpty && decide (t.net.injFree ≤ s.now) && s.enginesDone n

/-- MILESTONE_ARRIVE (15 R326). -/
def execMilestoneArrive (n : Nat) (s : State) : Out :=
  if !isTile n then .fault .noSuchUnit
  else
    let s := s.modTile n fun t => { t with seqr := { t.seqr with arrived := some s.now } }
    let gr := groupOf n (s.tile n).stepLevel
    let m := (s.mile gr).getD (Mile.new s.now)
    .next (s.setMile gr { m with arrived := m.arrived ++ [n], last := s.now })

/-- Whether every member of a group has arrived; a device of the domain tree without members arrives with its children
(15 R329). -/
def State.allHere (s : State) (gr : Group) (m : Mile) : Bool :=
  (!m.arrived.isEmpty || (gr.lvl = 4 && (!m.children.isEmpty || bits (s.hubRg 0x056) 20 8 = 0))) && (s.membersOf gr).all fun n => m.arrived.contains n

/-- Packets that the members have injected and that have settled. -/
def State.owed (s : State) (gr : Group) : Nat × Nat :=
  (s.membersOf gr).foldl (fun a n => (a.1 + (s.tile n).seqr.injected, a.2 + (s.tile n).seqr.settled)) (0, 0)

/-- The delay from the last event to the release (15 R327). -/
def mileDelay (lvl : Nat) : Nat := if lvl = 0 then 4 else if lvl = 1 then 10 else if lvl = 2 then 20 else 64

/-- Fixes the release of a group whose members have arrived and whose packets have settled (15 R327); where a member, its
K2 say, has since sent another packet, the release waits for that one too. -/
def State.fixRelease (s : State) (gr : Group) (m : Mile) : State :=
  let (i, d) := s.owed gr
  let whole := gr.lvl < 4 && s.allHere gr m && decide (i ≤ d)
  if m.start.isNone && whole then
    let last := (s.membersOf gr).foldl (fun x n => max x (s.tile n).seqr.lastSettle) m.last
    let r := last + mileDelay gr.lvl
    (s.setMile gr { m with start := some r }).schedule r prioDeliver (.milestoneRelease gr)
  else if m.start.isSome && !whole && gr.lvl < 4 then
    let s := { s with agenda := s.agenda.filter fun a => decide (a.ins ≠ Instr.milestoneRelease gr) }
    s.setMile gr { m with start := none }
  else s

/-! ## The domain tree (15 R328, R329) -/

def State.mlink (s : State) : W64 := s.hubRg 0x056
def State.isRoot (s : State) : Bool := bitOf s.mlink 31

/-- The round and step that milestone packets carry (15 R331): those of the first member. -/
def State.domainStep (s : State) : Nat × Nat :=
  match s.membersOf theDomain with
  | n :: _ => (s.tile n).carried
  | [] => (0, 0)

/-- A milestone packet to a device. -/
def State.milePacket (s : State) (dev kind settled injected start : Nat) : Packet :=
  let (r, c) := s.domainStep
  { ptype := 9#4, cls := 3#2, vc := 0#1, npay := 1#3, ddev := BitVec.ofNat 20 dev, dtile := BitVec.ofNat 11 waymark
    sdev := BitVec.ofNat 20 s.deviceId, stile := BitVec.ofNat 11 waymark, nbm := 31#7, tag := 0#8, reason := 0#7, seq := 0#16
    aop := 0#4, addr := 0#32
    payload := BitVec.ofNat 1024 (kind + c * 2 ^ 2 + r * 2 ^ 7 + start % 2 ^ 64 * 2 ^ 23 + injected % 2 ^ 48 * 2 ^ 87
      + settled % 2 ^ 48 * 2 ^ 135) }

/-- The counts of the subtree. -/
def State.subtree (s : State) (m : Mile) : Nat × Nat :=
  m.children.foldl (fun a c => (a.1 + c.2.1, a.2 + c.2.2)) (s.hub.injected, s.hub.settledN)

/-- Whether the device has arrived: its own members and every child. -/
def State.deviceHere (s : State) (m : Mile) : Bool :=
  s.allHere theDomain m && decide (bits s.mlink 20 8 ≤ m.children.length)

/-- The device arrives, and reports each change of its subtree's settled count to its parent. -/
def State.reportUp (s : State) (m : Mile) : State :=
  if !s.deviceHere m || m.start.isSome then s
  else
    let (i, d) := s.subtree m
    if m.sentSettled = some d then s
    else
      let since := if m.sentSettled.isNone then s.paceNow else m.since
      let s := s.setMile theDomain { m with sentSettled := some d, since := since }
      if s.isRoot then s else s.route (s.milePacket (bits s.mlink 0 20) 0 d i 0)

/-- A device of the tree that has neither members nor children arrives at once (15 R329): its parent is another device
(log entry 44). -/
def State.leafArrives (s : State) : State :=
  if s.isRoot || bits s.mlink 20 8 ≠ 0 || bits s.mlink 0 20 = s.deviceId || !(s.membersOf theDomain).isEmpty
      || (s.mile theDomain).isSome then s
  else s.setMile theDomain (Mile.new s.now)

/-- What the hub fixes at the end of a cycle: releases, and reports up the tree. -/
def State.mileUpdates (s : State) : State :=
  let s := s.leafArrives
  s.hub.miles.foldl (fun s p =>
    match s.mile p.1 with
    | some m => if p.1.lvl < 4 then s.fixRelease p.1 m else s.reportUp m
    | none => s) s

/-- Whether the root releases in this cycle. -/
def State.rootReleases (s : State) : Bool :=
  match s.mile theDomain with
  | some m => s.isRoot && m.start.isNone && m.sentSettled.isSome && s.deviceHere m && (s.subtree m).1 = (s.subtree m).2
  | none => false

/-- Pace time in units of 2^-32 ns after some more cycles at the present increment. -/
def State.paceAfter (s : State) (k : Nat) : Nat :=
  s.hub.paceNs.toNat * 2 ^ 32 + s.hub.paceFr.toNat + k * bits (s.hubRg 0x054) 0 36

/-- A release with start time T reaches the device in this cycle: the counts of the phase are over, and those of packets
that devices which start earlier send, or have sent, begin (log entry 44). Fewer than 64 cycles before T, or after it, its members
start 64 cycles from now (15 R329). -/
def State.fixStart (s : State) (m : Mile) (T : Nat) : State :=
  let late := decide (T * 2 ^ 32 ≤ s.paceAfter 63)
  let s := (s.setMile theDomain { m with start := some T, late := late }).modHub fun h =>
    { h with injected := 0, settledN := h.settledNext, settledNext := 0 }
  if late then s.schedule (s.now + 64) prioDeliver (.domainStart true) else s

/-- Whether the members start in this cycle at their start time. -/
def State.domainDue (s : State) : Bool :=
  match s.mile theDomain with
  | some m =>
    match m.start with
    | some T => !m.late && decide (T ≤ s.paceNow)
    | none => false
  | none => false

/-- At the release of a compute milestone of some tiles the link-count grid takes a sample, if it is set so, with the round
and the superstep that the milestone gave them (20 R457). -/
def State.sampleAfter (s : State) (computed : List Nat) : State :=
  let c := s.hubRg 0x090
  match computed with
  | [] => s
  | n :: _ =>
    if bitOf c 18 && bitOf c 19 then
      (s.modHub fun h => { h with sampleOf := h.sampleOf ++ [bits ((s.tile n).rg 0x051) 43 21] }).schedule s.now prioEnd
        .linkCountSample
    else s

/-- MILESTONE_RELEASE (15 R327, R329): every member in this cycle; at the domain level, the root's choice of T. -/
def execMilestoneRelease (gr : Group) (s : State) : Out :=
  match s.mile gr with
  | none => .fault .noSuchStep
  | some m =>
    if gr.lvl < 4 then
      let l := s.membersOf gr
      let computed := l.filter fun n => (s.tile n).phase = 3
      .next ((l.foldl (fun s n => s.releaseTile n (s.tile n).wasLate) (s.dropMile gr)).sampleAfter computed)
    else
      let T := (s.paceNow + bits s.mlink 32 32) % 2 ^ 64
      let s := m.children.foldl (fun s c => s.route (s.milePacket c.1 1 0 0 T)) s
      .next (s.fixStart m T)

/-- DOMAIN_START (15 R329): the members of the device start, late where the release came too late. -/
def execDomainStart (late : Bool) (s : State) : Out :=
  let l := s.membersOf theDomain
  let s := s.dropMile theDomain
  let computed := l.filter fun n => (s.tile n).phase = 3
  .next ((l.foldl (fun s n => s.releaseTile n late) s).sampleAfter computed)

/-- MILESTONE_ARRIVE_PACKET (15 R329): a child's report replaces its earlier one. -/
def execMilestoneArrivePacket (p : Packet) (s : State) : Out :=
  let m := (s.mile theDomain).getD (Mile.new s.now)
  let c := (p.sdev.toNat, bits p.payload 87 48, bits p.payload 135 48)
  .next ((s.setMile theDomain { m with children := m.children.filter (fun x => x.1 ≠ c.1) ++ [c] }).modHub fun h =>
    { h with kids := if h.kids.contains c.1 then h.kids else h.kids ++ [c.1] })

/-- MILESTONE_RELEASE_PACKET (15 R329): passed down the tree. -/
def execMilestoneReleasePacket (p : Packet) (s : State) : Out :=
  match s.mile theDomain with
  | none => .next s
  | some m =>
    let T := bits p.payload 23 64
    let s := m.children.foldl (fun s c => s.route (s.milePacket c.1 1 0 0 T)) s
    .next (s.fixStart m T)

/-! ## Failure (15 R330) -/

/-- Freezes the named tiles, and the rest of each of their chains, in one cycle (18 R415). -/
def State.freezeTiles (s : State) (ns : List Nat) (c : Cause) : State :=
  let all := ns ++ (ns.filter (· < 1728)).flatMap fun n => chainTiles (chainOf n)
  all.eraseDups.foldl (fun s m => s.freezeTile m (if ns.contains m then c else .gang)) s

/-- A milestone fails: the waymark tile is interrupted (log entry 73), members freeze with MSTOUT, and the failure passes
through the tree to the parent and to every child known (log entry 44). -/
def State.failMile (s : State) (gr : Group) (code : Nat) (sender : Option Nat) : State :=
  let l := s.membersOf gr
  let s := s.modHub fun h => { h with stepIrqs := h.stepIrqs + 1 }
  let s := if gr.lvl = 4 then
      let targets := (if s.isRoot then [] else [bits s.mlink 0 20]) ++ s.hub.kids
      (targets.filter fun d => sender ≠ some d).foldl (fun s d => s.route (s.milePacket d 2 0 0 0)) s
    else s
  let s := { s with agenda := s.agenda.filter fun a => decide (a.ins ≠ Instr.milestoneRelease gr) }
  let s := if gr.lvl = 4 then { s with agenda := s.agenda.filter fun a => decide (a.ins ≠ Instr.domainStart true) } else s
  let s := l.foldl (fun s n => s.modTile n fun t =>
    let t := t.setRg 0x051 (putBits (putBits (t.rg 0x051) 40 3 6) 37 2 code)
    { t with running := false }) (s.dropMile gr)
  s.freezeTiles l .mstout

/-- The group whose milestone is timed out in this cycle. -/
def State.timedOut (s : State) : Option Group :=
  let o := s.hubRg 0x057
  (s.hub.miles.find? fun p =>
    if p.1.lvl < 4 then bits o 0 32 ≠ 0 && !p.2.arrived.isEmpty && decide (p.2.first + bits o 0 32 ≤ s.now)
    else bits o 32 32 ≠ 0 && p.2.sentSettled.isSome && p.2.start.isNone && decide (p.2.since + bits o 32 32 ≤ s.paceNow)).map
    (·.1)

/-- MILESTONE_TIMEOUT (15 R330). -/
def execMilestoneTimeout (gr : Group) (s : State) : Out := .next (s.failMile gr 1 none)

/-- MILESTONE_FAIL_PACKET (15 R330): a device that has failed already passes nothing on. -/
def execMilestoneFailPacket (p : Packet) (s : State) : Out :=
  let l := s.membersOf theDomain
  if !l.isEmpty && l.all (fun n => (s.tile n).phase = 6) then .next s
  else .next (s.failMile theDomain 2 (some p.sdev.toNat))

/-! ## Writes of the sequencer's registers (15 R324, R339) -/

/-- `stepctl` as a write of v would leave it; round is read-only. -/
def Tile.stepctlAfter (t : Tile) (v : W64) : W64 :=
  let lvl := if 4 < bits v 32 3 then 3 else bits v 32 3
  w64 (bits v 0 5 + bits v 8 6 * 2 ^ 8 + bits v 30 2 * 2 ^ 30 + lvl * 2 ^ 32 + t.stepRound * 2 ^ 48)

/-- Whether a write of `stepctl` is discarded: while run is 1 no other field changes. -/
def Tile.stepctlRefuses (t : Tile) (v : W64) : Bool :=
  t.stepRun && putBits (t.stepctlAfter v) 31 1 1 ≠ t.rg 0x050

/-- STEPCTL_WRITE (15 R324, R325, 18 R405). -/
def execStepctlWrite (n : Nat) (v : W64) (s : State) : Out :=
  if !isTile n then .fault .noSuchUnit
  else
    let passed := s.accepted.contains (.stepctlWrite n v)
    .next ((s.landed (.stepctlWrite n v)).modTile n fun t =>
      if t.stepctlRefuses v && !passed then t
      else
        let was := t.stepRun
        let t := t.setRg 0x050 (t.stepctlAfter v)
        if !was && t.stepRun then
          let t := t.setRg 0x050 (putBits (t.rg 0x050) 48 16 0)
          if !t.stepMember then t
          else if t.phase = 0 || t.phase = 6 then
            let t := t.setRg 0x051 (putBits (putBits (t.rg 0x051) 40 3 1) 37 2 0)
            { t with seqr := { t.seqr with ended := none, arrived := none } }
          else { t with seqr := { t.seqr with restart := true } }
        else t)

/-- PACEADJ (15 R339): adds ns to the pace counter, unless lock is set; of a value of 2^32 and above, which the rule does
not give, the low 32 bits (DESIGN CHOICE, log entry 136). -/
def execPaceadj (v : W64) (s : State) : Out :=
  .next (if bitOf (s.hubRg 0x053) 63 then s
    else s.modHub fun h => { h with paceNs := h.paceNs + w64 (bits v 0 32) })

/-! ## Heartbeats (18 R423) -/

def State.beatPeriod (s : State) : Nat := 2 ^ (bits (s.hubRg 0x07B) 0 5)
def State.beatMisses (s : State) : Nat := bits (s.hubRg 0x07B) 8 4

/-- A heartbeat. -/
def State.beatPacket (s : State) (dev tile : Nat) : Packet :=
  { ptype := 10#4, cls := 3#2, vc := 0#1, npay := 0#3, ddev := BitVec.ofNat 20 dev, dtile := BitVec.ofNat 11 waymark
    sdev := BitVec.ofNat 20 s.deviceId, stile := BitVec.ofNat 11 tile, nbm := 0#7, tag := 0#8, reason := 0#7, seq := 0#16
    aop := 0#4, addr := 0#32, payload := 0#1024 }

def Beat.reset : Beat := { missed := 0, got := false, halted := false }

def State.beatOf (s : State) (n : Nat) : Beat := (spFind s.hub.beats n).getD Beat.reset

def State.setBeat (s : State) (n : Nat) (b : Beat) : State :=
  s.modHub fun h => { h with beats := spPut h.beats n b }

/-- HEARTBEAT_SEND (18 R423): a tile's beat reaches the hub within the period, and that of a silent one not at all (log
entry 45). -/
def execHeartbeatSend (b : Beater) (s : State) : Out :=
  match b with
  | .tile n =>
    if !isTile n then .fault .noSuchUnit
    else
      let (d, s) := s.draw (max 1 (s.beatPeriod - 1))
      let s := s.setBeat n (s.beatOf n)
      if (s.tile n).silent then .next s
      else .next (s.schedule (s.now + 1 + d) prioDeliver
        (.heartbeatReceive (.tile n) (s.beatPacket s.deviceId (s.ownNumber n))))
  | .port l =>
    if !isPort l then .fault .noSuchUnit
    else .next (s.modLink l fun x => { x with outq := x.outq ++ [Sending.whole (s.beatPacket (Config.partner l) waymark)] })

/-- HEARTBEAT_RECEIVE (18 R423): the count returns to 0. -/
def execHeartbeatReceive (b : Beater) (_p : Packet) (s : State) : Out :=
  match b with
  | .tile n =>
    if isTile n then .next (s.setBeat n { s.beatOf n with missed := 0, got := true }) else .fault .noSuchUnit
  | .port l =>
    if isPort l then .next (s.modLink l fun x => { x with missed := 0, beat := true }) else .fault .noSuchUnit

/-- A tile is dead (18 R423). -/
def State.tileDies (s : State) (n : Nat) : State :=
  let s := s.freezeTiles [n] .dead
  (s.modTile n fun t => t.setRg 0x077 (putBits (t.rg 0x077) 60 1 1)).postTrap n 0 false

/-- HEARTBEAT_MISS (18 R423): a period without a beat, of a tile that was not halted in it, or of a port's partner. -/
def execHeartbeatMiss (b : Beater) (s : State) : Out :=
  match b with
  | .tile n =>
    if !isTile n then .fault .noSuchUnit
    else
      let x := s.beatOf n
      let s := s.setBeat n { x with missed := x.missed + 1, got := true }
      .next (if s.beatMisses ≤ x.missed + 1 && !(s.tile n).dead then s.tileDies n else s)
  | .port l =>
    if !isPort l then .fault .noSuchUnit
    else
      let m := (s.link l).missed + 1
      let s := s.modLink l fun x => { x with missed := m, beat := true }
      .next (if s.beatMisses ≤ m then
          let s := (s.portDies l).modLink l fun x => { x with training := true }
          s.schedule (s.now + 2 ^ 21) prioDone (.linkDead l)
        else s)

/-- The active tiles: those that hold a logical slot (01 R9). -/
def State.activeTiles (s : State) : List Nat := (List.range 1728).filter fun n => (s.slotOfTile n).isSome

/-- Whether a cycle is the first of a period. -/
def State.beatStart (s : State) : Bool := s.now % s.beatPeriod = 0

/-- A period whose beat is missing, seen in its last cycle. -/
def State.beatMissing (s : State) : Option Beater :=
  if (s.now + 1) % s.beatPeriod ≠ 0 then none
  else
    match s.hub.beats.find? fun p => !p.2.got && !p.2.halted && !(s.tile p.1).halted
        && decide (p.1 < 1728) && (s.slotOfTile p.1).isSome with
    | some p => some (.tile p.1)
    | none => ((List.range 32).find? fun l => (s.link l).up && !(s.link l).beat).map Beater.port

/-- A new period begins: what the last one held is cleared. -/
def State.beatReset (s : State) : State :=
  let s := s.modHub fun h => { h with
    beats := h.beats.map fun p => (p.1, { p.2 with got := false, halted := (s.tile p.1).halted }) }
  { s with links := s.links.map fun p => (p.1, { p.2 with beat := !p.2.up }) }

end Sys2Proof.Machine
end

