-- ==== Sys2Proof/Machine/Regs.lean ====
section
/-!
DEFINITION. Control registers: which numbers are assigned, what each reads, who writes it and what a write leaves (18 R402
to R407, R412, R413, R438, and the field maps of the chapters).
-/

namespace Sys2Proof.Machine

/-! ## Numbers (18 R403, 21 R461) -/

/-- Registers of a context. -/
def isCtxNum (r : Nat) : Bool :=
  [0x021, 0x028, 0x029, 0x02A, 0x02B, 0x02C, 0x060, 0x061, 0x062, 0x063, 0x065, 0x06A, 0x074, 0x075, 0x076, 0x07A].contains r

/-- Registers of a tile. -/
def isTileNum (r : Nat) : Bool :=
  [0x020, 0x022, 0x023, 0x024, 0x025, 0x026, 0x030, 0x031, 0x038, 0x039, 0x03A, 0x03B, 0x050, 0x051, 0x052, 0x077, 0x078,
    0x079, 0x07C].contains r
    || decide (0x040 ≤ r ∧ r < 0x050) || decide (0x080 ≤ r ∧ r < 0x08B) || decide (0x100 ≤ r ∧ r < 0x240)
    || decide (0x800 ≤ r ∧ r < 0x1000)

/-- Registers of a chain, or of the chains of a furlong. -/
def isChainNum (r : Nat) : Bool := r = 0x034 || r = 0x035 || decide (0x070 ≤ r ∧ r < 0x074)

/-- Registers of the device that every tile reads as its own. -/
def isDeviceNum (r : Nat) : Bool := [0x053, 0x054, 0x055, 0x056, 0x057, 0x064, 0x066, 0x067].contains r

/-- Hub registers (21 R461). -/
def isHubNum (r : Nat) : Bool :=
  r = 0x07B || r = 0x07E || r = 0x07F || r = 0x090 || decide (0x0A0 ≤ r ∧ r < 0x0F7)

def isAssigned (r : Nat) : Bool := isCtxNum r || isTileNum r || isChainNum r || isDeviceNum r || isHubNum r

/-! ## Reading -/

def State.ctxValue (s : State) (n : Nat) (k : Ctx) (r : Nat) : W64 :=
  let c := s.ctx n k
  match r with
  | 0x02C => if isRoutine k then c.cr r else 0#64
  | 0x074 => putBits (c.cr r) 1 1 (b2n c.coupled)
  | 0x07A => putBits (c.cr r) 63 1 (b2n c.coupled)
  | _ => c.cr r

def State.tileValue (s : State) (n r : Nat) : W64 :=
  let t := s.tile n
  if r = 0x026 then w64 s.now
  else if r = 0x079 then
    match t.cairn with
    | some c => putBits (t.rg r) 0 24 (satNat 0xFFFFFF c.used)
    | none => t.rg r
  else if 0x1C0 ≤ r && r < 0x200 then
    let e := t.entry (r - 0x1C0)
    w64 (e.count0 + e.count1 * 2 ^ 24 + e.ctx * 2 ^ 60 + e.st * 2 ^ 62)
  else t.rg r

/-- A register that tiles of a chain share. At the waymark tile, 01 R18 names `mxcheck` and `tserr` as reading 0; the model
reads the chain words there as 0 too and ignores their writes with status 0 (DESIGN CHOICE, log entry 114). -/
def State.chainValue (s : State) (n r : Nat) : W64 :=
  if 1728 ≤ n then 0#64
  else
    let c := s.chain (chainNamed n r)
    if r = 0x034 then c.mxcheck else if r = 0x035 then c.tserr else c.word

/-- `gsettle` (18 R435). -/
def State.gsettle (s : State) : W64 :=
  let f (a : Nat × Nat) (p : Nat × Tile) : Nat × Nat :=
    if p.2.stepMember then (a.1 + p.2.seqr.injected, a.2 + p.2.seqr.settled) else a
  let (i, d) := s.tiles.foldl f (0, 0)
  w64 (d % 2 ^ 32 + i % 2 ^ 32 * 2 ^ 32)

/-- The value of a register of the device or of the hub; `trapq` apart. -/
def State.hubValue (s : State) (r : Nat) : W64 :=
  if r = 0x055 || r = 0x07E then 0#64
  else if r = 0x07F then s.gsettle
  else if 0x0A0 ≤ r && r < 0x0C0 then (s.link (r - 0x0A0)).digest
  else if 0x0C0 ≤ r && r < 0x0E0 then (s.link (r - 0x0C0)).digCount
  else if 0x0F0 ≤ r && r < 0x0F4 then s.fpstat (r - 0x0F0)
  else s.hubRg r

/-- A register as it stands. -/
def State.regValue (s : State) (x : RegRef) : W64 :=
  if isCtxNum x.num then s.ctxValue x.tile x.ctx x.num
  else if isTileNum x.num then s.tileValue x.tile x.num
  else if isChainNum x.num then s.chainValue x.tile x.num
  else s.hubValue x.num

/-- Whether a context is confidential (18 R402). -/
def Context.conf (c : Context) : Bool := bitOf (c.cr 0x074) 14

/-- What context k of a tile sees of the registers of a confidential tile: waymark firmware, and a confidential context on
its own tile (log entry 29), everything; any other no register of a context, no error log and no remote-store ring
(18 R438). -/
def State.seenBy (s : State) (reader : Nat) (k : Ctx) (x : RegRef) : W64 :=
  let v := s.regValue x
  let own := reader = x.tile && (s.ctx reader k).conf
  if own || reader = waymark || !(s.tile x.tile).confidential || isDeviceNum x.num || isHubNum x.num then v
  else if x.num = 0x075 then
    w64 (b2n (bitOf v 63) * 2 ^ 63 + causeClass (bits v 54 6))
  else if isCtxNum x.num || [0x031, 0x035, 0x03A, 0x03B, 0x07C].contains x.num || decide (0x800 ≤ x.num ∧ x.num < 0x1000) then
    0#64
  else v

/-- A read of `trapq` removes the oldest entry (18 R414). -/
def State.popTrap (s : State) : W64 × State :=
  let lost := b2n s.hub.trapLost * 2 ^ 62
  match s.hub.trapq with
  | [] => (w64 lost, s.modHub fun h => { h with trapLost := false })
  | e :: l => (e ||| w64 lost, s.modHub fun h => { h with trapq := l, trapLost := false })

/-! ## Who writes (18 R403) -/

/-- Registers, or their only writable fields, that any context writes. -/
def anyWrites (r : Nat) : Bool :=
  [0x020, 0x021, 0x028, 0x029, 0x02A, 0x02B, 0x02C, 0x031, 0x035, 0x067].contains r

/-- Registers of which no field is written: a write is ignored. -/
def readOnly (r : Nat) : Bool :=
  [0x025, 0x026, 0x03B, 0x051, 0x052, 0x064, 0x065, 0x066, 0x06A, 0x076, 0x077, 0x079, 0x07A, 0x07E, 0x07F, 0x08A, 0x0EC,
    0x0EE, 0x0F6].contains r
    || decide (0x0E0 ≤ r ∧ r < 0x0EB) || decide (0x0F0 ≤ r ∧ r < 0x0F4) || decide (0x1C0 ≤ r ∧ r < 0x200)
    || decide (0x800 ≤ r ∧ r < 0x1000)

/-- Whether a write needs system privilege. -/
def systemWrites (r : Nat) : Bool := !anyWrites r && !readOnly r

/-- The value of a write with the fields put back that only waymark firmware writes (17 R382, 18 R402). -/
def State.maskedWrite (s : State) (writer : Nat) (x : RegRef) (v : W64) : W64 :=
  if writer = waymark then v
  else
    match x.num with
    | 0x074 => putBits v 8 7 (bits ((s.ctx x.tile x.ctx).cr 0x074) 8 7)
    | 0x061 =>
      let conf := s.hubRg 0x066
      (v &&& ~~~conf) ||| ((s.ctx x.tile x.ctx).cr 0x061 &&& conf)
    | 0x080 => if (s.tile x.tile).confidential then putBits v 4 1 0 else v
    | _ => v

/-- Whether a chain word is a legal value for a chain (01 R15). -/
def State.chainWordOk (s : State) (c : Nat) (v : W64) : Bool :=
  let pos := (List.range 8).map fun j => posField v j
  (chainTiles c).all (fun n => (s.tile n).halted) && pos.all (· ≤ 8) && decide pos.Nodup
    && pos.all (fun p => !bitOf v (32 + p)) && bits v 41 22 = 0
    && (List.range 9).all fun p => !bitOf (s.chain c).word (32 + p) || bitOf v (32 + p)

/-- Whether a register's own condition refuses a write (18 R405). -/
def State.refusesWrite (s : State) (x : RegRef) (v : W64) : Bool :=
  if x.num = 0x030 then bits v 0 2 = 3 || !s.canRewrite x.tile
  else if x.num = 0x050 then (s.tile x.tile).stepctlRefuses v
  else if 0x070 ≤ x.num && x.num < 0x074 then decide (x.tile < 1728) && !s.chainWordOk (chainNamed x.tile x.num) v
  else false

/-! ## What a write leaves -/

/-- v with the bits outside a mask taken from o. -/
def maskTo (m : Nat) (v o : W64) : W64 := (v &&& w64 m) ||| (o &&& ~~~w64 m)

/-- o with the bits of a mask cleared where v has 1. -/
def clearOnes (m : Nat) (v o : W64) : W64 := o &&& ~~~(v &&& w64 m)

/-- A register of a context after a write. -/
def Context.written (c : Context) (k : Ctx) (r : Nat) (v : W64) : Context :=
  let o := c.cr r
  match r with
  | 0x021 => c.setCr r (clearOnes 0x3 v o)
  | 0x028 => c.setCr r (w64 (bits v 3 2 * 8 + (if 4 < bits v 0 3 then 0 else bits v 0 3)))
  | 0x029 => c.setCr r (clearOnes 0x1FF v o)
  | 0x02A => c.setCr r v
  | 0x02B => c.setCr r v
  | 0x02C => if isRoutine k then c.setCr r (w64 (bits v 0 12)) else c
  | 0x060 => c.setCr r v
  | 0x061 => c.setCr r v
  | 0x062 => c.setCr r v
  | 0x063 => c.setCr r (w64 (min 2 (bits v 0 2)))
  | 0x074 => c.setCr r (maskTo 0x7F01 v 0#64)
  | 0x075 => c.setCr r (maskTo 0x7FF v o)
  | _ => c

/-- `dbgctl` after a write: state only while arm is 0, lost cleared where en is set, stop not held (20 R450). -/
def dbgctlAfter (v o : W64) : W64 :=
  let w := maskTo 0x40B v o
  let w := if bitOf o 1 then w else maskTo 0x300 v w
  if bitOf v 0 && !bitOf o 0 then putBits w 2 1 0 else w

/-- A register of a tile after a write. Bit 7 of a `dbgseq` entry (0x081), which 20 R452 names neither a field nor
reserved, is stored and read back (DESIGN CHOICE, log entry 113). -/
def Tile.written (t : Tile) (r : Nat) (v : W64) : Tile :=
  let o := t.rg r
  if 0x040 ≤ r && r < 0x050 || 0x100 ≤ r && r < 0x1C0 || 0x200 ≤ r && r < 0x240 then t.setRg r v
  else
    match r with
    | 0x020 => t.setRg r (maskTo 0x1E7E v 0x7E181#64)
    | 0x022 => t.setRg r (maskTo 0x13F3F v 0#64)
    | 0x024 => t.setRg r (maskTo 0x1F v 0#64)
    | 0x031 => if bitOf v 63 then t.setRg r (putBits (putBits o 62 2 0) 0 32 0) else t
    | 0x038 => t.setRg r (maskTo 0x1 v 0#64)
    | 0x039 => t.setRg r v
    | 0x03A => t.setRg r 0#64
    | 0x078 => t.setRg r (maskTo 0xFF0FFFFFFFF00000 v 0#64)
    | 0x07C => if bitOf v 63 then t.setRg r (putBits o 62 2 0) else t
    | 0x080 => t.setRg r (dbgctlAfter v o)
    | 0x081 => t.setRg r (maskTo 0x07FF07FF07FF07FF v 0#64)
    | 0x082 => t.setRg r (maskTo 0xF07FF07FF v 0#64)
    | 0x083 => t.setRg r v
    | 0x084 => t.setRg r (maskTo 0xF03FF v 0#64)
    | 0x085 => t.setRg r (maskTo 0xFF v 0#64)
    | 0x086 => t.setRg r v
    | 0x087 => t.setRg r v
    | 0x088 => t.setRg r v
    | 0x089 => t.setRg r (maskTo 0xFF0FFFFFFFF80000 v 0#64)
    | _ => t

/-- `paceinc` after a write of v: within 2^21 units of its reset value (15 R338). -/
def paceincAfter (v : W64) : W64 :=
  let x := bits v 0 36
  w64 (min (max x (0x86BCA1AF - 2 ^ 21)) (0x86BCA1AF + 2 ^ 21))

/-- A register of the device or the hub after a write. -/
def State.hubWritten (s : State) (r : Nat) (v : W64) : State :=
  let o := s.hubRg r
  match r with
  | 0x053 => s.setHubRg r (maskTo 0x80FF0000FFFFFFFF v 0#64)
  | 0x054 => s.setHubRg r (paceincAfter v)
  | 0x055 => s.schedule (s.now + 1) prioWrite (.paceadj v)
  | 0x056 =>
    let w := maskTo 0xFFFFFFFF8FFFFFFF v 0#64
    if w = o then s else (s.setHubRg r w).modHub fun h => { h with kids := [] }
  | 0x057 => s.setHubRg r v
  | 0x067 => if bitOf v 63 then s.setHubRg r (putBits o 62 2 0) else s
  | 0x07B => s.setHubRg r (w64 (max 10 (bits v 0 5) + max 1 (bits v 8 4) * 2 ^ 8))
  | 0x090 => s.setHubRg r (putBits (maskTo 0xFF0FFFFFFFFC0000 v 0#64) 0 5 (min 30 (max 16 (bits v 0 5))))
  | 0x0ED => s.setHubRg r (clearOnes 0x3FFF v o)
  | 0x0EF => s.setHubRg r (maskTo 0x8000FFFFFF001F1F v 0#64)
  | 0x0F4 => s.setHubRg r (maskTo 0xFFFFFFFFFF00F v 0#64)
  | _ => s

/-! ## Updates of the part's own, under internal numbers -/

/-- The debug sequencer takes its next state and its action on capture: 1 sets, 2 clears (20 R452). -/
def Tile.sequenced (t : Tile) (next act : Nat) : Tile :=
  let c := putBits (t.rg 0x080) 8 2 next
  t.setRg 0x080 (if act = 1 then putBits c 3 1 1 else if act = 2 then putBits c 3 1 0 else c)

/-- Guards i of K take bit i of v[47:24] where bit i of v[23:0] is set (03 R72). -/
def Tile.guardUpdate (t : Tile) (now : Nat) (k : Ctx) (v : W64) : Tile :=
  (List.range 24).foldl (fun t i =>
    if bitOf v i then
      (t.modCtx k fun c => { c with regs := c.regs.write .g i (bits v (24 + i) 1) }).noteUpdate now k (regIdent .g i)
    else t) t

/-- Pointer p of a context advances by k steps; an update only where that changes its address (05 R119, R121). -/
def Tile.pointerAdvance (t : Tile) (now : Nat) (k : Ctx) (p : Nat) (steps : Int) : Tile :=
  let a := (t.ctx k).regs.advanced p steps
  let t' := t.modCtx k fun c => { c with regs := c.regs.setAddr p a }
  if a = (spGet 0#32 (t.ctx k).regs.addr p).toNat then t' else t'.noteUpdate now k (regIdent .a p)

/-- Fields of pointer p change (05 R126). -/
def Regs.setStride (r : Regs) (p : Nat) (v : W64) : Regs :=
  { r with stride := spSet 0#20 r.stride p (BitVec.ofNat 20 (bits v 0 20)) }
def Regs.setWindow (r : Regs) (p : Nat) (v : W64) : Regs :=
  { r with
    wbase := spSet 0#32 r.wbase p (BitVec.ofNat 32 (bits v 0 32))
    wlen := spSet 0#20 r.wlen p (BitVec.ofNat 20 (bits v 32 20)) }
def Regs.setTag (r : Regs) (p : Nat) (v : W64) : Regs :=
  { r with tag := spSet 0#5 r.tag p (BitVec.ofNat 5 (bits v 0 5)) }

/-- The format context of a tile's slot changes; the cairn of slot 0 keeps its old value (10 R226, 18 R431). -/
def State.fsetLands (s : State) (n : Nat) (v : W64) : State :=
  match s.slotOfTile n with
  | none => s
  | some j =>
    let c := chainOf n
    let old := (s.chain c).fmt j
    let s := s.modTile (s.cairnTile c) fun t =>
      match t.cairn with
      | none => t
      | some ca =>
        if (spFind ca.fmts j).isSome then t else t.cairnAdd fun ca => { ca with fmts := spPut ca.fmts j old }
    s.modChain c fun x => { x with mxfmt := spSet 0x233#64 x.mxfmt j (w64 (bits v 0 14)) }

/-- An internal update. -/
def State.internal (s : State) (x : RegRef) (v : W64) : Option State :=
  let n := x.tile
  let k := x.ctx
  let u := x.num
  let regs (f : Regs → Regs) : State := s.modCtx n k fun c => { c with regs := f c.regs }
  let slot (f : Chain → Nat → Chain) : State :=
    match s.slotOfTile n with
    | some j => s.modChain (chainOf n) fun c => f c j
    | none => s
  if updAdvance ≤ u && u < updAdvance + 0x100 then
    let p := (u - updAdvance) % 8
    some (s.modTile n fun t => t.pointerAdvance s.now k p (v.toInt + ((u - updAdvance) / 8 : Nat)))
  else if updStride ≤ u && u < updStride + 8 then some (regs fun r => r.setStride (u - updStride) v)
  else if updWindow ≤ u && u < updWindow + 8 then some (regs fun r => r.setWindow (u - updWindow) v)
  else if updTag ≤ u && u < updTag + 8 then some (regs fun r => r.setTag (u - updTag) v)
  else if updWord0 ≤ u && u < updWord0 + 8 then
    let s' := regs fun r => r.setPtr0 (u - updWord0) v
    some (if (s.ctx n k).regs.read .a (u - updWord0) = bits v 0 32 then s'
      else s'.modTile n fun t => t.noteUpdate s.now k (regIdent .a (u - updWord0)))
  else if updWord1 ≤ u && u < updWord1 + 8 then some (regs fun r => r.setPtr1 (u - updWord1) v)
  else if u = updGuards then some (s.modTile n fun t => t.guardUpdate s.now k v)
  else if u = updFset then some (s.fsetLands n v)
  else if u = updTcclr then some (slot fun c j => { c with counts := c.counts.filter fun p => p.1 / 4 ≠ j })
  else if u = updChkclr then some (slot fun c _ => { c with chkrec := putBits c.chkrec 62 2 0 })
  else if u = updTokDone then some (s.modTile n fun t => t.tokenDone s.now (bits v 0 6))
  else if u = updQadd then some (s.modTile n fun t => t.queueAdd (bits v 0 6) (bits v 6 1) (bits v 16 16))
  else if u = updEnables then
    some (s.modCtx n k fun c => { c with handler := bits v 0 11, ien := BitVec.ofNat 2 (bits v 16 2) })
  else if u = updBallast then some (s.ballastSet n (bitOf v 0))
  else if u = updSettle then some (s.awayTime n v.toNat)
  else if u = updNsDone then some (s.nsDone n k v)
  else if u = updSpill then some (s.spillDone n v)
  else if u = updDebug then some (s.modTile n fun t => t.sequenced (bits v 0 2) (bits v 2 2))
  else if u = updEvent then some (s.event n (bits v 32 8) k (bits v 0 32))
  else none

end Sys2Proof.Machine
end

