-- ==== Sys2Proof/Machine/Sys.lean ====
section
/-!
DEFINITION. Register operations of the `sys` socket and what they set going: local and remote accesses, writes landing,
accesses of hub registers, the trap queue, monitors, translation operations and granules (17 R386 to R400, 18 R403 to R408,
R414, 21 R461).
-/

namespace Sys2Proof.Machine

/-- A SYSACC at the trigger in hand (18 R407). -/
def State.sysFault (s : State) (d : Nat) : Option Raise := some (s.raise .sysacc d)

/-- Whether the context in hand lacks system privilege. -/
def State.unprivileged (s : State) : Bool := !s.hc.isSys

/-! ## Target words (18 R406) -/

def tgtCtx (w : W64) : Ctx := ctxOf (bits w 45 2)
def tgtTile (w : W64) : Nat := bits w 32 11
def tgtReg (w : W64) : RegRef := { tile := tgtTile w, ctx := tgtCtx w, num := bits w 0 12 }

/-- A bit that must be 0 is not. -/
def tgtBad (w : W64) : Bool := bits w 47 17 ≠ 0 || bits w 43 2 ≠ 0 || bits w 12 20 ≠ 0

def noTarget (w : W64) : Bool := decide (1728 ≤ tgtTile w ∧ tgtTile w ≤ 2046)

/-! ## Writes landing (18 R403) -/

/-- The zone of a league, and of the hub under index 4 (21 R473). -/
def State.zone (s : State) (l : Nat) : Nat := spGet 0 s.hub.zones l

/-- Whether ballast is off for a tile by its league's zone or the hub's (21 R479). -/
def State.ballastOff (s : State) (n : Nat) : Bool :=
  decide (2 ≤ s.zone 4) || (decide (n < 1728) && decide (2 ≤ s.zone (n / 432)))

/-- The lowest level a zone allows (21 R473). -/
def zoneFloor (z : Nat) : Nat := if z = 2 then 4 else if 3 ≤ z then 12 else 0

/-- The throttle level of a league (21 R474). -/
def State.leagueLevel (s : State) (l : Nat) : Nat :=
  max (bits (s.hubRg 0x0EB) (4 * l) 4) (max (zoneFloor (s.zone l)) (zoneFloor (s.zone 4)))

/-- A register of a tile takes a value of the hub's. -/
def State.hubSets (s : State) (n r v : Nat) : State := if (s.tile n).rg r = w64 v then s else s.setRg n r (w64 v)

/-- The tiles of the part. -/
def allTiles : List Nat := List.range 1728 ++ [waymark]

/-- The hub writes `issthr` of every tile, and 0 to `balduty` where a zone is at throttle or above (21 R474, R479). -/
def State.applyLevels (s : State) : State :=
  allTiles.foldl (fun s n =>
    let s := s.hubSets n 0x025 (if n < 1728 then s.leagueLevel (n / 432) else zoneFloor (s.zone 4))
    if s.ballastOff n then s.hubSets n 0x024 0 else s) s

/-- The hub writes its duty to `balduty` of every tile in ballast mode (21 R479). -/
def State.applyDuty (s : State) (d : Nat) : State :=
  s.tiles.foldl (fun s p =>
    if bitOf (p.2.rg 0x023) 32 then s.hubSets p.1 0x024 (if s.ballastOff p.1 then 0 else d) else s) s

/-- A register of the part after a write lands. -/
def State.written (s : State) (x : RegRef) (v : W64) : State :=
  if isCtxNum x.num then s.modCtx x.tile x.ctx fun c => c.written x.ctx x.num v
  else if x.num = 0x024 && s.ballastOff x.tile then s
  else if isTileNum x.num then
    let s := s.modTile x.tile fun t => t.written x.num v
    if x.num = 0x080 && bitOf v 4 then s.schedule s.now prioEnd (.debugStop x.tile) else s
  else if x.num = 0x035 then
    if x.tile < 1728 && bitOf v 63 then
      s.modChain (chainOf x.tile) fun c => { c with tserr := putBits (putBits c.tserr 62 2 0) 0 32 0 }
    else s
  else if isChainNum x.num then s
  else s.hubWritten x.num v

/-- MXCHECK_WRITE (10 R221): passes still to start count from 0 and follow the new value (log entry 54). -/
def execMxcheckWrite (c : Nat) (v : W64) (s : State) : Out :=
  if 192 ≤ c then .fault .noSuchUnit
  else
    .next ((s.modChain c fun x => { x with mxcheck := w64 (bits v 0 16) }).replan c s.now 0)

/-- CHAIN_WORD_WRITE (01 R15): tested as it reaches the table, but for one whose write has passed the test (18 R405); a
position that loses its slot remembers it. -/
def execChainWordWrite (c : Nat) (v : W64) (s : State) : Out :=
  if 192 ≤ c then .fault .noSuchUnit
  else if !s.chainWordOk c v && !s.accepted.contains (.chainWordWrite c v) then .next s
  else
    let s := s.landed (.chainWordWrite c v)
    let s' := s.modChain c fun x => { x with word := v }
    .next ((chainTiles c).foldl (fun s' n =>
      match s.slotOfTile n with
      | some j => if s'.slotOfTile n = some j then s' else s'.modTile n fun t => { t with lastSlot := some j }
      | none => s') s')

/-! ## `csrr` and `csrw` (18 R405, 21 R461) -/

/-- What a context translates under. -/
def Context.xid (c : Context) : XId := { ptbase := c.cr 0x060, keyperm := c.cr 0x061, clsfloor := c.cr 0x063, sys := c.isSys }

/-- An access of a hub register by `csrr` (fn 0) or `csrw` (fn 1): its result lands within 64 cycles. -/
def State.hubAccess (s : State) (fn : Nat) (opo tv : W64) : State :=
  let n := s.hand.tile
  let k := s.hand.ctx
  let (d, s) := s.draw 64
  let due := s.lockedDue n .sys d 64
  let s := s.hasten n .sys due
  let id := s.ht.nextId
  let x : SysAccess := { id := id, fn := fn, tile := n, ctx := k, opo := opo, opp := 0#64, tv := tv, xid := s.hc.xid, acted := false }
  let s := (s.landAt n k .sys due true [(.r, 0#1024)] 0).modHub fun h => { h with accesses := h.accesses ++ [x] }
  s.schedule due prioWrite (.registerWrite { tile := n, ctx := k, num := updHub } (w64 id))

/-- An access of a hub register performs: a write lands; a read takes its value after the writes of the cycle. One that has
performed or was rolled back does nothing. -/
def State.hubActs (s : State) (n : Nat) (k : Ctx) (id : Nat) : State :=
  match s.hub.accesses.find? fun x => decide (x.fn ≤ 1 ∧ x.tile = n ∧ x.id = id) && x.ctx = k with
  | none => s
  | some x =>
    let r : RegRef := { tile := n, ctx := k, num := bits x.opo 0 12 }
    let s :=
      if x.fn = 1 then s.schedule s.now prioWrite (writeLands r x.tv)
      else if r.num = 0x07E && !x.acted then s.schedule s.now prioDone (.trapq n k false)
      else s
    s.schedule s.now prioDone (.hubRegisterAccessDone n k id)

def State.checkCsrr (s : State) : Option Raise :=
  let r := bits s.tv 0 12
  if !zeroFrom s.tv 12 then s.sysFault 0x1
  else if r = 0x07E && s.unprivileged then s.sysFault 0x3
  else if !isAssigned r then s.sysFault 0x4
  else none

/-- CSRR (18 R405). -/
def execCsrr (s : State) : Out :=
  s.operate s.checkCsrr fun s =>
    let x : RegRef := { tile := s.hand.tile, ctx := s.hand.ctx, num := bits s.tv 0 12 }
    if isHubNum x.num then s.hubAccess 0 s.tv 0#64 else s.result .sys (s.seenBy s.hand.tile s.hand.ctx x)

def State.checkCsrw (s : State) : Option Raise :=
  let r := bits (s.opo .sys) 0 12
  if !zeroFrom (s.opo .sys) 12 then s.sysFault 0x1
  else if systemWrites r && isAssigned r && s.unprivileged then s.sysFault 0x3
  else if !isAssigned r then s.sysFault 0x4
  else none

/-- CSRW (18 R405). -/
def execCsrw (s : State) : Out :=
  s.operate s.checkCsrw fun s =>
    let x : RegRef := { tile := s.hand.tile, ctx := s.hand.ctx, num := bits (s.opo .sys) 0 12 }
    let v := s.maskedWrite s.hand.tile x s.tv
    if isHubNum x.num then s.hubAccess 1 (s.opo .sys) v
    else if s.refusesWrite x v then s.result .sys 1#64
    else ((s.result .sys 0#64).accept (writeLands x v)).schedule (s.now + 1) prioWrite (writeLands x v)

/-- Removes an access. -/
def State.dropAccess (s : State) (x : SysAccess) : State :=
  s.modHub fun h => { h with accesses := h.accesses.erase x }

/-- HUB_REGISTER_ACCESS_DONE (21 R461). -/
def execHubRegisterAccessDone (n : Nat) (k : Ctx) (id : Nat) (s : State) : Out :=
  match s.hub.accesses.find? fun x => decide (x.fn ≤ 1 ∧ x.tile = n ∧ x.id = id) && x.ctx = k with
  | none => .fault .noSuchStep
  | some x =>
    let s' := s.dropAccess x
    .next (if x.fn = 1 || x.acted then s'
      else
        let v := s.seenBy n k { tile := waymark, ctx := k, num := bits x.opo 0 12 }
        s'.modTile n fun t => t.modFlight id fun f => { f with val := wide v })

/-! ## Remote accesses (18 R406) -/

/-- The operation in hand sends an access on its way and holds its context; it acts in an open later cycle, at a place in
the cycle. -/
def State.askHub (s : State) (fn prio : Nat) (tv : W64) (h : Hold) : State :=
  let n := s.hand.tile
  let k := s.hand.ctx
  let id := s.hub.nextId
  let x : SysAccess :=
    { id := id, fn := fn, tile := n, ctx := k, opo := s.opo .sys, opp := s.opp .sys, tv := tv, xid := s.hc.xid
      acted := false }
  let s := s.modHub fun y => { y with accesses := y.accesses ++ [x], nextId := id + 1 }
  let (d, s) := s.delay
  let s := s.schedule (s.now + 1 + d) prio (.registerWrite { tile := n, ctx := k, num := updAccess } (w64 id))
  (s.result .sys 0#64).hold n k h

def State.checkTarget (s : State) (w : W64) : Option Raise :=
  if tgtBad w then s.sysFault 0x1
  else if s.unprivileged then s.sysFault 0x3
  else if noTarget w then s.sysFault 0x5
  else if !isAssigned (bits w 0 12) then s.sysFault 0x4
  else none

/-- XCSRR (18 R406). -/
def execXcsrr (s : State) : Out := s.operate (s.checkTarget (s.opo .sys)) fun s => s.askHub 2 prioUpdate 0#64 .csrres

/-- XCSRW (18 R406). -/
def execXcsrw (s : State) : Out := s.operate (s.checkTarget (s.opo .sys)) fun s => s.askHub 3 prioUpdate 0#64 .csrres

/-- CSRRES_WRITTEN (18 R406, R418): the held context goes on. -/
def execCsrresWritten (n : Nat) (k : Ctx) (v : W64) (s : State) : Out :=
  if isTile n then .next ((s.setCr n k 0x06A v).unhold n k .csrres) else .fault .noSuchUnit

/-- Writes `csrres` in this cycle. -/
def State.answer (s : State) (x : SysAccess) (v : W64) : State :=
  (s.dropAccess x).schedule s.now prioDone (.csrresWritten x.tile x.ctx v)

/-- Whether the target of an access is a dead tile. -/
def State.deadTarget (s : State) (x : SysAccess) : Bool := decide (tgtTile x.opo < 1728) && (s.tile (tgtTile x.opo)).dead

/-- A remote read acts (18 R406). -/
def State.xcsrrActs (s : State) (x : SysAccess) : State :=
  if s.deadTarget x then s.answer x (BitVec.allOnes 64)
  else if bits x.opo 0 12 = 0x07E then s.schedule s.now prioDone (.trapq x.tile x.ctx true)
  else s.answer x (s.seenBy x.tile x.ctx (tgtReg x.opo))

/-- A remote write acts: it lands at the start of the next cycle. -/
def State.xcsrwActs (s : State) (x : SysAccess) : State :=
  let r := tgtReg x.opo
  let v := s.maskedWrite x.tile r x.opp
  if s.deadTarget x || s.refusesWrite r v then s.answer x 1#64
  else
    (((s.dropAccess x).accept (writeLands r v)).schedule (s.now + 1) prioWrite (writeLands r v)).schedule (s.now + 1) prioDone
      (.csrresWritten x.tile x.ctx 0#64)

/-- TRAPQ (18 R414): a read of `trapq` by `csrr` or `xcsrr` removes the oldest entry and returns it. -/
def execTrapq (n : Nat) (k : Ctx) (viaX : Bool) (s : State) : Out :=
  let fn := if viaX then 2 else 0
  match s.hub.accesses.find? fun x =>
      x.fn = fn && x.tile = n && x.ctx = k && !x.acted && bits x.opo 0 12 = 0x07E with
  | none => .fault .noSuchStep
  | some x =>
    let (v, s) := s.popTrap
    .next (if viaX then s.answer x v
      else
        let s := s.modHub fun h =>
          { h with accesses := h.accesses.map fun y => if y = x then { x with acted := true } else y }
        s.modTile n fun t => t.modFlight x.id fun f => { f with val := wide v })

/-! ## `mwait` (18 R408) -/

/-- Whether a bit of `thev` is set or the trap queue holds an entry. -/
def State.alerted (s : State) : Bool := s.hubRg 0x0ED ≠ 0#64 || !s.hub.trapq.isEmpty

def State.checkMwait (s : State) : Option Raise :=
  let a := bits (s.opo .sys) 0 52
  if s.hand.tile ≠ waymark then s.sysFault 0x6
  else if a % 64 ≠ 0 || !s.backed a then s.sysFault 0x1
  else none

/-- MWAIT (18 R408). -/
def execMwait (s : State) : Out :=
  s.operate s.checkMwait fun s =>
    let k := s.hand.ctx
    let lim := bits s.tv 0 32
    let s := s.result .sys 0#64
    if s.alerted then s.setCr s.hand.tile k 0x06A 2#64
    else
      let m : Monitor :=
        { line := bits (s.opo .sys) 0 52 / 64, limit := if lim = 0 then none else some (s.now + lim + 1), armed := s.now }
      (s.modHub fun h => { h with monitors := spPut h.monitors (ctxNum k) m }).hold s.hand.tile k .mwait

/-- The contexts whose monitor ends in this cycle by an alert or by its limit, with the reason. -/
def State.mwaitEnds (s : State) : Option (Ctx × Nat) :=
  (s.hub.monitors.find? fun p => decide (p.2.armed < s.now) && (s.alerted || match p.2.limit with
    | some c => decide (c ≤ s.now)
    | none => false)).map fun p => (ctxOf p.1, if s.alerted then 2 else 0)

/-- MWAIT_WAKE (18 R408, 21 R476): why is 1 for a write or a snoop of the line, 0 for the limit, 2 for an alert, which goes
before the others. -/
def execMwaitWake (k : Ctx) (why : Nat) (s : State) : Out :=
  match spFind s.hub.monitors (ctxNum k) with
  | none => .next s
  | some _ =>
    let v := if s.alerted then 2 else why
    let s := s.modHub fun h => { h with monitors := spErase h.monitors (ctxNum k) }
    .next ((s.setCr waymark k 0x06A (w64 v)).unhold waymark k .mwait)

/-! ## Translation operations (17 R395 to R399) -/

def State.checkTlbprobe (s : State) : Option Raise :=
  if !zeroFrom (s.opo .sys) 2 then s.sysFault 0x1 else if bits (s.opo .sys) 0 2 = 3 then s.sysFault 0x2 else none

/-- TLBPROBE (17 R397). -/
def execTlbprobe (s : State) : Out := s.operate s.checkTlbprobe fun s => s.askHub 6 prioUpdate s.tv .xlres

/-- `xlres` after a probe. -/
def probeResult (r : Except XFault XResult) : W64 :=
  match r with
  | .ok x => w64 (x.key * 2 ^ 56 + x.size * 2 ^ 52 + x.pa % 2 ^ 52)
  | .error f =>
    let c := match f.cause with | .pageflt => 1 | .perm => 2 | .ptpoison => 3 | _ => 4
    w64 (2 ^ 63 + c * 2 ^ 12 + f.detail)

/-- A probe translates, under what its context had at its issue. -/
def State.probeActs (s : State) (x : SysAccess) : State :=
  let q : XReq :=
    { tile := x.tile, va := x.tv.toNat, kind := bits x.opo 0 2, ptbase := x.xid.ptbase, keyperm := x.xid.keyperm
      clsfloor := bits x.xid.clsfloor 0 2, sys := x.xid.sys }
  let (s, r) := s.translate q
  (s.dropAccess x).schedule s.now prioDone (.xlresWritten x.tile x.ctx (probeResult r))

/-- XLRES_WRITTEN (17 R397). -/
def execXlresWritten (n : Nat) (k : Ctx) (v : W64) (s : State) : Out :=
  if isTile n then .next ((s.setCr n k 0x065 v).unhold n k .xlres) else .fault .noSuchUnit

def State.checkTlbinv (s : State) : Option Raise :=
  let o := s.opo .sys
  let kind := bits o 0 3
  let scope := bits o 4 3
  if !zeroFrom o 7 || !zeroFrom s.tv 16 || ((kind = 0 || kind = 2) && !zeroFrom (s.opp .sys) 57) then s.sysFault 0x1
  else if 4 ≤ kind || (scope ≠ 0 && scope ≠ 2 && scope ≠ 4) then s.sysFault 0x2
  else if s.unprivileged then s.sysFault 0x3
  else none

def State.tlbinv (s : State) : Out := s.operate s.checkTlbinv fun s => s.askHub 5 prioUpdate s.tv .tlbinv

/-- TLBINV_ADDRESS (17 R398). -/
def execTlbinvAddress (s : State) : Out := s.tlbinv

/-- TLBINV_ASID (17 R398). -/
def execTlbinvAsid (s : State) : Out := s.tlbinv

/-- TLBINV_GLOBAL (17 R398). -/
def execTlbinvGlobal (s : State) : Out := s.tlbinv

/-- TLBINV_ALL (17 R398). -/
def execTlbinvAll (s : State) : Out := s.tlbinv

/-- Whether a cached leaf is selected. -/
def TlbEntry.selected (e : TlbEntry) (kind asid va : Nat) : Bool :=
  let here := va / pageBytes e.size = e.vbase
  match kind with
  | 0 => !e.glob && e.asid = asid && here
  | 1 => !e.glob && e.asid = asid
  | 2 => e.glob && here
  | _ => true

/-- Whether a walk-cache entry is selected. -/
def WalkEntry.selected (e : WalkEntry) (kind asid va : Nat) : Bool :=
  let here := va / 2 ^ (20 + 8 * e.level) = e.vbase
  match kind with
  | 0 => e.asid = asid && here
  | 1 => e.asid = asid
  | 2 => here
  | _ => true

/-- Whether a page of an element in hand was translated under a selected entry. -/
def XPage.selected (p : XPage) (kind asid va : Nat) : Bool :=
  let here := va / pageBytes p.size = p.vpage * 4096 / pageBytes p.size
  match kind with
  | 0 => !p.glob && p.asid = asid && here
  | 1 => !p.glob && p.asid = asid
  | 2 => p.glob && here
  | _ => true

/-- The pages of the elements that copy engines have in hand, those of writes on their way among them. -/
def Tile.pagesInHand (t : Tile) : List XPage := t.eng.copies.flatMap fun x =>
  x.sx ++ x.dx ++ x.outs.filterMap (·.page)

/-- An access acts again in the next cycle. -/
def State.actsAgain (s : State) (x : SysAccess) : State :=
  s.schedule (s.now + 1) prioUpdate (.registerWrite { tile := x.tile, ctx := x.ctx, num := updAccess } (w64 x.id))

/-- A shootdown removes every selected entry in its scope, and completes in the first cycle in which no element translated
under one has accesses still to perform (17 R399). -/
def State.tlbinvActs (s : State) (x : SysAccess) : State :=
  let kind := bits x.opo 0 3
  let scope := bits x.opo 4 3
  let asid := bits x.tv 0 16
  let va := bits x.opp 0 57
  let keep (e : TlbEntry) : Bool := !e.selected kind asid va
  let inTile (n : Nat) : Bool :=
    scope = 4 || n = x.tile || (scope = 2 && xFurlong n = xFurlong x.tile)
  let inFurlong (f : Nat) : Bool := scope = 4 || (scope = 2 && f = xFurlong x.tile)
  let s : State := { s with
    tiles := s.tiles.map fun p =>
      if inTile p.1 then (p.1, { p.2 with dtlb := p.2.dtlb.filter keep, itlb := p.2.itlb.filter keep }) else p
    furlongs := s.furlongs.map fun p =>
      if inFurlong p.1 then
        (p.1, { p.2 with tlb := p.2.tlb.filter keep, walk := p.2.walk.filter fun e => !e.selected kind asid va })
      else p }
  if s.tiles.any fun p => inTile p.1 && p.2.pagesInHand.any fun g => g.selected kind asid va then s.actsAgain x
  else (s.dropAccess x).schedule s.now prioDone (.tlbinvComplete x.tile x.ctx)

/-- TLBINV_COMPLETE (17 R399). -/
def execTlbinvComplete (n : Nat) (k : Ctx) (s : State) : Out :=
  if isTile n then .next (s.unhold n k .tlbinv) else .fault .noSuchUnit

/-! ## Granules (17 R386 to R388, R400) -/

def State.checkGctl (s : State) : Option Raise :=
  if !zeroFrom (s.opo .sys) 9 || !zeroFrom s.tv 6 then s.sysFault 0x1
  else if bits s.tv 0 2 = 3 || (bits s.tv 0 2 = 2 && bits s.tv 4 2 = 3) then s.sysFault 0x2
  else if s.unprivileged then s.sysFault 0x3
  else none

def State.hg (s : State) : Nat := bits (s.opo .sys) 0 9

/-- The hub snoops every line of a granule that the host may cache (21 R466). -/
def State.backInvalidate (s : State) (gn : Nat) : State :=
  (s.hostCached.filter fun p => p.1 / 2 ^ 24 = gn).foldl (fun s p => s.send (.backInvalidate p.1)) s

/-- GCTL_OFFLINE (17 R386, R387): an online granule drains, which ends in an open later cycle; the context waits. -/
def execGctlOffline (s : State) : Out :=
  s.operate s.checkGctl fun s =>
    let g := s.granule s.hg
    match g.st with
    | 0 =>
      let (d, s) := s.delay
      let s := (s.backInvalidate s.hg).setGranule s.hg { g with st := 1, drainAt := s.now }
      let s := s.schedule (s.now + 1 + d) prioDone (.granuleDrained s.hg)
      (s.result .sys 1#64).hold s.hand.tile s.hand.ctx (.drain s.hg)
    | 2 => s.result .sys 1#64
    | _ => s.result .sys 0#64

/-- GCTL_ONLINE (17 R386). -/
def execGctlOnline (s : State) : Out :=
  s.operate s.checkGctl fun s =>
    let g := s.granule s.hg
    match g.st with
    | 0 => s.result .sys 1#64
    | 2 => (s.setGranule s.hg { g with st := 0 }).result .sys 1#64
    | _ => s.result .sys 0#64

/-- GCTL_CONVERT (17 R386, R388): the class changes as the conversion starts, which ends within 2^22 cycles. -/
def execGctlConvert (s : State) : Out :=
  s.operate s.checkGctl fun s =>
    if (s.granule s.hg).st = 2 then
      let (d, s) := s.draw (2 ^ 22)
      ((s.setGranule s.hg { s.granule s.hg with st := 3, cls := bits s.tv 4 2 }).schedule (s.now + 1 + d) prioDone
        (.conversionEnd s.hg)).result .sys 1#64
    else s.result .sys 0#64

/-- GRANULE_DRAINED (17 R387, 21 R466): the granule is offline, the host caches none of its lines, and contexts that wait
for it go on; while an element accepted earlier still has accesses there it goes on draining. -/
def execGranuleDrained (gn : Nat) (s : State) : Out :=
  if 512 ≤ gn then .fault .noSuchUnit
  else if s.tiles.any fun p => p.2.pagesInHand.any fun g => isHbm g.pa && granuleOf g.pa = gn then
    .next (s.schedule (s.now + 1) prioDone (.granuleDrained gn))
  else
    let s := s.setGranule gn { s.granule gn with st := 2 }
    let free (c : Context) : Context :=
      { c with
        holds := c.holds.filter fun h => h ≠ .drain gn
        saved := c.saved.map fun v => { v with holds := v.holds.filter fun h => h ≠ .drain gn } }
    .next { s with
      hostCached := s.hostCached.filter fun p => p.1 / 2 ^ 24 ≠ gn
      tiles := s.tiles.map fun p => (p.1, allCtx.foldl (fun t k => t.modCtx k free) p.2) }

/-- CONVERSION_END (17 R388): every line of the granule holds zero under fresh protection, and the granule is offline. -/
def execConversionEnd (gn : Nat) (s : State) : Out :=
  if 512 ≤ gn then .fault .noSuchUnit
  else
    let s := s.setGranule gn { s.granule gn with st := 2 }
    let lines := s.hub.monitors.filter fun p => p.2.line / 2 ^ 24 = gn
    let s := lines.foldl (fun s p => s.wakeMonitors p.2.line) s
    .next { s with
      hbm := s.hbm.filter fun p => p.1 / 2 ^ 30 ≠ gn
      hbmMark := s.hbmMark.filter fun p => p.1 / 2 ^ 24 ≠ gn
      images := s.images.filter fun p => p.1 / 2 ^ 14 ≠ gn }

/-- GSTAT (17 R400). -/
def execGstat (s : State) : Out :=
  s.operate (if !zeroFrom s.tv 9 then s.sysFault 0x1 else none) fun s =>
    let g := s.granule (bits s.tv 0 9)
    s.result .sys (w64 (g.st + g.cls * 2 ^ 2 + backedBytes g.cls / 1024 * 2 ^ 32))

/-- PTCLR (17 R400): effective from the next cycle. -/
def execPtclr (s : State) : Out :=
  s.operate (if !zeroFrom s.tv 40 then s.sysFault 0x1 else if s.unprivileged then s.sysFault 0x3 else none) fun s =>
    (s.result .sys (w64 (b2n (s.hub.poison.contains (bits s.tv 0 40))))).later s.hand.tile s.hand.ctx updPtclr s.tv

/-- A frame leaves the poison list with the walk-cache entries that point to it. -/
def State.unpoison (s : State) (frame : Nat) : State :=
  let s := s.modHub fun h => { h with poison := h.poison.filter (· ≠ frame) }
  { s with
    furlongs := s.furlongs.map fun p =>
      (p.1, { p.2 with walk := p.2.walk.filter fun e => !(e.poison && e.frame = frame) }) }

/-- SCRUB (17 R384): a line of a P-class granule is read and, if corrected, rewritten; errors are logged. -/
def execScrub (line : Nat) (s : State) : Out :=
  let pa := 64 * line
  if !isHbm pa then .fault .noSuchUnit
  else if s.pmClass pa ≠ 0 then .next s
  else
    match spFind s.hbmMark line with
    | none => .next s
    | some m =>
      let s := s.logHbm (markKind m 0) 3 line
      .next (if m = .corrected then { s with hbmMark := spErase s.hbmMark line } else s)

end Sys2Proof.Machine
end

