-- ==== Sys2Proof/Machine/Tctl.lean ====
section
/-!
DEFINITION. Tile control: freezing, resuming, halting, tile images, control of one context, rollback, and quiet tiles
(18 R415 to R422, R433); the landing of plain register writes.
-/

namespace Sys2Proof.Machine

/-! ## `tctl` at its word (18 R407, R418) -/

def State.checkTctl (s : State) : Option Raise :=
  let o := s.opo .sys
  if bits o 47 17 ≠ 0 || bits o 43 2 ≠ 0 || bits o 12 20 ≠ 0 || !zeroFrom s.tv 4 then s.sysFault 0x1
  else if 10 ≤ bits s.tv 0 4 then s.sysFault 0x2
  else if s.unprivileged then s.sysFault 0x3
  else if noTarget o then s.sysFault 0x5
  else none

/-- Function fn is asked of the target; it acts at the end of an open later cycle, after the tile's word of that cycle. -/
def State.tctl (s : State) (fn : Nat) : Out := s.operate s.checkTctl fun s => s.askHub 4 prioEnd (w64 fn) .csrres

/-- TCTL_FREEZE (18 R418). -/
def execTctlFreeze (s : State) : Out := s.tctl 0

/-- TCTL_RESUME (18 R418, R420). -/
def execTctlResume (s : State) : Out := s.tctl 1

/-- TCTL_HALT (18 R418, R422). -/
def execTctlHalt (s : State) : Out := s.tctl 2

/-- TCTL_UNHALT (18 R418, R422). -/
def execTctlUnhalt (s : State) : Out := s.tctl 3

/-- TCTL_SAVE (18 R418, R419, R421). -/
def execTctlSave (s : State) : Out := s.tctl 4

/-- TCTL_RESTORE (18 R418, R419, R421). -/
def execTctlRestore (s : State) : Out := s.tctl 5

/-- TCTL_RESUME_CONTEXT (18 R418, R420). -/
def execTctlResumeContext (s : State) : Out := s.tctl 6

/-- TCTL_KILL_CONTEXT (18 R418, R420). -/
def execTctlKillContext (s : State) : Out := s.tctl 7

/-- TCTL_CLEAR_CONTEXT (18 R418, R420). -/
def execTctlClearContext (s : State) : Out := s.tctl 8

/-- TCTL_ROLLBACK (18 R418, R433). -/
def execTctlRollback (s : State) : Out := s.tctl 9

/-! ## Freezing and resuming -/

/-- The tiles of the chain of a target; the waymark tile stands alone. -/
def chainMates (n : Nat) : List Nat := if n < 1728 then chainTiles (chainOf n) else [n]

/-- Whether a target's chain is frozen. -/
def State.chainFrozen (s : State) (n : Nat) : Bool := (chainMates n).all fun m => (s.tile m).frozen

/-- The answer at the start of the next cycle. -/
def State.answerNext (s : State) (x : SysAccess) (v : W64) : State :=
  (s.dropAccess x).schedule (s.now + 1) prioDone (.csrresWritten x.tile x.ctx v)

/-- The freeze cause that `frzrec` holds. -/
def Tile.frzCause (t : Tile) : Nat := bits (t.rg 0x077) 54 6

/-- The tiles that a resume names (18 R418, 20 R455): the target alone where it, and every other frozen tile of its chain,
was stopped by DBGSTOP. -/
def State.resumed (s : State) (n : Nat) : List Nat :=
  let fs := (chainMates n).filter fun m => (s.tile m).frozen
  if fs.all fun m => (s.tile m).frzCause = Cause.dbgstop.code then [n] else fs

/-- Whether a zone that trips governs a tile (21 R473). -/
def State.tripped (s : State) (n : Nat) : Bool :=
  decide (n < 1728) && (s.zone 4 = 4 || s.zone (n / 432) = 4)

/-- A tile of a restored image is halted until it is unhalted: the halted bit of `frzrec`, and its beats (18 R422,
R423). -/
def State.setHalted (s : State) (n : Nat) (on : Bool) : State :=
  let s := s.modTile n fun t => t.setRg 0x077 (putBits (t.rg 0x077) 61 1 (b2n on))
  if on then
    s.modHub fun h => { h with beats := match spFind h.beats n with
      | some b => spPut h.beats n { b with halted := true }
      | none => h.beats }
  else s

/-! ## Tile images (18 R419, R421) -/

/-- Whether an address may hold an image. -/
def State.imageAddrOk (s : State) (a : Nat) : Bool :=
  let g := s.granule (granuleOf a)
  isHbm a && a % 0x10000 = 0 && g.st = 0 && g.cls = 0 && decide (a % 2 ^ 30 + 0xA0000 ≤ backedBytes 0)

/-- The logical slot of a tile, or the one it held last. -/
def State.slotOrLast (s : State) (n : Nat) : Option Nat :=
  match s.slotOfTile n with
  | some j => some j
  | none => (s.tile n).lastSlot

/-- The key a tile's image is written through. -/
def Tile.imageKey (t : Tile) : Nat :=
  match allCtx.find? fun k => bitOf ((t.ctx k).cr 0x074) 14 with
  | some k => bits ((t.ctx k).cr 0x074) 8 6
  | none => 0

/-- Writes the image of a tile at an address; an error that a read of its SRAM finds marks it unusable, or is corrected and
rewritten (09 R196). -/
def State.saveImage (s : State) (n a : Nat) : State × Bool :=
  let t := s.tile n
  let bad := t.marks.any fun p => p.2 = .lost
  let s := s.setTile n (t.marks.foldl (fun t p => t.logSram true 7 p.1 p.2) t)
  let s := t.marks.foldl (fun s p => if p.2 = .corrected then s.scheduleRewrite n p.1 else s) s
  let key := t.imageKey
  let im : Image := { slot := s.slotOrLast n, tile := t, key := key, material := spGet 0#512 s.hub.keys key, usable := !bad, laid := [] }
  let k0 := a / 0x10000
  let others := s.images.filter fun p => decide (p.1 + 10 ≤ k0 ∨ k0 + 10 ≤ p.1)
  let lines := s.hub.monitors.filter fun p => inImage k0 (p.2.line * 64)
  let s := lines.foldl (fun s p => s.wakeMonitors p.2.line) s
  ({ s with
      images := spPut others k0 im
      hbmMark := s.hbmMark.filter fun p => !inImage k0 (p.1 * 64) }, !bad)

/-- The state of a tile replaced by an image: what belongs to the tile and not to its contexts stays (14 R320), with its
freeze record, translations and trace. A matrix command of the image has arrived nowhere yet: the barrier of the chain is
not in it. -/
def Tile.restored (old im : Tile) : Tile :=
  let t := { im with
    net := old.net, dtlb := old.dtlb, itlb := old.itlb, encoder := old.encoder, events := old.events
    encLost := old.encLost, lastSlot := old.lastSlot, silent := old.silent, marks := [], markSeen := [], rewriteFrom := none
    resumeAt := old.resumeAt, accesses := [], landed := [], remoteQ := old.remoteQ
    eng := { im.eng with mx := im.eng.mx.map fun x => { x with granted := none } } }
  [0x038, 0x039, 0x077].foldl (fun t r => t.setRg r (old.rg r)) t

/-- What a tile's commands had reached at the barriers of its chain is withdrawn. -/
def State.leaveGang (s : State) (n : Nat) : State :=
  let c := chainOf n
  if (s.chain c).arrivals.any fun a => a.1.tile = n then
    { s.modChain c fun ch => { ch with arrivals := ch.arrivals.filter fun a => a.1.tile ≠ n } with
      agenda := s.agenda.filter fun a => decide (a.ins ≠ Instr.mxGangStart c) }
  else s

/-- Loads the image at an address into a tile, if it is usable there and no line of it is lost: a line with an error is
damaged (18 R421). -/
def State.loadImage (s : State) (n a : Nat) : Option State :=
  match spFind s.images (a / 0x10000) with
  | none => none
  | some im =>
    if im.usable && im.slot.isSome && im.slot = s.slotOrLast n && im.material = spGet 0#512 s.hub.keys im.key
        && !(s.hbmMark.any fun p => p.2 = .lost && inImage (a / 0x10000) (p.1 * 64)) then
      some ((s.leaveGang n).modTile n fun t => t.restored im.tile)
    else none

/-! ## One context (18 R420) -/

/-- The watchdog of a context that resumes: reloaded after a timeout, else as it stood. -/
def Tile.wdogAfter (t : Tile) (c : Context) : Option Nat :=
  let cause := bits (c.cr 0x075) 54 6
  if cause = Cause.watchdog.code || cause = Cause.waitunsat.code then
    if c.exch then some (bits (t.rg (0x201 + 2 * bits (t.rg 0x050) 0 5)) 32 32) else c.entry.map t.budget
  else c.wdog

/-- A trapped context issues from `traprec` resume in the cycle after; its captured results land with its first word, or
from the next cycle on if it issues none. -/
def State.resumeContext (s : State) (n : Nat) (k : Ctx) : State :=
  let s := s.modTile n fun t => t.modCtx k fun c =>
    { c.setCr 0x075 (putBits (c.cr 0x075) 63 1 0) with
      run := if c.ending then .retiring else .ready, pc := bits (c.cr 0x075) 0 11, next := none
      wdog := t.wdogAfter c, wstart := max c.wstart (s.now + 1) }
  let s := s.raiseCaptured n (.trap k)
  if (s.ctx n k).ending then s.replay n (.trap k) (s.now + 1) else s

/-- The firing of a context ends: its entry is retired without adding to queues, and its captured results and pending
causes are gone. -/
def State.killContext (s : State) (n : Nat) (k : Ctx) : State :=
  s.modTile n fun t =>
    let c := t.ctx k
    let t := match c.entry with
      | some e => { t with entries := spPut t.entries e { t.entry e with st := 3 } }
      | none => t
    let t := t.modCtx k fun c =>
      { c.setCr 0x075 (putBits (c.cr 0x075) 63 1 0) with
        run := .idle, ending := false, entry := none, exch := false, next := none, rstack := []
        nest := { c.nest with active := false }, holds := [], fences := [], wdog := none, dues := [], saved := none
        pair := none }
    let t := { t with
      captures := t.captures.filter fun x => !(x.fl.ctx = k)
      displ := spErase t.displ (ctxNum k) }
    if isRoutine k && t.running && c.entry.isSome && t.listDone then { t.phaseEnds s.now with running := false }
    else if isRoutine k && c.exch && c.run ≠ .idle then t.phaseEnds s.now
    else t

/-- A context is cleared: captured results are discarded, every register but `ctxcfg` returns to its reset value, and a
trapped one's firing is killed. -/
def State.clearContext (s : State) (n : Nat) (k : Ctx) : State :=
  let s := if (s.ctx n k).run = .trapped then s.killContext n k else s
  s.modTile n fun t =>
    { (t.modCtx k fun c =>
        { c with regs := Regs.reset, creg := c.creg.filter (fun p => p.1 = 0x074), dues := [] }) with
      captures := t.captures.filter fun x => !(x.fl.ctx = k) }

/-! ## Rollback (18 R433) -/

/-- Memory with logged lines of 256 bytes put back. -/
def putLines (m : Bytes) (l : Sparse (List Byte)) : Bytes := l.foldl (fun m p => memPut m (256 * p.1) p.2) m

/-- The semaphore file with logged groups of 32 words put back, in service again (12 R254), and no deferred taker. -/
def putSems (m : Sparse SemWord) (l : Sparse (List SemWord)) : Sparse SemWord :=
  let m := l.foldl (fun m p =>
    p.2.zipIdx.foldl (fun m w => spSet SemWord.reset m (32 * p.1 + w.2) { w.1 with bad := false }) m) m
  m.foldl (fun m p => spSet SemWord.reset m p.1 { p.2 with takers := [] }) m

/-- A context of a rolled-back tile sleeps. -/
def Context.asleep (c : Context) : Context :=
  { c with
    run := .idle, ending := false, entry := none, exch := false, next := none, rstack := []
    nest := { c.nest with active := false }, holds := [], fences := [], wdog := none, dues := [], irqs := [], irqOvf := false
    saved := none, pair := none }

/-- A tile returns to what its cairn recorded (log entry 15 for the captured results of its contexts). -/
def Tile.rolledBack (t : Tile) (ca : Cairn) : Tile :=
  let st := t.rg 0x079
  let t := { t with
    k0 := t.k0.asleep, k1 := t.k1.asleep, k2 := t.k2.asleep
    captures := t.captures.filter fun x => x.fl.ctx = Ctx.k3
    flights := t.flights.filter fun x => x.ctx = Ctx.k3
    sram := putLines t.sram ca.sram
    sems := putSems t.sems ca.sems
    srcs := if ca.srcsLogged then ca.srcs else t.srcs
    tokens := ca.toks, delayed := []
    entries := t.entries.map fun (p : Nat × Entry) => (p.1, p.2.afresh), running := false, stalled := 0
    eng := { t.eng with copies := [], tsw := none, mx := none, tcsave := none, syn := [], barPending := none }
    net := { t.net with
      full := [], recs := [], queue := [], overflow := false, held := none, out := [], spillAt := []
      awaited := t.net.awaited.filter fun a => !(t.delayed.any fun d => d.1.id = a.id) && !(t.net.out.any fun o => o.id = a.id) }
    seqr := { t.seqr with xstart := none, ended := none, arrived := none, restart := false } }
  let o := t.rg 0x050
  (t.setRg 0x050 (putBits (putBits o 0 5 (bits st 24 5)) 48 16 (bits st 32 16))).setPhase 1

/-- A tile that is rolled back has not arrived at its milestone. -/
def State.unarrive (s : State) (n : Nat) : State :=
  s.hub.miles.foldl (fun s p =>
    if p.2.arrived.contains n then
      let rest := p.2.arrived.filter (· ≠ n)
      let s := { s with agenda := s.agenda.filter fun a => decide (a.ins ≠ Instr.milestoneRelease p.1) }
      if rest.isEmpty then s.dropMile p.1 else s.setMile p.1 { p.2 with arrived := rest, start := none }
    else s) s

/-- The eight tiles of a chain return to their cairns, and its memories to that of slot 0; none where a cairn is closed or
overflowed. -/
def State.rollback (s : State) (c : Nat) : Option State :=
  let ns := (List.range 8).map fun j => s.slotTile c j
  let ok := ns.all fun n => (s.tile n).cairn.isSome && !bitOf ((s.tile n).rg 0x079) 62
  if !ok then none
  else
    let mem (s : State) : State :=
      match (s.tile (s.slotTile c 0)).cairn with
      | none => s
      | some ca => s.modChain c fun x =>
        { x with
          ts := putLines x.ts ca.tsLines
          wb := putLines x.wb ca.wbLines
          side := ca.sides.foldl (fun m p => spSet 0#288 m p.1 p.2) x.side
          mxfmt := ca.fmts.foldl (fun m p => spSet 0x233#64 m p.1 p.2) x.mxfmt
          arrivals := [], bar := [] }
    let one (s : State) (n : Nat) : State :=
      ((s.modTile n fun t => match t.cairn with | some ca => t.rolledBack ca | none => t).unarrive n).inputFrees n
    some (ns.foldl one { mem s with agenda := s.agenda.filter fun a => decide (a.ins ≠ Instr.mxGangStart c) })

/-! ## `tctl` at its target (18 R418) -/

/-- A function waits, and is tried again in the next cycle. -/
def State.tctlWaits (s : State) (x : SysAccess) : State :=
  s.schedule (s.now + 1) prioEnd (.registerWrite { tile := x.tile, ctx := x.ctx, num := updAccess } (w64 x.id))

/-- Whether all that a frozen tile has captured, at the freeze or before, has its value, its local accesses have taken their
cycles, and no class rewrite runs (03 R68, 09 R200; log entry 99). -/
def Tile.settled (t : Tile) (now : Nat) : Bool :=
  t.captures.all (fun c => t.captured now c.by') && !(t.accesses.any fun y => decide (now ≤ y.last)) && !t.busy

/-- The functions that freeze and resume. A resume waits for the values that the freeze captures (03 R68). -/
def State.tctlFreezes (s : State) (x : SysAccess) (fn : Nat) : State :=
  let n := tgtTile x.opo
  let t := s.tile n
  match fn with
  | 0 => (if s.chainFrozen n then s else s.freezeChain n .preempt).answerNext x 0#64
  | 1 =>
    if !t.frozen || t.dead || s.tripped n then s.answerNext x 1#64
    else if !((s.resumed n).all fun m => (s.tile m).captured s.now .freeze) then s.tctlWaits x
    else ((s.resumed n).foldl (fun s m => s.resumeTile m (s.now + 1)) s).answerNext x 0#64
  | 2 =>
    let s := (if s.chainFrozen n then s else s.freezeChain n .halt).setHalted n true
    if (s.tile n).quiet || (s.tile n).dead then s.answerNext x 0#64
    else s.modHub fun h => { h with accesses := h.accesses.map fun y => if y = x then { x with acted := true } else y }
  | _ => if t.halted && !t.dead then (s.setHalted n false).answerNext x 0#64 else s.answerNext x 1#64

/-- The functions on images. They wait for what the freeze captures (03 R68, 09 R200). -/
def State.tctlImages (s : State) (x : SysAccess) (save : Bool) : State :=
  let n := tgtTile x.opo
  let t := s.tile n
  let a := x.opp.toNat
  if t.frozen && !t.settled s.now then s.tctlWaits x
  else if !(t.quiet && (save || t.halted)) then s.answerNext x 1#64
  else if !s.imageAddrOk a then s.answerNext x 2#64
  else if save then
    let (s, ok) := s.saveImage n a
    s.answerNext x (if ok then 0#64 else 3#64)
  else
    match s.loadImage n a with
    | some s' => s'.answerNext x 0#64
    | none => s.answerNext x 3#64

/-- The functions on one context. -/
def State.tctlContext (s : State) (x : SysAccess) (fn : Nat) : State :=
  let n := tgtTile x.opo
  let k := tgtCtx x.opo
  let t := s.tile n
  let r := (t.ctx k).run
  match fn with
  | 6 =>
    if r = .trapped && !t.frozen then
      if (t.ctx k).ending && !t.captured s.now (.trap k) then s.tctlWaits x else (s.resumeContext n k).answerNext x 0#64 else s.answerNext x 1#64
  | 7 => if r = .trapped || r = .idle then (s.killContext n k).answerNext x 0#64 else s.answerNext x 1#64
  | _ =>
    if r = .trapped || r = .idle || t.frozen then (s.clearContext n k).answerNext x 0#64 else s.answerNext x 1#64

/-- A rollback of the target's chain; it waits for local accesses still to perform (18 R433). -/
def State.tctlRollback (s : State) (x : SysAccess) : State :=
  let n := tgtTile x.opo
  if !((chainMates n).all fun m => (s.tile m).frozen && (s.tile m).quiet) then s.answerNext x 1#64
  else if !((chainMates n).all fun m => (s.tile m).settled s.now) then s.tctlWaits x
  else if n < 1728 then
    match s.rollback (chainOf n) with
    | some s' => s'.answerNext x 0#64
    | none => s.answerNext x 4#64
  else s.answerNext x 4#64

def State.tctlActs (s : State) (x : SysAccess) : State :=
  let fn := x.tv.toNat
  if fn ≤ 3 then s.tctlFreezes x fn
  else if fn = 4 then s.tctlImages x true
  else if fn = 5 then s.tctlImages x false
  else if fn ≤ 8 then s.tctlContext x fn
  else s.tctlRollback x

/-- Whether a frozen tile has become quiet in this cycle (18 R416). -/
def State.becomesQuiet (s : State) (n : Nat) : Bool :=
  let t := s.tile n
  t.frozen && !t.quiet && t.executing.isNone
    && (match t.eng.tsw with | some x => x.started.isNone | none => true)
    && !t.eng.saving s.now
    && (1728 ≤ n || !((s.chain (chainOf n)).runs.any fun r => decide (r.start ≤ s.now) && r.members.any fun m => m.tile = n))

/-- TILE_QUIET (18 R416, R418): a halt of the tile completes; a matrix grant that waits for its start is lost. -/
def execTileQuiet (n : Nat) (s : State) : Out :=
  if !isTile n then .fault .noSuchUnit
  else
    let s := if n < 1728 then s.cancelGrant n else s
    let s := s.modTile n fun t => t.setRg 0x077 (putBits (t.rg 0x077) 62 1 1)
    let ends := s.hub.accesses.filter fun x => decide (x.fn = 4 ∧ x.tv = 2#64 ∧ tgtTile x.opo = n) && x.acted
    .next (ends.foldl (fun s x => s.answerNext x 0#64) s)

/-! ## Plain writes and internal updates (18 R403) -/

/-- An access acts at its target. -/
def State.accessActs (s : State) (id : Nat) : State :=
  match s.hub.accesses.find? fun x => decide (2 ≤ x.fn ∧ x.id = id) with
  | none => s
  | some x =>
    match x.fn with
    | 2 => s.xcsrrActs x
    | 3 => s.xcsrwActs x
    | 4 => s.tctlActs x
    | 5 => s.tlbinvActs x
    | _ => s.probeActs x

/-- REGISTER_WRITE (18 R403): a write without behaviour of its own takes effect; under an internal number, an update of
the part's own. -/
def execRegisterWrite (r : RegRef) (v : W64) (s : State) : Out :=
  if !isTile r.tile then .fault .noSuchUnit
  else if r.num = updAccess then .next (s.accessActs v.toNat)
  else if r.num = updHub then .next (s.hubActs r.tile r.ctx v.toNat)
  else if r.num = updPtclr then .next (s.unpoison (bits v 0 40))
  else if r.num = updLevels then .next s.applyLevels
  else if r.num = updDuty then .next (s.applyDuty v.toNat)
  else
    match s.internal r v with
    | some s' => .next s'
    | none => if isAssigned r.num then .next (s.written r v) else .fault .noSuchUnit

end Sys2Proof.Machine
end

