-- ==== Sys2Proof/Machine/Pair.lean ====
section
/-!
DEFINITION. Paired mode: coupling, intervals, fingerprints, comparison and checkpoints (18 R425 to R429).
-/

namespace Sys2Proof.Machine

/-! ## Coupling (18 R425) -/

/-- The tile whose same context a context of tile n couples with: the holder of slot j XOR 1 of its chain. -/
def State.pairTile (s : State) (n : Nat) : Option Nat :=
  (s.slotOfTile n).map fun j => s.slotTile (chainOf n) (j ^^^ 1)

/-- The sockets whose latches and ports a checkpoint holds (18 R428). -/
def checkpointSocks : List Sock := [.alu0, .alu1, .mul, .agu, .ld0, .ld1, .st0, .st1, .vfa, .vfb, .sfu, .mx]

/-- Whether a port key is of those sockets. -/
def portOfCheckpoint (key : Nat) : Bool := checkpointSocks.any fun so => key / 4 = sockNum so

def latchOfCheckpoint (key : Nat) : Bool := checkpointSocks.any fun so => key = sockNum so

/-- A checkpoint of a context. -/
def Tile.checkpoint (t : Tile) (k : Ctx) : Checkpoint :=
  let c := t.ctx k
  { regs := c.regs, pc := c.pc, rstack := c.rstack, nest := c.nest, pend := c.pend, wdog := c.wdog
    latO := t.latO.filter fun p => latchOfCheckpoint p.1
    tagO := t.tagO.filter fun p => latchOfCheckpoint p.1
    latP := t.latP.filter fun p => latchOfCheckpoint p.1
    ports := t.ports.filter fun p => portOfCheckpoint p.1 }

/-- A sparse map whose keys under a test are those of another. -/
def spMerge {α : Type} (m new : Sparse α) (inside : Nat → Bool) : Sparse α :=
  new.foldl (fun m p => spPut m p.1 p.2) (m.filter fun p => !inside p.1)

/-- A context and its sockets return to a checkpoint. -/
def Tile.restore (t : Tile) (k : Ctx) (x : Checkpoint) : Tile :=
  { (t.modCtx k fun c =>
      { c with
        regs := x.regs, pc := x.pc, next := none, rstack := x.rstack, nest := x.nest, pend := x.pend, wdog := x.wdog }) with
    latO := spMerge t.latO x.latO latchOfCheckpoint
    tagO := spMerge t.tagO x.tagO latchOfCheckpoint
    latP := spMerge t.latP x.latP latchOfCheckpoint
    ports := spMerge t.ports x.ports portOfCheckpoint }

def printInit : W64 := BitVec.allOnes 64

/-- The pair record of a context that asks for a partner. -/
def Tile.asking (t : Tile) (k : Ctx) (partner : Nat) : Pair :=
  { partner := partner, coupled := false, asked := true, leaving := false, words := 0, print := printInit, undo := []
    save := t.checkpoint k, closed := none, retried := false, commitOk := false, opened := false, again := false }

/-- The pair operations stand only in a routine of K0 or K1, outside handlers (18 R407). -/
def State.checkPair (s : State) : Option Raise :=
  if isRoutine s.hand.ctx && s.hc.entry.isSome && s.hc.saved.isNone then none else s.sysFault 0x6

/-- PAIRON (18 R425): holds until the partner asks too. -/
def execPairon (s : State) : Out :=
  s.operate s.checkPair fun s =>
    let n := s.hand.tile
    let k := s.hand.ctx
    let s := s.result .sys 0#64
    let s := s.modTile n fun t => t.modCtx k fun c =>
      { c with pair := some (match c.pair with
          | some p => { p with asked := true }
          | none => t.asking k ((s.pairTile n).getD waymark)) }
    s.hold n k .pairon

/-- PAIROFF (18 R425): its interval has been closed before it; holds until the partner's. -/
def execPairoff (s : State) : Out :=
  s.operate s.checkPair fun s =>
    let n := s.hand.tile
    let k := s.hand.ctx
    let s := s.result .sys 0#64
    let s := s.modTile n fun t => t.modCtx k fun c =>
      { c with pair := some (match c.pair with
          | some p => { p with leaving := true }
          | none => { t.asking k ((s.pairTile n).getD waymark) with asked := false, leaving := true }) }
    s.hold n k .pairoff

/-- Whether two records are of partners. -/
def State.partnerOf (s : State) (n : Nat) (k : Ctx) : Option (Pair × Nat × Pair) :=
  match (s.ctx n k).pair with
  | none => none
  | some p =>
    match (s.ctx p.partner k).pair with
    | some q => if p.partner ≠ n && q.partner = n then some (p, p.partner, q) else none
    | none => none

/-- The records of both contexts change. -/
def State.modPair (s : State) (n : Nat) (k : Ctx) (f : Pair → Pair) : State :=
  s.modCtx n k fun c => { c with pair := c.pair.map f }

/-- Two coupled contexts take the primary slot, to issue their next word in this cycle. -/
def State.coupleOne (s : State) (n : Nat) (k : Ctx) : State :=
  (s.modTile n fun t =>
    { t.modCtx k (fun c =>
        { c with
          holds := c.holds.filter fun h => h ≠ .pairon
          pair := c.pair.map fun p =>
            { p with
              coupled := true, asked := false, words := 0, print := printInit, undo := [], save := t.checkpoint k
              closed := none, retried := false, commitOk := false, opened := false, again := false } }) with
      primary := some k, lastPrimary := t.primary.getD t.lastPrimary })

/-- Whether a context other than k displaces the holder in this cycle (04 R86). -/
def Tile.displacedBy (t : Tile) (now : Nat) (k : Ctx) : Bool :=
  [Ctx.k0, .k1, .k2].any fun q => q ≠ k && t.ready now q && decide (61 ≤ spGet 0 t.displ (ctxNum q))

/-- Whether another context than k has just coupled and is to issue its first word in this cycle. -/
def Tile.couplesOther (t : Tile) (now : Nat) (k : Ctx) : Bool :=
  [Ctx.k0, .k1].any fun q => q ≠ k && t.primary = some q && t.ready now q && match (t.ctx q).pair with
    | some p => p.coupled && p.words = 0
    | none => false

/-- Whether context k of tile n could issue its next word in this cycle, but for the hold of `pairon`. -/
def Tile.pairReady (t : Tile) (now : Nat) (k : Ctx) : Bool :=
  let c := t.ctx k
  t.awake now k && c.holds.all (fun h => h = .pairon) && !c.fences.any (·.rw) && t.comesBack now k && !t.nextHeld now k
    && c.dues.isEmpty && c.saved.isNone && c.takeable.isNone && !t.displacedBy now k && !t.couplesOther now k
    && !t.throttled now

/-- Contexts that both asked couple in the first cycle in which both can issue; those that both leave decouple. -/
def State.pairStep (s : State) (n : Nat) (k : Ctx) : State :=
  match s.partnerOf n k with
  | none => s
  | some (p, m, q) =>
    if p.asked && q.asked then
      if (s.tile n).pairReady s.now k && (s.tile m).pairReady s.now k then (s.coupleOne n k).coupleOne m k else s
    else if p.leaving && q.leaving then
      let leave (s : State) (n : Nat) : State :=
        (s.modCtx n k fun c => { c with pair := none }).unhold n k .pairoff
      leave (leave s n) m
    else s

/-- Coupling and decoupling at the start of a cycle. -/
def State.pairSteps (s : State) : State :=
  s.tiles.foldl (fun s p =>
    if (p.2.k0.pair.isSome || p.2.k1.pair.isSome) then (s.pairStep p.1 .k0).pairStep p.1 .k1 else s) s

/-! ## Fingerprints (18 R427) -/

/-- The bytes of a performed register write. -/
def printWrite (f : RegFile) (i : Nat) (v : V1024) : List Byte :=
  leBytes 2 (regIdent f i) ++ leBytes (regBytes f) v.toNat

/-- Feeds bytes to a context's fingerprint. -/
def Context.feed (c : Context) (bs : List Byte) : Context :=
  { c with pair := c.pair.map fun p => if p.coupled then { p with print := crc64 p.print bs } else p }

/-! ## Closing an interval (18 R426) -/

/-- Whether a trigger makes its word a commit word. -/
def Tile.commits (t : Tile) (ms : List Move) (so : Sock) (opc : Nat) : Bool :=
  match so with
  | .tsw => true
  | .ns => true
  | .ce => true
  | .syn => true
  | .sys => true
  | .ld0 => opc = 16 || opc = 17
  | .ld1 => opc = 16 || opc = 17
  | .sem =>
    let a := t.opoAfter ms so
    bitOf a 63 || bitOf a 15
  | _ => false

/-- Whether a context issues again the first word of an interval that an agreeing comparison opened. -/
def Context.repeats (c : Context) : Bool :=
  match c.pair with
  | some p => p.coupled && p.again
  | none => false

/-- Whether a move triggers an operation beyond the pair whose effect was released when its word issued first: every
effect is released once, so it is not started again (18 R426). A far load releases nothing, and reads again. -/
def Tile.released (t : Tile) (ms : List Move) (m : Move) : Bool :=
  (t.ctx m.ctx).repeats && match m.dst with
    | .trig so _ opc => so ≠ .ld0 && so ≠ .ld1 && t.commits ms so opc
    | _ => false

/-- Whether a source makes its word a commit word. -/
def commitSource (m : Move) : Bool :=
  match m.src with
  | .win _ => true
  | .port so _ => [Sock.ce, .ns, .sem, .syn, .sys].contains so
  | _ => false

/-- The engine header slots of a word that hold a command. -/
def headersOf (w : Word) : List Nat := [12, 13, 14].filter fun i => bits (slotOf w i) 24 8 ≠ 0

/-- Whether a word retires its context. -/
def Tile.retireWord (t : Tile) (k : Ctx) (w : Word) : Bool :=
  (winners (t.performed k w)).any fun m => decide (m.dst = .trig .ctl false 0x08)

/-- The form of a store by opcode (09 R191). -/
def storeForm (opc : Nat) : Form :=
  match opc with
  | 0x0C => .masked
  | 0x0D => .strided
  | _ => .plain (2 ^ (if opc < 8 then opc else opc - 4))

/-- The value a socket's `p` latch has after step 2 of a word's performed moves. -/
def Tile.oppAfter (t : Tile) (ms : List Move) (so : Sock) : V1024 :=
  match (winners ms).find? fun m => decide (m.dst = .opnd so true) with
  | some m => t.readSrc m
  | none => t.opp so

/-- Whether a word of a context commits: an engine header, a trigger or a source that reaches beyond the pair, or a retire,
which acts as `pairoff` before it. -/
def Tile.commitWord (t : Tile) (k : Ctx) (w : Word) : Bool :=
  let ms := t.performed k w
  (headersOf w).length ≠ 0 || ms.any commitSource || (winners ms).any fun m =>
    match m.dst with
    | .trig so _ opc => t.commits ms so opc
    | _ => false

/-- The blocks of 128 bytes that the stores of a word would log anew. -/
def Tile.newBlocks (t : Tile) (k : Ctx) (w : Word) : Nat :=
  match (t.ctx k).pair with
  | none => 0
  | some p =>
    let ms := t.performed k w
    let ts := (winners ms).filterMap fun m =>
      match m.dst with
      | .trig so _ opc => if so = .st0 || so = .st1 then some (so, opc, m) else none
      | _ => none
    let blocks := ts.flatMap fun (so, opc, _) =>
      (touches (storeForm opc) (bits (t.opoAfter ms so) 0 32) (low64 (t.oppAfter ms so))).map fun x => x.1 / 128
    (dedup (blocks.filter fun b => !p.undo.any fun u => u.1 / 2 = b)).length

/-- Whether a context in paired mode closes its interval in place of a word. -/
def Tile.closesFor (t : Tile) (k : Ctx) (w : Word) : Bool :=
  match (t.ctx k).pair with
  | none => false
  | some p =>
    p.coupled && !p.commitOk && p.closed.isNone
      && (decide (1024 ≤ p.words) || t.commitWord k w || t.retireWord k w || decide (64 < p.undo.length + t.newBlocks k w))

/-- PAIR_INTERVAL_CLOSE (18 R426): in place of the next word. -/
def execPairIntervalClose (n : Nat) (k : Ctx) (s : State) : Out :=
  .next ((s.modPair n k fun p => { p with closed := some s.now }).hold n k .pairClose)

/-- Whether a context's results have landed and its stores have performed. -/
def Tile.drained (t : Tile) (now : Nat) (k : Ctx) : Bool := t.quitted now k

/-- Whether the intervals of a context and its partner are compared in this cycle. -/
def State.compares (s : State) (n : Nat) (k : Ctx) : Bool :=
  match s.partnerOf n k with
  | none => false
  | some (p, m, q) =>
    match p.closed, q.closed with
    | some a, some b =>
      decide (max a b + 8 ≤ s.now) && (s.tile n).drained s.now k && (s.tile m).drained s.now k
        && !(s.tile n).frozen && !(s.tile m).frozen
    | _, _ => false

/-- `pairstat` after an interval has been compared to its end. -/
def countCompared (v : W64) (cured : Bool) : W64 :=
  let v := putBits v 0 32 (satNat 0xFFFFFFFF (bits v 0 32 + 1))
  if cured then putBits v 32 16 (satNat 0xFFFF (bits v 32 16 + 1)) else v

/-- An agreeing comparison: a checkpoint, an empty undo log, and the next interval. -/
def State.pairAgrees (s : State) (n : Nat) (k : Ctx) : State :=
  (s.modTile n fun t => t.modCtx k fun c =>
    match c.pair with
    | none => c
    | some p =>
      { c.setCr 0x07A (countCompared (c.cr 0x07A) p.retried) with
        pair := some { p with
          words := 0, print := printInit, undo := [], save := t.checkpoint k, closed := none, retried := false
          commitOk := true, opened := true, again := false } }).unhold n k .pairClose

/-- A first difference: memory and context return to the checkpoint, and the interval runs again, its first word without
another comparison where one opened the interval. -/
def State.pairRetries (s : State) (n : Nat) (k : Ctx) : State :=
  (s.modTile n fun t =>
    match (t.ctx k).pair with
    | none => t
    | some p =>
      let undo := p.undo.filter fun u => u.1 % 2 = 1
      let t := { t with sram := undo.foldl (fun m (u : Nat × V1024) => memPut m (u.1 / 2 * 128) (leBytes 128 u.2.toNat)) t.sram }
      (t.restore k p.save).modCtx k fun c =>
        { c with pair := some { p with
            words := 0, print := printInit, undo := [], closed := none, retried := true, commitOk := p.opened
            again := p.opened } }).unhold n k .pairClose

/-- A second difference traps PAIRMIS in place of the closing word. -/
def State.pairFails (s : State) (n : Nat) (k : Ctx) : State :=
  let s := (s.modPair n k fun p => { p with closed := none, retried := false }).unhold n k .pairClose
  let s := s.modCtx n k fun c => c.setCr 0x07A (countCompared (c.cr 0x07A) false)
  s.takeTrap n k (raiseAt .pairmis 15 0x1)

/-- PAIR_COMPARE (18 R428): of both contexts of the pair. -/
def execPairCompare (n : Nat) (k : Ctx) (s : State) : Out :=
  match s.partnerOf n k with
  | none => .fault .noSuchStep
  | some (p, m, q) =>
    .next (if p.print = q.print then (s.pairAgrees n k).pairAgrees m k
      else if p.retried then (s.pairFails n k).pairFails m k
      else (s.pairRetries n k).pairRetries m k)

end Sys2Proof.Machine
end

