-- ==== Sys2Proof/Machine/Observe.lean ====
section
/-!
DEFINITION. Observation: the debug module of a tile, its sequencer, trace records and their stores, stopping one tile
(20 R450 to R455, R460), and the link-count grid (20 R456, R457).
-/

namespace Sys2Proof.Machine

/-! ## Comparators (20 R451) -/

/-- Whether the debug module runs. -/
def Tile.dbgEn (t : Tile) : Bool := bitOf (t.rg 0x080) 0
def Tile.dbgCap (t : Tile) : Bool := bitOf (t.rg 0x080) 3
def Tile.dbgArm (t : Tile) : Bool := bitOf (t.rg 0x080) 1

/-- Counts a match of comparator i in this cycle. -/
def Tile.matched (t : Tile) (i : Nat) : Tile :=
  { t with dbgCount := spSet 0 t.dbgCount i (spGet 0 t.dbgCount i + 1) }

/-- The register an identifier names (02 R28). -/
def regOfIdent (n : Nat) : Option (RegFile × Nat) :=
  match srcIdent n with
  | some (.reg f i) => some (f, i)
  | _ => none

/-- A register write takes effect: comparator 1 looks at it. -/
def Tile.watch (t : Tile) (k : Ctx) (word ident value : Nat) (hint : BitVec 2 := 0#2) : Tile :=
  let sel := t.rg 0x084
  let mask := bits (t.rg 0x083) 32 32
  let v := value % 2 ^ 32
  if t.dbgEn && !t.confidential && bitOf sel (16 + ctxNum k) && bits sel 0 10 = ident
      && (v &&& mask) = (bits (t.rg 0x083) 0 32 &&& mask) then
    (t.matched 1).event 0x0A k word v hint
  else t

/-- A word issues: event 0x01, and comparator 0. -/
def Tile.watchWord (t : Tile) (k : Ctx) (addr : Nat) : Tile :=
  if !t.dbgEn || t.confidential then t
  else
    let c := t.rg 0x082
    let t := if bitOf (t.rg 0x080) 10 then t.event 0x01 k addr 0 (t.hintOf k addr) else t
    if bitOf c (32 + ctxNum k) && decide (bits c 0 11 ≤ addr ∧ addr ≤ bits c 16 11) then t.matched 0 else t

/-! ## The sequencer (20 R452) -/

def Tile.seqState (t : Tile) : Nat := bits (t.rg 0x080) 8 2
def Tile.seqEntry (t : Tile) : Nat := bits (t.rg 0x081) (16 * t.seqState) 16

/-- The code of an event. -/
def eventCode (r : TraceRec) : Nat := bits r.body 120 8

/-- Register of counter i. -/
def ctrReg (i : Nat) : Nat := 0x087 + i

/-- The counts of a cycle, at its end: matches of every comparator, then the enabled counters (20 R451, R452). -/
def State.debugCounts (s : State) (n : Nat) : State :=
  let t := s.tile n
  if !t.dbgEn then s
  else
    let ups := t.ptrUpd.filter fun u => u.2.2 = s.now
    let t := ups.foldl (fun t u =>
      match regOfIdent u.2.1 with
      | some (f, i) => t.watch u.1 0 u.2.1 ((t.ctx u.1).regs.read f i)
      | none => t) t
    let s := s.setTile n t
    if !t.dbgArm then s
    else
      let (lag, s) := s.paceLag
      let shown := !t.confidential
      let code := bits (t.rg 0x085) 0 8
      let named := decide (1 ≤ code ∧ code ≤ 0x0C)
      let m0 := min 4 (spGet 0 t.dbgCount 0)
      let m1 := min 4 (spGet 0 t.dbgCount 1)
      let drops := if code = 0x0C then spGet 0 t.dbgCount 5 else 0
      let m2 := if shown && named then min 4 ((t.events.filter fun r => eventCode r = code).length + drops) else 0
      let m3 := b2n (shown && decide ((t.rg 0x086).toNat ≤ (s.paceAgo lag).1.toNat))
      let ms := [m0, m1, m2, m3]
      let count (t : Tile) (i : Nat) : Tile :=
        let v := t.rg (ctrReg i)
        if t.seqEntry.testBit (8 + i) then
          t.setRg (ctrReg i) (putBits v 0 32 (satNat 0xFFFFFFFF (bits v 0 32 + ms.getD (bits v 62 2) 0)))
        else t
      let t := count (count t 0) 1
      s.setTile n { t with dbgCount := [(0, m0), (1, m1), (2, m2), (3, m3), (4, 1)] }

/-- Whether a counter is reached. -/
def Tile.ctrReached (t : Tile) (i : Nat) : Bool :=
  decide (bits (t.rg (ctrReg i)) 32 30 ≤ bits (t.rg (ctrReg i)) 0 32)

/-- Whether the sequencer makes a transition in this cycle. -/
def Tile.transits (t : Tile) : Bool :=
  let cond := t.seqEntry % 8
  t.dbgEn && t.dbgArm && spGet 0 t.dbgCount 4 = 1
    && (if cond = 0 || cond = 7 then false
      else if cond ≤ 4 then decide (0 < spGet 0 t.dbgCount (cond - 1))
      else t.ctrReached (cond - 5))

/-! ## Records (20 R453, R454) -/

/-- A trace area that stores: of some size, in online backed P-class granules. -/
def State.traceAreaOk (s : State) (base size : Nat) : Bool :=
  let last := base + size - 1
  0 < size && isHbm base && isHbm last
    && (List.range (granuleOf last - granuleOf base + 1)).all fun i =>
      let g := s.granule (granuleOf base + i)
      g.st = 0 && g.cls = 0

def Tile.traceBase (t : Tile) : Nat := bits (t.rg 0x089) 20 32 * 2 ^ 20
def Tile.traceSize (t : Tile) : Nat := bits (t.rg 0x089) 56 8 * 2 ^ 20

/-- A record is dropped. -/
def Tile.dropRecord (t : Tile) : Tile :=
  let p := t.rg 0x08A
  let t := t.setRg 0x08A (putBits p 32 32 (satNat 0xFFFFFFFF (bits p 32 32 + 1)))
  { t.setRg 0x080 (putBits (t.rg 0x080) 2 1 1) with encLost := t.encLost + 1 }

/-- A record joins the encoder, from which it is stored in an open later cycle; where there is no area or no place it is
dropped. -/
def State.pushRecord (s : State) (n : Nat) (r : TraceRec) : State :=
  let t := s.tile n
  if s.traceAreaOk t.traceBase t.traceSize && decide (t.encoder.length < 64) then
    let (d, s) := s.delay
    (s.modTile n fun t => { t with encoder := t.encoder ++ [r] }).schedule (s.now + 1 + d) prioSide (.traceRecordStore n)
  else s.modTile n fun t => t.dropRecord

/-- The time half of a record. -/
def State.traceTime (s : State) : Nat := bits s.hub.paceNs 0 48 * 2 ^ 16 + bits s.hub.paceFr 16 16

/-- The events of the cycle become records while capture is on, in rising order of code and context. -/
def State.flushEvents (s : State) (n : Nat) : State :=
  let t := s.tile n
  if t.events.isEmpty then s
  else
    let s := s.modTile n fun t => { t with events := [] }
    if !(t.dbgEn && t.dbgCap) || t.confidential then s
    else
      let l := t.events.mergeSort fun a b => bits a.body 118 10 ≤ bits b.body 118 10
      l.foldl (fun s r => s.pushRecord n { r with body := r.body ||| BitVec.ofNat 128 s.traceTime }) s

/-- DEBUG_TRANSITION (20 R452): counts cleared; the state and the capture of the next cycle, after any write that lands
in it (18 R403); a stop; the record of the transition is the last of its cycle. -/
def execDebugTransition (n : Nat) (s : State) : Out :=
  let t := s.tile n
  if !t.transits then .fault .noSuchStep
  else
    let e := t.seqEntry
    let next := e / 8 % 4
    let act := e / 32 % 4
    let s := (s.event n 0x0B .k0 next).flushEvents n
    let s := s.later n .k0 updDebug (w64 (next + act * 4))
    let s := s.modTile n fun t =>
      let t := if e.testBit 10 then
          (t.setRg 0x087 (putBits (t.rg 0x087) 0 32 0)).setRg 0x088 (putBits (t.rg 0x088) 0 32 0)
        else t
      { t with dbgCount := [] }
    .next (if act = 3 && !t.confidential then s.schedule s.now prioEnd (.debugStop n) else s)

/-- DEBUG_STOP (20 R455): the tile alone freezes. -/
def execDebugStop (n : Nat) (s : State) : Out :=
  if isTile n then .next (s.freezeTile n .dbgstop) else .fault .noSuchUnit

/-- TRACE_RECORD_STORE (20 R454): the oldest record of the encoder is stored, or dropped where the area has gone; a record
of dropped ones takes the free place where there is an area, which is an event of its code (20 R451); a confidential tile
forms none (20 R460). -/
def execTraceRecordStore (n : Nat) (s : State) : Out :=
  let t := s.tile n
  match t.encoder with
  | [] => .fault .noSuchStep
  | r :: rest =>
    let s := s.modTile n fun t => { t with encoder := rest }
    let i := bits (t.rg 0x08A) 0 32
    let cap := t.traceSize / 16
    let pa := t.traceBase + 16 * (i % cap)
    let s := if s.traceAreaOk t.traceBase t.traceSize && s.backed pa then
        (s.pmWrite pa 0 (leBytes 16 r.body.toNat) false).modTile n fun t =>
          let p := t.rg 0x08A
          let t := t.setRg 0x08A (putBits p 0 32 (satNat 0xFFFFFFFF (i + 1)))
          if !bitOf (t.rg 0x089) 19 && i + 1 = cap then t.setRg 0x080 (putBits (t.rg 0x080) 3 1 0) else t
      else s.modTile n fun t => t.dropRecord
    let lost := (s.tile n).encLost
    .next (if lost = 0 || !t.dbgEn || !t.dbgCap || t.confidential || !s.traceAreaOk t.traceBase t.traceSize then s
      else
        (s.modTile n fun t => { t.matched 5 with encLost := 0 }).pushRecord n
          { body := BitVec.ofNat 128 ((0x0C * 2 ^ 56 + lost % 2 ^ 32) * 2 ^ 64 + s.traceTime), hint := 0#2 })

/-! ## The link-count grid (20 R456, R457, R460) -/

def State.gridSize (s : State) : Nat := bits (s.hubRg 0x090) 56 8 * 2 ^ 20
def State.gridBase (s : State) : Nat := bits (s.hubRg 0x090) 20 32 * 2 ^ 20

/-- Whether a sample is due in this cycle by the cycle count. -/
def State.sampleDue (s : State) : Bool :=
  let c := s.hubRg 0x090
  bitOf c 18 && !bitOf c 19 && s.now % 2 ^ bits c 0 5 = 0

/-- The entry of a fabric port in a sample. -/
def LinkEnd.gridEntry (x : LinkEnd) (l : Nat) : List Byte :=
  leBytes 8 (2 * 2 ^ 24 + l)
    ++ ((List.range 6).flatMap fun p => leBytes 4 (spGet 0 x.flits p) ++ leBytes 4 (spGet 0 x.stalls p))
    ++ List.replicate 8 0#8

/-- The twelve counts of a link inside the package after some more cycles, in each of which one at most goes on: by how much
is open (log entry 41). -/
def countsAfter (old v : V1024) (cycles : Nat) : V1024 :=
  (List.range 12).foldl (fun w i =>
    putBits w (32 * i) 32 (bits old (32 * i) 32 + bits v (64 * i) 64 % (cycles + 1))) 0#1024

/-- The entry of a link inside the package, of kind 0 mesh or 1 chiplet: its id and its counts. -/
def State.packageEntry (s : State) (kind index : Nat) : State × List Byte :=
  let key := kind * 2 ^ 24 + index
  let (v, s) := s.drawBits
  let w := countsAfter (spGet 0#1024 s.hub.inner key) v (s.now - s.hub.innerAt)
  (s.modHub fun h => { h with inner := spSet 0#1024 h.inner key w },
    leBytes 8 key ++ leBytes 48 w.toNat ++ List.replicate 8 0#8)

/-- The entries of the last k of n links of a kind inside the package. -/
def State.meshEntries (s : State) (kind n : Nat) : Nat → State × List Byte
  | 0 => (s, [])
  | k + 1 =>
    let (s, e) := s.packageEntry kind (n - (k + 1))
    let (s, l) := s.meshEntries kind n k
    (s, e ++ l)

/-- Round and superstep of the next sample at a compute milestone. -/
def State.sampleStep (s : State) : Nat := s.hub.sampleOf.headD 0

/-- Writes bytes by lines where memory takes them. -/
def State.putLinesAt (s : State) : Nat → Nat → List Byte → State
  | 0, _, _ => s
  | k + 1, pa, bs =>
    let s := if s.backed pa && s.online pa then s.pmWrite pa 0 (bs.take 64) false else s
    s.putLinesAt k (pa + 64) (bs.drop 64)

/-- LINK_COUNT_SAMPLE (20 R457): every count is latched and one sample is written; one that would begin before its
predecessor is written, or while a tile is confidential, is skipped. -/
def execLinkCountSample (s : State) : Out :=
  let links := Config.meshLinks + Config.chipletLinks + 32
  let size := 320 + 64 * links
  let slots := s.gridSize / size
  if slots = 0 || decide (s.now < s.hub.sampleEnd) || s.tiles.any (fun p => p.2.confidential) then
    .next (s.modHub fun h => { h with skipped := h.skipped + 1, sampleOf := h.sampleOf.drop 1 })
  else
    let k := s.hub.sample
    let head := leBytes 8 s.paceNow ++ leBytes 4 k ++ leBytes 2 links ++ leBytes 2 s.hub.skipped
      ++ leBytes 8 (if bitOf (s.hubRg 0x090) 19 then s.sampleStep else 0) ++ List.replicate 40 0#8
      ++ (List.range 32).flatMap fun l => leBytes 8 (s.link l).digest.toNat
    let ports := (List.range 32).flatMap fun l => (s.link l).gridEntry l
    let (s, mesh) := s.meshEntries 0 Config.meshLinks Config.meshLinks
    let (s, chiplet) := s.meshEntries 1 Config.chipletLinks Config.chipletLinks
    let (d, s) := s.delay
    let s := s.putLinesAt (size / 64) (s.gridBase + k % slots * size) (head ++ mesh ++ chiplet ++ ports)
    .next (s.modHub fun h => { h with sample := k + 1, skipped := 0, sampleEnd := s.now + d, sampleOf := h.sampleOf.drop 1, innerAt := s.now })

end Sys2Proof.Machine
end

