-- ==== Sys2Proof/Machine/Mul.lean ====
section
/-!
DEFINITION. The operations of the `mul` socket (05 R113 to R117): multiplies, multiply-adds, divides and the
fixed-point multiply. Each lands a 64-bit value in `.r` and one in `.q`.
-/

namespace Sys2Proof.Machine

/-- The low 128 bits of an exact result, as `.r` and `.q` (05 R115). -/
def split128 (ex : Int) : W64 × W64 :=
  let full := (ofInt 128 ex).toNat
  (w64 full, w64 (full >>> 64))

/-- The nearest integer to n / 2^sh, on a tie the even one (05 R116). -/
def roundHalfEven (n : Int) (sh : Nat) : Int :=
  let q := n / 2 ^ sh
  let r := n % 2 ^ sh
  if sh = 0 then n
  else if 2 * r < 2 ^ sh then q
  else if 2 ^ sh < 2 * r then q + 1
  else if q % 2 = 0 then q else q + 1

/-- The fixed-point multiply: the saturated value and whether it saturated (05 R116). -/
def mulrW (a b : W64) (sh : Nat) : W64 × W64 :=
  let q := roundHalfEven (sv a * sv b) sh
  let sat := min (max q lo64) hi64
  (ofInt 64 sat, w64 (b2n (sat ≠ q)))

/-- Signed division toward zero, with the corners of 05 R117: quotient and remainder. -/
def divS (n d : W64) : W64 × W64 :=
  if d = 0#64 then (BitVec.allOnes 64, n)
  else (ofInt 64 ((sv n).tdiv (sv d)), ofInt 64 ((sv n).tmod (sv d)))

/-- Unsigned division with the corner of 05 R117. -/
def divN (n d : W64) : W64 × W64 :=
  if d = 0#64 then (BitVec.allOnes 64, n) else (w64 (uv n / uv d), w64 (uv n % uv d))

/-- A result pair of latency lat. -/
def State.mulOut (s : State) (lat : Nat) (v : W64 × W64) : Out :=
  s.operate none fun s => s.land s.hand.tile s.hand.ctx .mul lat [(.r, wide v.1), (.q, wide v.2)]

/-- A divide: latency 34, and no trigger of `mul` in the 31 cycles after its own (05 R113, 03 R57). -/
def State.divOut (s : State) (v : W64 × W64) : Out :=
  s.operate none fun s =>
    (s.land s.hand.tile s.hand.ctx .mul 34 [(.r, wide v.1), (.q, wide v.2)]).modTile s.hand.tile
      fun t => { t with mulFree := s.now + 32 }

/-- MUL_S64 (05 R115). -/
def execMulS64 (s : State) : Out := s.mulOut 3 (split128 (sv (s.opo .mul) * sv s.tv))

/-- MUL_N64 (05 R115). -/
def execMulN64 (s : State) : Out := s.mulOut 3 (split128 (uv (s.opo .mul) * uv s.tv))

/-- MAD_S64 (05 R115). -/
def execMadS64 (s : State) : Out := s.mulOut 4 (split128 (sv (s.opo .mul) * sv s.tv + sv (s.opp .mul)))

/-- MAD_N64 (05 R115). -/
def execMadN64 (s : State) : Out := s.mulOut 4 (split128 (uv (s.opo .mul) * uv s.tv + uv (s.opp .mul)))

/-- MUL_S32 (05 R115). -/
def execMulS32 (s : State) : Out :=
  s.mulOut 3 (ofInt 64 (sbits (s.opo .mul) 0 32 * sbits s.tv 0 32), 0#64)

/-- MUL_N32 (05 R115). -/
def execMulN32 (s : State) : Out := s.mulOut 3 (w64 (bits (s.opo .mul) 0 32 * bits s.tv 0 32), 0#64)

/-- DIV_S64 (05 R117). -/
def execDivS64 (x : Bool) (s : State) : Out :=
  let (n, d) := s.ab .mul x
  s.divOut (divS n d)

/-- DIV_N64 (05 R117). -/
def execDivN64 (x : Bool) (s : State) : Out :=
  let (n, d) := s.ab .mul x
  s.divOut (divN n d)

/-- MULR_S64 (05 R116). -/
def execMulrS64 (s : State) : Out := s.mulOut 4 (mulrW (s.opo .mul) s.tv (bits (s.opp .mul) 0 7))

end Sys2Proof.Machine
end

