-- ==== Sys2Proof/Machine/Reals.lean ====
section
/-!
DEFINITION. Quotients, square roots and the transcendental functions of `sfu` as values that round like the exact ones
(08 R171 to R175). Fixed point numbers of 640 fraction bits carry the series; a value that is not dyadic is cut with its
last bit set, hundreds of bits below the 27-bit grid of 08 R172 (log entry 17).
-/

namespace Sys2Proof.Machine

/-- A finite value known to be exact, or one cut with its last bit set. -/
structure Approx where
  val : Ex
  exact : Bool
deriving DecidableEq, Repr

/-! ## Quotients and square roots (08 R171) -/

/-- The quotient of two finite values, the divisor not 0. -/
def exQuot (n1 : Bool) (m1 : Nat) (e1 : Int) (n2 : Bool) (m2 : Nat) (e2 : Int) : Ex :=
  let (q, sh) := quotSticky m1 m2
  .fin (n1 != n2) q (e1 - e2 + sh)

/-- a / b under IEEE 754 with its flags (08 R171). -/
def exDiv (a b : Ex) : Ex × Nat :=
  match a, b with
  | .nan, _ => (.nan, 0)
  | _, .nan => (.nan, 0)
  | .inf _, .inf _ => (.nan, flINV)
  | .inf x, .fin n _ _ => (.inf (x != n), 0)
  | .fin n _ _, .inf y => (.fin (n != y) 0 0, 0)
  | .fin n1 m1 e1, .fin n2 m2 e2 =>
    if m2 = 0 then if m1 = 0 then (.nan, flINV) else (.inf (n1 != n2), flDZ)
    else if m1 = 0 then (.fin (n1 != n2) 0 0, 0)
    else (exQuot n1 m1 e1 n2 m2 e2, 0)

/-- The integer square root, bit by bit from bit b down. -/
def isqrtFrom (n : Nat) : Nat → Nat → Nat
  | 0, r => r
  | b + 1, r =>
    let r' := r + 2 ^ b
    isqrtFrom n b (if r' * r' ≤ n then r' else r)

def isqrt (n : Nat) : Nat := isqrtFrom n (Nat.log2 n / 2 + 1) 0

/-- m * 2^e brought to an even exponent. -/
def evenExp (m : Nat) (e : Int) : Nat × Int := if e % 2 = 0 then (m, e) else (2 * m, e - 1)

/-- The square root of m * 2^e, m > 0. -/
def exSqrtPos (m : Nat) (e : Int) : Ex :=
  let (m, e) := evenExp m e
  let x := m * 2 ^ 128
  let r := isqrt x
  .fin false (if r * r = x then r else r ||| 1) (e / 2 - 64)

/-- The reciprocal square root of m * 2^e, m > 0. -/
def exRsqrtPos (m : Nat) (e : Int) : Ex :=
  let (m, e) := evenExp m e
  let sh := 2 * (Nat.log2 m + 100)
  let x := 2 ^ sh
  let r := isqrt (x / m)
  .fin false (if r * r * m = x then r else r ||| 1) (-(e / 2) - (sh / 2 : Nat))

/-- The square root under IEEE 754 with its flags. -/
def exSqrt (a : Ex) : Ex × Nat :=
  match a with
  | .nan => (.nan, 0)
  | .inf n => if n then (.nan, flINV) else (.inf false, 0)
  | .fin n m e => if m = 0 then (a, 0) else if n then (.nan, flINV) else (exSqrtPos m e, 0)

/-- The reciprocal square root with its flags. -/
def exRsqrt (a : Ex) : Ex × Nat :=
  match a with
  | .nan => (.nan, 0)
  | .inf n => if n then (.nan, flINV) else (.fin false 0 0, 0)
  | .fin n m e => if m = 0 then (.inf n, flDZ) else if n then (.nan, flINV) else (exRsqrtPos m e, 0)

/-! ## Fixed point of 640 fraction bits -/

def fxBits : Nat := 640
def fxOne : Nat := 2 ^ fxBits
def fxMul (a b : Nat) : Nat := a * b / fxOne
def fxDiv (a b : Nat) : Nat := a * fxOne / b

/-- m * 2^e in fixed point. -/
def toFx (m : Nat) (e : Int) : Nat :=
  if 0 ≤ e + fxBits then m * 2 ^ (e + fxBits).toNat else m / 2 ^ (-(e + fxBits)).toNat

/-- The sum of the terms of a series; next gives the term after term i. -/
def series (next : Nat → Nat → Nat) : Nat → Nat → Nat → Nat → Nat
  | 0, _, _, acc => acc
  | fuel + 1, i, t, acc => if t = 0 then acc else series next fuel (i + 1) (next i t) (acc + t)

/-- atanh t = t + t^3/3 + t^5/5 + ..., for 0 ≤ t ≤ 1/3: the odd powers in `pow`. -/
def atanhFrom (t2 : Nat) : Nat → Nat → Nat → Nat → Nat
  | 0, _, _, acc => acc
  | fuel + 1, i, pow, acc =>
    if pow = 0 then acc else atanhFrom t2 fuel (i + 1) (fxMul pow t2) (acc + pow / (2 * i + 1))

def fxAtanh (t : Nat) : Nat := atanhFrom (fxMul t t) 400 0 t 0

/-- ln 2. -/
def fxLn2 : Nat := 2 * fxAtanh (fxOne / 3)

/-- ln m for a fixed point m in 1 .. 2. -/
def fxLn (m : Nat) : Nat := 2 * fxAtanh (fxDiv (m - fxOne) (m + fxOne))

/-- e^r for a fixed point r in 0 .. 1. -/
def fxExp (r : Nat) : Nat := series (fun i t => fxMul t r / (i + 1)) 400 0 fxOne 0

/-- arctan (1/k) as an alternating series: sum of the terms of even and of odd index. -/
def atanInv (k : Nat) : Nat → Nat → Nat → Int → Int
  | 0, _, _, acc => acc
  | fuel + 1, i, pow, acc =>
    if pow = 0 then acc
    else
      let t : Int := pow / (2 * i + 1)
      atanInv k fuel (i + 1) (pow / (k * k)) (if i % 2 = 0 then acc + t else acc - t)

/-- The circle constant, by Machin's formula. -/
def fxPi : Nat := (16 * atanInv 5 400 0 (fxOne / 5) 0 - 4 * atanInv 239 400 0 (fxOne / 239) 0).toNat

/-- The square root of twice the circle constant. -/
def fxSqrt2Pi : Nat := isqrt (2 * fxPi * fxOne)

/-- e^x of x = ±m * 2^e with |x| < 2^15: the fixed point significand in 1 .. 2 and the exponent of 2. -/
def expParts (neg : Bool) (m : Nat) (e : Int) : Nat × Int :=
  let x : Int := if neg then -(toFx m e : Int) else toFx m e
  let k := x / fxLn2
  (fxExp (x - k * fxLn2).toNat, k)

/-- A value f * 2^k with f in fixed point, cut. -/
def cut (neg : Bool) (f : Nat) (k : Int) : Ex := .fin neg (f ||| 1) (k - fxBits)

/-- A magnitude far above, or far below, every format. -/
def hugeVal : Ex := .fin false 1 100000
def tinyVal (neg : Bool) : Ex := .fin neg 1 (-100000)

/-! ## The functions, on finite nonzero x (08 R172, R173) -/

/-- e^x; 1 at x = 0. -/
def exExp (neg : Bool) (m : Nat) (e : Int) : Approx :=
  if m = 0 then ⟨.fin false 1 0, true⟩
  else if 15 ≤ topExp m e then ⟨if neg then tinyVal false else hugeVal, false⟩
  else
    let (f, k) := expParts neg m e
    ⟨cut false f k, false⟩

/-- 2^x. -/
def exExp2 (neg : Bool) (m : Nat) (e : Int) : Approx :=
  if m = 0 then ⟨.fin false 1 0, true⟩
  else if 15 ≤ topExp m e then ⟨if neg then tinyVal false else hugeVal, false⟩
  else
    let x : Int := if neg then -(toFx m e : Int) else toFx m e
    let n := x / fxOne
    let f := (x - n * fxOne).toNat
    if f = 0 then ⟨.fin false 1 n, true⟩ else ⟨cut false (fxExp (fxMul f fxLn2)) n, false⟩

/-- The integer part n and ln of the significand of x = m * 2^e > 0. -/
def lnParts (m : Nat) (e : Int) : Int × Nat :=
  let n := topExp m e
  (n, fxLn (toFx m (e - n)))

/-- A signed fixed point value, cut. -/
def cutInt (v : Int) : Ex := cut (v < 0) v.natAbs 0

/-- ln x for x > 0. -/
def exLog (m : Nat) (e : Int) : Approx :=
  if sameValue m e 1 0 then ⟨.fin false 0 0, true⟩
  else
    let (n, l) := lnParts m e
    ⟨cutInt (n * fxLn2 + l), false⟩

/-- log2 x for x > 0. -/
def exLog2 (m : Nat) (e : Int) : Approx :=
  let n := topExp m e
  if m = 2 ^ Nat.log2 m then ⟨.fin (n < 0) n.natAbs 0, true⟩
  else ⟨cutInt (n * fxOne + fxDiv (lnParts m e).2 fxLn2), false⟩

/-- e^x of x > 0 as a fixed point number, for x below 512. -/
def fxExpBig (m : Nat) (e : Int) : Nat :=
  let (f, k) := expParts false m e
  f * 2 ^ k.toNat

/-- tanh x. -/
def exTanh (neg : Bool) (m : Nat) (e : Int) : Approx :=
  if m = 0 then ⟨.fin neg 0 0, true⟩
  else if 6 ≤ topExp m e then ⟨cut neg (fxOne - 1) 0, false⟩
  else
    let x := fxExpBig m (e + 1)
    ⟨cut neg (fxDiv (x - fxOne) (x + fxOne)) 0, false⟩

/-- 1 / (1 + e^-x). -/
def exSigmoid (neg : Bool) (m : Nat) (e : Int) : Approx :=
  if m = 0 then ⟨.fin false 1 (-1), true⟩
  else if 8 ≤ topExp m e then ⟨if neg then tinyVal false else cut false (fxOne - 1) 0, false⟩
  else
    let x := fxExpBig m e
    ⟨cut false (if neg then fxDiv fxOne (fxOne + x) else fxDiv x (fxOne + x)) 0, false⟩

/-- x + x^3/3 + x^5/15 + ..., the series of the normal distribution function. -/
def normalSeries (x : Nat) : Nat := series (fun i t => fxMul t (fxMul x x) / (2 * i + 3)) 3000 0 x 0

/-- x times the normal distribution function of x. -/
def exGelu (neg : Bool) (m : Nat) (e : Int) : Approx :=
  if m = 0 then ⟨.fin neg 0 0, true⟩
  else if 4 ≤ topExp m e then
    ⟨if neg then tinyVal true else .fin false (m * 2 ^ 64 - 1) (e - 64), false⟩
  else
    let x := toFx m e
    let h := fxDiv (normalSeries x) (fxMul (fxExpBig (m * m) (2 * e - 1)) fxSqrt2Pi)
    let p := if neg then fxOne / 2 - h else fxOne / 2 + h
    ⟨cut neg (fxMul x p) 0, false⟩

/-- The two roundings of 08 R172: to 27 bits on the grid of .f32, then to .f32 under RNE with the context's ftz. -/
def roundTwice (fp : FpMode) (a : Approx) : Coded :=
  match a.val with
  | .fin neg m e =>
    if m = 0 then (0, 0)
    else
      let q : Int := max (topExp m e) (-126) - 26
      let k := roundUnits neg m e q 0 0
      let (c, f) := encodeResult { fp with rm := 0 } .f32 0 false 0 (.fin neg k q)
      let differs := !a.exact || !sameValue k q m e
      (c, f ||| flagIf differs flNX ||| flagIf (topExp m e < -126) flUNF)
  | x => encodeResult fp .f32 0 false 0 x

end Sys2Proof.Machine
end

