-- ==== Sys2Proof/Machine/Sfu.lean ====
section
/-!
DEFINITION. The operations of the `sfu` socket (08 R169 to R181): correctly rounded operations, transcendental functions,
row statistics and the soft maximum in the wide format.
-/

namespace Sys2Proof.Machine

/-- Lane i of a value read as .f32 under ftz (06 R140). -/
def inLane (fp : FpMode) (v : V1024) (i : Nat) : Ex := (decodeF .f32 (bits v (32 * i) 32)).flush .f32 fp.ftz

/-- Each unmasked lane computed from its index (08 R170). -/
def sfuLanes (msk : Nat) (f : Nat → Coded) : V1024 × Nat :=
  mapCoded 32 32 fun i => if excluded msk i then (0, 0) else f i

/-! ## Transcendental lanes (08 R172, R173) -/

/-- A function with its values at the infinities and at zero, and of finite negative inputs. -/
def transLane (fp : FpMode) (pinf ninf pzero nzero : Coded) (f : Bool → Nat → Int → Approx)
    (negative : Option Coded) (x : Ex) : Coded :=
  match x with
  | .nan => (Fmt.nanCode .f32, 0)
  | .inf neg => if neg then ninf else pinf
  | .fin neg m e =>
    if m = 0 then if neg then nzero else pzero
    else
      match neg, negative with
      | true, some c => c
      | _, _ => roundTwice fp (f neg m e)

def expLane (fp : FpMode) (x : Ex) : Coded :=
  transLane fp (0x7F800000, 0) (0, 0) (0x3F800000, 0) (0x3F800000, 0) exExp none x

def exp2Lane (fp : FpMode) (x : Ex) : Coded :=
  transLane fp (0x7F800000, 0) (0, 0) (0x3F800000, 0) (0x3F800000, 0) exExp2 none x

def logLane (fp : FpMode) (x : Ex) : Coded :=
  transLane fp (0x7F800000, 0) (Fmt.nanCode .f32, flINV) (0xFF800000, flDZ) (0xFF800000, flDZ)
    (fun _ m e => exLog m e) (some (Fmt.nanCode .f32, flINV)) x

def log2Lane (fp : FpMode) (x : Ex) : Coded :=
  transLane fp (0x7F800000, 0) (Fmt.nanCode .f32, flINV) (0xFF800000, flDZ) (0xFF800000, flDZ)
    (fun _ m e => exLog2 m e) (some (Fmt.nanCode .f32, flINV)) x

def tanhLane (fp : FpMode) (x : Ex) : Coded :=
  transLane fp (0x3F800000, 0) (0xBF800000, 0) (0, 0) (0x80000000, 0) exTanh none x

def sigmoidLane (fp : FpMode) (x : Ex) : Coded :=
  transLane fp (0x3F800000, 0) (0, 0) (0x3F000000, 0) (0x3F000000, 0) exSigmoid none x

def geluLane (fp : FpMode) (x : Ex) : Coded :=
  transLane fp (0x7F800000, 0) (0x80000000, 0) (0, 0) (0x80000000, 0) exGelu none x

/-! ## The wide format (08 R175 to R179) -/

/-- A wide value: significand and exponent field, or overflow. -/
abbrev Wide := Option (Nat × Nat)

/-- Wide rounding of a finite value that is not negative. -/
def wideOf (x : Ex) : Wide :=
  match x with
  | .fin _ m e =>
    if m = 0 then some (0, 0)
    else
      let qw := topExp m e - 23
      let sg := roundUnits false m e qw 0 0
      let (sg, qw) := if sg = 2 ^ 24 then (2 ^ 23, qw + 1) else (sg, qw)
      let ew := qw + 32790
      if ew < 1 then some (0, 0) else if 65535 < ew then none else some (sg, ew.toNat)
  | _ => none

/-- The value of a wide value; that a record which is not normalised reads as sig * 2^(ew - 32790), and as 0 where ew is 0,
is DESIGN CHOICE, log entry 124 (08 R176). -/
def wideVal (sig ew : Nat) : Ex := if ew = 0 then .fin false 0 0 else .fin false sig ((ew : Int) - 32790)

/-- `wadd`: the wide rounding of the exact sum; an overflow stays. -/
def wadd (a b : Wide) : Wide :=
  match a, b with
  | some (s1, e1), some (s2, e2) => wideOf ((wideVal s1 e1).add (wideVal s2 e2) false).1
  | _, _ => none

/-- Whether an input belongs to the +infinity class. -/
def infClass (x : Ex) : Bool := !x.isNaN && !x.lt (.fin false 22713 0)

/-- The wide exponential of an input below 22,713. -/
def wideExp (x : Ex) : Wide :=
  match x with
  | .fin neg m e => wideOf (exExp neg m e).val
  | _ => some (0, 0)

/-- A row record (08 R176). -/
structure RowRec where
  sum : Wide
  cinf : Nat
  pres : Bool
  nan : Bool
deriving DecidableEq, Repr

def RowRec.encode (r : RowRec) : V1024 :=
  let (sig, ew) := r.sum.getD (0xFFFFFF, 0xFFFF)
  packV 32 [sig, ew, min r.cinf 0xFFFFFFFF, b2n r.nan + 2 * b2n r.pres + 4 * b2n r.sum.isNone]

def rowRecOf (v : V1024) : RowRec :=
  { sum := if bitOf v 98 then none else some (bits v 0 24, bits v 32 16)
    cinf := bits v 64 32, pres := bitOf v 97, nan := bitOf v 96 }

/-- The number of present leaves (08 R177). -/
def leafCount (p : V1024) : Nat :=
  let n := bits p 0 6
  if n = 0 || 32 < n then 32 else n

/-- `smexp.f32` (08 R177). -/
def smexpV (fp : FpMode) (msk : Nat) (p tv : V1024) : V1024 :=
  let nl := leafCount p
  let live := ((List.range nl).filter (fun i => !excluded msk i)).map (inLane fp tv)
  let lf := (List.range nl).map fun i =>
    let x := inLane fp tv i
    if excluded msk i || x.isNaN || infClass x then (some (0, 0) : Wide) else wideExp x
  RowRec.encode
    { sum := (treeFold wadd (treeDepth nl) lf).getD (some (0, 0))
      cinf := (live.filter infClass).length, pres := !live.isEmpty, nan := live.any Ex.isNaN }

/-- `smadd` (08 R178). -/
def smaddV (a b : V1024) : V1024 :=
  let x := rowRecOf a
  let y := rowRecOf b
  RowRec.encode
    { sum := wadd x.sum y.sum, cinf := x.cinf + y.cinf, pres := x.pres || y.pres, nan := x.nan || y.nan }

/-- One lane of `smout.f32` (08 R179). -/
def smoutLane (fp : FpMode) (r : RowRec) (x : Ex) : Coded :=
  let rne : FpMode := { fp with rm := 0 }
  if r.nan || x.isNaN then (Fmt.nanCode .f32, 0)
  else if !r.pres then (0, flROWEMPTY)
  else if 1 ≤ r.cinf then
    if infClass x then
      let (c, f) := encodeResult rne .f32 0 false 0 (exQuot false 1 0 false r.cinf 0)
      (c, f ||| flROWINF)
    else (0, flROWINF)
  else if infClass x then (0x7F800000, 0)
  else
    match r.sum with
    | none => (0, flOVF ||| flNX)
    | some (sig, ew) =>
      if (wideVal sig ew).isZero then (0, flUNF ||| flNX)
      else
        match wideExp x with
        | some (s2, e2) => encodeResult rne .f32 0 false 0 (exDiv (wideVal s2 e2) (wideVal sig ew)).1
        | none => (0, 0)

/-! ## Row statistics (08 R180) -/

def rneCode (x : Ex) : Coded := encodeResult rneMode .f32 0 false 0 x

/-- The element count as a value. -/
def countVal (n : Nat) : Ex := .fin false n 0

/-- `rmean.f32`: the mean in every lane. -/
def rmeanV (fp : FpMode) (p tv : V1024) : V1024 × Nat :=
  let n := bits p 0 32
  let (c, f) :=
    if n = 0 then (Fmt.nanCode .f32, flINV)
    else
      let (x, f1) := exDiv (inLane fp tv 0) (countVal n)
      let (c, f2) := rneCode x
      (c, f1 ||| f2)
  (mapElems 32 32 fun _ => c, f)

/-- `rsumd.f32`: the sums of the deviations and of their squares in lanes 0 and 1. -/
def rsumdV (fp : FpMode) (msk : Nat) (o p tv : V1024) : V1024 × Nat :=
  let mu := inLane fp o 0
  let prs := (List.range (leafCount p)).map fun i =>
    if excluded msk i then (((0, 0), (0, 0)) : Coded × Coded)
    else
      let (x, f1) := (inLane fp tv i).add mu.neg false
      let (d, f2) := rneCode x
      let (y, f3) := (decodeF .f32 d).mul (decodeF .f32 d)
      let (q, f4) := rneCode y
      ((d, f1 ||| f2), (q, f3 ||| f4))
  let (d, f1) := canonicalSum (prs.map (·.1))
  let (q, f2) := canonicalSum (prs.map (·.2))
  (packV 32 [d, q], f1 ||| f2)

/-- The exact (Q - D^2 / n) / n, and INV where infinities meet. -/
def exVar (d q : Ex) (n : Nat) : Ex × Nat :=
  match d, q with
  | .fin _ _ _, .fin _ _ _ =>
    let (qn, _) := q.mul (countVal n)
    let (dd, _) := d.mul d
    match (qn.add dd.neg false).1 with
    | .fin neg m e => if m = 0 || neg then (.fin false 0 0, 0) else (exQuot false m e false (n * n) 0, 0)
    | x => (x, 0)
  | _, _ =>
    let (dd, f1) := d.mul d
    let (v, f2) := q.add dd.neg false
    (match v with | .inf true => .fin false 0 0 | x => x, f1 ||| f2)

/-- `rvar.f32`: the variance and the inverse deviation in lanes 0 and 1. -/
def rvarV (fp : FpMode) (p tv : V1024) : V1024 × Nat :=
  let d := inLane fp tv 0
  let q := inLane fp tv 1
  let n := bits p 0 32
  let (var, f1) : Coded :=
    if d.isNaN || q.isNaN then (Fmt.nanCode .f32, 0)
    else if n = 0 then (Fmt.nanCode .f32, flINV)
    else
      let (v, f1) := exVar d q n
      let (c, f2) := rneCode v
      (c, f1 ||| f2)
  let (zv, f2) := (decodeF .f32 var).add (inLane fp p 1) false
  let (r, f3) := exRsqrt zv
  let (inv, f4) := rneCode r
  (packV 32 [var, inv], f1 ||| f2 ||| f3 ||| f4)

/-! ## Meanings -/

/-- Each unmasked lane of the trigger value through f. -/
def State.sfuMap (s : State) (lat : Nat) (f : FpMode → Ex → Coded) : Out :=
  s.vecOut .sfu lat (sfuLanes (s.mask .sfu) fun i => f s.fp (inLane s.fp s.hand.tv i))

/-- A correctly rounded result with its flags (08 R171). -/
def roundedOnce (fp : FpMode) (x : Ex × Nat) : Coded := rounded fp .f32 x

/-- RECIP_F32 (08 R171). -/
def execRecipF32 (s : State) : Out := s.sfuMap 8 fun fp x => roundedOnce fp (exDiv (.fin false 1 0) x)

/-- DIV_F32 (08 R171). -/
def execDivF32 (s : State) : Out :=
  s.vecOut .sfu 12 (sfuLanes (s.mask .sfu) fun i =>
    roundedOnce s.fp (exDiv (inLane s.fp (s.ht.opo .sfu) i) (inLane s.fp s.hand.tv i)))

/-- SQRT_F32 (08 R171). -/
def execSqrtF32 (s : State) : Out := s.sfuMap 10 fun fp x => roundedOnce fp (exSqrt x)

/-- RSQRT_F32 (08 R171). -/
def execRsqrtF32 (s : State) : Out := s.sfuMap 9 fun fp x => roundedOnce fp (exRsqrt x)

/-- EXP_F32 (08 R172). -/
def execExpF32 (s : State) : Out := s.sfuMap 9 expLane

/-- EXP2_F32 (08 R172). -/
def execExp2F32 (s : State) : Out := s.sfuMap 8 exp2Lane

/-- LOG_F32 (08 R172). -/
def execLogF32 (s : State) : Out := s.sfuMap 10 logLane

/-- LOG2_F32 (08 R172). -/
def execLog2F32 (s : State) : Out := s.sfuMap 9 log2Lane

/-- TANH_F32 (08 R172). -/
def execTanhF32 (s : State) : Out := s.sfuMap 12 tanhLane

/-- SIGMOID_F32 (08 R172). -/
def execSigmoidF32 (s : State) : Out := s.sfuMap 12 sigmoidLane

/-- GELU_F32 (08 R172). -/
def execGeluF32 (s : State) : Out := s.sfuMap 14 geluLane

/-- RSUMD_F32 (08 R180). -/
def execRsumdF32 (s : State) : Out :=
  s.vecOut .sfu 7 (rsumdV s.fp (s.mask .sfu) (s.ht.opo .sfu) (s.ht.opp .sfu) s.hand.tv)

/-- RMEAN_F32 (08 R180). -/
def execRmeanF32 (s : State) : Out := s.vecOut .sfu 5 (rmeanV s.fp (s.ht.opp .sfu) s.hand.tv)

/-- RVAR_F32 (08 R180). -/
def execRvarF32 (s : State) : Out := s.vecOut .sfu 11 (rvarV s.fp (s.ht.opp .sfu) s.hand.tv)

/-- SMEXP_F32 (08 R177). -/
def execSmexpF32 (s : State) : Out := s.vecInt .sfu 12 (smexpV s.fp (s.mask .sfu) (s.ht.opp .sfu) s.hand.tv)

/-- SMADD (08 R178). -/
def execSmadd (s : State) : Out := s.vecInt .sfu 3 (smaddV (s.ht.opo .sfu) s.hand.tv)

/-- The flag of a row of which every lane is masked: no lane shows that it is empty, and it is ROWEMPTY all the same
(08 R179 at its end and its example, 22 R488; log entry 109). -/
def smoutMasked (r : RowRec) (msk : Nat) : Nat :=
  if !r.pres && !r.nan && (List.range 32).all (excluded msk) then flROWEMPTY else 0

/-- SMOUT_F32 (08 R179). -/
def execSmoutF32 (s : State) : Out :=
  let r := rowRecOf (s.ht.opo .sfu)
  let (v, f) := sfuLanes (s.mask .sfu) fun i => smoutLane s.fp r (inLane s.fp s.hand.tv i)
  s.vecOut .sfu 10 (v, f ||| smoutMasked r (s.mask .sfu))

end Sys2Proof.Machine
end

