-- ==== Sys2Proof/Machine/Vfa.lean ====
section
/-!
DEFINITION. The operations of the `vfa` socket (07 R155 to R158): floating-point arithmetic, compares, scaling and the
block dot product, on 1,024-bit values.
-/

namespace Sys2Proof.Machine

/-- A typed operation in its t or x form: g of the elements of the roles a, b, c (07 R155 to R157). -/
def State.typed (s : State) (lat : Nat) (f : FTy) (x : Bool) (g : FpMode → Fmt → Ex → Ex → Ex → Coded) : Out :=
  let (a, c) := s.abWide .vfa x
  s.vecOut .vfa lat (typedMap s.fp (s.mask .vfa) (ftyFmt f) (g s.fp (ftyFmt f)) a (s.ht.opp .vfa) c)

/-- VFA_ADD (07 R156). -/
def execVfaAdd (f : FTy) (s : State) : Out :=
  s.typed 3 f false vAdd

/-- VFA_SUB (07 R156). -/
def execVfaSub (f : FTy) (x : Bool) (s : State) : Out :=
  s.typed 3 f x vSub

/-- VFA_MUL (07 R156). -/
def execVfaMul (f : FTy) (s : State) : Out :=
  s.typed 3 f false vMul

/-- VFA_FMA (07 R156). -/
def execVfaFma (f : FTy) (x : Bool) (s : State) : Out :=
  s.typed 4 f x (vFma · · false false)

/-- VFA_FMS (07 R156). -/
def execVfaFms (f : FTy) (x : Bool) (s : State) : Out :=
  s.typed 4 f x (vFma · · false true)

/-- VFA_FNMA (07 R156). -/
def execVfaFnma (f : FTy) (x : Bool) (s : State) : Out :=
  s.typed 4 f x (vFma · · true false)

/-- VFA_FNMS (07 R156). -/
def execVfaFnms (f : FTy) (x : Bool) (s : State) : Out :=
  s.typed 4 f x (vFma · · true true)

/-- VFA_MIN (07 R157). -/
def execVfaMin (f : FTy) (s : State) : Out :=
  s.typed 3 f false (fun _ => vMin)

/-- VFA_MAX (07 R157). -/
def execVfaMax (f : FTy) (s : State) : Out :=
  s.typed 3 f false (fun _ => vMax)

/-- VFA_CMP (07 R157). -/
def execVfaCmp (f : FTy) (x : Bool) (s : State) : Out :=
  s.typed 3 f x (fun _ f => vCmp f (bits (s.ht.opp .vfa) 0 3))

/-- VFA_CLASS (07 R157). -/
def execVfaClass (f : FTy) (s : State) : Out :=
  s.vecInt .vfa 3 (vClass (s.mask .vfa) (ftyFmt f) s.hand.tv)

/-- VFA_SCALE (07 R157). -/
def execVfaScale (f : FTy) (x : Bool) (s : State) : Out :=
  let (a, c) := s.abWide .vfa x
  s.vecOut .vfa 3 (vScale s.fp (s.mask .vfa) (ftyFmt f) a c)

/-- VFA_BDOT (07 R158). -/
def execVfaBdot (s : State) : Out :=
  s.vecOut .vfa 6 (vBdot s.fp (s.mask .vfa) (s.ht.opo .vfa) (s.ht.opp .vfa) s.hand.tv)

end Sys2Proof.Machine
end

