-- ==== Sys2Proof/Machine/Vfb.lean ====
section
/-!
DEFINITION. The operations of the `vfb` socket (07 R159 to R168): integer lanes, bitwise work, data movement, conversions,
MX packing and reductions.
-/

namespace Sys2Proof.Machine

/-- An integer operation on elements of width w, in its t or x form (07 R160). -/
def State.vfbInt (s : State) (lat w : Nat) (x : Bool) (f : Nat → Nat → Nat) : Out :=
  let (a, b) := s.abWide .vfb x
  s.vecInt .vfb lat (intMap (s.mask .vfb) w f a b)

/-- A bitwise operation, masked lane by lane (07 R161). -/
def State.vfbBits (s : State) (v : V1024) : Out := s.vecInt .vfb 2 (maskLanes (s.mask .vfb) v)

/-- The FP32 fused forms of `vfb` (07 R159). -/
def State.vfbFused (s : State) (x negP negC : Bool) : Out :=
  let (a, c) := s.abWide .vfb x
  s.vecOut .vfb 4 (typedMap s.fp (s.mask .vfb) .f32 (vFma s.fp .f32 negP negC) a (s.ht.opp .vfb) c)

/-- The `p` latch a trigger reads for its descriptor: K3's private one in ballast mode (04 R88). -/
def State.descP (s : State) (so : Sock) : V1024 :=
  if s.discards then spGet 0#1024 s.ht.privP (sockNum so) else s.ht.opp so

/-- A conversion trigger whose mode resolves to SR increments `srctr` after its draws, in a ballast word too
(06 R143, 07 R168). -/
def State.countDraw (s : State) : State :=
  if s.fp.resolve (dRm (s.descP .vfb)) = 4 then
    s.modCtx s.hand.tile s.hand.ctx fun c => c.setCr 0x02B (c.cr 0x02B + 1#64)
  else s

/-- `operate` of a conversion: a ballast word keeps only the count of its draws. -/
def State.operateDraw (s : State) (ok : Bool) (eff : State → State) : Out :=
  if s.discards then .next (if ok then s.countDraw else s)
  else .next (if ok then (eff s).countDraw else eff s)

/-- VFB_IADD (07 R160). -/
def execVfbIadd (w : IW) (s : State) : Out :=
  s.vfbInt 2 (iwWidth w) false (iAdd (iwWidth w))

/-- VFB_ISUB (07 R160). -/
def execVfbIsub (w : IW) (x : Bool) (s : State) : Out :=
  s.vfbInt 2 (iwWidth w) x (iSub (iwWidth w))

/-- VFB_IMUL (07 R160). -/
def execVfbImul (w : IW) (s : State) : Out :=
  s.vfbInt 3 (iwWidth w) false (iMul (iwWidth w))

/-- VFB_IADDS (07 R160). -/
def execVfbIadds (w : IW) (s : State) : Out :=
  s.vfbInt 2 (iwWidth w) false (iAddS (iwWidth w))

/-- VFB_IMIN_S (07 R160). -/
def execVfbIminS (w : IW) (s : State) : Out :=
  s.vfbInt 2 (iwWidth w) false (iMinS (iwWidth w))

/-- VFB_IMAX_S (07 R160). -/
def execVfbImaxS (w : IW) (s : State) : Out :=
  s.vfbInt 2 (iwWidth w) false (iMaxS (iwWidth w))

/-- VFB_IMIN_N (07 R160). -/
def execVfbIminN (w : IW) (s : State) : Out :=
  s.vfbInt 2 (iwWidth w) false (iMinN (iwWidth w))

/-- VFB_IMAX_N (07 R160). -/
def execVfbImaxN (w : IW) (s : State) : Out :=
  s.vfbInt 2 (iwWidth w) false (iMaxN (iwWidth w))

/-- VFB_AND (07 R161). -/
def execVfbAnd (s : State) : Out :=
  s.vfbBits (s.ht.opo .vfb &&& s.hand.tv)

/-- VFB_OR (07 R161). -/
def execVfbOr (s : State) : Out :=
  s.vfbBits (s.ht.opo .vfb ||| s.hand.tv)

/-- VFB_XOR (07 R161). -/
def execVfbXor (s : State) : Out :=
  s.vfbBits (s.ht.opo .vfb ^^^ s.hand.tv)

/-- VFB_BSEL (07 R161). -/
def execVfbBsel (x : Bool) (s : State) : Out :=
  let (a, c) := s.abWide .vfb x
  s.vfbBits ((s.ht.opp .vfb &&& a) ||| (~~~(s.ht.opp .vfb) &&& c))

/-- VFB_SHL_N32 (07 R161). -/
def execVfbShlN32 (x : Bool) (s : State) : Out :=
  s.vfbInt 2 32 x lShl

/-- VFB_SHR_N32 (07 R161). -/
def execVfbShrN32 (x : Bool) (s : State) : Out :=
  s.vfbInt 2 32 x lShrN

/-- VFB_SHR_S32 (07 R161). -/
def execVfbShrS32 (x : Bool) (s : State) : Out :=
  s.vfbInt 2 32 x lShrS

/-- VFB_ICMP_S32 (07 R161). -/
def execVfbIcmpS32 (x : Bool) (s : State) : Out :=
  s.vfbInt 2 32 x (lCmp true (bits (s.ht.opp .vfb) 0 3))

/-- VFB_ICMP_N32 (07 R161). -/
def execVfbIcmpN32 (x : Bool) (s : State) : Out :=
  s.vfbInt 2 32 x (lCmp false (bits (s.ht.opp .vfb) 0 3))

/-- KPACK (07 R161). -/
def execKpack (s : State) : Out :=
  s.vecInt .vfb 2 (kpackV (s.mask .vfb) s.hand.tv)

/-- The scalar register that `sbcast` reads: 0 where the context has none (07 R162). -/
def State.sbcastReg (s : State) : W64 :=
  let n := bits s.hand.tv 0 6
  if !isRoutine s.hand.ctx && 16 ≤ n then 0#64 else spGet 0#64 s.hc.regs.s n

/-- SBCAST (07 R162). -/
def execSbcast (s : State) : Out :=
  s.vfbBits (spread (bits s.hand.tv 8 2) s.sbcastReg)

/-- LBCAST (07 R162). -/
def execLbcast (s : State) : Out :=
  s.vfbBits (lbcastV (s.ht.opo .vfb) s.hand.tv)

/-- PERM (07 R162). -/
def execPerm (s : State) : Out :=
  s.vfbBits (permV (s.ht.opo .vfb) s.hand.tv)

/-- SLIDEUP (07 R162); in the x form the amount comes from `o` and the register from tv. -/
def execSlideup (x : Bool) (s : State) : Out :=
  let (a, c) := s.abWide .vfb x
  s.vfbBits (slideUp a (s.ht.opp .vfb) (bits c 0 6))

/-- SLIDEDN (07 R162); in the x form the amount comes from `o` and the register from tv. -/
def execSlidedn (x : Bool) (s : State) : Out :=
  let (a, c) := s.abWide .vfb x
  s.vfbBits (slideDn a (s.ht.opp .vfb) (bits c 0 6))

/-- Whether `cvt` accepts its descriptor (07 R163). -/
def cvtOk (d : V1024) : Bool :=
  match elemTyOf (dDty d), elemTyOf (dSty d) with
  | some dt, some st => dSpart d < partsOf st.width && dDpart d < partsOf dt.width
  | _, _ => false

/-- The generator registers of the context in hand (06 R142). -/
def State.seed (s : State) : W64 := s.hc.cr 0x02A
def State.ctr (s : State) : W64 := s.hc.cr 0x02B

/-- CVT (07 R164). -/
def execCvt (s : State) : Out :=
  let r := vCvt s.fp (s.mask .vfb) s.seed s.ctr (s.ht.opo .vfb) (s.ht.opp .vfb) s.hand.tv
  s.operateDraw (cvtOk (s.descP .vfb)) fun s =>
    s.land s.hand.tile s.hand.ctx .vfb 3 [(.r, r.1), (.f, BitVec.ofNat 1024 r.2)] r.2

/-- MXPACK (07 R165); on a descriptor error `.q` keeps its value. -/
def execMxpack (s : State) : Out :=
  let d := s.ht.opp .vfb
  let (v, sc, fl) := vMxpack s.fp (s.mask .vfb) s.seed s.ctr (s.ht.opo .vfb) d s.hand.tv
  s.operateDraw (mxpackOk (s.descP .vfb)) fun s =>
    if mxpackOk d then
      s.land s.hand.tile s.hand.ctx .vfb 4
        [(.r, v), (.q, BitVec.ofNat 1024 sc), (.f, BitVec.ofNat 1024 fl)] fl
    else
      s.land s.hand.tile s.hand.ctx .vfb 4 [(.r, s.ht.opo .vfb), (.f, BitVec.ofNat 1024 flINV)] flINV

/-- MXUNPACK (07 R166). -/
def execMxunpack (s : State) : Out :=
  s.vecOut .vfb 3 (vMxunpack s.fp (s.mask .vfb) (s.ht.opp .vfb) s.hand.tv)

/-- RSUM_F32 (07 R167). -/
def execRsumF32 (s : State) : Out :=
  s.vecOut .vfb 6 (rsum s.fp (s.mask .vfb) s.hand.tv)

/-- RMAX_F32 (07 R167). -/
def execRmaxF32 (s : State) : Out :=
  s.vecInt .vfb 3 (extreme s.fp (s.mask .vfb) true 0xFF800000 s.hand.tv)

/-- RMIN_F32 (07 R167). -/
def execRminF32 (s : State) : Out :=
  s.vecInt .vfb 3 (extreme s.fp (s.mask .vfb) false 0x7F800000 s.hand.tv)

/-- RSUM_S32 (07 R167). -/
def execRsumS32 (s : State) : Out :=
  s.vecInt .vfb 3 (rsumInt (s.mask .vfb) s.hand.tv)

/-- VFB_FMA_F32 (07 R156, R159). -/
def execVfbFmaF32 (x : Bool) (s : State) : Out :=
  s.vfbFused x false false

/-- VFB_FMS_F32 (07 R156, R159). -/
def execVfbFmsF32 (x : Bool) (s : State) : Out :=
  s.vfbFused x false true

/-- VFB_FNMA_F32 (07 R156, R159). -/
def execVfbFnmaF32 (x : Bool) (s : State) : Out :=
  s.vfbFused x true false

/-- VFB_FNMS_F32 (07 R156, R159). -/
def execVfbFnmsF32 (x : Bool) (s : State) : Out :=
  s.vfbFused x true true

end Sys2Proof.Machine
end

