-- ==== Sys2Proof/Machine/Trigger.lean ====
section
/-!
DEFINITION. What a trigger or an engine header of a word starts: the meaning of each operation and command by name.
-/

namespace Sys2Proof.Machine

/-- The operation that a trigger starts, or the command of a header (02 R34 steps 3 and 5); other steps are started by no
word. -/
def opExec (i : Instr) (s : State) : Out :=
  match i with
  | .aluAdd u => execAluAdd u s
  | .aluSub u x => execAluSub u x s
  | .aluAddc u => execAluAddc u s
  | .aluSubb u x => execAluSubb u x s
  | .aluAddsS64 u => execAluAddsS64 u s
  | .aluAddsN64 u => execAluAddsN64 u s
  | .aluSubsS64 u x => execAluSubsS64 u x s
  | .aluSubsN64 u x => execAluSubsN64 u x s
  | .aluAnd u => execAluAnd u s
  | .aluOr u => execAluOr u s
  | .aluXor u => execAluXor u s
  | .aluAndn u x => execAluAndn u x s
  | .aluShl u x => execAluShl u x s
  | .aluShrN64 u x => execAluShrN64 u x s
  | .aluShrS64 u x => execAluShrS64 u x s
  | .aluRol u x => execAluRol u x s
  | .aluRor u x => execAluRor u x s
  | .aluCeq u => execAluCeq u s
  | .aluCne u => execAluCne u s
  | .aluCltS64 u x => execAluCltS64 u x s
  | .aluCltN64 u x => execAluCltN64 u x s
  | .aluCleS64 u x => execAluCleS64 u x s
  | .aluCleN64 u x => execAluCleN64 u x s
  | .aluMinS64 u => execAluMinS64 u s
  | .aluMinN64 u => execAluMinN64 u s
  | .aluMaxS64 u => execAluMaxS64 u s
  | .aluMaxN64 u => execAluMaxN64 u s
  | .aluSel u x => execAluSel u x s
  | .aluAbsS64 u => execAluAbsS64 u s
  | .aluPass u => execAluPass u s
  | .aluPopc u => execAluPopc u s
  | .aluClz u => execAluClz u s
  | .aluCtz u => execAluCtz u s
  | .aluBfxS64 u => execAluBfxS64 u s
  | .aluBfxN64 u => execAluBfxN64 u s
  | .aluBfi u => execAluBfi u s
  | .gpack u => execGpack u s
  | .gset u x => execGset u x s
  | .kfill u => execKfill u s
  | .klow u => execKlow u s
  | .khigh u => execKhigh u s
  | .divS64 x => execDivS64 x s
  | .divN64 x => execDivN64 x s
  | .vfaAdd f => execVfaAdd f s
  | .vfaSub f x => execVfaSub f x s
  | .vfaMul f => execVfaMul f s
  | .vfaFma f x => execVfaFma f x s
  | .vfaFms f x => execVfaFms f x s
  | .vfaFnma f x => execVfaFnma f x s
  | .vfaFnms f x => execVfaFnms f x s
  | .vfaMin f => execVfaMin f s
  | .vfaMax f => execVfaMax f s
  | .vfaCmp f x => execVfaCmp f x s
  | .vfaClass f => execVfaClass f s
  | .vfaScale f x => execVfaScale f x s
  | .vfbIadd w => execVfbIadd w s
  | .vfbIsub w x => execVfbIsub w x s
  | .vfbImul w => execVfbImul w s
  | .vfbIadds w => execVfbIadds w s
  | .vfbIminS w => execVfbIminS w s
  | .vfbImaxS w => execVfbImaxS w s
  | .vfbIminN w => execVfbIminN w s
  | .vfbImaxN w => execVfbImaxN w s
  | .vfbBsel x => execVfbBsel x s
  | .vfbShlN32 x => execVfbShlN32 x s
  | .vfbShrN32 x => execVfbShrN32 x s
  | .vfbShrS32 x => execVfbShrS32 x s
  | .vfbIcmpS32 x => execVfbIcmpS32 x s
  | .vfbIcmpN32 x => execVfbIcmpN32 x s
  | .slideup x => execSlideup x s
  | .slidedn x => execSlidedn x s
  | .vfbFmaF32 x => execVfbFmaF32 x s
  | .vfbFmsF32 x => execVfbFmsF32 x s
  | .vfbFnmaF32 x => execVfbFnmaF32 x s
  | .vfbFnmsF32 x => execVfbFnmsF32 x s
  | .ldN8 u => execLdN8 u s
  | .ldN16 u => execLdN16 u s
  | .ldN32 u => execLdN32 u s
  | .ldX64 u => execLdX64 u s
  | .ldS8 u => execLdS8 u s
  | .ldS16 u => execLdS16 u s
  | .ldS32 u => execLdS32 u s
  | .ldB128 u => execLdB128 u s
  | .ldB256 u => execLdB256 u s
  | .ldB512 u => execLdB512 u s
  | .ldB1024 u => execLdB1024 u s
  | .ldM1024 u => execLdM1024 u s
  | .ldSd32 u => execLdSd32 u s
  | .ldFl64 u => execLdFl64 u s
  | .ldFl1024 u => execLdFl1024 u s
  | .stB8 u => execStB8 u s
  | .stB16 u => execStB16 u s
  | .stB32 u => execStB32 u s
  | .stB64 u => execStB64 u s
  | .stB128 u => execStB128 u s
  | .stB256 u => execStB256 u s
  | .stB512 u => execStB512 u s
  | .stB1024 u => execStB1024 u s
  | .stM1024 u => execStM1024 u s
  | .stSd32 u => execStSd32 u s
  | .mxMm h => execMxMm h s
  | .mxGang h => execMxGang h s
  | .mxSeq h => execMxSeq h s
  | .mxGseq h => execMxGseq h s
  | .mxTadd h => execMxTadd h s
  | .mxDrain h => execMxDrain h s
  | .mxTcsave h => execMxTcsave h s
  | .synTimer h => execSynTimer h s
  | .synDelay h => execSynDelay h s
  | .synGbar h => execSynGbar h s
  | .synJoin h => execSynJoin h s
  | .ceCopy h => execCeCopy h s
  | .ceXcopy h => execCeXcopy h s
  | .ceFill h => execCeFill h s
  | .cePlace h => execCePlace h s
  | .ceCode h => execCeCode h s
  | .fenceW lv => execFenceW lv s
  | .fenceRw lv => execFenceRw lv s
  | .ctlJmp => execCtlJmp s
  | .ctlJmpr => execCtlJmpr s
  | .ctlCall => execCtlCall s
  | .ctlRet => execCtlRet s
  | .ctlLoop => execCtlLoop s
  | .ctlLdim => execCtlLdim s
  | .ctlLidx => execCtlLidx s
  | .ctlLexit => execCtlLexit s
  | .ctlRetire => execCtlRetire s
  | .ctlYield => execCtlYield s
  | .ctlTrap => execCtlTrap s
  | .ctlUret => execCtlUret s
  | .ctlWtok => execCtlWtok s
  | .ctlWcyc => execCtlWcyc s
  | .ctlQadd => execCtlQadd s
  | .ctlQread => execCtlQread s
  | .ctlWhere => execCtlWhere s
  | .ctlHset => execCtlHset s
  | .mulS64 => execMulS64 s
  | .mulN64 => execMulN64 s
  | .madS64 => execMadS64 s
  | .madN64 => execMadN64 s
  | .mulS32 => execMulS32 s
  | .mulN32 => execMulN32 s
  | .mulrS64 => execMulrS64 s
  | .aguPstr => execAguPstr s
  | .aguPwin => execAguPwin s
  | .aguPreg => execAguPreg s
  | .aguPget => execAguPget s
  | .aguPadv => execAguPadv s
  | .aguPpeek => execAguPpeek s
  | .aguPcopy => execAguPcopy s
  | .aguRchk => execAguRchk s
  | .aguRassert => execAguRassert s
  | .aguRget => execAguRget s
  | .aguLea => execAguLea s
  | .vfaBdot => execVfaBdot s
  | .vfbAnd => execVfbAnd s
  | .vfbOr => execVfbOr s
  | .vfbXor => execVfbXor s
  | .kpack => execKpack s
  | .sbcast => execSbcast s
  | .lbcast => execLbcast s
  | .perm => execPerm s
  | .cvt => execCvt s
  | .mxpack => execMxpack s
  | .mxunpack => execMxunpack s
  | .rsumF32 => execRsumF32 s
  | .rmaxF32 => execRmaxF32 s
  | .rminF32 => execRminF32 s
  | .rsumS32 => execRsumS32 s
  | .recipF32 => execRecipF32 s
  | .divF32 => execDivF32 s
  | .sqrtF32 => execSqrtF32 s
  | .rsqrtF32 => execRsqrtF32 s
  | .expF32 => execExpF32 s
  | .exp2F32 => execExp2F32 s
  | .logF32 => execLogF32 s
  | .log2F32 => execLog2F32 s
  | .tanhF32 => execTanhF32 s
  | .sigmoidF32 => execSigmoidF32 s
  | .geluF32 => execGeluF32 s
  | .rsumdF32 => execRsumdF32 s
  | .rmeanF32 => execRmeanF32 s
  | .rvarF32 => execRvarF32 s
  | .smexpF32 => execSmexpF32 s
  | .smadd => execSmadd s
  | .smoutF32 => execSmoutF32 s
  | .fset => execFset s
  | .fget => execFget s
  | .tcread => execTcread s
  | .tcclr => execTcclr s
  | .chkrd => execChkrd s
  | .chkclr => execChkclr s
  | .dur => execDur s
  | .mxStat => execMxStat s
  | .tsin => execTsin s
  | .tsout => execTsout s
  | .tscopy => execTscopy s
  | .tsfill => execTsfill s
  | .scin => execScin s
  | .scout => execScout s
  | .wbin => execWbin s
  | .wbout => execWbout s
  | .semTake => execSemTake s
  | .semPut => execSemPut s
  | .semLd => execSemLd s
  | .semSt => execSemSt s
  | .semAdd => execSemAdd s
  | .semAnd => execSemAnd s
  | .semOr => execSemOr s
  | .semMaxS64 => execSemMaxS64 s
  | .semMaxN64 => execSemMaxN64 s
  | .semMinS64 => execSemMinS64 s
  | .semMinN64 => execSemMinN64 s
  | .semCas => execSemCas s
  | .semWadd => execSemWadd s
  | .semQlen => execSemQlen s
  | .semSrcrd => execSemSrcrd s
  | .semSrcdrop => execSemSrcdrop s
  | .tpend => execTpend s
  | .tdone => execTdone s
  | .tstat => execTstat s
  | .tmap => execTmap s
  | .pace => execPace s
  | .pacefx => execPacefx s
  | .wtime => execWtime s
  | .synMstat => execSynMstat s
  | .xcyc => execXcyc s
  | .bstat => execBstat s
  | .ceStat => execCeStat s
  | .ceProg => execCeProg s
  | .ceLast => execCeLast s
  | .ceAbort => execCeAbort s
  | .nsSend => execNsSend s
  | .nsRst => execNsRst s
  | .nsRatom => execNsRatom s
  | .nsXsend => execNsXsend s
  | .nsRecv => execNsRecv s
  | .nsPeek => execNsPeek s
  | .nsRelease => execNsRelease s
  | .nsStat => execNsStat s
  | .nsLast => execNsLast s
  | .nsSpill => execNsSpill s
  | .nsLback => execNsLback s
  | .nsReject => execNsReject s
  | .nsOvclr => execNsOvclr s
  | .csrr => execCsrr s
  | .csrw => execCsrw s
  | .xcsrr => execXcsrr s
  | .xcsrw => execXcsrw s
  | .tctlFreeze => execTctlFreeze s
  | .tctlResume => execTctlResume s
  | .tctlHalt => execTctlHalt s
  | .tctlUnhalt => execTctlUnhalt s
  | .tctlSave => execTctlSave s
  | .tctlRestore => execTctlRestore s
  | .tctlResumeContext => execTctlResumeContext s
  | .tctlKillContext => execTctlKillContext s
  | .tctlClearContext => execTctlClearContext s
  | .tctlRollback => execTctlRollback s
  | .pairon => execPairon s
  | .pairoff => execPairoff s
  | .mwait => execMwait s
  | .tlbprobe => execTlbprobe s
  | .tlbinvAddress => execTlbinvAddress s
  | .tlbinvAsid => execTlbinvAsid s
  | .tlbinvGlobal => execTlbinvGlobal s
  | .tlbinvAll => execTlbinvAll s
  | .gctlOffline => execGctlOffline s
  | .gctlOnline => execGctlOnline s
  | .gctlConvert => execGctlConvert s
  | .gstat => execGstat s
  | .ptclr => execPtclr s
  | _ => .fault .noSuchStep

end Sys2Proof.Machine
end

