-- ==== Sys2Proof/Machine/Issue.lean ====
section
/-!
DEFINITION. Issuing a transport word: what stands in place of it, the merge stage, the checks in the order of 18 R411, and
the effects in the order of 02 R34.
-/

namespace Sys2Proof.Machine

/-! ## Which word -/

/-- A word that issues in this cycle: its context and its fields. -/
structure Issuing where
  k : Ctx
  w : Word
deriving DecidableEq, Repr

/-- An operation or a command that a word starts: its context, slot and trigger value. -/
structure Start where
  k : Ctx
  slot : Nat
  ins : Instr
  tv : V1024
deriving DecidableEq, Repr

/-- The occupied slots of a word (04 R87). -/
def occupiedSlots (w : Word) : List Nat :=
  (List.range 15).filter fun i => (i < 12 && isLimm w i) || slotOf w i ≠ 0#32

/-- The sockets that a ballast word may use (04 R88). -/
def ballastSocks : List Sock := [.alu0, .alu1, .mul, .vfa, .vfb, .sfu]

/-- Whether a performed move is invalid in a ballast word: a port of another socket, but for K3's own `ctl.retire` (log
entry 16), or an operation that has an occupancy. -/
def ballastMoveBad (m : Move) : Bool :=
  match m.dst with
  | .opnd so _ => !ballastSocks.contains so
  | .trig .ctl false opc => opc ≠ 0x08
  | .trig .mul _ opc => opc = 0x06 || opc = 0x07
  | .trig so _ _ => !ballastSocks.contains so
  | _ => false

/-- The first slot for which a word of K3 in ballast mode is invalid. -/
def Tile.ballastFail (t : Tile) (k : Ctx) (w : Word) : Option Nat :=
  if !t.inBallast k then none
  else
    match (t.performed k w).find? ballastMoveBad with
    | some m => some m.slot
    | none => (headersOf w).head?

/-- Whether two moves write one socket port, t and x counted as one. -/
def samePort (a b : Move) : Bool :=
  match a.dst, b.dst with
  | .opnd so p, .opnd so' p' => so = so' && p = p'
  | .trig so _ _, .trig so' _ _ => so = so'
  | _, _ => false

/-- Whether ballast allows a word of context q beside the word of context k (04 R88). -/
def Tile.ballastJoins (t : Tile) (now : Nat) (k : Ctx) (w : Word) (q : Ctx) (v : Word) : Bool :=
  !t.inBallast q
    || (t.ballastTurn now && (t.ballastFail q v).isNone
      && !((t.performed q v).any fun a => (t.performed k w).any (samePort a)))

/-- Whether the word v of context q joins the word w of context k (04 R87, 18 R425; a context that would take a trap or an
interrupt in place of its word is passed over). -/
def Tile.joins (t : Tile) (now : Nat) (k : Ctx) (w : Word) (q : Ctx) (v : Word) : Bool :=
  let c := t.ctx q
  v.mergeok = 1#1 && (wordCheck q v).isNone && !((occupiedSlots v).any fun i => (occupiedSlots w).contains i)
    && t.awake now q && !t.waiting now q && c.dues.isEmpty && c.takeable.isNone && !c.coupled && !(t.ctx k).coupled
    && t.ballastJoins now k w q v

/-- The word that the merge stage adds (04 R87). -/
def Tile.merged (t : Tile) (now : Nat) (k : Ctx) (w : Word) : Option Issuing :=
  allCtx.findSome? fun q =>
    if q = k then none
    else
      match t.nextWord q with
      | none => none
      | some v => if t.joins now k w q v then some { k := q, w := v } else none

/-! ## Captured results that come back with a word (03 R69, 18 R420) -/

/-- Lands the results that are due now. -/
def State.landDue (s : State) (n : Nat) (so : Sock) (po : Port) : State :=
  let mine (a : Agenda) : Bool := decide (a.cyc ≤ s.now) && decide (a.ins = .resultLands n so po)
  match execResultLands n so po { s with agenda := s.agenda.filter fun a => !mine a } with
  | .next s' => s'
  | _ => s

/-- The results captured at a trap, or at an entry to a handler that has returned, land from this word of their context
on. -/
def State.comeBack (s : State) (n : Nat) (k : Ctx) : State :=
  let t := s.tile n
  let mine (who : Capturer) : Bool := who = .trap k || (who = .handler k && (t.ctx k).saved.isNone)
  let ids := (t.captures.filter fun c => mine c.by').map fun c => c.fl.id
  if ids.isEmpty then s
  else
    let s := s.replay n (.trap k) s.now
    let s := if (t.ctx k).saved.isNone then s.replay n (.handler k) s.now else s
    ((s.tile n).flights.filter fun f => ids.contains f.id && f.due = some s.now).foldl
      (fun s f => s.landDue n f.so f.po) s

/-! ## Moves of the words that issue -/

/-- The performed moves in slot order. -/
def Tile.wordMoves (t : Tile) (ws : List Issuing) : List Move :=
  let ms := ws.flatMap fun x => t.performed x.k x.w
  (List.range 12).filterMap fun i => ms.find? fun m => m.slot = i

/-- Whether move b of a higher slot wins over a (03 R63); the private latches of ballast collide with no other's. -/
def Tile.beats (t : Tile) (b a : Move) : Bool :=
  sameDst a b && decide (a.slot < b.slot) && t.inBallast a.ctx = t.inBallast b.ctx

/-- The moves that take effect. -/
def Tile.effective (t : Tile) (ms : List Move) : List Move := ms.filter fun m => !ms.any fun b => t.beats b m

/-- Step 2 of 02 R34: an operand move sets its latch, and a load keeps the tag of its pointer (05 R120). The tile t0 is
that before the word. -/
def Tile.latch (t0 t : Tile) (m : Move) : Tile :=
  match m.dst with
  | .opnd so isP => t.setLatch m so isP (t0.readSrc m) (t0.useTag m)
  | .trig so _ _ =>
    if isAddrPort m.dst then { t with tagO := spSet none t.tagO (sockNum so) (t0.useTag m) } else t
  | _ => t

/-- Step 4: a register is written; the debug module looks at it. -/
def Tile.writeReg (t0 t : Tile) (m : Move) : Tile :=
  match m.dst with
  | .reg f i =>
    let t := t.modCtx m.ctx fun c => { c with regs := c.regs.write f i (t0.readSrc m).toNat }
    t.watch m.ctx (t0.ctx m.ctx).pc (regIdent f i) ((t.ctx m.ctx).regs.read f i)
      (t0.hintOf m.ctx (t0.ctx m.ctx).pc)
  | _ => t

/-- The operations the moves trigger; `ctl.trap` apart, which is taken up last. -/
def Tile.startsOf (t0 : Tile) (s : State) (n : Nat) (ms : List Move) : List Start :=
  ms.filterMap fun m =>
    match m.dst with
    | .trig so x opc =>
      let tv := t0.readSrc m
      (Sys2Proof.opOf so x opc (selOf opc (low64 tv).toNat (low64 ((s.tile n).opo so)).toNat)).bind fun i =>
        if i = .ctlTrap then none else some { k := m.ctx, slot := m.slot, ins := i, tv := tv }
    | _ => none

/-- The commands of the engine headers of a word. -/
def headersStart (x : Issuing) : List Start :=
  (headersOf x.w).filterMap fun i =>
    (headerOf i (bits (slotOf x.w i) 24 8) (hdrFields (slotOf x.w i))).map fun c =>
      { k := x.k, slot := i, ins := c, tv := 0#1024 }

/-- Runs an operation of a word: it is taken in hand, and its meaning applied. -/
def State.runStart (n : Nat) (s : State) (x : Start) : State :=
  match opExec x.ins { s with hand := { tile := n, ctx := x.k, slot := x.slot, tv := x.tv } } with
  | .next s' => s'
  | _ => s

/-! ## Checks (18 R411) -/

/-- The causes of traps that words raise. -/
def Cause.ofCode (n : Nat) : Cause :=
  ([.illword, .sockbusy, .ctlfault, .usertrap, .watchdog, .waitunsat, .region, .sramacc, .tswacc, .semacc, .ceacc, .nsacc,
    .synacc, .sysacc, .tokdup, .mxhaz, .mxchk, .scaleseq, .wfmt, .pageflt, .perm, .ptpoison, .classdeny, .parity, .uncorr,
    .errbudget, .pairmis].find? fun c => Cause.code c = n).getD .illword

/-- What an operation raises where it is run: it traps its context, whose trap record says why. -/
def State.raisedBy (s : State) (n : Nat) (x : Start) : Option Raise :=
  let c := (s.runStart n x).ctx n x.k
  if c.run = .trapped && (s.ctx n x.k).run ≠ .trapped then
    let r := c.cr 0x075
    some { cause := Cause.ofCode (bits r 54 6), slot := bits r 50 4, detail := bits r 32 16, aux := c.cr 0x076
           eng := bitOf r 61 }
  else none

/-- The token that an operation or a command names as its produced one; 63 names none but for `tpend` (12 R270). -/
def State.tokenNamed (s : State) (n : Nat) (x : Start) : Option Nat :=
  let t := s.tile n
  let named (k : Nat) : Option Nat := if k = 63 then none else some k
  match x.ins with
  | .tpend => some (bits x.tv 0 6)
  | .nsSend => named (bits x.tv 0 6)
  | .nsRst => named (bits x.tv 0 6)
  | .nsRatom => named (bits x.tv 0 6)
  | .nsXsend => named (bits x.tv 0 6)
  | .tsin => named (bits (t.opo .tsw) 0 6)
  | .tsout => named (bits (t.opo .tsw) 0 6)
  | .tscopy => named (bits (t.opo .tsw) 0 6)
  | .tsfill => named (bits (t.opo .tsw) 0 6)
  | .scin => named (bits (t.opo .tsw) 0 6)
  | .scout => named (bits (t.opo .tsw) 0 6)
  | .wbin => named (bits (t.opo .tsw) 0 6)
  | .wbout => named (bits (t.opo .tsw) 0 6)
  | i => (eopOf i).bind fun e => named e.2.2.tokp.toNat

/-- A cause and its context. -/
abbrev Failing := Ctx × Raise

/-- The productions of a word that fail (12 R272), of producers in order. A token that two of them name fails with 0x2
at the later one, whatever its state; one named once with 0x1 where it is pending. `tdone` of another's token fails with
0x3. -/
def State.dups (s : State) (n : Nat) (l : List Start) : List Failing :=
  let names := l.map (s.tokenNamed n)
  l.zipIdx.filterMap fun (x, i) =>
    match s.tokenNamed n x with
    | some k =>
      if (names.take i).contains (some k) then some (x.k, raiseAt .tokdup x.slot 0x2)
      else if (names.drop (i + 1)).contains (some k) then none
      else if (s.tile n).tokPending k then some (x.k, raiseAt .tokdup x.slot 0x1) else none
    | none =>
      match x.ins, spFind (s.tile n).tokens (bits x.tv 0 6) with
      | .tdone, some o => if o.owner ≠ 1 then some (x.k, raiseAt .tokdup x.slot 0x3) else none
      | _, _ => none

/-- The causes other than TOKDUP that some operations raise, in order. -/
def State.raises (s : State) (n : Nat) (l : List Start) : List Failing :=
  l.filterMap fun x =>
    match s.raisedBy n x with
    | some r => if r.cause = .tokdup then none else some (x.k, r)
    | none => none

/-- The triggers inside the occupancy of a free-running socket (03 R57). -/
def Tile.busyTriggers (t : Tile) (now : Nat) (ms : List Move) : List Failing :=
  ms.filterMap fun m =>
    match m.dst with
    | .trig so _ opc =>
      if !t.inBallast m.ctx && t.sockbusy now so opc then some (m.ctx, raiseAt .sockbusy m.slot 0) else none
    | _ => none

/-- Items of the primary context k first, then those of the other. -/
def primaryFirst {α : Type} (k : Ctx) (ctx : α → Ctx) (l : List α) : List α :=
  (l.filter fun x => ctx x = k) ++ l.filter fun x => ctx x ≠ k

/-- What words have before their checks: their tile with the captured results that came back, the moves that are performed
and those that take effect, the latches of step 2, and what they start. -/
structure Prepared where
  t0 : Tile
  s2 : State
  ms : List Move
  es : List Move
  ops : List Start
  heads : List Start

/-- The words up to step 2 (02 R34); what a re-executed word has already released is not started (18 R426). -/
def State.prepare (s : State) (n : Nat) (ws : List Issuing) : Prepared :=
  let s1 := ws.foldl (fun s x => s.comeBack n x.k) s
  let t0 := s1.tile n
  let ms := t0.wordMoves ws
  let es := t0.effective ms
  let s2 := s1.setTile n (es.foldl t0.latch t0)
  { t0 := t0, s2 := s2, ms := ms, es := es, ops := t0.startsOf s2 n (es.filter fun m => !t0.released es m)
    heads := (ws.filter fun x => !(t0.ctx x.k).repeats).flatMap headersStart }

/-- The failing checks of legal words, the primary context's word first at each step: SOCKBUSY, step 3, TOKDUP, step 5
(18 R411, 04 R87). The checks of TOKDUP and step 5 see the registers of step 4, and the copy engine's queue as it stood
before an abort of the same word (DESIGN CHOICE, log entry 132; 13 R279). -/
def Prepared.failings (p : Prepared) (n : Nat) (k : Ctx) : List Failing :=
  let s4 := p.s2.modTile n fun t => p.es.foldl p.t0.writeReg t
  let ops := primaryFirst k (·.k) p.ops
  let heads := primaryFirst k (·.k) p.heads
  let of (l : List Start) (mine : Bool) : List Start := l.filter fun x => (x.k = k) = mine
  (p.s2.tile n).busyTriggers p.s2.now (primaryFirst k (·.ctx) p.es) ++ p.s2.raises n ops
    ++ s4.dups n (of p.ops true ++ of p.heads true ++ of p.ops false ++ of p.heads false) ++ s4.raises n heads

/-- Whether the word that a context would issue meets a cause of its own (18 R411 points 2 to 5). -/
def State.wordFails (s : State) (n : Nat) (k : Ctx) : Bool :=
  let t := s.tile n
  if (t.ctx k).run ≠ .ready || t.waiting s.now k then false
  else if 2047 < (t.ctx k).pc then true
  else
    match t.nextWord k with
    | none => false
    | some w =>
      (wordCheck k w).isSome || (t.ballastFail k w).isSome || !((s.prepare n [{ k := k, w := w }]).failings n k).isEmpty

/-- TRAP_TAKE (18 R410, R411). -/
def execTrapTake (n : Nat) (k : Ctx) (s : State) : Out :=
  match firstDue (s.ctx n k).dues with
  | none => .fault .noSuchStep
  | some d => .next ((s.modCtx n k fun c => { c with dues := c.dues.erase d }).takeTrap n k d.what (s.wordFails n k))

/-! ## Records of collisions (03 R63, R64, R66) -/

/-- A collision: winning slot, losing slot (15: a hardware update), contexts. -/
structure Collision where
  win : Nat
  lose : Nat
  ks : List Ctx
deriving DecidableEq, Repr

/-- The same-destination collision that a move wins. -/
def Tile.collision (t : Tile) (ms : List Move) (m : Move) : Option Collision :=
  let lost := ms.filter fun a => t.beats m a
  if lost.isEmpty then none
  else some { win := m.slot, lose := lost.foldl (fun x a => max x a.slot) 0, ks := m.ctx :: lost.map (·.ctx) }

/-- Whether a hardware update of this cycle changed the register a move writes. -/
def Tile.overwrites (t : Tile) (now : Nat) (m : Move) : Option (Ctx × Nat × Nat) :=
  match m.dst with
  | .reg f i => if t.ptrUpd.contains (m.ctx, regIdent f i, now) then some (m.ctx, regIdent f i, now) else none
  | _ => none

def Context.setDcoll (c : Context) (x : Collision) : Context :=
  c.setCr 0x021 (putBits (putBits (putBits (c.cr 0x021) 12 4 x.win) 8 4 x.lose) 0 1 1)

/-- Records a collision in `ctlstat` of its contexts. -/
def Tile.noteCollision (t : Tile) (x : Collision) : Tile :=
  allCtx.foldl (fun t k => if x.ks.contains k then t.modCtx k fun c => c.setDcoll x else t) t

/-- The collisions of the words that issue, in rising order of the winning slot, then those with hardware updates. -/
def Tile.noteCollisions (t0 : Tile) (now : Nat) (ms es : List Move) (t : Tile) : Tile :=
  let t := (es.filterMap (t0.collision ms)).foldl Tile.noteCollision t
  es.foldl (fun t m =>
    match t0.overwrites now m with
    | some u =>
      Tile.noteCollision { t with ptrUpd := t.ptrUpd.erase u } { win := m.slot, lose := 15, ks := [m.ctx] }
    | none => t) t

/-! ## Pointer uses (05 R120, R121) -/

/-- Joins uses of pointer p of context k to the update of the next cycle; a `pcopy` of the word replaces the address that
they would advance, in that one update. -/
def State.usePointer (s : State) (n : Nat) (k : Ctx) (p uses : Nat) : State :=
  let copied (a : Agenda) : Bool :=
    match a.ins with
    | .registerWrite r _ => decide (a.cyc = s.now + 1 ∧ r = { tile := n, ctx := k, num := updWord0 + p })
    | _ => false
  if uses = 0 || s.agenda.any copied then s
  else
    let ref (num : Nat) : RegRef := { tile := n, ctx := k, num := num }
    let padv (a : Agenda) : Option W64 :=
      match a.ins with
      | .registerWrite r v => if a.cyc = s.now + 1 && r = ref (updAdvance + p) then some v else none
      | _ => none
    let v := (s.agenda.findSome? padv).getD 0#64
    State.schedule { s with agenda := s.agenda.filter fun a => (padv a).isNone } (s.now + 1) prioWrite
      (.registerWrite (ref (updAdvance + 8 * uses + p)) v)

/-- The pointer uses of the moves that take effect. -/
def State.usePointers (s : State) (n : Nat) (es : List Move) : State :=
  allCtx.foldl (fun s k =>
    (List.range 8).foldl (fun s p =>
      s.usePointer n k p (es.filter fun m => m.ctx = k && m.pointerUse = some p).length) s) s

/-! ## Paired mode (18 R426, R427) -/

/-- The bytes of a store in rising order of the address; of lanes that meet, the highest holds. -/
def storedBytes (opc : Nat) (a cw : W64) (v : V1024) : List Byte :=
  let l := (touches (storeForm opc) (bits a 0 32) cw).reverse
  let addrs := (dedup (l.map (·.1))).mergeSort fun x y => x ≤ y
  addrs.map fun x => BitVec.ofNat 8 (bits v (8 * (((l.find? fun p => p.1 = x).map (·.2)).getD 0)) 8)

/-- What a move feeds to the fingerprint of its context. -/
def Tile.printMove (t0 t : Tile) (m : Move) : List Byte :=
  match m.dst with
  | .reg f i => printWrite f i (BitVec.ofNat 1024 ((t.ctx m.ctx).regs.read f i))
  | .trig so _ opc =>
    if so = .st0 || so = .st1 then
      leBytes 4 (bits (t.opo so) 0 32) ++ storedBytes opc (low64 (t.opo so)) (low64 (t.opp so)) (t0.readSrc m)
    else []
  | _ => []

/-- Whether the word is the retire of a coupled context whose interval has been compared: it leaves the pair before it
issues (18 R425). -/
def Tile.leavesPair (t : Tile) (k : Ctx) (w : Word) : Bool :=
  match (t.ctx k).pair with
  | some p => p.coupled && p.commitOk && t.retireWord k w
  | none => false

/-! ## The end of a word (04 R94, R98) -/

/-- The loop buffer takes a word of the first pass; at its last word, also those that the pass skipped. -/
def Nest.fill (x : Nest) (code : Sparse W512) (pc : Nat) (b : W512) : Nest :=
  if !(x.active && !x.filled && decide (x.start ≤ pc ∧ pc ≤ x.last)) then x
  else
    let buf := spPut x.buf pc b
    if pc ≠ x.last then { x with buf := buf }
    else
      let rest := (List.range (x.last + 1 - x.start)).map (fun i => x.start + i)
      { x with
        filled := true
        buf := rest.foldl (fun m a => if (spFind m a).isSome then m else spPut m a (spGet 0#512 code a)) buf }

/-- The end of a pass: the nest and the address that issues next (04 R98). -/
def Nest.passEnd (x : Nest) : Nest × Nat :=
  match (List.range x.dims).find? (fun d => spGet 0 x.idx d + 1 ≠ spGet 0 x.cnt d) with
  | none => ({ x with active := false }, x.last + 1)
  | some d =>
    if x.exit then ({ x with active := false }, x.last + 1)
    else ({ x with idx := spPut ((List.range d).foldl spErase x.idx) d (spGet 0 x.idx d + 1) }, x.start)

/-- A context's address after its word: of a transfer, of the next pass of a nest, or the next. -/
def Context.advance (c : Context) : Context :=
  match c.next with
  | some a => { c with pc := a, next := none }
  | none =>
    if c.nest.active && c.pc = c.nest.last then { c with nest := c.nest.passEnd.1, pc := c.nest.passEnd.2 }
    else { c with pc := c.pc + 1 }

/-- The slot of the `ctl.trap` that a context's moves trigger, with its code. -/
def Tile.trapStart (t0 : Tile) (es : List Move) (k : Ctx) : Option Start :=
  (es.find? fun m => m.ctx = k && m.dst = .trig .ctl false 0x0A).map fun m =>
    { k := k, slot := m.slot, ins := .ctlTrap, tv := t0.readSrc m }

/-- Whether a context's moves trigger a transfer (04 R97). -/
def transferOf (es : List Move) (k : Ctx) : Bool :=
  es.any fun m => m.ctx = k && (match m.dst with | .trig .ctl _ opc => opc < 4 | _ => false)

/-- The words of an exchange schedule are counted, and the first late one recorded (15 R333, R336). -/
def Tile.countWord (t : Tile) (now : Nat) (k : Ctx) : Tile :=
  let c := t.ctx k
  if !c.exch then t
  else
    let t := match t.exchangeCycle now with
      | some x =>
        if c.waited < x && !bitOf (t.rg 0x052) 62 then
          t.setRg 0x052 (putBits (putBits (t.rg 0x052) 62 1 1) 16 16 (satNat 0xFFFF c.waited))
        else t
      | none => t
    t.modCtx k fun c => { c with waited := c.waited + 1 }

/-- What the word of a context leaves in it: its loop buffer, pair, records and address. -/
def State.endWord (n : Nat) (t0 : Tile) (es : List Move) (s : State) (x : Issuing) : State :=
  let k := x.k
  let pc := (t0.ctx k).pc
  let s := s.modTile n fun t =>
    let t := (t.watchWord k pc).countWord s.now k
    let t := if transferOf es k then t.event 0x02 k pc ((t.ctx k).next.getD 0) (t.hintOf k pc) else t
    t.modCtx k fun c =>
      let c := c.feed ((es.filter fun m => m.ctx = k).flatMap (t0.printMove t))
      { c with pair := c.pair.map fun p => { p with words := p.words + 1, commitOk := false, again := false } }
  match t0.trapStart es k with
  | none => s.modCtx n k Context.advance
  | some y =>
    State.runStart n (s.modCtx n k fun c =>
      let a := c.advance
      { a with pc := c.pc, next := some a.pc }) y

/-- The loop buffer of a context takes its word. -/
def Tile.fillLoop (t : Tile) (x : Issuing) : Tile :=
  t.modCtx x.k fun c => { c with nest := c.nest.fill t.code c.pc (bitsOfWord x.w) }

/-- The operations of the `syn` socket on tokens read them as they stood before the word (12 R273): they start first. -/
def tokensFirst (l : List Start) : List Start :=
  let reads (x : Start) : Bool := [Instr.tdone, .tstat, .tmap].contains x.ins
  l.filter reads ++ l.filter fun x => !reads x

/-- Issues words as one, the primary context's first (02 R34, 04 R87). -/
def State.issue (s : State) (n : Nat) (k : Ctx) (ws : List Issuing) : State :=
  let p := s.prepare n ws
  match p.failings n k with
  | (q, r) :: rest => s.takeTrap n q r (rest.any fun f => f.1 = q)
  | [] =>
    let s3 := (tokensFirst p.ops).foldl (State.runStart n) (p.s2.modTile n fun t => ws.foldl Tile.fillLoop t)
    let s4 := s3.modTile n fun t => p.t0.noteCollisions s.now p.ms p.es (p.es.foldl p.t0.writeReg t)
    let s5 := (p.heads.foldl (State.runStart n) s4).usePointers n p.es
    ws.foldl (State.endWord n p.t0 p.es) s5

/-- TRANSPORT_WORD (02 R34): the next word of context k of tile n issues as the primary word, or a trap is taken in
place of it; the merge stage may add the word of another context. -/
def execTransportWord (n : Nat) (k : Ctx) (w : Word) (s : State) : Out :=
  let t := s.tile n
  if !isTile n then .fault .noSuchUnit
  else if 2047 < (t.ctx k).pc then .next (s.takeTrap n k (raiseAt .ctlfault 15 0xB))
  else
    match wordCheck k w with
    | some e => .next (s.takeTrap n k (raiseAt .illword e.slot e.detail))
    | none =>
      match t.ballastFail k w with
      | some i => .next (s.takeTrap n k (raiseAt .ctlfault i 0xA))
      | none =>
        if t.leavesPair k w then .next ((s.modPair n k fun p => { p with leaving := true }).hold n k .pairoff)
        else .next (s.issue n k ({ k := k, w := w } :: (t.merged s.now k w).toList))

end Sys2Proof.Machine
end

