-- ==== Sys2Proof/Machine/Launch.lean ====
section
/-!
DEFINITION. Native images and the launch queue: checks, relocation, loading and keys (19 R442 to R449, 21 R467 to R469).
-/

namespace Sys2Proof.Machine

/-! ## The native image (19 R442, R443) -/

/-- A little-endian field of n bytes of a byte string. -/
def leAt (b : List Byte) (o n : Nat) : Nat := ofLe ((b.drop o).take n)

/-- A section of an image. -/
structure Section where
  kind : Nat
  tile : Nat
  load : Nat
  offset : Nat
  size : Nat
  clean : Bool
deriving DecidableEq, Repr

/-- Entry i of the section table. -/
def sectionAt (b : List Byte) (i : Nat) : Section :=
  let o := leAt b 16 8 + 32 * i
  { kind := leAt b o 1, tile := leAt b (o + 2) 2, load := leAt b (o + 4) 4, offset := leAt b (o + 8) 8
    size := leAt b (o + 16) 8, clean := leAt b (o + 1) 1 = 0 && leAt b (o + 24) 8 = 0 }

def sectionCount (b : List Byte) : Nat := leAt b 8 2
def chainsUsed (b : List Byte) : Nat := leAt b 10 2
def imageSections (b : List Byte) : List Section := (List.range (sectionCount b)).map (sectionAt b)

/-- The header's own checks: 1 malformed, 2 another part or generation. -/
def headerFails (b : List Byte) : Option Nat :=
  let st := leAt b 24 8
  if leAt b 0 4 ≠ 0x31495458 then some 1
  else if leAt b 4 2 ≠ 0x1728 || leAt b 6 1 ≠ 1 then some 2
  else if decide (2 < leAt b 7 1) || sectionCount b = 0 || decide (4096 < sectionCount b) || chainsUsed b = 0
      || decide (192 < chainsUsed b) || leAt b 12 4 ≠ 0 || leAt b 40 24 ≠ 0 || decide (leAt b 32 8 < 64)
      || decide (leAt b 32 8 < leAt b 16 8 + 32 * sectionCount b)
      || st &&& (2 ^ 64 - 1 - (7 * 2 ^ 32 + 2 ^ 13 + 31 * 2 ^ 8)) ≠ 0 then some 1
  else none

/-- A section table entry that is malformed. -/
def Section.malformed (x : Section) (b : List Byte) : Bool :=
  x.kind = 0 || decide (8 < x.kind) || !x.clean || decide (leAt b 32 8 < x.offset + x.size)
    || (x.tile ≠ 0xFFFF && decide (8 * chainsUsed b ≤ x.tile))

/-- A section outside its range (19 R443). -/
def Section.outside (x : Section) : Bool :=
  match x.kind with
  | 1 => x.size % 64 ≠ 0 || decide (2048 < x.load + x.size / 64)
  | 2 => x.size % 24 ≠ 0 || decide (64 < x.load + x.size / 24)
  | 3 => x.size % 8 ≠ 0 || decide (16 < x.load + x.size / 8)
  | 4 => x.size % 16 ≠ 0 || decide (32 < x.load + x.size / 16)
  | 5 => decide (0x60000 < x.load + x.size)
  | 6 => x.size % 16 ≠ 0
  | 7 => x.size % 16 ≠ 0
  | _ => false

/-! ## Relocation (19 R444) -/

/-- A relocation entry. -/
structure Reloc where
  kind : Nat
  sect : Nat
  offset : Nat
  buffer : Nat
  addend : Int
deriving DecidableEq, Repr

def relocAt (b : List Byte) (o : Nat) : Reloc :=
  let w0 := leAt b o 8
  let w1 := leAt b (o + 8) 8
  { kind := w0 / 2 ^ 60, sect := w0 / 2 ^ 48 % 2 ^ 12, offset := w0 % 2 ^ 48, buffer := w1 / 2 ^ 48, addend := sx 48 w1 }

/-- The entries of an image. -/
def imageRelocs (b : List Byte) : List Reloc :=
  (imageSections b).flatMap fun x =>
    if x.kind = 6 then (List.range (x.size / 16)).map fun i => relocAt b (x.offset + 16 * i) else []

/-- A buffer of an image: its size, the log2 of its alignment, its class (19 R443). -/
structure Buffer where
  size : Nat
  align : Nat
  cls : Nat
deriving DecidableEq, Repr

def bufferAt (b : List Byte) (o : Nat) : Buffer :=
  let w := leAt b o 8
  { size := w % 2 ^ 48, align := w / 2 ^ 48 % 2 ^ 8, cls := w / 2 ^ 56 % 4 }

/-- The buffers of an image, in the order of its tables. -/
def imageBuffers (b : List Byte) : List Buffer :=
  (imageSections b).flatMap fun x =>
    if x.kind = 7 then (List.range (x.size / 16)).map fun i => bufferAt b (x.offset + 16 * i) else []

def bufferCount (b : List Byte) : Nat := (imageBuffers b).length

/-- The address that the n-th load gives buffer i: the loader's choice for its size and class, on its alignment
(log entry 49). -/
def bufferAddr (b : List Byte) (n i : Nat) : W64 :=
  match (imageBuffers b)[i]? with
  | some x => w64 ((Config.bufferVa n i x.size x.cls).toNat / 2 ^ x.align * 2 ^ x.align)
  | none => 0#64

/-- Whether slot i of the code word at byte o of an image holds a long immediate. -/
def limmInImage (b : List Byte) (o i : Nat) : Bool := (leAt b o 64 / 2 ^ (493 + i)) % 2 = 1

/-- A relocation that is malformed, or whose device id is out of range. -/
def Reloc.bad (r : Reloc) (b : List Byte) (device : Nat) : Bool :=
  match (imageSections b)[r.sect]? with
  | none => true
  | some x =>
    decide (bufferCount b ≤ r.buffer) && r.kind ≠ 3
      || (match r.kind with
        | 4 => x.kind ≠ 5 || decide (x.size < r.offset + 8)
        | k =>
          k = 0 || decide (4 < k) || x.kind ≠ 1 || decide (x.size ≤ r.offset / 16 * 64) || r.offset % 16 = 15
            || !limmInImage b (x.offset + r.offset / 16 * 64) (r.offset % 16)
            || (k = 3 && (decide ((device : Int) + r.addend < 0) || decide (786431 < (device : Int) + r.addend))))

/-- The place and length in an image of the bytes a relocation writes. -/
def Reloc.place (r : Reloc) (l : List Section) : Option (Nat × Nat) :=
  (l[r.sect]?).map fun x =>
    if r.kind = 4 then (x.offset + r.offset, 8)
    else (x.offset + r.offset / 16 * 64 + (60 - 4 * (r.offset % 16) - 4), 4)

/-- The parts of an image that the loader reads: header, section table, every section that it loads or follows, and the
words it relocates; the prologue reads tile SRAM contents (19 R443, R446, R447). -/
def imageParts (b : List Byte) : List (Nat × Nat) :=
  let l := imageSections b
  [(0, 64), (leAt b 16 8, 32 * sectionCount b)] ++ (l.filter fun x => x.kind ≠ 5 && x.kind ≠ 8).map (fun x => (x.offset, x.size))
    ++ (imageRelocs b).filterMap fun r => r.place l

/-- A byte string with some bytes replaced. -/
def patch (b : List Byte) (o : Nat) (v : List Byte) : List Byte := b.take o ++ v ++ b.drop (o + v.length)

/-- An image of some sections with one relocation applied, S being the address of its buffer. -/
def Reloc.apply (r : Reloc) (l : List Section) (b : List Byte) (device : Nat) (S : W64) : List Byte :=
  match r.place l with
  | none => b
  | some (o, w) =>
    let v := ofInt 64 ((S.toNat : Int) + r.addend)
    let n := match r.kind with
      | 1 => bits v 0 32
      | 2 => bits v 32 32
      | 3 => (ofInt 20 ((device : Int) + r.addend)).toNat
      | _ => v.toNat
    patch b o (leBytes w n)

/-! ## Placement (19 R446, R448) -/

/-- Whether a chain is held by another image: one of its tiles runs its steps, or a context of it is not idle. -/
def State.chainHeld (s : State) (c : Nat) : Bool :=
  (chainTiles c).any fun n =>
    let t := s.tile n
    t.stepRun || allCtx.any fun k => (t.ctx k).run ≠ .idle

/-- Whether a placement fails: a chain that is not there, held, withdrawn, or with a dead tile. -/
def State.placeFails (s : State) (cb used : Nat) : Bool :=
  decide (192 < cb + used)
    || (List.range used).any fun i => s.chainHeld (cb + i) || s.withdrawn (cb + i)
      || (chainTiles (cb + i)).any fun n => (s.tile n).dead

/-- Whether `keyperm` names a slot that a context of a tile outside the placement holds confidential. -/
def State.keyTaken (s : State) (cb used : Nat) (keyperm : W64) : Bool :=
  s.tiles.any fun p =>
    !decide (9 * cb ≤ p.1 ∧ p.1 < 9 * (cb + used)) && allCtx.any fun k =>
      let v := (p.2.ctx k).cr 0x074
      bitOf v 14 && bitOf keyperm (bits v 8 6) && bitOf (s.hubRg 0x066) (bits v 8 6)

/-- A field of an image as `ce.code` writes it: 0 where its element, of n bytes from o, has bytes in a lost line
(13 R287). -/
def codeAt (b : List Byte) (lost : Nat → Bool) (o n k j : Nat) : Nat :=
  if (List.range n).any fun i => lost (o + i) then 0 else leAt b (o + k) j

/-- Loads one section into one tile; `lost` tells the bytes of the image that memory cannot give. -/
def Tile.loadSection (t : Tile) (b : List Byte) (lost : Nat → Bool) (x : Section) : Tile :=
  match x.kind with
  | 1 => { t with
      code := (List.range (x.size / 64)).foldl
        (fun m i => spSet 0#512 m (x.load + i) (BitVec.ofNat 512 (codeAt b lost (x.offset + 64 * i) 64 0 64))) t.code }
  | 2 => (List.range (x.size / 8)).foldl (fun t i =>
      t.setRg (0x100 + 3 * x.load + i) (w64 (codeAt b lost (x.offset + i / 3 * 24) 24 (i % 3 * 8) 8))) t
  | 3 => (List.range (x.size / 8)).foldl (fun t i =>
      t.setRg (0x040 + x.load + i) (w64 (codeAt b lost (x.offset + 8 * i) 8 0 8))) t
  | 4 => (List.range (x.size / 8)).foldl
      (fun t i => t.setRg (0x200 + 2 * x.load + i) (w64 (leAt b (x.offset + 8 * i) 8))) t
  | _ => t

/-- Loads the sections of an image into tile offset o of a placement. -/
def Tile.loadSections (t : Tile) (l : List Section) (b : List Byte) (lost : Nat → Bool) (o : Nat) : Tile :=
  l.foldl (fun t x => if x.tile = 0xFFFF || x.tile = o then t.loadSection b lost x else t) t

/-- Starts one tile of a placement: launch registers of K0 and K1, `stepctl` with member and run. -/
def State.startTile (s : State) (n : Nat) (floor : Nat) (ptbase keyperm step : W64) : State :=
  let s := s.modTile n fun t =>
    [Ctx.k0, Ctx.k1].foldl (fun t k => t.modCtx k fun c =>
      ((c.setCr 0x063 (w64 floor)).setCr 0x060 ptbase).setCr 0x061 keyperm) t
  match execStepctlWrite n (putBits (putBits step 30 1 1) 31 1 1) s with
  | .next s' => s'
  | _ => s

/-- The status of a load that cannot be made (19 R448, 21 R469), in the order of the loader's steps; `none` where it
can. -/
def State.loadFails (s : State) (b : List Byte) (cb : Nat) (keyperm : W64) : Option Nat :=
  match headerFails b with
  | some c => some c
  | none =>
    let l := imageSections b
    if l.any fun x => x.malformed b then some 1
    else if l.any Section.outside then some 3
    else if (imageRelocs b).any fun r => r.bad b s.deviceId then some 4
    else if s.placeFails cb (chainsUsed b) then some 5
    else if s.keyTaken cb (chainsUsed b) keyperm then some 6
    else none

/-- Whether a tile of a placement is of a class weaker than the image's floor: the launch is refused (17 R390). -/
def State.tooWeak (s : State) (cb used floor : Nat) : Bool :=
  (List.range (8 * used)).any fun o => decide (floor < (s.tile (s.physical (8 * cb + o))).cls)

/-- The image relocated: the loader gives its buffers addresses. -/
def State.relocated (s : State) (b : List Byte) : List Byte × State :=
  let l := imageSections b
  ((imageRelocs b).foldl (fun b r => r.apply l b s.deviceId (bufferAddr b s.free r.buffer)) b, { s with free := s.free + 1 })

/-- Whether the loader can read n bytes from an HBM address: all are backed, in online granules (17 R374, R387). -/
def State.readable (s : State) (pa n : Nat) : Bool :=
  n = 0 || decide (pa + n ≤ 2 ^ 39) && (List.range ((pa + n - 1) / 2 ^ 30 + 1 - pa / 2 ^ 30)).all fun i =>
    let g := s.granule (pa / 2 ^ 30 + i)
    let last := min (pa + n) ((pa / 2 ^ 30 + i + 1) * 2 ^ 30) - 1
    s.online ((pa / 2 ^ 30 + i) * 2 ^ 30) && decide (last % 2 ^ 30 < backedBytes g.cls)

/-- The lines of an image with an error that the loader's reading reports. -/
def State.imageErrors (s : State) (pa : Nat) (b : List Byte) : List (Nat × Mark) :=
  let read (line : Nat) : Bool :=
    (imageParts b).any fun x => decide (x.2 ≠ 0 ∧ (pa + x.1) / 64 ≤ line ∧ 64 * line < pa + x.1 + x.2)
  (s.hbmMark.filter fun p => read p.1).filterMap fun p => (s.lineMark (64 * p.1)).map fun m => (p.1, m)

/-- The lines that the relocated words of an image at pa lie in. -/
def relocatedLines (b : List Byte) (pa : Nat) : List Nat :=
  ((imageRelocs b).filterMap fun r => r.place (imageSections b)).flatMap fun x => [(pa + x.1) / 64, (pa + x.1 + x.2 - 1) / 64]

/-- The host gives up its copy of a line that is to be written (16 R364, 21 R465). -/
def State.uncache (s : State) (line : Nat) : State :=
  if spGet false s.hostCached line then
    ({ s with hostCached := spErase s.hostCached line } : State).send (.backInvalidate line)
  else s

/-- Loads an image of some bytes from an address into its placement and starts it: the tiles are halted while it loads, and
those that no trip holds are resumed (21 R473). -/
def State.place (s : State) (pa cb : Nat) (b : List Byte) (ptbase keyperm : W64) : State :=
  let used := chainsUsed b
  let floor := leAt b 7 1
  let step := w64 (leAt b 24 8)
  let measure := Config.shake256 (b.take 64)
  let errs := s.imageErrors pa b
  let lost (i : Nat) : Bool := errs.any fun e => e.1 = (pa + i) / 64 && e.2 = .lost
  let s := errs.foldl (fun s e => s.logHbm (markKind e.2 (s.pmClass (64 * e.1))) 0 e.1) s
  let l := imageSections b
  let s := (relocatedLines b pa).foldl State.uncache s
  let (b, s) := s.relocated b
  let s : State := { s with hbm := memPut s.hbm pa b }
  let s := (List.range used).foldl (fun s i => s.freezeChain (9 * (cb + i)) .halt) s
  let s := (List.range (8 * used)).foldl (fun s o =>
    let n := s.physical (8 * cb + o)
    (s.modTile n fun t => t.loadSections l b lost o).startTile n floor ptbase keyperm step) s
  let s := (List.range (9 * used)).foldl (fun s i =>
    let n := 9 * cb + i
    let s := s.setHalted n false
    if s.tripped n then s else s.resumeTile n (s.now + 1)) s
  s.modHub fun h => { h with measures := spPut h.measures 3 measure }

/-! ## The launch queue (21 R468) -/

def State.lqBase (s : State) : Nat := bits (s.hubRg 0x0F4) 12 40 * 2 ^ 12
def State.lqCount (s : State) : Nat := 2 ^ bits (s.hubRg 0x0F4) 0 4
def State.lqTail (s : State) : Nat := memNat s.host s.lqBase 4
def State.lqHead (s : State) : Nat := memNat s.host (s.lqBase + 64) 4

/-- The host address of record rec. -/
def State.recordAt (s : State) (rec' : Nat) : Nat := s.lqBase + 256 + 256 * (rec' % s.lqCount)

/-- The record's bytes. -/
def State.record (s : State) (rec' : Nat) : List Byte := memBytes s.host (s.recordAt rec') 256

/-- Whether the dispatcher serves record rec of a type now: it is at the head, and the tail has passed it. Where the
firmware failed its verification no dispatcher runs (21 R462). -/
def State.serves (s : State) (rec' type : Nat) : Bool :=
  !bitOf (s.hubRg 0x0F6) 62 && s.lqHead = rec' && s.lqTail ≠ rec' && leAt (s.record rec') 0 1 = type

/-- The dispatcher writes host memory. -/
def State.putHost (s : State) (a : Nat) (bs : List Byte) : State := { s with host := memPut s.host a bs }

/-- The end of a record: its status byte, its completion word, the head line (21 R469). -/
def State.served (s : State) (rec' status : Nat) : State :=
  let word := leAt (s.record rec') 32 8
  let s := s.putHost (s.recordAt rec' + 1) (leBytes 1 status)
  let s := s.putHost word (leBytes 8 (rec' % 2 ^ 32 + status * 2 ^ 32))
  s.putHost (s.lqBase + 64) (leBytes 4 (rec' + 1))

/-- Why a launch is not made, if it is not: the status of 19 R448 or 21 R469, or none where the rules give none: for an
image that the loader cannot read (17 R387), and for tiles too weak for its floor (17 R390). -/
def State.loadEnds (s : State) (pa : Nat) (b : List Byte) (cb : Nat) (keyperm : W64) : Option (Option Nat) :=
  if !s.readable pa 64 then some none
  else
    match headerFails b with
    | some c => some (some c)
    | none =>
      if (imageParts b).any fun x => !s.readable (pa + x.1) x.2 then some none
      else
        match s.loadFails b cb keyperm with
        | some c => some (some c)
        | none => if s.tooWeak cb (chainsUsed b) (leAt b 7 1) then some none else none

/-- LAUNCH (19 R446 to R449, 21 R469): served as one step (log entry 49). A launch refused for the class of a tile or for
an image that cannot be read reports an open status of the table other than 0; one of which a part that the loader reads
holds an uncorrectable error is loaded with zeros there (13 R287), or not loaded, with such a status. -/
def execLaunch (rec' : Nat) (s : State) : Out :=
  if !s.serves rec' 1 then .fault .noSuchStep
  else
    let r := s.record rec'
    let cb := leAt r 2 2
    let pa := leAt r 8 8
    let ptbase := w64 (leAt r 16 8)
    let keyperm := w64 (leAt r 24 8)
    let b := memBytes s.hbm pa (max 64 (memNat s.hbm (pa + 32) 8))
    match s.loadEnds pa b cb keyperm with
    | some (some c) => .next (s.served rec' c)
    | some none =>
      let (d, s) := s.draw 5
      .next (s.served rec' (d + 1))
    | none =>
      let lost := (s.imageErrors pa b).any fun e => e.2 = .lost
      let (d, s) := if lost then s.draw 6 else (0, s)
      .next (if d = 0 then (s.place pa cb b ptbase keyperm).served rec' 0 else s.served rec' d)

/-- The tiles to a context of which slot k can be attached: all confidential contexts of one tile share ckey (18 R437). -/
def State.keyTiles (s : State) (slot : Nat) : List Nat :=
  allTiles.filter fun n => allCtx.all fun k =>
    let v := (s.ctx n k).cr 0x074
    !bitOf v 14 || bits v 8 6 = slot

/-- Attaches a confidential key to a context (18 R437). -/
def Context.attach (c : Context) (slot : Nat) : Context :=
  (c.setCr 0x061 (putBits (c.cr 0x061) slot 1 1)).setCr 0x074 (putBits (putBits (c.cr 0x074) 14 1 1) 8 6 slot)

/-- KEY_LOAD (21 R469, 18 R437): the key goes into its slot as a confidential one and is attached to a context of the
firmware's choice, which is open, of a tile without another confidential key. -/
def execKeyLoad (rec' : Nat) (s : State) : Out :=
  if !s.serves rec' 2 then .fault .noSuchStep
  else
    let r := s.record rec'
    let slot := leAt r 40 1
    let blob := memBytes s.host (leAt r 8 8) 1180
    if slot = 0 || decide (63 < slot) || bitOf (s.hubRg 0x066) slot then .next (s.served rec' 0x07)
    else
      match Config.decapsulate blob with
      | none => .next (s.served rec' 0x07)
      | some key =>
        let s := s.modHub fun h => { h with keys := spSet 0#512 h.keys slot key }
        let s := s.setHubRg 0x064 (putBits (s.hubRg 0x064) slot 1 1)
        let s := s.setHubRg 0x066 (putBits (s.hubRg 0x066) slot 1 1)
        let ns := s.keyTiles slot
        let (i, s) := s.draw ns.length
        let (k, s) := s.draw 4
        let s := match ns[i]? with
          | some n => s.modCtx n (ctxOf k) fun c => c.attach slot
          | none => s
        .next (s.served rec' 0)

/-- GRANULE_RELEASE (21 R467 to R469): the host answers `hostreq`; it caches no line of the granule any more. -/
def execGranuleRelease (rec' : Nat) (s : State) : Out :=
  if !s.serves rec' 3 then .fault .noSuchStep
  else
    let g := leAt (s.record rec') 2 2
    let s : State := { s with hostCached := s.hostCached.filter fun p => p.1 / 2 ^ 24 ≠ g }
    .next (s.served rec' 0)

/-- HOSTREQ (21 R467): a request with its valid bit raises MSI-X vector 1. -/
def execHostreq (v : W64) (s : State) : Out :=
  let s := s.setHubRg 0x0F5 (maskTo 0x80000000000001FF v 0#64)
  .next (if bitOf v 63 then s.modHub fun h => { h with outputs := h.outputs ++ [.msix 1] } else s)

end Sys2Proof.Machine
end

