-- ==== Sys2Proof/Machine/Platform.lean ====
section
/-!
DEFINITION. The platform: host accesses, heat, power, attestation and device reset (21 R462 to R466, R472 to R479,
16 R364).
-/

namespace Sys2Proof.Machine

/-! ## Host accesses (21 R461, R466, 16 R364); log entry 46 for the operand -/

/-- BAR0 as it stands among the addresses of host steps. -/
def bar0 : Nat := 2 ^ 52

/-- The hub register that an address of BAR0 names. -/
def bar0Reg (a : Nat) : Nat := 0x0E0 + (a - bar0) / 8

/-- The device physical address that a host address reaches through the decoder (21 R466). -/
def State.hdm (s : State) (addr : Nat) : Option Nat :=
  if s.hub.hdmBase ≤ addr && addr < s.hub.hdmBase + 2 ^ 39 then some (addr - s.hub.hdmBase) else none

/-- HOST_READ (21 R466): a line of HBM as stored, or poison; of BAR0 a hub register. -/
def execHostRead (addr : Nat) (s : State) : Out :=
  match s.hdm addr with
  | some d =>
    let a := d / 64 * 64
    if !s.backed a || !s.online a then .next (s.send (.hostData addr 0#512 true))
    else
      let (s, bs, es) := s.pmRead a 64 0 2
      let s : State := { s with hostCached := spSet false s.hostCached (a / 64) true }
      .next (s.send (.hostData addr (BitVec.ofNat 512 (ofLe bs)) (es.any fun e => !e.1)))
  | none =>
    if bar0 ≤ addr && addr < bar0 + 256 then .next (s.send (.hostIo addr (s.hubValue (bar0Reg addr))))
    else .fault .noSuchUnit

/-- HOST_WRITE (16 R364, 21 R466): a line of HBM, whose completion is sent as it has performed, or which is discarded with
an entry in `hbmerr` whose kind is open; a line of the host's own memory; of BAR0 `lqbase` alone. -/
def execHostWrite (addr : Nat) (line : BitVec 512) (s : State) : Out :=
  let bs := leBytes 64 line.toNat
  match s.hdm addr with
  | some d =>
    let a := d / 64 * 64
    if !s.backed a || !s.online a then
      let (k, s) := s.draw 3
      .next (s.logHbm k 2 (a / 64))
    else .next ((s.pmWrite a 0 bs false).send (.hostWritten addr))
  | none =>
    if isHost addr then .next (s.pmWrite (addr / 64 * 64) 0 bs false)
    else if bar0 ≤ addr && addr < bar0 + 256 then
      .next (if bar0Reg addr = 0x0F4 then s.hubWritten 0x0F4 (w64 line.toNat) else s)
    else .fault .noSuchUnit

/-! ## Heat (21 R472 to R477) -/

/-- A reading as it is taken: a failed sensor counts as 118 degrees. -/
def takenAs (r : Int) : Int := if r = -32768 then 1888 else r

/-- The hottest of some readings. -/
def hottest (l : List Int) : Int :=
  match l.map takenAs with
  | [] => 0
  | a :: t => t.foldl max a

/-- The point of a zone, in sixteenths of a degree. -/
def zonePoint (z : Nat) : Int := if z = 1 then 1600 else if z = 2 then 1728 else if z = 3 then 1888 else 2000

/-- The highest zone whose point a temperature reaches. -/
def zoneUp (T : Int) : Nat := if 2000 ≤ T then 4 else if 1888 ≤ T then 3 else if 1728 ≤ T then 2 else if 1600 ≤ T then 1 else 0

/-- The zone to which a temperature falls: four degrees below each point. -/
def zoneDown (T : Int) : Nat → Nat
  | 0 => 0
  | z + 1 => if T < zonePoint (z + 1) - 64 then zoneDown T z else z + 1

/-- The zone after a latch (21 R473). -/
def zoneAfter (z : Nat) (T : Int) : Nat := if z < zoneUp T then zoneUp T else zoneDown T z

/-- The bound of a refresh state. -/
def refreshBound (r : Nat) : Int := if r = 1 then 1360 else if r = 2 then 1520 else 1680

/-- The refresh state after a latch (21 R477). -/
def refreshAfter (r : Nat) (T : Int) : Nat :=
  let up := if 1680 < T then 3 else if 1520 < T then 2 else if 1360 < T then 1 else 0
  if r < up then up else if r ≠ 0 && decide (T ≤ refreshBound r - 32) then r - 1 else r

/-- Every chain of a league, or of the device under 4, freezes with THERMAL (21 R473). -/
def State.tripFreeze (s : State) (l : Nat) : State :=
  let ns := if l = 4 then List.range 1728 else (List.range 432).map fun i => 432 * l + i
  ns.foldl (fun s n => s.freezeTile n .thermal) s

/-- `thstat` (21 R475). -/
def State.thermalStatus (s : State) (hot : Int) : W64 :=
  let lev := (List.range 4).foldl (fun a l => a + s.leagueLevel l * 2 ^ (32 + 4 * l)) 0
  let rfr := (List.range 8).foldl (fun a i => a + spGet 0 s.hub.refresh i * 2 ^ (16 + 2 * i)) 0
  let lz := (List.range 4).foldl (fun a l => a + s.zone l * 2 ^ (3 * l)) 0
  w64 ((ofInt 16 hot).toNat * 2 ^ 48 + lev + rfr + s.zone 4 * 2 ^ 12 + lz)

/-- The cycles of the latch (21 R472; DESIGN CHOICE, log entry 110 for their phase). -/
def State.latchDue (s : State) : Bool := s.now % 2 ^ 14 = 0 && s.now ≠ 0

/-- SENSOR_LATCH (21 R472 to R477, R479): the 44 readings are taken together. A sensor has failed where its reading before
had not (DEDUCED, log entry 100). -/
def execSensorLatch (readings : List Int) (s : State) : Out :=
  if !s.latchDue then .fault .noSuchStep
  else
  let at' (n : Nat) : Int := readings.getD n 0
  let group (lo k : Nat) : Int := hottest ((List.range k).map fun i => at' (lo + i))
  let failed := (List.range 44).any fun n =>
    decide (at' n = -32768) && decide (bits (s.hubRg (0x0E0 + n / 4)) (16 * (n % 4)) 16 ≠ 0x8000)
  let s := (List.range 11).foldl (fun s k =>
    s.setHubRg (0x0E0 + k) (w64 (packNat 16 ((List.range 4).map fun j => (ofInt 16 (at' (4 * k + j))).toNat)))) s
  let zone (s : State) (l : Nat) : State :=
    let z := zoneAfter (s.zone l) (if l = 4 then group 32 4 else group (8 * l) 8)
    if z = s.zone l then s
    else
      let trips := z = 4
      let s := s.modHub fun h => { h with zones := spSet 0 h.zones l z }
      let s := s.setHubRg 0x0ED (putBits (s.hubRg 0x0ED) l 1 1)
      if trips then s.tripFreeze l else s
  let stack (s : State) (i : Nat) : State :=
    let r := spGet 0 s.hub.refresh i
    let r' := refreshAfter r (takenAs (at' (36 + i)))
    if r' = r then s
    else
      let s := s.modHub fun h => { h with refresh := spSet 0 h.refresh i r' }
      s.setHubRg 0x0ED (putBits (s.hubRg 0x0ED) (5 + i) 1 1)
  let s := (List.range 8).foldl stack ((List.range 5).foldl zone s)
  let s := if failed then s.setHubRg 0x0ED (putBits (s.hubRg 0x0ED) 13 1 1) else s
  let s := s.setHubRg 0x0EC (s.thermalStatus (group 0 44))
  .next (s.later waymark .k0 updLevels 0#64)

/-- THCTL_WRITE (21 R474). -/
def execThctlWrite (v : W64) (s : State) : Out :=
  let s := s.setHubRg 0x0EB (w64 (bits v 0 16))
  let lev := (List.range 4).foldl (fun a l => a + s.leagueLevel l * 2 ^ (4 * l)) 0
  let s := s.setHubRg 0x0EC (putBits (s.hubRg 0x0EC) 32 16 lev)
  .next (s.later waymark .k0 updLevels 0#64)

/-! ## Power (21 R478, R479) -/

/-- The duty after a meter update (21 R479); power in mW. -/
def dutyAfter (c : W64) (d w : Nat) : Nat :=
  let set : Int := 1000 * (bits c 32 16 : Nat)
  let band : Int := 1000 * (bits c 24 8 : Nat)
  let dmax := bits c 8 5
  let dmin := bits c 0 5
  if (w : Int) < set - band then (if d < dmax then d + 1 else d)
  else if set + band < (w : Int) then (if dmin < d then d - 1 else d)
  else d

/-- The last cycle of a window of the power meter (21 R478). -/
def State.meterDue (s : State) : Bool := (s.now + 1) % 2 ^ 16 = 0

/-- POWER_METER_UPDATE (21 R478, R479): w is the mean power of the window in mW. -/
def execPowerMeterUpdate (w : Nat) (s : State) : Out :=
  if !s.meterDue then .fault .noSuchStep
  else
  let e := s.hub.energy + w * 2 ^ 16
  let s := s.modHub fun h => { h with energy := e }
  let s := s.setHubRg 0x0EE (w64 (w % 2 ^ 32 + e / (1000 * 1900000000) % 2 ^ 32 * 2 ^ 32))
  let c := s.hubRg 0x0EF
  .next (if bitOf c 63 then
      let d := dutyAfter c s.hub.duty w
      (s.modHub fun h => { h with duty := d }).later waymark .k0 updDuty (w64 d)
    else s)

/-! ## Attestation (21 R464); response codes and their order are SPDM's (log entry 47) -/

/-- The bytes of a request. -/
def Message.bytes' (m : Message) (code : Byte) : List Byte := code :: m.param1 :: m.param2 :: m.body

/-- Answers a request, which with its answer joins the transcript. -/
def State.answerSpdm (s : State) (req : List Byte) (code : Byte) (body : List Byte) : State :=
  (s.modHub fun h => { h with spdm := { h.spdm with transcript := h.spdm.transcript ++ req ++ code :: body } }).send
    (.spdm code body)

/-- A request out of order, or one that cannot be served. -/
def State.refuseSpdm (s : State) : State := s.send (.spdm 0x7F#8 [])

/-- Open bytes of an answer. -/
def State.openBytes (s : State) (n : Nat) : List Byte × State :=
  let (v, s) := s.drawBits
  (leBytes n v.toNat, s)

/-- GET_VERSION (21 R464): a new exchange begins. -/
def execGetVersion (m : Message) (s : State) : Out :=
  let s := s.modHub fun h =>
    { h with spdm := { versioned := true, capable := false, negotiated := false, transcript := [] } }
  let (b, s) := s.openBytes 8
  .next (s.answerSpdm (Message.bytes' m 0x84#8) 0x04#8 b)

/-- GET_CAPABILITIES (21 R464). -/
def execGetCapabilities (m : Message) (s : State) : Out :=
  if !s.hub.spdm.versioned then .next s.refuseSpdm
  else
    let s := s.modHub fun h => { h with spdm := { h.spdm with capable := true } }
    let (b, s) := s.openBytes 16
    .next (s.answerSpdm (Message.bytes' m 0xE1#8) 0x61#8 b)

/-- NEGOTIATE_ALGORITHMS (21 R464): fails without both algorithms. -/
def execNegotiateAlgorithms (m : Message) (s : State) : Out :=
  if !s.hub.spdm.capable || !Config.offersMlDsa65 m.body || !Config.offersShake256 m.body then .next s.refuseSpdm
  else
    let s := s.modHub fun h => { h with spdm := { h.spdm with negotiated := true } }
    let (b, s) := s.openBytes 32
    .next (s.answerSpdm (Message.bytes' m 0xE3#8) 0x63#8 b)

/-- GET_DIGESTS (21 R464): of the chain of slot 0. -/
def execGetDigests (m : Message) (s : State) : Out :=
  if !s.hub.spdm.negotiated then .next s.refuseSpdm
  else .next (s.answerSpdm (Message.bytes' m 0x81#8) 0x01#8 (Config.shake256 Config.certificateChain))

/-- GET_CERTIFICATE (21 R464): a part of the chain of slot 0. -/
def execGetCertificate (m : Message) (s : State) : Out :=
  if !s.hub.spdm.negotiated || bits m.param1 0 4 ≠ 0 then .next s.refuseSpdm
  else
    let part := (Config.certificateChain.drop (leAt m.body 0 2)).take (leAt m.body 2 2)
    .next (s.answerSpdm (Message.bytes' m 0x82#8) 0x02#8
      (leBytes 2 part.length ++ leBytes 2 (Config.certificateChain.length - leAt m.body 0 2 - part.length) ++ part))

/-- Measurement block i. -/
def State.measure (s : State) (i : Nat) : List Byte := spGet [] s.hub.measures i

/-- The three blocks together. -/
def State.allMeasures (s : State) : List Byte := s.measure 1 ++ s.measure 2 ++ s.measure 3

/-- A signed answer: the signature of the identity key over the transcript with this request and answer. -/
def State.signSpdm (s : State) (req : List Byte) (code : Byte) (body : List Byte) : State :=
  s.answerSpdm req code (body ++ Config.mlDsaSign (s.hub.spdm.transcript ++ req ++ code :: body))

/-- CHALLENGE (21 R464): of slot 0. -/
def execChallenge (m : Message) (s : State) : Out :=
  if !s.hub.spdm.negotiated || bits m.param1 0 4 ≠ 0 then .next s.refuseSpdm
  else
    let (nonce, s) := s.openBytes 32
    .next (s.signSpdm (Message.bytes' m 0x83#8) 0x03#8
      (Config.shake256 Config.certificateChain ++ nonce ++ Config.shake256 s.allMeasures))

/-- GET_MEASUREMENTS (21 R464): parameter 2 names the block, 0 asks for their number, 0xFF for all; bit 0 of parameter 1
asks for a signature. -/
def execGetMeasurements (m : Message) (s : State) : Out :=
  let i := m.param2.toNat
  if !s.hub.spdm.negotiated || (decide (3 < i) && i ≠ 0xFF) then .next s.refuseSpdm
  else
    let body := if i = 0 then [3#8] else if i = 0xFF then s.allMeasures else s.measure i
    let req := Message.bytes' m 0xE0#8
    .next (if bitOf m.param1 0 then s.signSpdm req 0x60#8 body else s.answerSpdm req 0x60#8 body)

/-! ## Device reset and bring-up (21 R462, R463) -/

/-- The training of fabric port l, whose outcome is open. -/
def State.trainOne (s : State) (l : Nat) : State :=
  let (lanes, s) := s.draw 256
  let (asym, s) := s.draw 16
  let (ok, s) := s.draw 2
  match execFabricPortTrain l lanes asym (ok = 1) s with
  | .next s' => s'
  | _ => s

/-- A league that did not train is left out: its tiles are dead to packets, loads and words (log entry 48). -/
def State.leaveLeague (s : State) (l : Nat) : State :=
  (List.range 432).foldl (fun s i => s.modTile (432 * l + i) fun t => t.setRg 0x077 (w64 (2 ^ 63 + 2 ^ 62 + 2 ^ 60))) s

/-- A stack that did not train is left out: its granules are offline (17 R367, log entry 48). -/
def State.leaveStack (s : State) (i : Nat) : State :=
  (List.range 64).foldl (fun s j => s.setGranule (64 * i + j) { s.granule (64 * i + j) with st := 2 }) s

/-- Bring-up: measures the firmware, verifies it, and trains leagues, stks and ports; which of them train is open
(log entry 48). -/
def State.bringUp (s : State) : State :=
  let s := s.modHub fun h =>
    { h with measures := spPut (spPut h.measures 1 Config.romVersion) 2 (Config.shake256 Config.firmware) }
  if !Config.firmwareOk then s.setHubRg 0x0F6 (w64 (2 ^ 63 + 2 ^ 62))
  else
    let (leagues, s) := s.draw 16
    let (stks, s) := s.draw 256
    let s := (List.range 4).foldl (fun s l => if leagues.testBit l then s else s.leaveLeague l) s
    let s := (List.range 8).foldl (fun s i => if stks.testBit i then s else s.leaveStack i) s
    let s := (List.range 32).foldl State.trainOne s
    let ports := packNat 1 ((List.range 32).map fun l => b2n (s.link l).up)
    s.setHubRg 0x0F6 (w64 (2 ^ 63 + ports * 2 ^ 16 + leagues * 2 ^ 12 + stks))

/-- DEVICE_RESET (21 R462): everything of the device returns to its reset state and bring-up runs; the host's memory, the
device's number, the open choices to come and what has been sent stay. -/
def execDeviceReset (s : State) : Out :=
  let r := State.reset
  let r : State := { r with free := s.free, host := s.host, deviceId := s.deviceId }
  .next ((r.modHub fun h => { h with outputs := s.hub.outputs }).bringUp)

end Sys2Proof.Machine
end

