-- ==== Sys2Proof/Machine/Dispatch.lean ====
section
/-!
DEFINITION. Which meaning each step has: one arm per constructor of `Instr`.
-/

namespace Sys2Proof.Machine

def exec (i : Instr) (s : State) : Host.Outcome State Fault Refusal :=
  match i with
  | .transportWord n k w => Sys2Proof.Machine.execTransportWord n k w s
  | .throttledCycle n => Sys2Proof.Machine.execThrottledCycle n s
  | .displacement n k => Sys2Proof.Machine.execDisplacement n k s
  | .resultLands n so po => Sys2Proof.Machine.execResultLands n so po s
  | .entryFire n e => Sys2Proof.Machine.execEntryFire n e s
  | .routineRetired n k => Sys2Proof.Machine.execRoutineRetired n k s
  | .watchdog n k => Sys2Proof.Machine.execWatchdog n k s
  | .waitunsatList n => Sys2Proof.Machine.execWaitunsatList n s
  | .ballastStart n => Sys2Proof.Machine.execBallastStart n s
  | .interruptEntry n k => Sys2Proof.Machine.execInterruptEntry n k s
  | .aluAdd u => Sys2Proof.Machine.execAluAdd u s
  | .aluSub u x => Sys2Proof.Machine.execAluSub u x s
  | .aluAddc u => Sys2Proof.Machine.execAluAddc u s
  | .aluSubb u x => Sys2Proof.Machine.execAluSubb u x s
  | .aluAddsS64 u => Sys2Proof.Machine.execAluAddsS64 u s
  | .aluAddsN64 u => Sys2Proof.Machine.execAluAddsN64 u s
  | .aluSubsS64 u x => Sys2Proof.Machine.execAluSubsS64 u x s
  | .aluSubsN64 u x => Sys2Proof.Machine.execAluSubsN64 u x s
  | .aluAnd u => Sys2Proof.Machine.execAluAnd u s
  | .aluOr u => Sys2Proof.Machine.execAluOr u s
  | .aluXor u => Sys2Proof.Machine.execAluXor u s
  | .aluAndn u x => Sys2Proof.Machine.execAluAndn u x s
  | .aluShl u x => Sys2Proof.Machine.execAluShl u x s
  | .aluShrN64 u x => Sys2Proof.Machine.execAluShrN64 u x s
  | .aluShrS64 u x => Sys2Proof.Machine.execAluShrS64 u x s
  | .aluRol u x => Sys2Proof.Machine.execAluRol u x s
  | .aluRor u x => Sys2Proof.Machine.execAluRor u x s
  | .aluCeq u => Sys2Proof.Machine.execAluCeq u s
  | .aluCne u => Sys2Proof.Machine.execAluCne u s
  | .aluCltS64 u x => Sys2Proof.Machine.execAluCltS64 u x s
  | .aluCltN64 u x => Sys2Proof.Machine.execAluCltN64 u x s
  | .aluCleS64 u x => Sys2Proof.Machine.execAluCleS64 u x s
  | .aluCleN64 u x => Sys2Proof.Machine.execAluCleN64 u x s
  | .aluMinS64 u => Sys2Proof.Machine.execAluMinS64 u s
  | .aluMinN64 u => Sys2Proof.Machine.execAluMinN64 u s
  | .aluMaxS64 u => Sys2Proof.Machine.execAluMaxS64 u s
  | .aluMaxN64 u => Sys2Proof.Machine.execAluMaxN64 u s
  | .aluSel u x => Sys2Proof.Machine.execAluSel u x s
  | .aluAbsS64 u => Sys2Proof.Machine.execAluAbsS64 u s
  | .aluPass u => Sys2Proof.Machine.execAluPass u s
  | .aluPopc u => Sys2Proof.Machine.execAluPopc u s
  | .aluClz u => Sys2Proof.Machine.execAluClz u s
  | .aluCtz u => Sys2Proof.Machine.execAluCtz u s
  | .aluBfxS64 u => Sys2Proof.Machine.execAluBfxS64 u s
  | .aluBfxN64 u => Sys2Proof.Machine.execAluBfxN64 u s
  | .aluBfi u => Sys2Proof.Machine.execAluBfi u s
  | .gpack u => Sys2Proof.Machine.execGpack u s
  | .gset u x => Sys2Proof.Machine.execGset u x s
  | .kfill u => Sys2Proof.Machine.execKfill u s
  | .klow u => Sys2Proof.Machine.execKlow u s
  | .khigh u => Sys2Proof.Machine.execKhigh u s
  | .divS64 x => Sys2Proof.Machine.execDivS64 x s
  | .divN64 x => Sys2Proof.Machine.execDivN64 x s
  | .vfaAdd f => Sys2Proof.Machine.execVfaAdd f s
  | .vfaSub f x => Sys2Proof.Machine.execVfaSub f x s
  | .vfaMul f => Sys2Proof.Machine.execVfaMul f s
  | .vfaFma f x => Sys2Proof.Machine.execVfaFma f x s
  | .vfaFms f x => Sys2Proof.Machine.execVfaFms f x s
  | .vfaFnma f x => Sys2Proof.Machine.execVfaFnma f x s
  | .vfaFnms f x => Sys2Proof.Machine.execVfaFnms f x s
  | .vfaMin f => Sys2Proof.Machine.execVfaMin f s
  | .vfaMax f => Sys2Proof.Machine.execVfaMax f s
  | .vfaCmp f x => Sys2Proof.Machine.execVfaCmp f x s
  | .vfaClass f => Sys2Proof.Machine.execVfaClass f s
  | .vfaScale f x => Sys2Proof.Machine.execVfaScale f x s
  | .vfbIadd w => Sys2Proof.Machine.execVfbIadd w s
  | .vfbIsub w x => Sys2Proof.Machine.execVfbIsub w x s
  | .vfbImul w => Sys2Proof.Machine.execVfbImul w s
  | .vfbIadds w => Sys2Proof.Machine.execVfbIadds w s
  | .vfbIminS w => Sys2Proof.Machine.execVfbIminS w s
  | .vfbImaxS w => Sys2Proof.Machine.execVfbImaxS w s
  | .vfbIminN w => Sys2Proof.Machine.execVfbIminN w s
  | .vfbImaxN w => Sys2Proof.Machine.execVfbImaxN w s
  | .vfbBsel x => Sys2Proof.Machine.execVfbBsel x s
  | .vfbShlN32 x => Sys2Proof.Machine.execVfbShlN32 x s
  | .vfbShrN32 x => Sys2Proof.Machine.execVfbShrN32 x s
  | .vfbShrS32 x => Sys2Proof.Machine.execVfbShrS32 x s
  | .vfbIcmpS32 x => Sys2Proof.Machine.execVfbIcmpS32 x s
  | .vfbIcmpN32 x => Sys2Proof.Machine.execVfbIcmpN32 x s
  | .slideup x => Sys2Proof.Machine.execSlideup x s
  | .slidedn x => Sys2Proof.Machine.execSlidedn x s
  | .vfbFmaF32 x => Sys2Proof.Machine.execVfbFmaF32 x s
  | .vfbFmsF32 x => Sys2Proof.Machine.execVfbFmsF32 x s
  | .vfbFnmaF32 x => Sys2Proof.Machine.execVfbFnmaF32 x s
  | .vfbFnmsF32 x => Sys2Proof.Machine.execVfbFnmsF32 x s
  | .ldN8 u => Sys2Proof.Machine.execLdN8 u s
  | .ldN16 u => Sys2Proof.Machine.execLdN16 u s
  | .ldN32 u => Sys2Proof.Machine.execLdN32 u s
  | .ldX64 u => Sys2Proof.Machine.execLdX64 u s
  | .ldS8 u => Sys2Proof.Machine.execLdS8 u s
  | .ldS16 u => Sys2Proof.Machine.execLdS16 u s
  | .ldS32 u => Sys2Proof.Machine.execLdS32 u s
  | .ldB128 u => Sys2Proof.Machine.execLdB128 u s
  | .ldB256 u => Sys2Proof.Machine.execLdB256 u s
  | .ldB512 u => Sys2Proof.Machine.execLdB512 u s
  | .ldB1024 u => Sys2Proof.Machine.execLdB1024 u s
  | .ldM1024 u => Sys2Proof.Machine.execLdM1024 u s
  | .ldSd32 u => Sys2Proof.Machine.execLdSd32 u s
  | .ldFl64 u => Sys2Proof.Machine.execLdFl64 u s
  | .ldFl1024 u => Sys2Proof.Machine.execLdFl1024 u s
  | .stB8 u => Sys2Proof.Machine.execStB8 u s
  | .stB16 u => Sys2Proof.Machine.execStB16 u s
  | .stB32 u => Sys2Proof.Machine.execStB32 u s
  | .stB64 u => Sys2Proof.Machine.execStB64 u s
  | .stB128 u => Sys2Proof.Machine.execStB128 u s
  | .stB256 u => Sys2Proof.Machine.execStB256 u s
  | .stB512 u => Sys2Proof.Machine.execStB512 u s
  | .stB1024 u => Sys2Proof.Machine.execStB1024 u s
  | .stM1024 u => Sys2Proof.Machine.execStM1024 u s
  | .stSd32 u => Sys2Proof.Machine.execStSd32 u s
  | .sramBankAccess n q id j => Sys2Proof.Machine.execSramBankAccess n q id j s
  | .sramCorrectedRewrite n bank row half => Sys2Proof.Machine.execSramCorrectedRewrite n bank row half s
  | .sramcfgWrite n v => Sys2Proof.Machine.execSramcfgWrite n v s
  | .classRewriteEnd n => Sys2Proof.Machine.execClassRewriteEnd n s
  | .mxMm h => Sys2Proof.Machine.execMxMm h s
  | .mxGang h => Sys2Proof.Machine.execMxGang h s
  | .mxSeq h => Sys2Proof.Machine.execMxSeq h s
  | .mxGseq h => Sys2Proof.Machine.execMxGseq h s
  | .mxTadd h => Sys2Proof.Machine.execMxTadd h s
  | .mxDrain h => Sys2Proof.Machine.execMxDrain h s
  | .mxTcsave h => Sys2Proof.Machine.execMxTcsave h s
  | .mxCommandStart n => Sys2Proof.Machine.execMxCommandStart n s
  | .mxGangStart c => Sys2Proof.Machine.execMxGangStart c s
  | .mxPassRowAccess c id p m a => Sys2Proof.Machine.execMxPassRowAccess c id p m a s
  | .mxCommandComplete c id => Sys2Proof.Machine.execMxCommandComplete c id s
  | .mxDrainDone n => Sys2Proof.Machine.execMxDrainDone n s
  | .mxTcsaveWrite n => Sys2Proof.Machine.execMxTcsaveWrite n s
  | .tswStart n => Sys2Proof.Machine.execTswStart n s
  | .tswUnitAccess n a => Sys2Proof.Machine.execTswUnitAccess n a s
  | .tswComplete n => Sys2Proof.Machine.execTswComplete n s
  | .semReleaseAct n id => Sys2Proof.Machine.execSemReleaseAct n id s
  | .semRemoteArrival n p => Sys2Proof.Machine.execSemRemoteArrival n p s
  | .semRemoteAct n => Sys2Proof.Machine.execSemRemoteAct n s
  | .semReplyArrival n p => Sys2Proof.Machine.execSemReplyArrival n p s
  | .synTimer h => Sys2Proof.Machine.execSynTimer h s
  | .synDelay h => Sys2Proof.Machine.execSynDelay h s
  | .synGbar h => Sys2Proof.Machine.execSynGbar h s
  | .synJoin h => Sys2Proof.Machine.execSynJoin h s
  | .synCommandDone n id => Sys2Proof.Machine.execSynCommandDone n id s
  | .ceCopy h => Sys2Proof.Machine.execCeCopy h s
  | .ceXcopy h => Sys2Proof.Machine.execCeXcopy h s
  | .ceFill h => Sys2Proof.Machine.execCeFill h s
  | .cePlace h => Sys2Proof.Machine.execCePlace h s
  | .ceCode h => Sys2Proof.Machine.execCeCode h s
  | .ceCommandStart n => Sys2Proof.Machine.execCeCommandStart n s
  | .ceElementMove n a => Sys2Proof.Machine.execCeElementMove n a s
  | .ceCommandComplete n => Sys2Proof.Machine.execCeCommandComplete n s
  | .ceSuspend n => Sys2Proof.Machine.execCeSuspend n s
  | .packetInject n cls => Sys2Proof.Machine.execPacketInject n cls s
  | .exchangeDelivery n p b => Sys2Proof.Machine.execExchangeDelivery n p b s
  | .messageDelivery n p => Sys2Proof.Machine.execMessageDelivery n p s
  | .k2Wake n => Sys2Proof.Machine.execK2Wake n s
  | .heldArrivalTimeout n => Sys2Proof.Machine.execHeldArrivalTimeout n s
  | .remoteStoreWrite n p b => Sys2Proof.Machine.execRemoteStoreWrite n p b s
  | .storeAcknowledgement n p => Sys2Proof.Machine.execStoreAcknowledgement n p s
  | .flitReceive l f => Sys2Proof.Machine.execFlitReceive l f s
  | .idle l cseq stop => Sys2Proof.Machine.execIdle l cseq stop s
  | .ack l cseq stop => Sys2Proof.Machine.execAck l cseq stop s
  | .nak l cseq stop => Sys2Proof.Machine.execNak l cseq stop s
  | .outputFlitSelect l => Sys2Proof.Machine.execOutputFlitSelect l s
  | .truncationTimeout l cls vc => Sys2Proof.Machine.execTruncationTimeout l cls vc s
  | .linkDown l => Sys2Proof.Machine.execLinkDown l s
  | .linkDead l => Sys2Proof.Machine.execLinkDead l s
  | .fabricPortTrain l lanes asym ok => Sys2Proof.Machine.execFabricPortTrain l lanes asym ok s
  | .milestoneArrive n => Sys2Proof.Machine.execMilestoneArrive n s
  | .milestoneRelease gr => Sys2Proof.Machine.execMilestoneRelease gr s
  | .milestoneArrivePacket p => Sys2Proof.Machine.execMilestoneArrivePacket p s
  | .milestoneReleasePacket p => Sys2Proof.Machine.execMilestoneReleasePacket p s
  | .milestoneFailPacket p => Sys2Proof.Machine.execMilestoneFailPacket p s
  | .domainStart late => Sys2Proof.Machine.execDomainStart late s
  | .milestoneTimeout gr => Sys2Proof.Machine.execMilestoneTimeout gr s
  | .stepctlWrite n v => Sys2Proof.Machine.execStepctlWrite n v s
  | .paceadj v => Sys2Proof.Machine.execPaceadj v s
  | .heartbeatSend b => Sys2Proof.Machine.execHeartbeatSend b s
  | .heartbeatReceive b p => Sys2Proof.Machine.execHeartbeatReceive b p s
  | .heartbeatMiss b => Sys2Proof.Machine.execHeartbeatMiss b s
  | .fenceW lv => Sys2Proof.Machine.execFenceW lv s
  | .fenceRw lv => Sys2Proof.Machine.execFenceRw lv s
  | .fenceComplete n k => Sys2Proof.Machine.execFenceComplete n k s
  | .csrresWritten n k v => Sys2Proof.Machine.execCsrresWritten n k v s
  | .registerWrite r v => Sys2Proof.Machine.execRegisterWrite r v s
  | .hubRegisterAccessDone n k id => Sys2Proof.Machine.execHubRegisterAccessDone n k id s
  | .chainWordWrite c v => Sys2Proof.Machine.execChainWordWrite c v s
  | .svcaddrWrite n v => Sys2Proof.Machine.execSvcaddrWrite n v s
  | .mxcheckWrite c v => Sys2Proof.Machine.execMxcheckWrite c v s
  | .tileQuiet n => Sys2Proof.Machine.execTileQuiet n s
  | .pairIntervalClose n k => Sys2Proof.Machine.execPairIntervalClose n k s
  | .pairCompare n k => Sys2Proof.Machine.execPairCompare n k s
  | .mwaitWake k why => Sys2Proof.Machine.execMwaitWake k why s
  | .tlbinvComplete n k => Sys2Proof.Machine.execTlbinvComplete n k s
  | .granuleDrained gn => Sys2Proof.Machine.execGranuleDrained gn s
  | .conversionEnd gn => Sys2Proof.Machine.execConversionEnd gn s
  | .scrub line => Sys2Proof.Machine.execScrub line s
  | .trapTake n k => Sys2Proof.Machine.execTrapTake n k s
  | .trapq n k viaX => Sys2Proof.Machine.execTrapq n k viaX s
  | .debugTransition n => Sys2Proof.Machine.execDebugTransition n s
  | .debugStop n => Sys2Proof.Machine.execDebugStop n s
  | .traceRecordStore n => Sys2Proof.Machine.execTraceRecordStore n s
  | .digestReset l => Sys2Proof.Machine.execDigestReset l s
  | .getVersion m => Sys2Proof.Machine.execGetVersion m s
  | .getCapabilities m => Sys2Proof.Machine.execGetCapabilities m s
  | .negotiateAlgorithms m => Sys2Proof.Machine.execNegotiateAlgorithms m s
  | .getDigests m => Sys2Proof.Machine.execGetDigests m s
  | .getCertificate m => Sys2Proof.Machine.execGetCertificate m s
  | .challenge m => Sys2Proof.Machine.execChallenge m s
  | .getMeasurements m => Sys2Proof.Machine.execGetMeasurements m s
  | .hostRead addr => Sys2Proof.Machine.execHostRead addr s
  | .hostWrite addr line => Sys2Proof.Machine.execHostWrite addr line s
  | .hostreq v => Sys2Proof.Machine.execHostreq v s
  | .launch rec => Sys2Proof.Machine.execLaunch rec s
  | .keyLoad rec => Sys2Proof.Machine.execKeyLoad rec s
  | .granuleRelease rec => Sys2Proof.Machine.execGranuleRelease rec s
  | .sensorLatch readings => Sys2Proof.Machine.execSensorLatch readings s
  | .thctlWrite v => Sys2Proof.Machine.execThctlWrite v s
  | .powerMeterUpdate w => Sys2Proof.Machine.execPowerMeterUpdate w s
  | .xlresWritten n k v => Sys2Proof.Machine.execXlresWritten n k v s
  | .ctlJmp => Sys2Proof.Machine.execCtlJmp s
  | .ctlJmpr => Sys2Proof.Machine.execCtlJmpr s
  | .ctlCall => Sys2Proof.Machine.execCtlCall s
  | .ctlRet => Sys2Proof.Machine.execCtlRet s
  | .ctlLoop => Sys2Proof.Machine.execCtlLoop s
  | .ctlLdim => Sys2Proof.Machine.execCtlLdim s
  | .ctlLidx => Sys2Proof.Machine.execCtlLidx s
  | .ctlLexit => Sys2Proof.Machine.execCtlLexit s
  | .ctlRetire => Sys2Proof.Machine.execCtlRetire s
  | .ctlYield => Sys2Proof.Machine.execCtlYield s
  | .ctlTrap => Sys2Proof.Machine.execCtlTrap s
  | .ctlUret => Sys2Proof.Machine.execCtlUret s
  | .ctlWtok => Sys2Proof.Machine.execCtlWtok s
  | .ctlWcyc => Sys2Proof.Machine.execCtlWcyc s
  | .ctlQadd => Sys2Proof.Machine.execCtlQadd s
  | .ctlQread => Sys2Proof.Machine.execCtlQread s
  | .ctlWhere => Sys2Proof.Machine.execCtlWhere s
  | .ctlHset => Sys2Proof.Machine.execCtlHset s
  | .mulS64 => Sys2Proof.Machine.execMulS64 s
  | .mulN64 => Sys2Proof.Machine.execMulN64 s
  | .madS64 => Sys2Proof.Machine.execMadS64 s
  | .madN64 => Sys2Proof.Machine.execMadN64 s
  | .mulS32 => Sys2Proof.Machine.execMulS32 s
  | .mulN32 => Sys2Proof.Machine.execMulN32 s
  | .mulrS64 => Sys2Proof.Machine.execMulrS64 s
  | .aguPstr => Sys2Proof.Machine.execAguPstr s
  | .aguPwin => Sys2Proof.Machine.execAguPwin s
  | .aguPreg => Sys2Proof.Machine.execAguPreg s
  | .aguPget => Sys2Proof.Machine.execAguPget s
  | .aguPadv => Sys2Proof.Machine.execAguPadv s
  | .aguPpeek => Sys2Proof.Machine.execAguPpeek s
  | .aguPcopy => Sys2Proof.Machine.execAguPcopy s
  | .aguRchk => Sys2Proof.Machine.execAguRchk s
  | .aguRassert => Sys2Proof.Machine.execAguRassert s
  | .aguRget => Sys2Proof.Machine.execAguRget s
  | .aguLea => Sys2Proof.Machine.execAguLea s
  | .vfaBdot => Sys2Proof.Machine.execVfaBdot s
  | .vfbAnd => Sys2Proof.Machine.execVfbAnd s
  | .vfbOr => Sys2Proof.Machine.execVfbOr s
  | .vfbXor => Sys2Proof.Machine.execVfbXor s
  | .kpack => Sys2Proof.Machine.execKpack s
  | .sbcast => Sys2Proof.Machine.execSbcast s
  | .lbcast => Sys2Proof.Machine.execLbcast s
  | .perm => Sys2Proof.Machine.execPerm s
  | .cvt => Sys2Proof.Machine.execCvt s
  | .mxpack => Sys2Proof.Machine.execMxpack s
  | .mxunpack => Sys2Proof.Machine.execMxunpack s
  | .rsumF32 => Sys2Proof.Machine.execRsumF32 s
  | .rmaxF32 => Sys2Proof.Machine.execRmaxF32 s
  | .rminF32 => Sys2Proof.Machine.execRminF32 s
  | .rsumS32 => Sys2Proof.Machine.execRsumS32 s
  | .recipF32 => Sys2Proof.Machine.execRecipF32 s
  | .divF32 => Sys2Proof.Machine.execDivF32 s
  | .sqrtF32 => Sys2Proof.Machine.execSqrtF32 s
  | .rsqrtF32 => Sys2Proof.Machine.execRsqrtF32 s
  | .expF32 => Sys2Proof.Machine.execExpF32 s
  | .exp2F32 => Sys2Proof.Machine.execExp2F32 s
  | .logF32 => Sys2Proof.Machine.execLogF32 s
  | .log2F32 => Sys2Proof.Machine.execLog2F32 s
  | .tanhF32 => Sys2Proof.Machine.execTanhF32 s
  | .sigmoidF32 => Sys2Proof.Machine.execSigmoidF32 s
  | .geluF32 => Sys2Proof.Machine.execGeluF32 s
  | .rsumdF32 => Sys2Proof.Machine.execRsumdF32 s
  | .rmeanF32 => Sys2Proof.Machine.execRmeanF32 s
  | .rvarF32 => Sys2Proof.Machine.execRvarF32 s
  | .smexpF32 => Sys2Proof.Machine.execSmexpF32 s
  | .smadd => Sys2Proof.Machine.execSmadd s
  | .smoutF32 => Sys2Proof.Machine.execSmoutF32 s
  | .fset => Sys2Proof.Machine.execFset s
  | .fget => Sys2Proof.Machine.execFget s
  | .tcread => Sys2Proof.Machine.execTcread s
  | .tcclr => Sys2Proof.Machine.execTcclr s
  | .chkrd => Sys2Proof.Machine.execChkrd s
  | .chkclr => Sys2Proof.Machine.execChkclr s
  | .dur => Sys2Proof.Machine.execDur s
  | .mxStat => Sys2Proof.Machine.execMxStat s
  | .tsin => Sys2Proof.Machine.execTsin s
  | .tsout => Sys2Proof.Machine.execTsout s
  | .tscopy => Sys2Proof.Machine.execTscopy s
  | .tsfill => Sys2Proof.Machine.execTsfill s
  | .scin => Sys2Proof.Machine.execScin s
  | .scout => Sys2Proof.Machine.execScout s
  | .wbin => Sys2Proof.Machine.execWbin s
  | .wbout => Sys2Proof.Machine.execWbout s
  | .semTake => Sys2Proof.Machine.execSemTake s
  | .semPut => Sys2Proof.Machine.execSemPut s
  | .semLd => Sys2Proof.Machine.execSemLd s
  | .semSt => Sys2Proof.Machine.execSemSt s
  | .semAdd => Sys2Proof.Machine.execSemAdd s
  | .semAnd => Sys2Proof.Machine.execSemAnd s
  | .semOr => Sys2Proof.Machine.execSemOr s
  | .semMaxS64 => Sys2Proof.Machine.execSemMaxS64 s
  | .semMaxN64 => Sys2Proof.Machine.execSemMaxN64 s
  | .semMinS64 => Sys2Proof.Machine.execSemMinS64 s
  | .semMinN64 => Sys2Proof.Machine.execSemMinN64 s
  | .semCas => Sys2Proof.Machine.execSemCas s
  | .semWadd => Sys2Proof.Machine.execSemWadd s
  | .semQlen => Sys2Proof.Machine.execSemQlen s
  | .semSrcrd => Sys2Proof.Machine.execSemSrcrd s
  | .semSrcdrop => Sys2Proof.Machine.execSemSrcdrop s
  | .tpend => Sys2Proof.Machine.execTpend s
  | .tdone => Sys2Proof.Machine.execTdone s
  | .tstat => Sys2Proof.Machine.execTstat s
  | .tmap => Sys2Proof.Machine.execTmap s
  | .pace => Sys2Proof.Machine.execPace s
  | .pacefx => Sys2Proof.Machine.execPacefx s
  | .wtime => Sys2Proof.Machine.execWtime s
  | .synMstat => Sys2Proof.Machine.execSynMstat s
  | .xcyc => Sys2Proof.Machine.execXcyc s
  | .bstat => Sys2Proof.Machine.execBstat s
  | .ceStat => Sys2Proof.Machine.execCeStat s
  | .ceProg => Sys2Proof.Machine.execCeProg s
  | .ceLast => Sys2Proof.Machine.execCeLast s
  | .ceAbort => Sys2Proof.Machine.execCeAbort s
  | .nsSend => Sys2Proof.Machine.execNsSend s
  | .nsRst => Sys2Proof.Machine.execNsRst s
  | .nsRatom => Sys2Proof.Machine.execNsRatom s
  | .nsXsend => Sys2Proof.Machine.execNsXsend s
  | .nsRecv => Sys2Proof.Machine.execNsRecv s
  | .nsPeek => Sys2Proof.Machine.execNsPeek s
  | .nsRelease => Sys2Proof.Machine.execNsRelease s
  | .nsStat => Sys2Proof.Machine.execNsStat s
  | .nsLast => Sys2Proof.Machine.execNsLast s
  | .nsSpill => Sys2Proof.Machine.execNsSpill s
  | .nsLback => Sys2Proof.Machine.execNsLback s
  | .nsReject => Sys2Proof.Machine.execNsReject s
  | .nsOvclr => Sys2Proof.Machine.execNsOvclr s
  | .csrr => Sys2Proof.Machine.execCsrr s
  | .csrw => Sys2Proof.Machine.execCsrw s
  | .xcsrr => Sys2Proof.Machine.execXcsrr s
  | .xcsrw => Sys2Proof.Machine.execXcsrw s
  | .tctlFreeze => Sys2Proof.Machine.execTctlFreeze s
  | .tctlResume => Sys2Proof.Machine.execTctlResume s
  | .tctlHalt => Sys2Proof.Machine.execTctlHalt s
  | .tctlUnhalt => Sys2Proof.Machine.execTctlUnhalt s
  | .tctlSave => Sys2Proof.Machine.execTctlSave s
  | .tctlRestore => Sys2Proof.Machine.execTctlRestore s
  | .tctlResumeContext => Sys2Proof.Machine.execTctlResumeContext s
  | .tctlKillContext => Sys2Proof.Machine.execTctlKillContext s
  | .tctlClearContext => Sys2Proof.Machine.execTctlClearContext s
  | .tctlRollback => Sys2Proof.Machine.execTctlRollback s
  | .pairon => Sys2Proof.Machine.execPairon s
  | .pairoff => Sys2Proof.Machine.execPairoff s
  | .mwait => Sys2Proof.Machine.execMwait s
  | .tlbprobe => Sys2Proof.Machine.execTlbprobe s
  | .tlbinvAddress => Sys2Proof.Machine.execTlbinvAddress s
  | .tlbinvAsid => Sys2Proof.Machine.execTlbinvAsid s
  | .tlbinvGlobal => Sys2Proof.Machine.execTlbinvGlobal s
  | .tlbinvAll => Sys2Proof.Machine.execTlbinvAll s
  | .gctlOffline => Sys2Proof.Machine.execGctlOffline s
  | .gctlOnline => Sys2Proof.Machine.execGctlOnline s
  | .gctlConvert => Sys2Proof.Machine.execGctlConvert s
  | .gstat => Sys2Proof.Machine.execGstat s
  | .ptclr => Sys2Proof.Machine.execPtclr s
  | .linkCountSample => Sys2Proof.Machine.execLinkCountSample s
  | .deviceReset => Sys2Proof.Machine.execDeviceReset s

end Sys2Proof.Machine
end

