-- ==== Sys2Proof/Machine/Schedule.lean ====
section
/-! DEFINITION. Which step comes next. A cycle passes through stages (log entry 2): what is fixed to its start; what is
due once in a cycle; firings; what units find they can do; one flit of each link; slots; words and what stands in their
place; memory and the rest of what is fixed to it; its end. A stage visits units in rising order. -/

namespace Sys2Proof.Machine

/-! ## Stages -/

/-- The number under which a stage visits a link end. -/
def linkUnit (l : Nat) : Nat := 4096 + l

/-- The number under which a stage visits a chain. -/
def chainUnit (c : Nat) : Nat := 8192 + c

/-- The number under which a stage visits the hub. -/
def hubUnit : Nat := 16384

/-- The tiles whose state is listed: no other has anything to do. -/
def State.busyTiles (s : State) : List Nat := s.tiles.map (·.1)

/-- The chains of those tiles. -/
def State.busyChains (s : State) : List Nat := ((s.busyTiles.filter (· < 1728)).map chainOf).eraseDups

def State.atStage (s : State) (stage : Nat) (todo : List Nat) : State := { s with micro := { stage := stage, todo := todo } }

/-- The stage goes on with its other units. -/
def State.leaveUnit (s : State) : State := { s with micro := { s.micro with todo := s.micro.todo.tail } }

/-- What the next step is: silent, or an instruction; with the state it starts from. -/
abbrev Next := State × Option Instr

/-- The first item of the agenda that is due, of a place before prio, taken off it. -/
def State.popAgenda (s : State) (prio : Nat) : Option Next :=
  match s.agenda.find? (fun a => decide (a.cyc ≤ s.now) && decide (a.prio < prio)) with
  | none => none
  | some a => some ({ s with agenda := s.agenda.erase a }, some a.ins)

/-! ## The start of a cycle -/

/-- Commands arrive at synchronisation engines, and holds that are over end. -/
def State.settleStart (s : State) : State :=
  s.busyTiles.foldl (fun s n => (s.synArrivals n).endWaits n) s

/-- What is due once in this cycle: heartbeats, a sample of link counts, the start of a domain. -/
def State.onceDue (s : State) : List Nat :=
  (if s.beatStart then s.activeTiles ++ (s.upPorts.map linkUnit) else [])
    ++ (if s.sampleDue then [hubUnit] else []) ++ (if s.domainDue then [hubUnit + 1] else [])

def State.stageStart (s : State) : Next :=
  match s.popAgenda (prioDeliver + 1) with
  | some x => x
  | none =>
    let s := s.settleStart
    let s := if s.beatStart then s.beatReset else s
    (s.atStage 1 s.onceDue, none)

def State.stageOnce (s : State) : Next :=
  match s.micro.todo with
  | [] => (s.atStage 2 s.busyTiles, none)
  | u :: _ =>
    let s := s.leaveUnit
    if u = hubUnit then (s, some .linkCountSample)
    else if u = hubUnit + 1 then (s, some (.domainStart false))
    else if linkUnit 0 ≤ u then (s, some (.heartbeatSend (.port (u - linkUnit 0))))
    else if (s.tile u).halted || (s.tile u).dead then (s, none)
    else (s, some (.heartbeatSend (.tile u)))

/-- The stalled cycles of a list are counted, those of a freeze left out (04 R92, log entry 30). -/
def Tile.countStalled (t : Tile) : Tile :=
  if t.frozen then t else { t with stalled := if t.stalls then t.stalled + 1 else 0 }

/-- Firings, and lists that stall (04 R79, R92). -/
def State.stageFire (s : State) : Next :=
  match s.micro.todo with
  | [] => (s.atStage 3 (s.busyTiles ++ s.busyChains.map chainUnit ++ (s.links.map fun p => linkUnit p.1) ++ [hubUnit]), none)
  | n :: _ =>
    let s := s.leaveUnit.modTile n Tile.countStalled
    if (s.tile n).stalledOut then (s, some (.waitunsatList n))
    else (s, (s.tile n).fires.map fun e => .entryFire n e)

/-! ## What units find they can do -/

/-- The first of some choices that holds. -/
def firstOf : List (Bool × Instr) → Option Instr
  | [] => none
  | (b, i) :: l => if b then some i else firstOf l

/-- A retiring context with a cause due takes it though it issues no word (log entry 15), and so does K0 where it is
idle, of a list that failed its check on a frozen tile (18 R410). -/
def Tile.trapsRetiring (t : Tile) (k : Ctx) : Bool :=
  let c := t.ctx k
  (c.run = .retiring || (c.run = .idle && k = .k0)) && !t.frozen && !c.dues.isEmpty

/-- What tile n finds it can do in this cycle. -/
def State.pollTile (s : State) (n : Nat) : Option Instr :=
  let t := s.tile n
  let perCtx (f : Ctx → Bool) (i : Ctx → Instr) : List (Bool × Instr) := allCtx.map fun k => (f k, i k)
  (firstOf ([(s.arrives n, .milestoneArrive n)] ++ perCtx t.trapsRetiring (.trapTake n)
      ++ perCtx (t.retires s.now) (.routineRetired n) ++ perCtx (s.fenceDone n) (.fenceComplete n)
      ++ perCtx (s.compares n) (.pairCompare n)
      ++ [(t.ballastStarts, .ballastStart n), (s.k2Wakes n, .k2Wake n), (s.tswReady n, .tswStart n),
        (s.ceReady n, .ceCommandStart n), (s.becomesQuiet n, .tileQuiet n), (s.injReady n 0#2, .packetInject n 0#2),
        (s.injReady n 1#2, .packetInject n 1#2), (s.injReady n 2#2, .packetInject n 2#2),
        (s.injReady n 3#2, .packetInject n 3#2)])).orElse fun _ => (s.timerDone n).map (.synCommandDone n)

/-- What a link end finds. -/
def State.pollLink (s : State) (l : Nat) : Option Instr :=
  match s.truncates l with
  | some pair => some (.truncationTimeout l (BitVec.ofNat 2 (pair / 2 + 1)) (BitVec.ofNat 1 (pair % 2)))
  | none => if (s.link l).fails s.now then some (.linkDown l) else none

/-- What the hub finds. -/
def State.pollHub (s : State) : Option Instr :=
  if s.rootReleases then some (.milestoneRelease theDomain) else s.mwaitEnds.map fun x => .mwaitWake x.1 x.2

def State.pollUnit (s : State) (u : Nat) : Option Instr :=
  if u < linkUnit 0 then s.pollTile u
  else if u < chainUnit 0 then s.pollLink (u - linkUnit 0)
  else if u < hubUnit then s.pollMx (u - chainUnit 0)
  else s.pollHub

/-- A unit is asked until it finds nothing more; then the waits end for tokens that were done in this cycle (12 R271). -/
def State.stagePoll (s : State) : Next :=
  match s.micro.todo with
  | [] => ((s.busyTiles.foldl State.endWaits s).atStage 4 (s.upPorts.map linkUnit), none)
  | u :: _ =>
    match s.pollUnit u with
    | some i => (s, some i)
    | none => (s.leaveUnit, none)

/-! ## Slots (04 R85, R86, R88, 15 R332) -/

/-- The ring of contexts after k, k last. -/
def ringAfter (k : Ctx) : List Ctx := (List.range 4).map fun i => ctxOf (ctxNum k + 1 + i)

/-- Whether a context may hold the primary slot in this cycle: it is ready, and not in ballast. -/
def Tile.mayHold (t : Tile) (now : Nat) (k : Ctx) : Bool := t.ready now k && !t.inBallast k

/-- The slot passes from a holder that cannot issue; an unheld slot goes to the first ready context in the ring; in an
exchange phase K0 takes it. -/
def Tile.passSlot (t : Tile) (now : Nat) : Tile :=
  let t := match t.primary with
    | some k => if t.mayHold now k then t else t.leaveSlot k
    | none => t
  if t.exchange && t.mayHold now .k0 && t.primary ≠ some .k0 then
    { t with primary := some .k0, lastPrimary := t.primary.getD t.lastPrimary }
  else
    match t.primary with
    | some _ => t
    | none => { t with primary := (ringAfter t.lastPrimary).find? (t.mayHold now) }

/-- Whether a context counts toward displacement in this cycle. -/
def Tile.displaceable (t : Tile) (now : Nat) (k : Ctx) : Bool :=
  t.mayHold now k && t.primary ≠ some k && !t.exchange

/-- The counts of a cycle that is not throttled. -/
def Tile.countDispl (t : Tile) (now : Nat) : Tile :=
  if t.throttled now then t
  else
    [Ctx.k0, .k1, .k2].foldl (fun t k =>
      { t with
        displ := spSet 0 t.displ (ctxNum k) (if t.displaceable now k then spGet 0 t.displ (ctxNum k) + 1 else 0) }) t

/-- The context that displaces the holder in this cycle: its count stood at 61 or more. -/
def Tile.displaces (t : Tile) (now : Nat) : Option Ctx :=
  if t.throttled now then none
  else
    match t.primary with
    | none => none
    | some h => (ringAfter h).find? fun k => k ≠ .k3 && t.displaceable now k && decide (62 ≤ spGet 0 t.displ (ctxNum k))

/-- One flit of each link end goes out; then pairs couple and slots pass. -/
def State.stageLinks (s : State) : Next :=
  match s.micro.todo with
  | u :: _ => (s.leaveUnit.updateStop (u - linkUnit 0), some (.outputFlitSelect (u - linkUnit 0)))
  | [] =>
    let s := s.pairSteps
    let slots (t : Tile) : Tile := (t.passSlot s.now).countDispl s.now
    let s := { s with tiles := s.tiles.map fun (p : Nat × Tile) => (p.1, slots p.2) }
    (s.atStage 5 s.busyTiles, none)

/-! ## Words (04 R85, R88, 18 R410, R411) -/

/-- The context that issues in this cycle: the holder, or K3 in ballast where no other is ready. K3 then holds no slot:
later ties go round the ring from the holder before it, on which 04 R85 is silent (DESIGN CHOICE, log entry 117). -/
def Tile.issuer (t : Tile) (now : Nat) : Option Ctx :=
  match t.primary with
  | some k => if t.ready now k then some k else none
  | none =>
    if t.inBallast .k3 && t.ballastTurn now && t.ready now .k3 && !([Ctx.k0, .k1, .k2].any (t.ready now)) then some .k3
    else none

/-- What context k of tile n does in its turn: a cause that is due, an interrupt, the close of an interval, or its word. -/
def State.turn (s : State) (n : Nat) (k : Ctx) : Instr :=
  let t := s.tile n
  let c := t.ctx k
  if !c.dues.isEmpty && (!t.waiting s.now k || c.urgent) then .trapTake n k
  else if c.takeable.isSome then .interruptEntry n k
  else
    let w := (t.nextWord k).getD (wordOf 0#512)
    if (wordCheck k w).isNone && t.closesFor k w then .pairIntervalClose n k else .transportWord n k w

/-- A displaced tile is visited again under this number. -/
def again (n : Nat) : Nat := 4096 + n

def State.stageIssue (s : State) : Next :=
  match s.micro.todo with
  | [] => (s.atStage 6 [], none)
  | u :: _ =>
    let n := u % 4096
    let s := s.leaveUnit
    let t := s.tile n
    match if u < 4096 then t.displaces s.now else none with
    | some k => ({ s with micro := { s.micro with todo := again n :: s.micro.todo } }, some (.displacement n k))
    | none =>
      match t.issuer s.now with
      | none => (s, none)
      | some k => (s, some (if t.throttled s.now then .throttledCycle n else s.turn n k))

/-! ## The end of a cycle -/

/-- Memory, and what is fixed to the rest of the cycle; then delayed release forms. -/
def State.stageLate (s : State) : Next :=
  match s.popAgenda prioEnd with
  | some x => x
  | none =>
    match s.busyTiles.findSome? fun n => (s.semRelease n).map fun id => Instr.semReleaseAct n id with
    | some i => (s, some i)
    | none => (s.atStage 7 (s.busyTiles.flatMap fun n => [2 * n, 2 * n + 1]), none)

/-- The lines with an error that the scrub of a period reads, in the period's last cycle (17 R384, log entry 15). -/
def State.scrubDue (s : State) : List Nat :=
  if (s.now + 1) % 2 ^ 40 ≠ 0 then []
  else (s.hbmMark.filter fun p => isHbm (64 * p.1) && s.pmClass (64 * p.1) = 0).map (·.1)

/-- The numbers under which a stage visits the power meter and the sensors, above every line of memory. -/
def meterUnit : Nat := 2 ^ 60
def sensorUnit : Nat := 2 ^ 60 + 1

/-- The readings of the 44 sensors, which are open (log entry 110). -/
def State.readings (s : State) : List Int × State :=
  let (v, s) := s.drawBits
  ((List.range 44).map fun i => sx 16 (bits v (16 * i) 16), s)

/-- The watchdogs count (04 R91): unit 2n + k is context k of tile n. -/
def State.stageWatchdog (s : State) : Next :=
  match s.micro.todo with
  | [] => (s.atStage 8 ((if s.latchDue then [sensorUnit] else []) ++ (if s.meterDue then [meterUnit] else []) ++ s.scrubDue), none)
  | u :: _ =>
    let n := u / 2
    let k := ctxOf (u % 2)
    let s := s.leaveUnit
    match (s.ctx n k).wdog with
    | none => (s, none)
    | some v =>
      if !(s.tile n).wdogCounts s.now k then (s, none)
      else if v ≤ 1 then (s.modCtx n k fun c => { c with wdog := none }, some (.watchdog n k))
      else (s.modCtx n k fun c => { c with wdog := some (v - 1) }, none)

/-- Milestones that fail, beats that are missing, a latch of the sensors, whose freezes leave the words of the cycle as they
are (18 R415, 21 R473), the power meter, whose reading is open (log entry 110), and the scrub. -/
def State.stageHubEnd (s : State) : Next :=
  match s.timedOut with
  | some gr => (s, some (.milestoneTimeout gr))
  | none =>
    match s.beatMissing with
    | some b => (s, some (.heartbeatMiss b))
    | none =>
      match s.micro.todo with
      | l :: _ =>
        let s := s.leaveUnit
        if l = meterUnit then
          let (v, s) := s.drawBits
          (s, some (.powerMeterUpdate (bits v 0 32)))
        else if l = sensorUnit then
          let (rs, s) := s.readings
          (s, some (.sensorLatch rs))
        else (s, some (.scrub l))
      | [] => (s.atStage 9 s.busyTiles, none)

/-- The debug modules count, make their transition, and form records. -/
def State.stageDebug (s : State) : Next :=
  match s.micro.todo with
  | [] => (s.atStage 10 [], none)
  | n :: _ =>
    let s := s.leaveUnit.debugCounts n
    if (s.tile n).transits then (s, some (.debugTransition n)) else (s.flushEvents n, none)

/-- The pace counter advances, and a cycle begins (15 R338). -/
def State.tick (s : State) : State :=
  let p := s.hub.paceNs.toNat * 2 ^ 32 + s.hub.paceFr.toNat + bits (s.hubRg 0x054) 0 36
  let quiet (t : Tile) : Tile := if t.dbgCount.isEmpty then t else { t with dbgCount := [] }
  { s with
    now := s.now + 1
    micro := { stage := 0, todo := [] }
    tiles := s.tiles.map fun (x : Nat × Tile) => (x.1, quiet x.2)
    hub := { s.hub with
      paceNs := BitVec.ofNat 64 (p / 2 ^ 32), paceFr := BitVec.ofNat 32 p
      paceOld := (s.hub.paceNs, s.hub.paceFr) :: s.hub.paceOld.take 1 } }

/-- Freezes and other ends of a cycle; then the hub fixes releases, and the next cycle begins. -/
def State.stageEnd (s : State) : Next :=
  match s.popAgenda (prioEnd + 1) with
  | some x => x
  | none => (s.mileUpdates.tick, none)

/-- The next step of the part from the state it starts from. -/
def State.pick (s : State) : Next :=
  match s.micro.stage with
  | 0 => s.stageStart
  | 1 => s.stageOnce
  | 2 => s.stageFire
  | 3 => s.stagePoll
  | 4 => s.stageLinks
  | 5 => s.stageIssue
  | 6 => s.stageLate
  | 7 => s.stageWatchdog
  | 8 => s.stageHubEnd
  | 9 => s.stageDebug
  | _ => s.stageEnd

/-! ## Placing an instruction -/

/-- A state whose next step issues, as the first word of the cycle, the word b from address 0 of the code store of tile 0
in K0, which runs, holds the primary slot and waits for nothing. -/
def State.withWord (s : State) (b : W512) : State :=
  let t := s.tile 0
  let c : Context :=
    { t.k0 with
      pc := 0, next := none, run := .ready, wstart := 0, holds := [], fences := [], dues := [], irqs := [], pair := none
      nest := Nest.reset }
  let t := { t with
    k0 := c, code := spSet 0#512 t.code 0 b, primary := some .k0, displ := [], resumeAt := none, flights := [], accesses := [], mulFree := 0
    reg := spErase (spErase (spErase t.reg 0x077) 0x030) 0x025 }
  (s.setTile 0 t).atStage 5 [0]

end Sys2Proof.Machine
end

