-- ==== Sys2Proof/Machine/Step.lean ====
section
/-!
DEFINITION. One step of the machine: the next step of the part, as `State.pick` finds it, is taken by `exec`.
-/

namespace Sys2Proof.Machine

/-- The next step. A silent one changes the place inside the cycle only with what it settles there; a step fixed earlier
whose record has gone since is dropped. -/
def step (s : State) : Host.Outcome State Fault Refusal :=
  match s.pick with
  | (s', none) => .next s'
  | (s', some i) =>
    match exec i s' with
    | .fault .noSuchStep => .next s'
    | r => r

/-- s with the word of bits w as the word that K0 of tile 0 issues in the very next step. -/
def State.withFetchWord (s : State) (nbits w : Nat) : State := s.withWord (BitVec.ofNat 512 (w % 2 ^ nbits))

end Sys2Proof.Machine
end

