-- ==== Sys2Proof/Safety.lean ====
section
/-!
DEFINITION. The terms of the claims: what two states share (the frames), results that an operation puts in flight, traps,
and what a sound state is.
-/

namespace Sys2Proof.Machine

/-! ## What two states share -/

/-- Every register, guard, pointer, control register, address, hold and nest of every context. -/
def SameContexts (s t : State) : Prop := ∀ n k, t.ctx n k = s.ctx n k

/-- The same of every context but context k of tile n. -/
def SameOtherContexts (s t : State) (n : Nat) (k : Ctx) : Prop := ∀ m j, (m ≠ n ∨ j ≠ k) → t.ctx m j = s.ctx m j

/-- Control registers of tiles, latches, result ports, code and list entries. -/
structure SameTiles (s t : State) : Prop where
  regs : ∀ n r, (t.tile n).rg r = (s.tile n).rg r
  opo : ∀ n so, (t.tile n).opo so = (s.tile n).opo so
  opp : ∀ n so, (t.tile n).opp so = (s.tile n).opp so
  ports : ∀ n so po, (t.tile n).port so po = (s.tile n).port so po
  code : ∀ n a, spGet 0#512 (t.tile n).code a = spGet 0#512 (s.tile n).code a
  entries : ∀ n, (t.tile n).entries = (s.tile n).entries

/-- Every byte of every memory: tile SRAM, tile stores, weight buffers, staging slices, HBM, host memory. -/
structure SameMemory (s t : State) : Prop where
  sram : ∀ n a, memGet (t.tile n).sram a = memGet (s.tile n).sram a
  ts : ∀ c a, memGet (t.chain c).ts a = memGet (s.chain c).ts a
  wb : ∀ c a, memGet (t.chain c).wb a = memGet (s.chain c).wb a
  slice : ∀ f a, memGet (t.furlong f).slice a = memGet (s.furlong f).slice a
  hbm : ∀ a, memGet t.hbm a = memGet s.hbm a
  host : ∀ a, memGet t.host a = memGet s.host a

/-- Semaphores, source tables, tokens. -/
structure SameSync (s t : State) : Prop where
  sems : ∀ n, (t.tile n).sems = (s.tile n).sems
  srcs : ∀ n, (t.tile n).srcs = (s.tile n).srcs
  tokens : ∀ n, (t.tile n).tokens = (s.tile n).tokens

/-- What the engines and the network sockets of the tiles hold. -/
structure SameEngines (s t : State) : Prop where
  eng : ∀ n, (t.tile n).eng = (s.tile n).eng
  net : ∀ n, (t.tile n).net = (s.tile n).net

/-- Chains, furlongs, granules, hub and links: memories, accumulators of the array, control registers, trap queue. -/
structure SameDevice (s t : State) : Prop where
  chains : ∀ c, t.chain c = s.chain c
  furlongs : ∀ f, t.furlong f = s.furlong f
  granules : t.granules = s.granules
  hub : t.hub = s.hub
  links : ∀ l, t.link l = s.link l

/-- The cycle, and that nothing fixed to a cycle is lost. -/
structure SameTime (s t : State) : Prop where
  now : t.now = s.now
  agenda : ∀ a ∈ s.agenda, a ∈ t.agenda

/-- All of these but the contexts. -/
structure SameRest (s t : State) : Prop where
  tiles : SameTiles s t
  memory : SameMemory s t
  sync : SameSync s t
  engines : SameEngines s t
  device : SameDevice s t
  time : SameTime s t

/-- All of these: what an operation leaves unchanged that only puts results in flight. -/
structure Unchanged (s t : State) : Prop where
  contexts : SameContexts s t
  rest : SameRest s t

/-! ## Sound states -/

/-- A sound state: HBM and host memory in canonical form, at most 1,024 entries in the trap queue (18 R414), and no tile
listed twice. -/
structure State.Inv (s : State) : Prop where
  hbm : memWf s.hbm = true
  host : memWf s.host = true
  traps : s.hub.trapq.length ≤ 1024
  tiles : (s.tiles.map Prod.fst).Pairwise (· < ·)

/-! ## Numbers (06 R130 to R147, 08 R171 to R180) -/

/-- Width, significand bits, bias and least exponent of a format (06 R132). `.mi8` counts units of its least exponent
(06 R135). -/
def formatRow (f : Fmt) : Nat × Nat × Int × Int :=
  match f with
  | .f32 => (32, 23, 127, -126)
  | .bf16 => (16, 7, 127, -126)
  | .f16 => (16, 10, 15, -14)
  | .e4m3 => (8, 3, 7, -6)
  | .e5m2 => (8, 2, 15, -14)
  | .e3m2 => (6, 2, 3, -2)
  | .e2m3 => (6, 3, 1, 0)
  | .e2m1 => (4, 1, 1, 0)
  | .mi8 => (8, 0, 0, -6)

/-- The largest magnitude of a format with a sign (06 R132, R139). -/
def formatHigh (f : Fmt) (neg : Bool) : ℚ :=
  match f with
  | .f32 => (2 ^ 24 - 1) * 2 ^ 104
  | .bf16 => (2 ^ 8 - 1) * 2 ^ 120
  | .f16 => 65504
  | .e4m3 => 448
  | .e5m2 => 57344
  | .e3m2 => 28
  | .e2m3 => 15 / 2
  | .e2m1 => 6
  | .mi8 => if neg then 2 else 127 / 64

/-- The canonical NaN of a format that has one (06 R132). -/
def formatNaN (f : Fmt) : Option Nat :=
  match f with
  | .f32 => some 0x7FC00000 | .bf16 => some 0x7FC0 | .f16 => some 0x7E00 | .e4m3 => some 0x7F | .e5m2 => some 0x7E | _ => none

/-- The formats with infinities (06 R132), and those that `ftz` flushes (06 R140). -/
def formatInf (f : Fmt) : Bool := f = .f32 || f = .bf16 || f = .f16 || f = .e5m2
def formatFlushes (f : Fmt) : Bool := f = .f32 || f = .bf16 || f = .f16

/-- The formats of the type codes 0 to 8 (07 R163). -/
def formats : List Fmt := [.f32, .bf16, .f16, .e4m3, .e5m2, .e3m2, .e2m3, .e2m1, .mi8]

/-- x is the finite value with a sign and a magnitude. -/
def Finite (x : Ex) (neg : Bool) (v : ℝ) : Prop := ∃ (m : Nat) (e : Int), x = .fin neg m e ∧ (m : ℝ) * 2 ^ e = v

/-- x is the finite number z. -/
def Counts (x : Ex) (z : ℝ) : Prop := ∃ neg v, Finite x neg v ∧ z = if neg then -v else v

/-- `Decode` (06 R131, R132, R135): x is the value of a code. -/
def DecodesTo (f : Fmt) (code : Nat) (x : Ex) : Prop :=
  let (w, m, bias, emin) := formatRow f
  let sign := code.testBit (w - 1)
  let ones := 2 ^ (w - 1 - m) - 1
  let ef := code / 2 ^ m % 2 ^ (w - 1 - m)
  let mf := code % 2 ^ m
  if f = .mi8 then Finite x sign ((if sign then 256 - (code : ℝ) else code) / 64)
  else if formatInf f ∧ ef = ones ∧ mf ≠ 0 ∨ f = .e4m3 ∧ ef = ones ∧ mf = 7 then x = .nan
  else if formatInf f ∧ ef = ones then x = .inf sign
  else Finite x sign (if ef = 0 then (mf : ℝ) * 2 ^ (emin - m) else ((2 ^ m + mf : Nat) : ℝ) * 2 ^ ((ef : Int) - bias - m))

/-- `RoundToFormat` (06 R137) of a magnitude of u units with a sign: it is rounded to k units; sr are the bits that a
stochastic rounding draws. -/
def RoundsTo (mode sr : Nat) (neg : Bool) (u : ℝ) (k : Nat) : Prop :=
  let lo := ⌊u⌋₊
  let fr := u - lo
  let up : Prop :=
    match mode with
    | 1 => False
    | 2 => 0 < fr ∧ neg = false
    | 3 => 0 < fr ∧ neg = true
    | 4 => sr < ⌊fr * 2 ^ 24⌋₊
    | _ => 1 / 2 < fr ∨ fr = 1 / 2 ∧ lo % 2 = 1
  (up → k = lo + 1) ∧ (¬up → k = lo)

open Classical in
/-- A flag of 06 R145 that an operation sets under a condition. -/
noncomputable def flagWhen (c : Prop) (flag : Nat) : Nat := if c then flag else 0

open Classical in
/-- `EncodeResult` (06 R139) of an exact magnitude v > 0 with a sign: the code and the flags of its rounding to a format;
conv says that it is a conversion. -/
def EncodesTo (fp : FpMode) (f : Fmt) (mode : Nat) (conv : Bool) (sr : Nat) (neg : Bool) (v : ℝ) (r : Nat × Nat) : Prop :=
  let (w, m, _, emin) := formatRow f
  let high : ℝ := formatHigh f neg
  let q : Int := if f = .mi8 then -6 else max (Int.log 2 v) emin - m
  let tiny : Prop := v < 2 ^ emin
  let toNaN : Prop := fp.ovfnan = true ∧ (formatNaN f).isSome
  r.1 < 2 ^ w ∧
    if fp.ftz = true ∧ formatFlushes f = true ∧ tiny then Finite (decodeF f r.1) neg 0 ∧ r.2 = 3
    else
      ∃ k : Nat, RoundsTo mode sr neg (v / 2 ^ q) k ∧
        let y : ℝ := k * 2 ^ q
        let past : Prop := high < y
        r.2 = flagWhen (y ≠ v ∨ past ∧ conv = false) 1 + flagWhen tiny 2 + flagWhen past 4
            + flagWhen (past ∧ conv = true ∧ ¬toNaN) 32
          ∧ (¬past → Finite (decodeF f r.1) (neg && decide (f = .mi8 → y ≠ 0)) y)
          ∧ (past → conv = false →
              if mode = 1 ∨ mode = 2 ∧ neg = true ∨ mode = 3 ∧ neg = false then Finite (decodeF f r.1) neg high
              else decodeF f r.1 = .inf neg)
          ∧ (past → conv = true → if toNaN then some r.1 = formatNaN f else Finite (decodeF f r.1) neg high)

/-- `EncodeResult` (06 R139) of any exact value, times g > 0. -/
def Encodes (fp : FpMode) (f : Fmt) (mode : Nat) (conv : Bool) (sr : Nat) (g : ℝ) (x : Ex) (r : Nat × Nat) : Prop :=
  let w := (formatRow f).1
  (x = .nan → r = match formatNaN f with
      | some c => (c, 0)
      | none => (0, 16))
    ∧ (∀ neg, x = .inf neg →
        if formatInf f then r.1 < 2 ^ w ∧ decodeF f r.1 = .inf neg ∧ r.2 = 0
        else if fp.ovfnan = true ∧ (formatNaN f).isSome then some r.1 = formatNaN f ∧ r.2 = 0
        else r.1 < 2 ^ w ∧ Finite (decodeF f r.1) neg (formatHigh f neg) ∧ r.2 = 32)
    ∧ (∀ neg, Finite x neg 0 → r = (if neg = true ∧ f ≠ .mi8 then 2 ^ (w - 1) else 0, 0))
    ∧ ∀ neg v, Finite x neg v → 0 < v → EncodesTo fp f mode conv sr neg (v * g) r

/-- `ConvertToInt` (06 R130, R141) of an exact value to a type of w bits: the pattern and the flags. -/
def ConvertsTo (signed : Bool) (w mode sr : Nat) (x : Ex) (r : Nat × Nat) : Prop :=
  let lo : Int := if signed then -2 ^ (w - 1) else 0
  let hi : Int := if signed then 2 ^ (w - 1) - 1 else 2 ^ w - 1
  let pattern (i : Int) : Nat := (i % 2 ^ w).toNat
  (x = .nan → r = (0, 16))
    ∧ (∀ neg, x = .inf neg → r = (pattern (if neg then lo else hi), 32))
    ∧ ∀ neg v, Finite x neg v → ∃ k : Nat, RoundsTo mode sr neg v k ∧
        let y : Int := if neg then -k else k
        r = (pattern (max lo (min hi y)), flagWhen ((k : ℝ) ≠ v) 1 + flagWhen (hi < y ∨ y < lo) 32)

/-- An exact number z rounded once to `.f32`; an exact zero has the sign given for it. -/
def RoundedOnce (fp : FpMode) (mode : Nat) (zero : Bool) (z : ℝ) (r : Nat × Nat) : Prop :=
  (z = 0 → r = (if zero then 0x80000000 else 0, 0))
    ∧ (0 < z → EncodesTo fp .f32 mode false 0 false z r)
    ∧ (z < 0 → EncodesTo fp .f32 mode false 0 true (-z) r)

/-- A sum of two `.f32` values under IEEE 754, rounded by RNE with `ftz` 0 (06 R147): an exact zero is -0 only where both
operands are. -/
def SumsTo (x y : Ex) (r : Nat × Nat) : Prop :=
  (x = .nan ∨ y = .nan → r = (0x7FC00000, 0))
    ∧ (∀ n, (x = .inf n ∧ (y = .inf n ∨ ∃ z, Counts y z) ∨ y = .inf n ∧ ∃ z, Counts x z) →
        r = (if n then 0xFF800000 else 0x7F800000, 0))
    ∧ (∀ n, x = .inf n → y = .inf (!n) → r = (0x7FC00000, 16))
    ∧ ∀ a b, Counts x a → Counts y b →
        (∀ zero, (zero = true ↔ Finite x true 0 ∧ Finite y true 0) → RoundedOnce rneMode 0 zero (a + b) r)

/-- z is the exact sum of x and y under IEEE 754, and fl the flags that it sets; rdn where it rounds under RDN (07
R156). -/
def ExactSum (rdn : Bool) (x y z : Ex) (fl : Nat) : Prop :=
  (x = .nan ∨ y = .nan → z = .nan ∧ fl = 0)
    ∧ (∀ n, x = .inf n → y = .inf (!n) → z = .nan ∧ fl = 16)
    ∧ (∀ n, (x = .inf n ∧ (y = .inf n ∨ ∃ b, Counts y b) ∨ y = .inf n ∧ ∃ a, Counts x a) → z = .inf n ∧ fl = 0)
    ∧ ∀ a b, Counts x a → Counts y b → fl = 0 ∧ Counts z (a + b)
        ∧ ∀ zero, (zero = true ↔ Finite x true 0 ∧ Finite y true 0 ∨ rdn = true ∧ ¬(Finite x false 0 ∧ Finite y false 0)) →
          a + b = 0 → Finite z zero 0

/-- z is the exact product of x and y under IEEE 754, and fl the flags that it sets (07 R156). -/
def ExactProduct (x y z : Ex) (fl : Nat) : Prop :=
  let sized (w : Ex) (g : Bool) : Prop := w = .inf g ∨ ∃ v, 0 < v ∧ Finite w g v
  (x = .nan ∨ y = .nan → z = .nan ∧ fl = 0)
    ∧ (∀ n g, (x = .inf n ∧ Finite y g 0 ∨ y = .inf n ∧ Finite x g 0) → z = .nan ∧ fl = 16)
    ∧ (∀ n g, (x = .inf n ∧ sized y g ∨ y = .inf n ∧ sized x g) → z = .inf (n != g) ∧ fl = 0)
    ∧ ∀ n v g w, Finite x n v → Finite y g w → Finite z (n != g) (v * w) ∧ fl = 0

/-- z is x with its sign turned. -/
def Turned (x z : Ex) : Prop :=
  (x = .nan → z = .nan) ∧ (∀ n, x = .inf n → z = .inf (!n)) ∧ ∀ n v, Finite x n v → Finite z (!n) v

/-- An exact value, with flags set on the way to it, rounded once to a format under `fpmode`, whose mode 4 acts as RNE (07
R156): the code and the flags. -/
def RoundsOnceTo (fp : FpMode) (f : Fmt) (z : Ex) (fl : Nat) (r : Nat × Nat) : Prop :=
  ∃ q, Encodes fp f (if fp.rm = 4 then 0 else fp.rm) false 0 1 z q ∧ r = (q.1, q.2 ||| fl)

/-- The fused form a * b + c, or with the product or the addend turned, rounded once (07 R156; a NaN addend sets no flag:
log entry 66). -/
def FusedTo (fp : FpMode) (f : Fmt) (turnP turnC : Bool) (a b c : Ex) (r : Nat × Nat) : Prop :=
  (c = .nan → RoundsOnceTo fp f .nan 0 r)
    ∧ (c ≠ .nan → ∃ (p p' c' z : Ex) (f1 f2 : Nat), ExactProduct a b p f1
      ∧ (if turnP then Turned p p' else p' = p) ∧ (if turnC then Turned c c' else c' = c)
      ∧ ExactSum (decide (fp.rm = 3)) p' c' z f2 ∧ RoundsOnceTo fp f z (f1 ||| f2) r)

/-- The place of a value that is no NaN among the numbers and infinities. -/
def ValueIs (x : Ex) (v : EReal) : Prop :=
  x = .inf false ∧ v = ⊤ ∨ x = .inf true ∧ v = ⊥ ∨ ∃ z : ℝ, Counts x z ∧ v = z

/-- A predicate of 07 R157 on two values. -/
def Compares (p : Nat) (a c : Ex) : Prop :=
  if a = .nan ∨ c = .nan then p = 1 ∨ p = 4
  else ∃ x y : EReal, ValueIs a x ∧ ValueIs c y ∧
    match p with
    | 0 => x = y
    | 1 => x ≠ y
    | 2 => x < y
    | 3 => x ≤ y
    | 4 => False
    | 5 => True
    | 6 => y < x
    | _ => y ≤ x

/-- A code of a format that holds a value, with its sign. -/
def CodeOf (f : Fmt) (x : Ex) (code : Nat) : Prop :=
  code < 2 ^ (formatRow f).1 ∧ (∀ n, x = .inf n → decodeF f code = .inf n)
    ∧ ∀ n v, Finite x n v → Finite (decodeF f code) n v

/-- `min`, or `max`, of two values (07 R157): -0 is below +0. -/
def ExtremeOf (greater : Bool) (f : Fmt) (a c : Ex) (r : Nat × Nat) : Prop :=
  r.2 = 0 ∧ (a = .nan ∨ c = .nan → some r.1 = formatNaN f)
    ∧ (∀ x y : EReal, ValueIs a x → ValueIs c y →
      (x < y → CodeOf f (if greater then c else a) r.1) ∧ (y < x → CodeOf f (if greater then a else c) r.1)
        ∧ (x = y → x ≠ 0 → CodeOf f a r.1))
    ∧ ∀ n m, Finite a n 0 → Finite c m 0 → CodeOf f (.fin (if greater then n && m else n || m) 0 0) r.1

/-- The class of a code (07 R157). -/
def ClassIs (f : Fmt) (code k : Nat) : Prop :=
  let y := decodeF f code
  let least : ℝ := 2 ^ (formatRow f).2.2.2
  (y = .nan → k = 2 ^ 8) ∧ (∀ n, y = .inf n → k = if n then 2 ^ 0 else 2 ^ 7)
    ∧ ∀ n v, Finite y n v → (v = 0 → k = if n then 2 ^ 3 else 2 ^ 4)
      ∧ (0 < v → v < least → k = if n then 2 ^ 2 else 2 ^ 5) ∧ (least ≤ v → k = if n then 2 ^ 1 else 2 ^ 6)

/-- `BlockDot` (06 R146) of element pairs under two scales: the code and the flags. -/
def BlockSum (fp : FpMode) (mode sa sb : Nat) (ps : List (Ex × Ex)) (r : Nat × Nat) : Prop :=
  let invalid (p : Ex × Ex) : Prop :=
    ∃ n g, p.1 = .inf n ∧ Finite p.2 g 0 ∨ p.2 = .inf n ∧ Finite p.1 g 0
  let infinite (neg : Bool) : Prop :=
    ∃ p : Ex × Ex, p ∈ ps ∧ ¬invalid p ∧ p.1 ≠ .nan ∧ p.2 ≠ .nan ∧ (∃ n, p.1 = .inf n ∨ p.2 = .inf n)
      ∧ (p.1.isNeg != p.2.isNeg) = neg
  let inv : Prop := (∃ p ∈ ps, invalid p) ∨ infinite false ∧ infinite true
  let bad : Prop := inv ∨ ∃ p ∈ ps, p.1 = .nan ∨ p.2 = .nan
  if sa = 0xFF ∨ sb = 0xFF then r = (0x7FC00000, 256)
  else
    (bad → r = (0x7FC00000, flagWhen inv 16))
      ∧ (¬bad → infinite false → r = (0x7F800000, 0))
      ∧ (¬bad → infinite true → r = (0xFF800000, 0))
      ∧ ∀ zs : List ℝ, zs.length = ps.length →
          (∀ (i : Nat) (z : ℝ) (p : Ex × Ex), zs[i]? = some z → ps[i]? = some p → ∃ a b, Counts p.1 a ∧ Counts p.2 b ∧ z = a * b) →
          RoundedOnce fp mode false (zs.sum * 2 ^ ((sa : Int) + sb - 254)) r

/-- A quotient of two `.f32` values under IEEE 754 (08 R171): the code and the flags. -/
def QuotientTo (fp : FpMode) (mode : Nat) (x y : Ex) (r : Nat × Nat) : Prop :=
  let n := x.isNeg != y.isNeg
  let none' : Nat := if n then 0x80000000 else 0
  let inf : Nat := if n then 0xFF800000 else 0x7F800000
  (x = .nan ∨ y = .nan → r = (0x7FC00000, 0))
    ∧ (∀ a b, x = .inf a → y = .inf b → r = (0x7FC00000, 16))
    ∧ (∀ a g v, x = .inf a → Finite y g v → r = (inf, 0))
    ∧ (∀ a g v, Finite x g v → y = .inf a → r = (none', 0))
    ∧ (∀ g v h, Finite x g v → Finite y h 0 → r = if v = 0 then (0x7FC00000, 16) else (inf, 8))
    ∧ ∀ g v h w, Finite x g v → Finite y h w → 0 < w →
        (v = 0 → r = (none', 0)) ∧ (0 < v → EncodesTo fp .f32 mode false 0 n (v / w) r)

/-- A square root, or its inverse, of a `.f32` value under IEEE 754 (08 R171): the code and the flags. -/
def RootTo (inverse : Bool) (fp : FpMode) (mode : Nat) (x : Ex) (r : Nat × Nat) : Prop :=
  (x = .nan → r = (0x7FC00000, 0))
    ∧ (x = .inf false → r = (if inverse then 0 else 0x7F800000, 0))
    ∧ (x = .inf true → r = (0x7FC00000, 16))
    ∧ (∀ n, Finite x n 0 → r =
        if inverse then (if n then 0xFF800000 else 0x7F800000, 8) else (if n then 0x80000000 else 0, 0))
    ∧ (∀ v, 0 < v → Finite x true v → r = (0x7FC00000, 16))
    ∧ ∀ v, 0 < v → Finite x false v →
        EncodesTo fp .f32 mode false 0 false (if inverse then 1 / Real.sqrt v else Real.sqrt v) r

/-- `TreeNode` (06 R147) over the 2^d leaves from leaf lo on. -/
def treeNode {α : Type} (join : α → α → α) (l : List α) : Nat → Nat → Option α
  | 0, lo => l[lo]?
  | d + 1, lo =>
    if l.length ≤ lo + 2 ^ d then treeNode join l d lo
    else
      match treeNode join l d lo, treeNode join l d (lo + 2 ^ d) with
      | some a, some b => some (join a b)
      | _, _ => none

/-- The two roundings of 08 R172 of a magnitude v > 0 with a sign: to 27 bits, then to `.f32`. An exact result is NX only
where a rounding changes it. -/
def RoundsTwice (fp : FpMode) (exact neg : Bool) (v : ℝ) (r : Nat × Nat) : Prop :=
  let q : Int := max (Int.log 2 v) (-126) - 26
  ∃ (k : Nat) (fl : Nat), RoundsTo 0 0 false (v / 2 ^ q) k ∧
    let z : ℝ := k * 2 ^ q
    (z = 0 → r.1 = (if neg then 0x80000000 else 0) ∧ fl = 0)
      ∧ (0 < z → EncodesTo { fp with rm := 0 } .f32 0 false 0 neg z (r.1, fl))
      ∧ r.2 = fl ||| flagWhen (exact = false ∨ z ≠ v) 1 ||| flagWhen (v < 2 ^ (-126 : Int)) 2

/-- v stands for the magnitude y of a function value: both are so great, or both so small, that they round alike, or v is
within 2^-60 of y (08 R172, log entry 17). -/
def Near (small great : Int) (v y : ℝ) : Prop :=
  |v - y| ≤ y * 2 ^ (-60 : Int) ∨ v < 2 ^ small ∧ y < 2 ^ small ∨ (2 : ℝ) ^ great < v ∧ (2 : ℝ) ^ great < y

/-- The wide rounding of a number y ≥ 0 (08 R175). -/
def WideOf (y : ℝ) (r : Wide) : Prop :=
  (y = 0 → r = some (0, 0))
    ∧ (0 < y → ∃ k : Nat, let q : Int := Int.log 2 y - 23
        RoundsTo 0 0 false (y / 2 ^ q) k ∧
          let (sig, e) := if k = 2 ^ 24 then (2 ^ 23, q + 1 + 32790) else (k, q + 32790)
          r = if e < 1 then some (0, 0) else if 65535 < e then none else some (sig, e.toNat))

/-- The number of a wide value (08 R175). -/
def WideIs (r : Nat × Nat) (z : ℝ) : Prop := z = if r.2 = 0 then 0 else (r.1 : ℝ) * 2 ^ ((r.2 : Int) - 32790)

/-- The wide exponential of an input below 22,713 (08 R175): that of -infinity is 0. -/
def WideExp (x : Ex) (r : Wide) : Prop :=
  (x = .inf true → r = some (0, 0))
    ∧ ∀ z, Counts x z → ∃ y, 0 < y ∧ Near (-40000) 40000 y (Real.exp z) ∧ WideOf y r

/-- Whether an input belongs to the +infinity class (08 R175). -/
def Vast (x : Ex) : Prop := x = .inf false ∨ ∃ z, Counts x z ∧ 22713 ≤ z

/-- A row record in its lanes (08 R176). -/
def RecordIs (r : V1024) (sum : Wide) (cinf : Nat) (pres nan : Prop) : Prop :=
  let (sig, ew) := sum.getD (0xFFFFFF, 0xFFFF)
  r.toNat = sig + 2 ^ 32 * ew + 2 ^ 64 * min cinf (2 ^ 32 - 1)
    + 2 ^ 96 * (flagWhen nan 1 + flagWhen pres 2 + flagWhen (sum = none) 4)

/-! ## The matrix array (10 R204, R208, 11 R233 to R245) -/

/-- u is weight tile i of a member as a pass uses it: the header read at issue, and each byte as it stands or, where a
`tsw` copy has written its line since the issue, as such a copy found it, but not one whose token the command consumed
and that came before its arrival (11 R245, 16 R353); an uncorrectable error leaves no column. -/
def TileRead (s : State) (c : Nat) (x : MxCmd) (i : Nat) (u : TileUse) : Prop :=
  let t := x.tiles.getD i { addr := 0, hdr := 0#64 }
  let ch := s.chain c
  let size := 64 * whLen t.hdr
  u.hdr = t.hdr ∧ u.raw.length = size
    ∧ (∀ k < size, u.raw[k]? = some (memGet ch.wb (t.addr + k))
      ∨ ∃ o ∈ ch.wbOld, x.issued ≤ o.cyc
        ∧ (x.arrived ≤ o.cyc ∨ o.writer ≠ x.tile ∨ o.tok = 63 ∨ o.tok ∉ [x.h.toka.toNat, x.h.tokb.toNat, x.h.tokc.toNat])
        ∧ o.line = (t.addr + k) / 64
        ∧ u.raw[k]? = some (o.bytes.getD ((t.addr + k) % 64) 0#8))
    ∧ (u.lost = true ↔ ∃ k < size, 64 ≤ k ∧ spFind ch.wbMark ((t.addr + k) / 64) = some .lost)
    ∧ (u.lost = false → u.dec = decodeTile u.hdr u.raw)
    ∧ (u.lost = true → ∀ n, u.dec.cols.getD n none = none)

/-- v is the sum of block b of an A row and a column of a weight tile, in which it is block lb: `BlockDot` of the row's
elements and the column's weights under their scales, in the mode of the format context (10 R204, R208), or a NaN where
the column is in format error or the sequence numbers differ (11 R233, R234, R239). -/
def BlockIs (x : MxCmd) (a : ARow) (u : TileUse) (n b lb : Nat) (v : Nat × Nat) : Prop :=
  let af := (formats[bits x.fmt 0 4]?).getD .f32
  let bcode := bits x.fmt 4 4
  let bf := (formats[bcode]?).getD .f32
  let w := (formatRow af).1
  let field := bits x.fmt 10 3
  let rm := if field = 7 then x.fp.rm else if field ≤ 4 then field else 0
  let scaled := x.fmt.getLsbD 9
  let sa := if scaled = true ∧ formatFlushes af = false then bits a.side (32 + 8 * (x.acol / (4 * w) + b)) 8 else 127
  let sb := if scaled = true ∧ bcode ≠ 1 ∧ bits u.hdr 0 4 ≠ 1 then
    (u.raw.getD (64 + (bits u.hdr 8 3 + 1) * n + lb) 0#8).toNat else 127
  match u.dec.cols.getD n none with
  | none => v = (0x7FC00000, 0)
  | some ws =>
    if a.uncorr = true ∨ a.badSeq = true ∨ scaled = true ∧ bcode ≠ 1 ∧ bits u.hdr 48 16 ≠ bits u.hdr 32 16 then
      v = (0x7FC00000, 0)
    else
      BlockSum x.fp (if rm = 4 then 0 else rm) sa sb
        ((List.range 32).map fun i =>
          ((decodeF af (bits a.data (8 * x.acol + w * (32 * b + i)) w)).flush af x.fp.ftz,
            (decodeF bf ((ws.map (·.code)).getD (32 * lb + i) 0)).flush bf x.fp.ftz)) v

/-! ## Translation (17 R366 to R380) -/

/-- No line of HBM stands in a tile image or an open cairn, which have no layout (18 R419, log entry 14). -/
def LaidOut (s : State) : Prop := s.images = [] ∧ ∀ p ∈ s.tiles, p.2.cairn = none

/-- Whether HBM has a byte at an address, in a granule that is online or begins to drain in this very cycle
(17 R366, R367, R386, R387). -/
abbrev HbmAt (s : State) (pa : Nat) : Prop :=
  pa < 2 ^ 39 ∧ ((s.granule (pa / 2 ^ 30)).st = 0
      ∨ (s.granule (pa / 2 ^ 30)).st = 1 ∧ (s.granule (pa / 2 ^ 30)).drainAt = s.now)
    ∧ pa % 2 ^ 30 < (if (s.granule (pa / 2 ^ 30)).cls = 0 then 0x38000000
      else if (s.granule (pa / 2 ^ 30)).cls = 1 then 0x3E000000 else 0x40000000)

/-- The walk for a request from the table of a level at a frame, to a fault or to a leaf (17 R368 to R374). -/
def WalksTo (s : State) (q : XReq) : Nat → Nat → XFault ⊕ (W64 × W64) → Prop
  | lvl, tf, r =>
    let pa := tf * 4096 + 16 * (if lvl = 5 then q.va / 2 ^ 52 % 32 else q.va / 2 ^ (12 + 8 * lvl) % 256)
    let m := w64 (memNat s.hbm pa 8)
    let c := w64 (memNat s.hbm (pa + 8) 8)
    let size := bits m 58 4
    if ¬HbmAt s pa ∨ (s.granule (pa / 2 ^ 30)).cls ≠ 0 then r = .inl ⟨.pageflt, 0x4⟩
    else if tf ∈ s.hub.poison ∨ spFind s.hbmMark (pa / 64) = some .lost then r = .inl ⟨.ptpoison, 0x1⟩
    else if m.getLsbD 63 = false then r = .inl ⟨.pageflt, 0x2⟩
    else if m.getLsbD 62 = true then
      if size / 4 = lvl ∧ lvl ≤ 3 ∧ bits m 12 40 * 4096 % (4096 * 4 ^ size) = 0 ∧ bits m 0 6 = 0 ∧ bits c 48 16 = 0 then
        r = .inr (m, c)
      else r = .inl ⟨.pageflt, 0x3⟩
    else if bits m 52 10 ≠ 0 ∨ bits m 0 12 ≠ 0 ∨ c ≠ 0#64 then r = .inl ⟨.pageflt, 0x3⟩
    else
      match lvl with
      | 0 => r = .inl ⟨.pageflt, 0x3⟩
      | l + 1 => WalksTo s q l (bits m 12 40) r

/-- What a leaf answers a request: a fault, or the physical address and its key (17 R374). -/
def LeafAnswers (s : State) (q : XReq) (m c : W64) (size : Nat) (r : XFault ⊕ (Nat × Nat)) : Prop :=
  let pa := bits m 12 40 * 4096 + q.va % (4096 * 4 ^ size)
  let key := bits m 52 6
  let cls := (s.granule (pa / 2 ^ 30)).cls
  if q.tile < 1728 ∧ c.getLsbD (q.tile / 36) = false then r = .inl ⟨.perm, 0x3⟩
  else if m.getLsbD (if q.kind = 0 then 7 else if q.kind = 1 then 8 else 9) = false then r = .inl ⟨.perm, 0x1⟩
  else if m.getLsbD 6 = false ∧ q.sys = false then r = .inl ⟨.perm, 0x2⟩
  else if q.keyperm.getLsbD key = false ∨ (s.hubRg 0x064).getLsbD key = false then r = .inl ⟨.perm, 0x4⟩
  else if ¬(2 ^ 51 ≤ pa ∧ pa < 2 ^ 52) ∧ ¬HbmAt s pa then r = .inl ⟨.pageflt, 0x5⟩
  else if pa < 2 ^ 39 ∧ q.clsfloor < cls then r = .inl ⟨.classdeny, 0x1⟩
  else if q.kind = 1 ∧ m.getLsbD 10 = true ∧ pa < 2 ^ 39 ∧ cls ≠ 0 then r = .inl ⟨.classdeny, 0x2⟩
  else r = .inr (pa, key)

/-- The pointers that the walk cache of a request's furlong holds for it (17 R376, R377). -/
def PointerFor (s : State) (q : XReq) (w : WalkEntry) : Prop :=
  w ∈ (s.furlong (xFurlong q.tile)).walk ∧ w.asid = bits q.ptbase 48 16 ∧ w.gen = bits q.ptbase 40 8
    ∧ q.va / 2 ^ (20 + 8 * w.level) = w.vbase

/-- The leaves a request may find: one that a TLB holds for it, or that of a walk, its own or an earlier one in its
page, from the root or from a cached pointer (17 R374, R376, R377). -/
def LeafFor (s : State) (q : XReq) (m c : W64) (size : Nat) : Prop :=
  (∃ e : TlbEntry, (e ∈ (if q.kind = 2 then (s.tile q.tile).itlb else (s.tile q.tile).dtlb)
      ∨ e ∈ (s.furlong (xFurlong q.tile)).tlb)
    ∧ q.va / (4096 * 4 ^ e.size) = e.vbase ∧ (e.glob = true ∨ e.asid = bits q.ptbase 48 16 ∧ e.gen = bits q.ptbase 40 8)
    ∧ e.main = m ∧ e.comp = c ∧ e.size = size)
  ∨ size = bits m 58 4 ∧ ∃ va, va / (4096 * 4 ^ size) = q.va / (4096 * 4 ^ size) ∧
      let p := { q with va := va }
      (WalksTo s p 5 (bits q.ptbase 0 40) (.inr (m, c))
        ∨ ∃ w, PointerFor s p w ∧ WalksTo s p w.level w.frame (.inr (m, c)))

/-- Translation of a request (17 R374, R376, R377, R393). -/
def Translates (s : State) (q : XReq) (r : XFault ⊕ (Nat × Nat)) : Prop :=
  if 2 ^ 57 ≤ q.va then r = .inl ⟨.pageflt, 0x1⟩
  else
    (∃ m c size, LeafFor s q m c size ∧ LeafAnswers s q m c size r)
      ∨ ∃ f, r = .inl f ∧ (WalksTo s q 5 (bits q.ptbase 0 40) (.inl f)
        ∨ ∃ w, PointerFor s q w ∧ (w.poison = true ∧ f = ⟨.ptpoison, 0x1⟩ ∨ WalksTo s q w.level w.frame (.inl f)))

/-- ps are the pages of an endpoint of a copy's element at address a, each as it is translated (13 R285, 17 R373). -/
def PagesOf (s : State) (n : Nat) (x : Copy) (kind a : Nat) (ps : List XPage) : Prop :=
  ps.length = (a + x.size - 1) / 4096 + 1 - a / 4096 ∧ ∀ (i : Nat) (p : XPage), ps[i]? = some p →
    let va := max a ((a / 4096 + i) * 4096)
    ∃ pa key, Translates s (x.req n va kind) (.inr (pa, key)) ∧ p.vpage = va / 4096 ∧ p.pa = pa - va % 4096 ∧ p.key = key

/-- A byte of physical memory as key `key` shows it (17 R366, R381). -/
def physByte (s : State) (key pa : Nat) : Byte :=
  if key = 0 then (if pa < 2 ^ 39 then memGet s.hbm pa else memGet s.host (pa - 2 ^ 51))
  else BitVec.ofNat 8 (bits (Aes.decipherLine (spGet 0#512 s.hub.keys key) (pa / 64) (s.lineRaw pa)) (8 * (pa % 64)) 8)

/-- Physical memory with w bytes from an address, of one line, written under a key: the line holds, as the key shows it,
the new bytes and its old ones; no other line changes (17 R366, R381). -/
def PhysWritten (s t : State) (key pa : Nat) (bs : List Byte) : Prop :=
  let line := pa / 64 * 64
  let new (i : Nat) : Byte := match bs[i - pa % 64]? with
    | some b => if pa % 64 ≤ i then b else physByte s key (line + i)
    | none => physByte s key (line + i)
  (∀ v : BitVec 512, (∀ i < 64, bits v (8 * i) 8 = (new i).toNat) →
      t.lineRaw pa = if key = 0 then v else Aes.cipherLine (spGet 0#512 s.hub.keys key) (pa / 64) v)
    ∧ (pa < 2 ^ 39 → t.host = s.host ∧ ∀ a, a / 64 ≠ pa / 64 → memGet t.hbm a = memGet s.hbm a)
    ∧ (2 ^ 51 ≤ pa → t.hbm = s.hbm ∧ ∀ a, (2 ^ 51 + a) / 64 ≠ pa / 64 → memGet t.host a = memGet s.host a)

/-! ## Results in flight -/

/-- The results of a tile that are to come, with the cycles that h gives them, once a later trigger of their locked
socket lands in cycle due: none of the socket lands later than it would have, all land before that trigger's, and they
keep their order; the others stay (03 R60). -/
def Hastened (s t : State) (n : Nat) (so : Sock) (due : Nat) (h : Flight → Option Nat) : Prop :=
  let u := s.tile n
  (∀ f ∈ u.flights, (f.so ≠ so ∨ f.locked = false) → h f = f.due)
  ∧ (∀ f ∈ u.flights, f.due = none → h f = none)
  ∧ (∀ f ∈ u.flights, f.so = so → f.locked = true → ∀ c, f.due = some c →
      ∃ d, h f = some d ∧ d ≤ c ∧ d < due ∧ (d ≠ c → s.now ≤ d
        ∧ ({ cyc := d, prio := prioLand, ins := .resultLands n so f.po } : Agenda) ∈ t.agenda))
  ∧ (∀ f ∈ u.flights, ∀ g ∈ u.flights, f.so = so → f.locked = true → g.so = so → g.locked = true →
      ∀ a b a' b', f.due = some a → g.due = some b → a ≤ b → h f = some a' → h g = some b' → a' ≤ b')

/-- From s to t, the trigger in hand puts results in flight that land together: in exactly lat cycles where its socket
is free-running, within lat cycles and after the socket's earlier results where it is data-locked, for which those of
them that were to come later come sooner (03 R59, R60). Nothing else comes into flight. -/
def Lands (s t : State) (so : Sock) (lat : Nat) (vs : List (Port × V1024)) (flags : Nat) : Prop :=
  let n := s.hand.tile
  let u := s.tile n
  ∃ (due : Nat) (h : Flight → Option Nat),
    (t.tile n).flights = u.flights.map (fun f => { f with due := h f }) ++ vs.mapIdx (fun i (p : Port × V1024) =>
      ({ id := u.nextId + i, so := so, po := p.1, ctx := s.hand.ctx, locked := u.lockedMode so, due := some due, val := p.2
         flags := if i = 0 then flags else 0, far := none, ready := none, err := none, errAux := 0#64, errAt := none
         raised := false } : Flight))
    ∧ (∀ m, m ≠ n → (t.tile m).flights = (s.tile m).flights)
    ∧ (∀ p ∈ vs, ({ cyc := due, prio := prioLand, ins := .resultLands n so p.1 } : Agenda) ∈ t.agenda)
    ∧ (u.lockedMode so = false → due = s.now + lat ∧ ∀ f ∈ u.flights, h f = f.due)
    ∧ (u.lockedMode so = true → s.now < due ∧ due ≤ s.now + lat ∧ Hastened s t n so due h)

/-- Step i answers a next state, in which its results vs are in flight from its socket and all else is unchanged. -/
def Yields (i : Instr) (s : State) (so : Sock) (lat : Nat) (vs : List (Port × V1024)) (flags : Nat) : Prop :=
  ∃ t, exec i s = .next t ∧ Lands s t so lat vs flags ∧ Unchanged s t

/-- Step i lands, lat cycles on, a value of elements of w bits in `.r` and its flag word in `.f`: element j is the first
part of f j where the lane mask has the element's lane, and 0 elsewhere, and the flags are those of the unmasked elements.
All else is unchanged (07 R151, R154). -/
def YieldsElements (i : Instr) (s : State) (so : Sock) (lat w : Nat) (f : Nat → Nat × Nat) : Prop :=
  let live (j : Nat) : Bool := (s.mask so).testBit (w * j / 32)
  ∃ (r : V1024) (fl : Nat),
    (∀ j < 1024 / w, bits r (w * j) w = if live j then (f j).1 % 2 ^ w else 0)
    ∧ (∀ b, fl.testBit b = true ↔ ∃ j < 1024 / w, live j = true ∧ (f j).2.testBit b = true)
    ∧ Yields i s so lat [(.r, r), (.f, BitVec.ofNat 1024 fl)] fl

/-- Step i lands one 64-bit result in `.r`, lat cycles on, and changes nothing else. -/
def Yields64 (i : Instr) (s : State) (so : Sock) (lat : Nat) (v : W64) : Prop := Yields i s so lat [(.r, wide v)] 0

/-! ## Registers (18 R403, R438) -/

/-- v is what context k of tile n reads of a register: the register as it stands, or, of a confidential tile that is not
its own and that it is not privileged to see, 0, with the trap record cut to its class (18 R403, R438). -/
def Reads (s : State) (n : Nat) (k : Ctx) (x : RegRef) (v : W64) : Prop :=
  let r := x.num
  let c := s.ctx x.tile x.ctx
  let hidden : Prop := n ≠ waymark ∧ (s.tile x.tile).confidential = true ∧ ¬(n = x.tile ∧ (s.ctx n k).conf = true)
  (¬hidden →
    (isCtxNum r = true → r ∉ [0x02C, 0x074, 0x07A] → v = c.cr r)
      ∧ (isTileNum r = true → r ≠ 0x026 → r ≠ 0x079 → ¬(0x1C0 ≤ r ∧ r < 0x200) → v = (s.tile x.tile).rg r)
      ∧ (r = 0x026 → v = w64 s.now)
      ∧ (r = 0x034 → v = if x.tile < 1728 then (s.chain (x.tile / 9)).mxcheck else 0#64)
      ∧ (r = 0x035 → v = if x.tile < 1728 then (s.chain (x.tile / 9)).tserr else 0#64)
      ∧ ∀ j < 4, r = 0x070 + j → v = if x.tile < 1728 then (s.chain (4 * (x.tile / 36) + j)).word else 0#64)
    ∧ (isDeviceNum r = true → r ≠ 0x055 → v = s.hubRg r)
    ∧ (hidden → isCtxNum r = true → r ≠ 0x075 → v = 0#64)
    ∧ (hidden → r ∈ [0x031, 0x035, 0x03A, 0x03B, 0x07C] ∨ 0x800 ≤ r ∧ r < 0x1000 → v = 0#64)
    ∧ (hidden → r = 0x075 → v = w64 ((if (c.cr r).getLsbD 63 then 2 ^ 63 else 0) + causeClass (bits (c.cr r) 54 6)))

/-! ## Packets on their way (14 R296, R304, R305) -/

/-- The part sends a packet: for a tile of this device its arrival there is fixed to a later cycle; for another device
it stands whole at the output of the port that the packets for that device take, while it is not dead, else at that of a
trained port, which they take from then on (14 R296). -/
def Sent (s t : State) (p : Packet) : Prop :=
  (p.ddev.toNat = s.deviceId → ∀ n, s.destTile p.dtile.toNat = some n →
      ∃ cyc prio, s.now < cyc ∧ ({ cyc := cyc, prio := prio, ins := arrivalOf n p } : Agenda) ∈ t.agenda)
    ∧ (p.ddev.toNat ≠ s.deviceId → p.ddev.toNat ≤ maxDevice →
      let way (l : Nat) : Prop := spFind s.hub.paths p.ddev.toNat = some l ∧ (s.link l).dead = false
      (∀ l, way l → Sending.whole p ∈ (t.link l).outq)
        ∧ ((∀ l, ¬way l) → s.upPorts ≠ [] →
          ∃ l ∈ s.upPorts, Sending.whole p ∈ (t.link l).outq ∧ spFind t.hub.paths p.ddev.toNat = some l))

/-- A packet that may be returned goes back to its source with a reason, under its tag and size; a message, a request and a
request without reply with their payload where it was held whole (14 R303 to R305). -/
def Returned (s t : State) (p : Packet) (why : Nat) (whole : Bool := true) : Prop :=
  p.cls ≠ 3#2 → p.ptype.toNat ∉ [2, 6, 7] → ∃ q : Packet, Sent s t q ∧ q.ptype = 2#4 ∧ q.cls = 2#2 ∧ q.vc = 1#1
    ∧ q.ddev = p.sdev ∧ q.dtile = p.stile ∧ q.sdev = p.ddev ∧ q.stile = p.dtile ∧ q.reason.toNat = why % 128
    ∧ q.tag = p.tag ∧ q.nbm = p.nbm
    ∧ q.npay = (if whole = true ∧ p.ptype.toNat ∈ [1, 4, 5] then p.npay else 0#3)
    ∧ q.payload = (if whole = true ∧ p.ptype.toNat ∈ [1, 4, 5] then p.payload else 0#1024)

/-- A packet enters the tile whose input it has reached: none of its class and VC stands there before it, waiting or let go
by the input and not yet in, or the input has let it go (14 R296, R307). -/
def Enters (s : State) (n : Nat) (p : Packet) : Prop :=
  p ∈ (s.tile n).net.passing
    ∨ ∀ q ∈ (s.tile n).net.waiting ++ (s.tile n).net.passing, ¬(q.cls = p.cls ∧ q.vc = p.vc)

/-- The hold of an arrival has ended: the first message that waits at the input is held now, or none is (14 R307). -/
def HoldEnded (s t : State) (n : Nat) : Prop :=
  let next := (s.tile n).net.waiting.find? fun q => decide (q.ptype = 1#4)
  (next = none → (t.tile n).net.held = none)
    ∧ ∀ q, next = some q → (∃ a, (t.tile n).net.held = some (s.now, a, q))
      ∧ ({ cyc := s.now + 4096, prio := prioDeliver, ins := .heldArrivalTimeout n } : Agenda) ∈ t.agenda

/-- It stands behind them: where some of them wait, it waits; where all have been let go, it follows them in the next
cycle. -/
def WaitsAtInput (s t : State) (n : Nat) (p : Packet) : Prop :=
  let x := (s.tile n).net
  ((∃ q ∈ x.waiting, q.cls = p.cls ∧ q.vc = p.vc) → (t.tile n).net = { x with waiting := x.waiting ++ [p] })
    ∧ ((∀ q ∈ x.waiting, ¬(q.cls = p.cls ∧ q.vc = p.vc)) → (t.tile n).net = { x with passing := x.passing ++ [p] }
      ∧ ({ cyc := s.now + 1, prio := prioDeliver, ins := arrivalOf n p } : Agenda) ∈ t.agenda)
    ∧ (t.tile n).sems = (s.tile n).sems ∧ (t.tile n).srcs = (s.tile n).srcs ∧ (t.tile n).remoteQ = (s.tile n).remoteQ
    ∧ SameContexts s t ∧ SameMemory s t ∧ SameDevice s t

/-! ## Steps and causes to come -/

/-- A step fixed to a cycle and its place in it. -/
def Fixed (t : State) (cyc prio : Nat) (i : Instr) : Prop := { cyc := cyc, prio := prio, ins := i } ∈ t.agenda

/-- Some steps in turn lead from s to t. -/
def Steps : List Instr → State → State → Prop
  | [], s, t => s = t
  | i :: l, s, t => ∃ u, exec i s = .next u ∧ Steps l u t

/-- An update of the cycle after s, under its number. -/
def NextCycle (s t : State) (n : Nat) (k : Ctx) (num : Nat) (v : W64) : Prop :=
  Fixed t (s.now + 1) prioUpdate (.registerWrite { tile := n, ctx := k, num := num } v)

/-- Token p of tile n, where it names one, is done from the cycle after s. -/
def TokenReturns (s t : State) (n p : Nat) : Prop := p ≠ 63 → NextCycle s t n .k0 updTokDone (w64 (p + 2 ^ 8))

/-- A cause that an engine command raises now. -/
def engineDue (now : Nat) (urgent : Bool) (c : Cause) (detail : Nat) : Due :=
  { at' := now, urgent := urgent, what := { cause := c, slot := 15, detail := detail, aux := 0#64, eng := false } }

/-- The trigger in hand has a `sem` result r with status st in flight, ready two cycles on; it lands then, or right
after the last result of the socket, where none before it is still to come (12 R255). -/
def SemLands (s t : State) (r : W64) (st : Nat) : Prop :=
  let n := s.hand.tile
  let u := s.tile n
  let f (i : Nat) (po : Port) (v : W64) (due : Option Nat) : Flight :=
    { id := u.nextId + i, so := .sem, po := po, ctx := s.hand.ctx, locked := true, due := due, val := wide v, flags := 0
      far := none, ready := some (s.now + 2), err := none, errAux := 0#64, errAt := none, raised := false }
  let d := max (s.now + 2) (u.semLast + 1)
  (∃ due, f 0 .r r due ∈ (t.tile n).flights) ∧ (∃ due, f 1 .f (w64 st) due ∈ (t.tile n).flights)
    ∧ ((∀ e ∈ u.flights, e.so = .sem → e.po = .r → e.due.isSome = true) →
      f 0 .r r (some d) ∈ (t.tile n).flights ∧ f 1 .f (w64 st) (some d) ∈ (t.tile n).flights
        ∧ Fixed t d prioLand (.resultLands n .sem .r) ∧ Fixed t d prioLand (.resultLands n .sem .f))

end Sys2Proof.Machine
end

