-- ==== Sys2Proof/WellFormed.lean ====
section
/-! DEFINITION. Well-formed steps: the numbers a step names are numbers the part has, a word passes the checks of 02 R43
for its context, and a header does not consume the token it produces (02 R33). -/

namespace Sys2Proof

/-- A tile the part has: 1,728 physical ones and the waymark tile (01 R12, R18). -/
def tileOk (n : Nat) : Bool := decide (n < 1728) || n = 0x7FF

/-- A header names no token both as produced and as consumed (02 R33). -/
def hdrOk (h : Hdr) : Bool := h.tokp = 63#6 || !(h.tokp = h.toka || h.tokp = h.tokb || h.tokp = h.tokc)

/-- A group of a milestone level: chains, furlongs, leagues, the device, the domain; the waymark tile is alone at the
levels of the die (15 R324, 01 R10, R18). -/
def groupOk (gr : Group) : Bool :=
  match gr.lvl with
  | 0 => decide (gr.idx < 192) || gr.idx = 0x7FF
  | 1 => decide (gr.idx < 48) || gr.idx = 0x7FF
  | 2 => decide (gr.idx < 4) || gr.idx = 0x7FF
  | 3 => gr.idx = 0 || gr.idx = 0x7FF
  | 4 => gr.idx = 0
  | _ => false

/-- A tile or a fabric port. -/
def beaterOk (b : Beater) : Bool :=
  match b with
  | .tile n => tileOk n
  | .port l => decide (l < 32)

/-- A well-formed step. -/
def Instr.wf (i : Instr) : Bool :=
  match i with
  | .transportWord n k w => tileOk n && (wordCheck k w).isNone
  | .throttledCycle n => tileOk n
  | .displacement n _ => tileOk n
  | .resultLands n so po => tileOk n && hasPort so po
  | .entryFire n e => tileOk n && decide (e < 64)
  | .routineRetired n _ => tileOk n
  | .watchdog n _ => tileOk n
  | .waitunsatList n => tileOk n
  | .ballastStart n => tileOk n
  | .interruptEntry n _ => tileOk n
  | .aluAdd _ => true
  | .aluSub _ _ => true
  | .aluAddc _ => true
  | .aluSubb _ _ => true
  | .aluAddsS64 _ => true
  | .aluAddsN64 _ => true
  | .aluSubsS64 _ _ => true
  | .aluSubsN64 _ _ => true
  | .aluAnd _ => true
  | .aluOr _ => true
  | .aluXor _ => true
  | .aluAndn _ _ => true
  | .aluShl _ _ => true
  | .aluShrN64 _ _ => true
  | .aluShrS64 _ _ => true
  | .aluRol _ _ => true
  | .aluRor _ _ => true
  | .aluCeq _ => true
  | .aluCne _ => true
  | .aluCltS64 _ _ => true
  | .aluCltN64 _ _ => true
  | .aluCleS64 _ _ => true
  | .aluCleN64 _ _ => true
  | .aluMinS64 _ => true
  | .aluMinN64 _ => true
  | .aluMaxS64 _ => true
  | .aluMaxN64 _ => true
  | .aluSel _ _ => true
  | .aluAbsS64 _ => true
  | .aluPass _ => true
  | .aluPopc _ => true
  | .aluClz _ => true
  | .aluCtz _ => true
  | .aluBfxS64 _ => true
  | .aluBfxN64 _ => true
  | .aluBfi _ => true
  | .gpack _ => true
  | .gset _ _ => true
  | .kfill _ => true
  | .klow _ => true
  | .khigh _ => true
  | .divS64 _ => true
  | .divN64 _ => true
  | .vfaAdd _ => true
  | .vfaSub _ _ => true
  | .vfaMul _ => true
  | .vfaFma _ _ => true
  | .vfaFms _ _ => true
  | .vfaFnma _ _ => true
  | .vfaFnms _ _ => true
  | .vfaMin _ => true
  | .vfaMax _ => true
  | .vfaCmp _ _ => true
  | .vfaClass _ => true
  | .vfaScale _ _ => true
  | .vfbIadd _ => true
  | .vfbIsub _ _ => true
  | .vfbImul _ => true
  | .vfbIadds _ => true
  | .vfbIminS _ => true
  | .vfbImaxS _ => true
  | .vfbIminN _ => true
  | .vfbImaxN _ => true
  | .vfbBsel _ => true
  | .vfbShlN32 _ => true
  | .vfbShrN32 _ => true
  | .vfbShrS32 _ => true
  | .vfbIcmpS32 _ => true
  | .vfbIcmpN32 _ => true
  | .slideup _ => true
  | .slidedn _ => true
  | .vfbFmaF32 _ => true
  | .vfbFmsF32 _ => true
  | .vfbFnmaF32 _ => true
  | .vfbFnmsF32 _ => true
  | .ldN8 _ => true
  | .ldN16 _ => true
  | .ldN32 _ => true
  | .ldX64 _ => true
  | .ldS8 _ => true
  | .ldS16 _ => true
  | .ldS32 _ => true
  | .ldB128 _ => true
  | .ldB256 _ => true
  | .ldB512 _ => true
  | .ldB1024 _ => true
  | .ldM1024 _ => true
  | .ldSd32 _ => true
  | .ldFl64 _ => true
  | .ldFl1024 _ => true
  | .stB8 _ => true
  | .stB16 _ => true
  | .stB32 _ => true
  | .stB64 _ => true
  | .stB128 _ => true
  | .stB256 _ => true
  | .stB512 _ => true
  | .stB1024 _ => true
  | .stM1024 _ => true
  | .stSd32 _ => true
  | .sramBankAccess n q _ _ => tileOk n && decide (q < 8)
  | .sramCorrectedRewrite n bank row half => tileOk n && decide (bank < 8 ∧ row < 384 ∧ half < 2)
  | .sramcfgWrite n _ => tileOk n
  | .classRewriteEnd n => tileOk n
  | .mxMm h => hdrOk h
  | .mxGang h => hdrOk h
  | .mxSeq h => hdrOk h
  | .mxGseq h => hdrOk h
  | .mxTadd h => hdrOk h
  | .mxDrain h => hdrOk h
  | .mxTcsave h => hdrOk h
  | .mxCommandStart n => tileOk n
  | .mxGangStart c => decide (c < 192)
  | .mxPassRowAccess c _ _ _ _ => decide (c < 192)
  | .mxCommandComplete c _ => decide (c < 192)
  | .mxDrainDone n => tileOk n
  | .mxTcsaveWrite n => tileOk n
  | .tswStart n => tileOk n
  | .tswUnitAccess n _ => tileOk n
  | .tswComplete n => tileOk n
  | .semReleaseAct n _ => tileOk n
  | .semRemoteArrival n _ => tileOk n
  | .semRemoteAct n => tileOk n
  | .semReplyArrival n _ => tileOk n
  | .synTimer h => hdrOk h
  | .synDelay h => hdrOk h
  | .synGbar h => hdrOk h
  | .synJoin h => hdrOk h
  | .synCommandDone n _ => tileOk n
  | .ceCopy h => hdrOk h
  | .ceXcopy h => hdrOk h
  | .ceFill h => hdrOk h
  | .cePlace h => hdrOk h
  | .ceCode h => hdrOk h
  | .ceCommandStart n => tileOk n
  | .ceElementMove n _ => tileOk n
  | .ceCommandComplete n => tileOk n
  | .ceSuspend n => tileOk n
  | .packetInject n _ => tileOk n
  | .exchangeDelivery n _ _ => tileOk n
  | .messageDelivery n _ => tileOk n
  | .k2Wake n => tileOk n
  | .heldArrivalTimeout n => tileOk n
  | .remoteStoreWrite n _ _ => tileOk n
  | .storeAcknowledgement n _ => tileOk n
  | .flitReceive l _ => decide (l < 32)
  | .idle l _ _ => decide (l < 32)
  | .ack l _ _ => decide (l < 32)
  | .nak l _ _ => decide (l < 32)
  | .outputFlitSelect l => decide (l < 32)
  | .truncationTimeout l cls _ => decide (l < 32) && decide (cls ≠ 0#2)
  | .linkDown l => decide (l < 32)
  | .linkDead l => decide (l < 32)
  | .fabricPortTrain l lanes _ _ => decide (l < 32) && decide (lanes < 256)
  | .milestoneArrive n => tileOk n
  | .milestoneRelease gr => groupOk gr
  | .milestoneArrivePacket _ => true
  | .milestoneReleasePacket _ => true
  | .milestoneFailPacket _ => true
  | .domainStart _ => true
  | .milestoneTimeout gr => groupOk gr
  | .stepctlWrite n _ => tileOk n
  | .paceadj _ => true
  | .heartbeatSend b => beaterOk b
  | .heartbeatReceive b _ => beaterOk b
  | .heartbeatMiss b => beaterOk b
  | .fenceW lv => decide (lv < 6)
  | .fenceRw lv => decide (lv < 6)
  | .fenceComplete n _ => tileOk n
  | .csrresWritten n _ _ => tileOk n
  | .registerWrite r _ => tileOk r.tile
  | .hubRegisterAccessDone n _ _ => tileOk n
  | .chainWordWrite c _ => decide (c < 192)
  | .svcaddrWrite n _ => tileOk n
  | .mxcheckWrite c _ => decide (c < 192)
  | .tileQuiet n => tileOk n
  | .pairIntervalClose n _ => tileOk n
  | .pairCompare n _ => tileOk n
  | .mwaitWake _ why => decide (why < 3)
  | .tlbinvComplete n _ => tileOk n
  | .granuleDrained gn => decide (gn < 512)
  | .conversionEnd gn => decide (gn < 512)
  | .scrub line => decide (line < 2 ^ 33)
  | .trapTake n _ => tileOk n
  | .trapq n _ _ => tileOk n
  | .debugTransition n => tileOk n
  | .debugStop n => tileOk n
  | .traceRecordStore n => tileOk n
  | .digestReset l => decide (l < 32)
  | .getVersion _ => true
  | .getCapabilities _ => true
  | .negotiateAlgorithms _ => true
  | .getDigests _ => true
  | .getCertificate _ => true
  | .challenge _ => true
  | .getMeasurements _ => true
  | .hostRead addr => decide (addr < 2 ^ 52 + 256)
  | .hostWrite addr _ => decide (addr < 2 ^ 52 + 256)
  | .hostreq _ => true
  | .launch rec => decide (rec < 2 ^ 32)
  | .keyLoad rec => decide (rec < 2 ^ 32)
  | .granuleRelease rec => decide (rec < 2 ^ 32)
  | .sensorLatch readings => decide (readings.length = 44)
  | .thctlWrite _ => true
  | .powerMeterUpdate _ => true
  | .xlresWritten n _ _ => tileOk n
  | .ctlJmp => true
  | .ctlJmpr => true
  | .ctlCall => true
  | .ctlRet => true
  | .ctlLoop => true
  | .ctlLdim => true
  | .ctlLidx => true
  | .ctlLexit => true
  | .ctlRetire => true
  | .ctlYield => true
  | .ctlTrap => true
  | .ctlUret => true
  | .ctlWtok => true
  | .ctlWcyc => true
  | .ctlQadd => true
  | .ctlQread => true
  | .ctlWhere => true
  | .ctlHset => true
  | .mulS64 => true
  | .mulN64 => true
  | .madS64 => true
  | .madN64 => true
  | .mulS32 => true
  | .mulN32 => true
  | .mulrS64 => true
  | .aguPstr => true
  | .aguPwin => true
  | .aguPreg => true
  | .aguPget => true
  | .aguPadv => true
  | .aguPpeek => true
  | .aguPcopy => true
  | .aguRchk => true
  | .aguRassert => true
  | .aguRget => true
  | .aguLea => true
  | .vfaBdot => true
  | .vfbAnd => true
  | .vfbOr => true
  | .vfbXor => true
  | .kpack => true
  | .sbcast => true
  | .lbcast => true
  | .perm => true
  | .cvt => true
  | .mxpack => true
  | .mxunpack => true
  | .rsumF32 => true
  | .rmaxF32 => true
  | .rminF32 => true
  | .rsumS32 => true
  | .recipF32 => true
  | .divF32 => true
  | .sqrtF32 => true
  | .rsqrtF32 => true
  | .expF32 => true
  | .exp2F32 => true
  | .logF32 => true
  | .log2F32 => true
  | .tanhF32 => true
  | .sigmoidF32 => true
  | .geluF32 => true
  | .rsumdF32 => true
  | .rmeanF32 => true
  | .rvarF32 => true
  | .smexpF32 => true
  | .smadd => true
  | .smoutF32 => true
  | .fset => true
  | .fget => true
  | .tcread => true
  | .tcclr => true
  | .chkrd => true
  | .chkclr => true
  | .dur => true
  | .mxStat => true
  | .tsin => true
  | .tsout => true
  | .tscopy => true
  | .tsfill => true
  | .scin => true
  | .scout => true
  | .wbin => true
  | .wbout => true
  | .semTake => true
  | .semPut => true
  | .semLd => true
  | .semSt => true
  | .semAdd => true
  | .semAnd => true
  | .semOr => true
  | .semMaxS64 => true
  | .semMaxN64 => true
  | .semMinS64 => true
  | .semMinN64 => true
  | .semCas => true
  | .semWadd => true
  | .semQlen => true
  | .semSrcrd => true
  | .semSrcdrop => true
  | .tpend => true
  | .tdone => true
  | .tstat => true
  | .tmap => true
  | .pace => true
  | .pacefx => true
  | .wtime => true
  | .synMstat => true
  | .xcyc => true
  | .bstat => true
  | .ceStat => true
  | .ceProg => true
  | .ceLast => true
  | .ceAbort => true
  | .nsSend => true
  | .nsRst => true
  | .nsRatom => true
  | .nsXsend => true
  | .nsRecv => true
  | .nsPeek => true
  | .nsRelease => true
  | .nsStat => true
  | .nsLast => true
  | .nsSpill => true
  | .nsLback => true
  | .nsReject => true
  | .nsOvclr => true
  | .csrr => true
  | .csrw => true
  | .xcsrr => true
  | .xcsrw => true
  | .tctlFreeze => true
  | .tctlResume => true
  | .tctlHalt => true
  | .tctlUnhalt => true
  | .tctlSave => true
  | .tctlRestore => true
  | .tctlResumeContext => true
  | .tctlKillContext => true
  | .tctlClearContext => true
  | .tctlRollback => true
  | .pairon => true
  | .pairoff => true
  | .mwait => true
  | .tlbprobe => true
  | .tlbinvAddress => true
  | .tlbinvAsid => true
  | .tlbinvGlobal => true
  | .tlbinvAll => true
  | .gctlOffline => true
  | .gctlOnline => true
  | .gctlConvert => true
  | .gstat => true
  | .ptclr => true
  | .linkCountSample => true
  | .deviceReset => true

end Sys2Proof
end

