-- ==== Sys2Proof/Certificates/Slice0/Obligations.lean ====
section
/-!
DEFINITION. The statements for the provers.
-/

open Sys2Proof Sys2Proof.Machine

/-! ## Integer units (05, 03 R70 to R74) -/

/-- 05 R107: `add`, `sub`, `addc`, `subb` and their x forms land the sum or the difference modulo 2^64 in `.r` and, with
it, the flag word of R105 in `.f`; all else is unchanged. The carry in the flag word of an `add`, taken as the `p` latch
of an `addc`, chains a sum of two words: the results and the last carry are the exact sum of the 128-bit operands; and
so a borrow. -/
def Obligations.AluSumsAndDifferences : Prop :=
  (∀ (s : State) (u : Twin) (x : Bool), s.discards = false →
     let so := aluSock u
     let p := s.opo so
     let v := s.tv
     let a := if x then v else p
     let b := if x then p else v
     let c := (s.opp so).toNat % 2
     let sum (y z : W64) (i : Nat) : List (Port × V1024) :=
       let r := y + z + BitVec.ofNat 64 i
       [(.r, wide r), (.f, wide (flagWord false r.msb (decide (r = 0#64)) (decide (r.toInt ≠ y.toInt + z.toInt + i))
         (decide (2 ^ 64 ≤ y.toNat + z.toNat + i))))]
     let difference (y z : W64) (i : Nat) : List (Port × V1024) :=
       let r := y - z - BitVec.ofNat 64 i
       [(.r, wide r), (.f, wide (flagWord false r.msb (decide (r = 0#64)) (decide (r.toInt ≠ y.toInt - z.toInt - i))
         (decide (y.toNat < z.toNat + i))))]
     Yields (.aluAdd u) s so 1 (sum p v 0) 0 ∧ Yields (.aluAddc u) s so 1 (sum p v c) 0
       ∧ Yields (.aluSub u x) s so 1 (difference a b 0) 0 ∧ Yields (.aluSubb u x) s so 1 (difference a b c) 0)
    ∧ ∀ (a0 a1 b0 b1 : W64),
          let lo := addFlags a0 b0 0
          let hi := addFlags a1 b1 (bits lo.2 0 1)
          let dlo := subFlags a0 b0 0
          let dhi := subFlags a1 b1 (bits dlo.2 0 1)
          lo.1.toNat + 2 ^ 64 * hi.1.toNat + 2 ^ 128 * bits hi.2 0 1
              = (a0.toNat + 2 ^ 64 * a1.toNat) + (b0.toNat + 2 ^ 64 * b1.toNat)
            ∧ (dlo.1.toNat : Int) + 2 ^ 64 * dhi.1.toNat - 2 ^ 128 * bits dhi.2 0 1
              = ((a0.toNat : Int) + 2 ^ 64 * a1.toNat) - (b0.toNat + 2 ^ 64 * b1.toNat)

/-- 05 R108: the saturating operations land the exact sum or difference clamped to the range of their type, with a flag
word that says whether it was clamped, negative and zero. -/
def Obligations.AluSaturates : Prop :=
  ∀ (s : State) (u : Twin) (x : Bool), s.discards = false →
    let so := aluSock u
    let p := s.opo so
    let v := s.tv
    let a := if x then v else p
    let b := if x then p else v
    let outcome (r : W64) (clamped : Bool) : List (Port × V1024) :=
      [(.r, wide r), (.f, wide (flagWord clamped r.msb (decide (r = 0#64)) false false))]
    (∃ r : W64, r.toInt = max (-2 ^ 63) (min (2 ^ 63 - 1) (p.toInt + v.toInt))
        ∧ Yields (.aluAddsS64 u) s so 1 (outcome r (decide (r.toInt ≠ p.toInt + v.toInt))) 0)
      ∧ (∃ r : W64, r.toNat = min (p.toNat + v.toNat) (2 ^ 64 - 1)
        ∧ Yields (.aluAddsN64 u) s so 1 (outcome r (decide (r.toNat ≠ p.toNat + v.toNat))) 0)
      ∧ (∃ r : W64, r.toInt = max (-2 ^ 63) (min (2 ^ 63 - 1) (a.toInt - b.toInt))
        ∧ Yields (.aluSubsS64 u x) s so 1 (outcome r (decide (r.toInt ≠ a.toInt - b.toInt))) 0)
      ∧ (∃ r : W64, r.toNat = a.toNat - b.toNat
        ∧ Yields (.aluSubsN64 u x) s so 1 (outcome r (decide (a.toNat < b.toNat))) 0)

/-- 05 R109, R110: bitwise logic, shifts and rotates by the whole 64-bit amount read as unsigned, compares and
selections. -/
def Obligations.AluLogicShiftsComparesSelects : Prop :=
  (∀ (s : State) (u : Twin) (x : Bool), s.discards = false →
     let so := aluSock u
     let p := s.opo so
     let v := s.tv
     let a := if x then v else p
     let b := if x then p else v
     Yields64 (.aluAnd u) s so 1 (p &&& v) ∧ Yields64 (.aluOr u) s so 1 (p ||| v) ∧ Yields64 (.aluXor u) s so 1 (p ^^^ v)
       ∧ Yields64 (.aluAndn u x) s so 1 (a &&& ~~~b)
       ∧ (∃ r : W64, r.toNat = a.toNat * 2 ^ b.toNat % 2 ^ 64 ∧ Yields64 (.aluShl u x) s so 1 r)
       ∧ (∃ r : W64, r.toNat = a.toNat / 2 ^ b.toNat ∧ Yields64 (.aluShrN64 u x) s so 1 r)
       ∧ (∃ r : W64, r.toInt = a.toInt / 2 ^ b.toNat ∧ Yields64 (.aluShrS64 u x) s so 1 r)
       ∧ Yields64 (.aluRol u x) s so 1 (a.rotateLeft (b.toNat % 64))
       ∧ Yields64 (.aluRor u x) s so 1 (a.rotateRight (b.toNat % 64)))
    ∧ ∀ (s : State) (u : Twin) (x : Bool), s.discards = false →
          let so := aluSock u
          let p := s.opo so
          let v := s.tv
          let a := if x then v else p
          let b := if x then p else v
          let one (c : Prop) [Decidable c] : W64 := if c then 1#64 else 0#64
          Yields64 (.aluCeq u) s so 1 (one (p = v)) ∧ Yields64 (.aluCne u) s so 1 (one (p ≠ v))
            ∧ Yields64 (.aluCltS64 u x) s so 1 (one (a.toInt < b.toInt)) ∧ Yields64 (.aluCltN64 u x) s so 1 (one (a.toNat < b.toNat))
            ∧ Yields64 (.aluCleS64 u x) s so 1 (one (a.toInt ≤ b.toInt)) ∧ Yields64 (.aluCleN64 u x) s so 1 (one (a.toNat ≤ b.toNat))
            ∧ (∃ r : W64, r.toInt = min p.toInt v.toInt ∧ Yields64 (.aluMinS64 u) s so 1 r)
            ∧ (∃ r : W64, r.toNat = min p.toNat v.toNat ∧ Yields64 (.aluMinN64 u) s so 1 r)
            ∧ (∃ r : W64, r.toInt = max p.toInt v.toInt ∧ Yields64 (.aluMaxS64 u) s so 1 r)
            ∧ (∃ r : W64, r.toNat = max p.toNat v.toNat ∧ Yields64 (.aluMaxN64 u) s so 1 r)
            ∧ Yields64 (.aluSel u x) s so 1 (if (s.opp so).toNat % 2 = 1 then a else b)

/-- 05 R111, R112: the operations of one operand, and extraction and insertion of the field of `len` bits at `pos`,
clipped at bit 63. -/
def Obligations.AluSingleOperandAndBitFields : Prop :=
  (∀ (s : State) (u : Twin), s.discards = false →
     let so := aluSock u
     let v := s.tv
     (∃ r : W64, r.toInt = min v.toInt.natAbs (2 ^ 63 - 1) ∧ Yields64 (.aluAbsS64 u) s so 1 r)
       ∧ Yields64 (.aluPass u) s so 1 v
       ∧ (∃ r : W64, r.toNat = ((List.range 64).filter fun i => v.getLsbD i).length ∧ Yields64 (.aluPopc u) s so 1 r)
       ∧ (∃ r : W64, v.toNat < 2 ^ (64 - r.toNat) ∧ r.toNat ≤ 64 ∧ (v ≠ 0#64 → 2 ^ (63 - r.toNat) ≤ v.toNat ∧ r.toNat ≤ 63)
         ∧ (v = 0#64 → r = 64#64) ∧ Yields64 (.aluClz u) s so 1 r)
       ∧ (∃ r : W64, (∀ i < r.toNat, v.getLsbD i = false) ∧ (v ≠ 0#64 → v.getLsbD r.toNat = true) ∧ (v = 0#64 → r = 64#64)
         ∧ Yields64 (.aluCtz u) s so 1 r))
    ∧ ∀ (s : State) (u : Twin), s.discards = false →
          let so := aluSock u
          let p := s.opo so
          let pos := s.tv.toNat % 64
          let w := min (s.tv.toNat / 64 % 128) (64 - pos)
          (∃ r : W64, (∀ i < 64, r.getLsbD i = (decide (i < w) && p.getLsbD (pos + i))) ∧ Yields64 (.aluBfxN64 u) s so 1 r)
            ∧ (∃ r : W64, (∀ i < 64, r.getLsbD i = (decide (0 < w) && p.getLsbD (pos + min i (w - 1))))
              ∧ Yields64 (.aluBfxS64 u) s so 1 r)
            ∧ (∃ r : W64, (∀ i < 64, r.getLsbD i
                = if pos ≤ i ∧ i < pos + w then (s.opp so).getLsbD (i - pos) else p.getLsbD i) ∧ Yields64 (.aluBfi u) s so 1 r)

/-- 03 R71 to R74: `gpack` lands the guards the context has (24 of K0 and K1, 8 of K2 and K3) under the mask of tv;
`kfill` the mask of the first lanes; `klow` and `khigh` the lowest and the highest set bit of tv[31:0], or 32; `gset`
lands the guards as they stand, and at the start of the next cycle the guards under its mask take its values; no other
register changes. -/
def Obligations.GuardsAndLaneMasks : Prop :=
  (∀ (s : State) (u : Twin), s.discards = false →
     let so := aluSock u
     let count := if s.hand.ctx = .k0 ∨ s.hand.ctx = .k1 then 24 else 8
     (∃ r : W64, (∀ i < 64, r.getLsbD i = (decide (i < count) && decide (spGet 0#1 s.hc.regs.g i = 1#1) && s.tv.getLsbD i))
         ∧ Yields64 (.gpack u) s so 1 r)
       ∧ (∃ r : W64, (∀ i < 64, r.getLsbD i = (decide (i < 32) && decide (i < s.tv.toNat))) ∧ Yields64 (.kfill u) s so 1 r)
       ∧ (∃ r : W64, (∀ i < r.toNat, s.tv.getLsbD i = false) ∧ (r.toNat < 32 ∧ s.tv.getLsbD r.toNat = true ∨ r = 32#64)
         ∧ Yields64 (.klow u) s so 1 r)
       ∧ (∃ r : W64, (∀ i < 32, r.toNat < i → s.tv.getLsbD i = false)
         ∧ (r.toNat < 32 ∧ s.tv.getLsbD r.toNat = true ∨ r = 32#64 ∧ s.tv.toNat % 2 ^ 32 = 0)
         ∧ Yields64 (.khigh u) s so 1 r))
    ∧ (∀ (s : State) (u : Twin) (x : Bool), s.discards = false →
          let so := aluSock u
          let k := s.hand.ctx
          let mask := if x then s.tv else s.opo so
          let val := if x then s.opo so else s.tv
          let count := if k = .k0 ∨ k = .k1 then 24 else 8
          ∃ (t : State) (r v : W64), exec (.gset u x) s = .next t ∧ Lands s t so 1 [(.r, wide r)] 0 ∧ Unchanged s t
            ∧ (∀ i < 64, r.getLsbD i = (decide (i < count) && decide (spGet 0#1 s.hc.regs.g i = 1#1)))
            ∧ (∀ i < 24, v.getLsbD i = (decide (i < count) && mask.getLsbD i) ∧ v.getLsbD (24 + i) = val.getLsbD i)
            ∧ NextCycle s t s.hand.tile k updGuards v)
          ∧ ∀ (s : State) (n : Nat) (k : Ctx) (v : W64), isTile n = true →
            ∃ t, exec (.registerWrite { tile := n, ctx := k, num := updGuards } v) s = .next t
              ∧ (t.ctx n k) = { s.ctx n k with regs := { (s.ctx n k).regs with g := (t.ctx n k).regs.g } }
              ∧ (∀ i, spGet 0#1 (t.ctx n k).regs.g i
                  = if i < 24 ∧ v.getLsbD i = true then BitVec.ofBool (v.getLsbD (24 + i)) else spGet 0#1 (s.ctx n k).regs.g i)
              ∧ SameOtherContexts s t n k ∧ SameRest s t

/-- 05 R115: the multiplies land the exact product, or the exact product and sum, modulo 2^128 in `.q` and `.r`: after 3
cycles, a multiply-add after 4. A divide lands, after 34 cycles, a quotient and a remainder of which the remainder is
smaller than the divisor and takes the sign of the dividend, with the corners of a divisor of 0 and of -2^63 by -1, and
keeps `mul` from another trigger for 32 cycles; `mulr` lands the product scaled by 2^-sh, rounded to nearest even,
saturated. (05 R113, R116, R117.) -/
def Obligations.MultipliesAndDivides : Prop :=
  (∀ (s : State), s.discards = false →
     let p := s.opo .mul
     let q := s.opp .mul
     let v := s.tv
     let lows (y : W64) : BitVec 32 := y.setWidth 32
     (∃ r h : W64, (h.toInt * 2 ^ 64 + r.toNat = p.toInt * v.toInt) ∧ Yields .mulS64 s .mul 3 [(.r, wide r), (.q, wide h)] 0)
       ∧ (∃ r h : W64, (h.toNat * 2 ^ 64 + r.toNat = p.toNat * v.toNat) ∧ Yields .mulN64 s .mul 3 [(.r, wide r), (.q, wide h)] 0)
       ∧ (∃ r h : W64, (h.toInt * 2 ^ 64 + r.toNat = p.toInt * v.toInt + q.toInt)
         ∧ Yields .madS64 s .mul 4 [(.r, wide r), (.q, wide h)] 0)
       ∧ (∃ r h : W64, (h.toNat * 2 ^ 64 + r.toNat = p.toNat * v.toNat + q.toNat)
         ∧ Yields .madN64 s .mul 4 [(.r, wide r), (.q, wide h)] 0)
       ∧ (∃ r : W64, r.toInt = (lows p).toInt * (lows v).toInt ∧ Yields .mulS32 s .mul 3 [(.r, wide r), (.q, wide 0#64)] 0)
       ∧ (∃ r : W64, r.toNat = (lows p).toNat * (lows v).toNat ∧ Yields .mulN32 s .mul 3 [(.r, wide r), (.q, wide 0#64)] 0))
    ∧ ∀ (s : State) (x : Bool), s.discards = false →
          let p := s.opo .mul
          let v := s.tv
          let n := if x then v else p
          let d := if x then p else v
          let divides (i : Instr) (quo rem : W64) : Prop :=
            ∃ t, exec i s = .next t ∧ Lands s t .mul 34 [(.r, wide quo), (.q, wide rem)] 0 ∧ Unchanged s t
              ∧ (t.tile s.hand.tile).mulFree = s.now + 32
          (∃ quo rem : W64, divides (.divS64 x) quo rem
              ∧ (d = 0#64 → quo = BitVec.allOnes 64 ∧ rem = n)
              ∧ (n = 0x8000000000000000#64 → d = BitVec.allOnes 64 → quo = n ∧ rem = 0#64)
              ∧ (d ≠ 0#64 → ¬(n = 0x8000000000000000#64 ∧ d = BitVec.allOnes 64) → n.toInt = quo.toInt * d.toInt + rem.toInt
                ∧ rem.toInt.natAbs < d.toInt.natAbs ∧ 0 ≤ rem.toInt * n.toInt))
            ∧ (∃ quo rem : W64, divides (.divN64 x) quo rem
              ∧ (d = 0#64 → quo = BitVec.allOnes 64 ∧ rem = n)
              ∧ (d ≠ 0#64 → n.toNat = quo.toNat * d.toNat + rem.toNat ∧ rem.toNat < d.toNat))
            ∧ (∃ (r : W64) (q : Int), let m := (s.opp .mul).toNat % 128
                r.toInt = max (-2 ^ 63) (min (2 ^ 63 - 1) q)
                ∧ 2 * (p.toInt * v.toInt - q * 2 ^ m).natAbs ≤ 2 ^ m
                ∧ (2 * (p.toInt * v.toInt - q * 2 ^ m).natAbs = 2 ^ m → q % 2 = 0)
                ∧ Yields .mulrS64 s .mul 4 [(.r, wide r), (.q, wide (if r.toInt = q then 0#64 else 1#64))] 0)


/-! ## Vector units (07, 08) -/

/-- 07 R156, R157, R159: each element of the typed operations of `vfa` and of the fused forms of `vfb` is the exact
result of the elements in the roles a (`o`), b (`p`), c (tv), the x form exchanging a and c, rounded once under
`fpmode`; `min`, `max`, `cmp` and `class` answer by the numbers and set no flag; `scale` rounds a times 2^k; masked
elements are 0. That a NaN addend of a fused form sets no flag is the model's reading (log entry 66). -/
def Obligations.FloatElements : Prop :=
  ∀ (s : State) (f : FTy) (x : Bool), s.discards = false →
    let m := s.fp
    let g := ftyFmt f
    let element (h : Fmt) (y : V1024) (j : Nat) : Nat := bits y ((formatRow h).1 * j) (formatRow h).1
    let read (h : Fmt) (y : V1024) (j : Nat) : Ex := (decodeF h (element h y j)).flush h m.ftz
    let results (i : Instr) (so : Sock) (lat : Nat) (h : Fmt) (x : Bool) (is : Ex → Ex → Ex → Nat × Nat → Prop) : Prop :=
      let o := s.ht.opo so
      ∃ v, YieldsElements i s so lat (formatRow h).1 v ∧ ∀ j < 1024 / (formatRow h).1,
        is (read h (if x then s.hand.tv else o) j) (read h (s.ht.opp so) j) (read h (if x then o else s.hand.tv) j) (v j)
    let vfa (i : Instr) (lat : Nat) (x : Bool) (is : Ex → Ex → Ex → Nat × Nat → Prop) : Prop := results i .vfa lat g x is
    let vfb (i : Instr) (is : Ex → Ex → Ex → Nat × Nat → Prop) : Prop := results i .vfb 4 .f32 x is
    let sums (a c : Ex) (r : Nat × Nat) : Prop :=
      ∃ z fl, ExactSum (decide (m.rm = 3)) a c z fl ∧ RoundsOnceTo m g z fl r
    vfa (.vfaAdd f) 3 false (fun a _ c r => sums a c r)
      ∧ vfa (.vfaSub f x) 3 x (fun a _ c r => ∃ c', Turned c c' ∧ sums a c' r)
      ∧ vfa (.vfaMul f) 3 false (fun a _ c r => ∃ z fl, ExactProduct a c z fl ∧ RoundsOnceTo m g z fl r)
      ∧ vfa (.vfaFma f x) 4 x (FusedTo m g false false) ∧ vfa (.vfaFms f x) 4 x (FusedTo m g false true)
      ∧ vfa (.vfaFnma f x) 4 x (FusedTo m g true false) ∧ vfa (.vfaFnms f x) 4 x (FusedTo m g true true)
      ∧ vfa (.vfaMin f) 3 false (fun a _ c r => ExtremeOf false g a c r)
      ∧ vfa (.vfaMax f) 3 false (fun a _ c r => ExtremeOf true g a c r)
      ∧ vfa (.vfaCmp f x) 3 x (fun a _ c r => r.2 = 0 ∧
          let holds := Compares ((s.ht.opp .vfa).toNat % 8) a c
          (holds → r.1 = 2 ^ (formatRow g).1 - 1) ∧ (¬holds → r.1 = 0))
      ∧ (∃ v, YieldsElements (.vfaClass f) s .vfa 3 (formatRow g).1 v ∧ ∀ j < 1024 / (formatRow g).1,
          ClassIs g (element g s.hand.tv j) (v j).1 ∧ (v j).2 = 0)
      ∧ (let a := if x then s.hand.tv else s.ht.opo .vfa
         let c := if x then s.ht.opo .vfa else s.hand.tv
         ∃ v, YieldsElements (.vfaScale f x) s .vfa 3 (formatRow g).1 v ∧ ∀ j < 1024 / (formatRow g).1,
          let k := element g c j
          let power : Int := if k < 2 ^ ((formatRow g).1 - 1) then k else (k : Int) - 2 ^ (formatRow g).1
          Encodes m g (if m.rm = 4 then 0 else m.rm) false 0 ((2 : ℝ) ^ power) (read g a j) (v j))
      ∧ vfb (.vfbFmaF32 x) (FusedTo m .f32 false false) ∧ vfb (.vfbFmsF32 x) (FusedTo m .f32 false true)
      ∧ vfb (.vfbFnmaF32 x) (FusedTo m .f32 true false) ∧ vfb (.vfbFnmsF32 x) (FusedTo m .f32 true true)

/-- 07 R160: the integer groups of `vfb`, element by element, with a flag word of 0. -/
def Obligations.IntegerElements : Prop :=
  ∀ (s : State) (w : IW) (x : Bool), s.discards = false →
    let b := iwWidth w
    let o := s.ht.opo .vfb
    let v := s.hand.tv
    let by' (p q : V1024) (f : Nat → Nat → Nat) (j : Nat) : Nat × Nat := (f (bits p (b * j) b) (bits q (b * j) b), 0)
    let pattern (i : Int) : Nat := (i % 2 ^ b).toNat
    YieldsElements (.vfbIadd w) s .vfb 2 b (by' o v fun y z => y + z)
      ∧ YieldsElements (.vfbIsub w x) s .vfb 2 b (by' (if x then v else o) (if x then o else v) fun y z => pattern (y - z))
      ∧ YieldsElements (.vfbImul w) s .vfb 3 b (by' o v fun y z => y * z)
      ∧ YieldsElements (.vfbIadds w) s .vfb 2 b (by' o v fun y z =>
          pattern (min (max (sx b y + sx b z) (-2 ^ (b - 1))) (2 ^ (b - 1) - 1)))
      ∧ YieldsElements (.vfbIminS w) s .vfb 2 b (by' o v fun y z => pattern (min (sx b y) (sx b z)))
      ∧ YieldsElements (.vfbImaxS w) s .vfb 2 b (by' o v fun y z => pattern (max (sx b y) (sx b z)))
      ∧ YieldsElements (.vfbIminN w) s .vfb 2 b (by' o v fun y z => min y z)
      ∧ YieldsElements (.vfbImaxN w) s .vfb 2 b (by' o v fun y z => max y z)

/-- 07 R161, R162: the bitwise, shift and compare operations of `vfb` and its movements of lanes, lane by lane, with a flag
word of 0; `kpack` gathers the sign bits of the unmasked lanes. -/
def Obligations.LaneOperations : Prop :=
  ∀ (s : State) (x : Bool), s.discards = false →
    let o := s.ht.opo .vfb
    let p := s.ht.opp .vfb
    let v := s.hand.tv
    let a := if x then v else o
    let c := if x then o else v
    let at' (y : V1024) (j : Nat) : Nat := bits y (32 * j) 32
    let lanes (i : Instr) (f : Nat → Nat) : Prop := YieldsElements i s .vfb 2 32 fun j => (f j, 0)
    let holds (less : Bool) (y z : Nat) : Bool :=
      match p.toNat % 8 with
      | 0 => y = z
      | 1 => y ≠ z
      | 2 => less
      | 3 => less || y = z
      | 4 => false
      | 5 => true
      | 6 => !less && y ≠ z
      | _ => !less
    let pair (lo hi : V1024) (j : Nat) : Nat := if j < 32 then at' lo j else if j < 64 then at' hi (j - 32) else 0
    let k := c.toNat % 64
    let n := v.toNat % 64
    let z : W64 := if (s.hand.ctx = .k2 ∨ s.hand.ctx = .k3) ∧ 16 ≤ n then 0#64 else spGet 0#64 s.hc.regs.s n
    lanes .vfbAnd (fun j => at' o j &&& at' v j) ∧ lanes .vfbOr (fun j => at' o j ||| at' v j)
      ∧ lanes .vfbXor (fun j => at' o j ^^^ at' v j)
      ∧ lanes (.vfbBsel x) (fun j => (at' p j &&& at' a j) ||| ((2 ^ 32 - 1 - at' p j) &&& at' c j))
      ∧ lanes (.vfbShlN32 x) (fun j => at' a j * 2 ^ at' c j) ∧ lanes (.vfbShrN32 x) (fun j => at' a j / 2 ^ at' c j)
      ∧ lanes (.vfbShrS32 x) (fun j => ((sx 32 (at' a j) / 2 ^ at' c j) % 2 ^ 32).toNat)
      ∧ lanes (.vfbIcmpS32 x) (fun j =>
          if holds (decide (sx 32 (at' a j) < sx 32 (at' c j))) (at' a j) (at' c j) then 2 ^ 32 - 1 else 0)
      ∧ lanes (.vfbIcmpN32 x) (fun j => if holds (decide (at' a j < at' c j)) (at' a j) (at' c j) then 2 ^ 32 - 1 else 0)
      ∧ (∃ r : V1024, (∀ j < 1024, r.getLsbD j = (decide (j < 32) && (s.mask .vfb).testBit j && v.getLsbD (32 * j + 31)))
        ∧ Yields .kpack s .vfb 2 [(.r, r), (.f, 0#1024)] 0)
      ∧ lanes .sbcast (fun j => match v.toNat / 2 ^ 8 % 4 with
          | 0 => bits z 0 32
          | 1 => bits z (32 * (j % 2)) 32
          | 2 => bits z 0 16 * (1 + 2 ^ 16)
          | _ => bits z 0 8 * (1 + 2 ^ 8 + 2 ^ 16 + 2 ^ 24))
      ∧ lanes .lbcast (fun _ => at' o (v.toNat % 32)) ∧ lanes .perm (fun j => at' o (at' v j % 32))
      ∧ lanes (.slidedn x) (fun j => pair a p (j + k))
      ∧ lanes (.slideup x) (fun j => if k ≤ j + 32 then pair p a (j + 32 - k) else 0)

/-- 07 R163 to R167, 06 R130 to R143: `Decode`, the flush of subnormals, `EncodeResult`, `ConvertToInt` and
`StochasticBits` are the functions of these rules; `cvt` converts part spart of tv into part dpart of a copy of `o`; a
descriptor that names no type or no part returns `o` with INV; an accepted one in a stochastic mode counts one draw in
`srctr`, and nothing else of the context changes. That minus infinity becomes the lowest code of MXINT8 is the model's
reading (log entry 68). -/
def Obligations.Converts : Prop :=
  ((∀ (f : Fmt) (code : Nat), code < 2 ^ (formatRow f).1 → DecodesTo f code (decodeF f code))
     ∧ (∀ (f : Fmt) (ftz : Bool) (x : Ex),
       (∀ neg v, Finite x neg v → 0 < v → v < 2 ^ (formatRow f).2.2.2 → ftz = true → formatFlushes f = true →
         Finite (x.flush f ftz) neg 0)
         ∧ ((ftz = false ∨ formatFlushes f = false ∨ x = .nan ∨ (∃ n, x = .inf n)
             ∨ ∃ neg v, Finite x neg v ∧ (v = 0 ∨ 2 ^ (formatRow f).2.2.2 ≤ v)) → x.flush f ftz = x))
     ∧ (∀ (fp : FpMode) (f : Fmt) (mode sr : Nat) (conv : Bool) (x : Ex), conv = true ∨ formatInf f = true →
       Encodes fp f mode conv sr 1 x (encodeResult fp f mode conv sr x))
     ∧ (∀ (fp : FpMode) (f : Fmt) (x : Ex), arith fp f x = encodeResult fp f (if fp.rm = 4 then 0 else fp.rm) false 0 x)
     ∧ (∀ (signed : Bool) (w mode sr : Nat) (x : Ex), 0 < w → ConvertsTo signed w mode sr x (convertToInt signed w mode sr x))
     ∧ (∀ (seed ctr : W64) (i : Nat), i < 256 →
       let z0 := (seed.toNat + (ctr.toNat * 256 + i) * 0x9E3779B97F4A7C15) % 2 ^ 64
       let z1 := (z0 ^^^ (z0 / 2 ^ 30)) * 0xBF58476D1CE4E5B9 % 2 ^ 64
       let z2 := (z1 ^^^ (z1 / 2 ^ 27)) * 0x94D049BB133111EB % 2 ^ 64
       stochasticBits seed ctr i = (z2 ^^^ (z2 / 2 ^ 31)) % 2 ^ 24)
     ∧ (∀ c, elemTyOf c = (formats.map ElemTy.flt ++
         [.int true 8, .int true 16, .int true 32, .int false 8, .int false 16, .int false 32])[c]?)
     ∧ (∀ f, (ElemTy.flt f).width = (formatRow f).1) ∧ (∀ signed w, (ElemTy.int signed w).width = w)
     ∧ (∀ f ftz code, (ElemTy.flt f).value ftz code = (decodeF f code).flush f ftz)
     ∧ (∀ w ftz code, 0 < w → code < 2 ^ w → Counts ((ElemTy.int false w).value ftz code) code
       ∧ Counts ((ElemTy.int true w).value ftz code) (if 2 ^ (w - 1) ≤ code then (code : ℝ) - 2 ^ w else code))
     ∧ (∀ fp f mode sr x, encodeTy fp (.flt f) mode sr x = encodeResult fp f mode true sr x)
     ∧ ∀ fp signed w mode sr x, encodeTy fp (.int signed w) mode sr x = convertToInt signed w mode sr x)
    ∧ ∀ (s : State), s.discards = false →
      let d := s.ht.opp .vfb
      let o := s.ht.opo .vfb
      let m := s.fp
      let mode := if bits d 8 3 = 7 then m.rm else if bits d 8 3 ≤ 4 then bits d 8 3 else 0
      let n := s.hand.tile
      let k := s.hand.ctx
      ∃ (t : State) (r : V1024) (fl : Nat), exec .cvt s = .next t ∧ Lands s t .vfb 3 [(.r, r), (.f, BitVec.ofNat 1024 fl)] fl
        ∧ SameRest s t ∧ SameOtherContexts s t n k
        ∧ (match elemTyOf (bits d 0 4), elemTyOf (bits d 4 4) with
          | some dt, some st =>
            if bits d 12 3 < 1024 / (32 * st.width) ∧ bits d 16 3 < 1024 / (32 * dt.width) then
              let e (j : Nat) : Nat × Nat := encodeTy m dt mode (stochasticBits (s.hc.cr 0x02A) (s.hc.cr 0x02B) j)
                (st.value m.ftz (bits s.hand.tv (32 * st.width * bits d 12 3 + st.width * j) st.width))
              (∀ j < 32, bits r (32 * dt.width * bits d 16 3 + dt.width * j) dt.width
                  = if (s.mask .vfb).testBit j then (e j).1 % 2 ^ dt.width else 0)
                ∧ (∀ b, fl.testBit b = true ↔ ∃ j < 32, (s.mask .vfb).testBit j = true ∧ (e j).2.testBit b = true)
                ∧ (∀ b < 1024, b < 32 * dt.width * bits d 16 3 ∨ 32 * dt.width * (bits d 16 3 + 1) ≤ b →
                    r.getLsbD b = o.getLsbD b)
                ∧ t.ctx n k = (if mode = 4 then s.hc.setCr 0x02B (s.hc.cr 0x02B + 1#64) else s.hc)
            else r = o ∧ fl = 16 ∧ t.ctx n k = s.hc
          | _, _ => r = o ∧ fl = 16 ∧ t.ctx n k = s.hc)

/-- 06 R146 to R148, 07 R158, R165 to R167, 08 R171, R176, R178, R180: `BlockDot` is the exact sum of exact products,
scaled and rounded once; `AddNode` a rounded sum, `CanonicalSum` its tree, and the sum of a row that is split at chunks
of 256 the tree of their sums. `bdot`, MX packing and unpacking, the reductions of a register, quotients and roots, the
row statistics and the sum of two row records complete with the values of these rules; `mxpack` lands its scale in
`vfb.q`, and returns `o` with INV and leaves `vfb.q` where its descriptor is in error. -/
def Obligations.BlocksAndReductions : Prop :=
  ((∀ (fp : FpMode) (mode sa sb : Nat) (ps : List (Ex × Ex)), BlockSum fp mode sa sb ps (blockDot fp mode sa sb ps))
     ∧ (∀ a b : Nat × Nat, ∃ fl, SumsTo (decodeF .f32 a.1) (decodeF .f32 b.1) ((addNode a b).1, fl)
       ∧ (addNode a b).2 = a.2 ||| b.2 ||| fl)
     ∧ canonicalSum [] = (0, 0)
     ∧ (∀ l : List (Nat × Nat), l ≠ [] → treeNode addNode l (Nat.clog 2 l.length) 0 = some (canonicalSum l))
     ∧ ∀ cs : List (List (Nat × Nat)), (∀ c ∈ cs, c ≠ [] ∧ c.length ≤ 256) → (∀ c ∈ cs.dropLast, c.length = 256) →
       canonicalSum cs.flatten = canonicalSum (cs.map canonicalSum))
    ∧ (∀ (s : State), s.discards = false →
      let m := s.fp
      let resolved (field : Nat) : Nat := if field = 7 then m.rm else if field ≤ 4 then field else 0
      let nearest (mode : Nat) : Nat := if mode = 4 then 0 else mode
      let one (f : Fmt) (v : V1024) (pt i : Nat) : Ex :=
        decodeF f (bits v (32 * (formatRow f).1 * pt + (formatRow f).1 * i) (formatRow f).1)
      (let a := s.ht.opo .vfa
       let d := s.ht.opp .vfa
       (9 ≤ bits d 0 4 ∨ 9 ≤ bits d 4 4 → Yields .vfaBdot s .vfa 6 [(.r, a), (.f, 16#1024)] 16)
         ∧ ∀ af bf, formats[bits d 0 4]? = some af → formats[bits d 4 4]? = some bf →
           let scale (f : Fmt) (lo bl : Nat) : Nat := if formatFlushes f then 127 else bits d (lo + 8 * bl) 8
           ∃ g, YieldsElements .vfaBdot s .vfa 6 32 g ∧ ∀ bl < 32,
             if 1024 / (32 * (formatRow af).1) ≤ bl ∨ 1024 / (32 * (formatRow bf).1) ≤ bl then g bl = (0, 0)
             else BlockSum m (nearest (resolved (bits d 8 3))) (scale af 32 bl) (scale bf 96 bl)
               ((List.range 32).map fun i => ((one af a bl i).flush af m.ftz, (one bf s.hand.tv bl i).flush bf m.ftz)) (g bl))
        ∧ (let d := s.ht.opp .vfb
           let o := s.ht.opo .vfb
           let v := s.hand.tv
           let n := s.hand.tile
           let k := s.hand.ctx
           let live (j : Nat) : Prop := (s.mask .vfb).testBit j = true
           let lane (j : Nat) : Ex := (decodeF .f32 (bits v (32 * j) 32)).flush .f32 m.ftz
           let accepts (ty pt : Nat) : Prop := 3 ≤ ty ∧ ∃ f, formats[ty]? = some f ∧ pt < 1024 / (32 * (formatRow f).1)
           (¬accepts (bits d 0 4) (bits d 16 3) → Yields .mxpack s .vfb 4 [(.r, o), (.f, 16#1024)] 16)
             ∧ (∀ f, accepts (bits d 0 4) (bits d 16 3) → formats[bits d 0 4]? = some f →
               let w := (formatRow f).1
               let lo := 32 * w * bits d 16 3
               let mode := resolved (bits d 8 3)
               let emax : Int := match f with | .e4m3 => 8 | .e5m2 => 15 | .e3m2 => 4 | .e2m3 => 2 | .e2m1 => 2 | _ => 0
               ∃ (t : State) (r : V1024) (q fl : Nat), exec .mxpack s = .next t ∧ SameRest s t ∧ SameOtherContexts s t n k
                 ∧ Lands s t .vfb 4 [(.r, r), (.q, BitVec.ofNat 1024 q), (.f, BitVec.ofNat 1024 fl)] fl
                 ∧ t.ctx n k = (if mode = 4 then s.hc.setCr 0x02B (s.hc.cr 0x02B + 1#64) else s.hc)
                 ∧ (∀ b < 1024, b < lo ∨ lo + 32 * w ≤ b → r.getLsbD b = o.getLsbD b)
                 ∧ ((∃ i < 32, live i ∧ (lane i = .nan ∨ ∃ g, lane i = .inf g)) →
                   q = 0xFF ∧ fl = 16 ∧ ∀ i < 32, bits r (lo + w * i) w = 0)
                 ∧ ((∀ i < 32, live i → lane i ≠ .nan ∧ ∀ g, lane i ≠ .inf g) → q ≤ 254
                   ∧ (∀ a : ℝ, IsGreatest { y | ∃ i < 32, live i ∧ ∃ g, Finite (lane i) g y } a →
                     q = if a = 0 then 0 else (max 0 (min 254 (Int.log 2 a - emax + 127))).toNat)
                   ∧ ∃ fs : Nat → Nat,
                     (∀ i < 32, live i → Encodes m f mode true (stochasticBits (s.hc.cr 0x02A) (s.hc.cr 0x02B) i)
                       (2 ^ (127 - (q : Int))) (lane i) (bits r (lo + w * i) w, fs i))
                     ∧ (∀ i < 32, ¬live i → bits r (lo + w * i) w = 0)
                     ∧ ∀ b, fl.testBit b = true ↔ ∃ i < 32, live i ∧ (fs i).testBit b = true))
             ∧ (¬accepts (bits d 4 4) (bits d 12 3) → Yields .mxunpack s .vfb 3 [(.r, 0#1024), (.f, 16#1024)] 16)
             ∧ (∀ f, accepts (bits d 4 4) (bits d 12 3) → formats[bits d 4 4]? = some f →
               ∃ g, YieldsElements .mxunpack s .vfb 3 32 g ∧ ∀ i < 32,
                 if bits d 24 8 = 0xFF then g i = (0x7FC00000, 256)
                 else Encodes m .f32 (nearest (resolved (bits d 8 3))) false 0 (2 ^ ((bits d 24 8 : Int) - 127))
                   (one f v (bits d 12 3) i) (g i))
             ∧ (let code (j : Nat) : Nat :=
                  let x := bits v (32 * j) 32
                  if m.ftz = true ∧ x / 2 ^ 23 % 2 ^ 8 = 0 then x / 2 ^ 31 * 2 ^ 31 else x
                let key (x : Nat) : Int := if 2 ^ 31 ≤ x then 2 ^ 31 - 1 - (x : Int) else x
                let nan (j : Nat) : Prop := 0x7F800000 < bits v (32 * j) 31
                let extreme (i : Instr) (empty : Nat) (ge : Int → Int → Prop) : Prop :=
                  ∃ c, Yields i s .vfb 3 [(.r, BitVec.ofNat 1024 c), (.f, 0#1024)] 0
                    ∧ ((∀ j < 32, ¬live j) → c = empty)
                    ∧ ((∃ j < 32, live j ∧ nan j) → c = 0x7FC00000)
                    ∧ ((∃ j < 32, live j) → (∀ j < 32, live j → ¬nan j) →
                      ∃ j < 32, live j ∧ c = code j ∧ ∀ i < 32, live i → ge (key (code j)) (key (code i)))
                (∃ c fl, Yields .rsumF32 s .vfb 6 [(.r, BitVec.ofNat 1024 c), (.f, BitVec.ofNat 1024 fl)] fl
                    ∧ canonicalSum ((List.range 32).map fun j => (if (s.mask .vfb).testBit j then code j else 0, 0)) = (c, fl))
                  ∧ extreme .rmaxF32 0xFF800000 (fun y z => z ≤ y) ∧ extreme .rminF32 0x7F800000 (fun y z => y ≤ z)
                  ∧ ∃ r : W64, r.toInt = (((List.range 32).filter fun j => (s.mask .vfb).testBit j).map
                      fun j => sx 32 (bits v (32 * j) 32)).sum
                    ∧ Yields .rsumS32 s .vfb 3 [(.r, wide r), (.f, 0#1024)] 0)))
    ∧ ∀ (s : State), s.discards = false →
      let m := s.fp
      let rm := if m.rm = 4 then 0 else m.rm
      let o := s.ht.opo .sfu
      let p := s.ht.opp .sfu
      let v := s.hand.tv
      let live (j : Nat) : Prop := (s.mask .sfu).testBit j = true
      let lane (y : V1024) (j : Nat) : Ex := (decodeF .f32 (bits y (32 * j) 32)).flush .f32 m.ftz
      let lanes (i : Instr) (lat : Nat) (spec : Nat → Nat × Nat → Prop) : Prop :=
        ∃ g, YieldsElements i s .sfu lat 32 g ∧ ∀ j < 32, spec j (g j)
      let lands (i : Instr) (lat : Nat) (r : V1024) (fl : Nat) : Prop :=
        Yields i s .sfu lat [(.r, r), (.f, BitVec.ofNat 1024 fl)] fl
      let count := bits p 0 32
      lanes .recipF32 8 (fun j => QuotientTo m rm (.fin false 1 0) (lane v j))
        ∧ lanes .divF32 12 (fun j => QuotientTo m rm (lane o j) (lane v j))
        ∧ lanes .sqrtF32 10 (fun j => RootTo false m rm (lane v j)) ∧ lanes .rsqrtF32 9 (fun j => RootTo true m rm (lane v j))
        ∧ (∃ r c fl, lands .rmeanF32 5 r fl ∧ (∀ j < 32, bits r (32 * j) 32 = c) ∧ (count = 0 → c = 0x7FC00000 ∧ fl = 16)
          ∧ (count ≠ 0 → QuotientTo rneMode 0 (lane v 0) (.fin false count 0) (c, fl)))
        ∧ (let nl := if bits p 0 6 = 0 ∨ 32 < bits p 0 6 then 32 else bits p 0 6
           ∃ (ds qs : Nat → Nat × Nat) (r : V1024) (fl : Nat), lands .rsumdF32 7 r fl
             ∧ (∀ j < nl, ¬live j → ds j = (0, 0) ∧ qs j = (0, 0))
             ∧ (∀ j < nl, live j → SumsTo (lane v j) (lane o 0).neg (ds j)
               ∧ (∀ z, Counts (decodeF .f32 (ds j).1) z → RoundedOnce rneMode 0 false (z * z) (qs j))
               ∧ (decodeF .f32 (ds j).1 = .nan → qs j = (0x7FC00000, 0))
               ∧ ∀ g, decodeF .f32 (ds j).1 = .inf g → qs j = (0x7F800000, 0))
             ∧ (let sum (f : Nat → Nat × Nat) : Nat × Nat := canonicalSum ((List.range nl).map f)
                r.toNat = (sum ds).1 + 2 ^ 32 * (sum qs).1 ∧ fl = (sum ds).2 ||| (sum qs).2))
        ∧ (let eps := lane p 1
           let d := lane v 0
           let q := lane v 1
           ∃ (x y : Nat × Nat) (r : V1024) (fl : Nat), lands .rvarF32 11 r fl ∧ r.toNat = x.1 + 2 ^ 32 * y.1 ∧ fl = x.2 ||| y.2
             ∧ (d = .nan ∨ q = .nan → x = (0x7FC00000, 0))
             ∧ (d ≠ .nan → q ≠ .nan →
               (count = 0 → x = (0x7FC00000, 16))
                 ∧ (count ≠ 0 →
                   (∀ a b : ℝ, Counts d a → Counts q b → RoundedOnce rneMode 0 false (max 0 ((b - a * a / count) / count)) x)
                     ∧ (∀ g, d = .inf g → x = if q = .inf false then (0x7FC00000, 16) else (0, 0))
                     ∧ ∀ g a, Counts d a → q = .inf g → x = if g then (0, 0) else (0x7F800000, 0)))
             ∧ (let var := decodeF .f32 x.1
                (var = .nan ∨ eps = .nan → y = (0x7FC00000, 0))
                  ∧ (var ≠ .nan → eps = .inf true → y = (0x7FC00000, 16))
                  ∧ (var = .inf false → eps ≠ .nan → eps ≠ .inf true → y = (0, 0))
                  ∧ (∀ a, Counts var a → eps = .inf false → y = (0, 0))
                  ∧ ∀ a b, Counts var a → Counts eps b →
                    (a + b = 0 → y = (0x7F800000, 8)) ∧ (a + b < 0 → y = (0x7FC00000, 16))
                      ∧ (0 < a + b → EncodesTo rneMode .f32 0 false 0 false (1 / Real.sqrt (a + b)) y)))
        ∧ (let rec' (y : V1024) : Wide := if y.getLsbD 98 then none else some (bits y 0 24, bits y 32 16)
           ∃ (r : V1024) (sum : Wide), lands .smadd 3 r 0
             ∧ RecordIs r sum (bits o 64 32 + bits v 64 32) (o.getLsbD 97 = true ∨ v.getLsbD 97 = true)
               (o.getLsbD 96 = true ∨ v.getLsbD 96 = true)
             ∧ (rec' o = none ∨ rec' v = none → sum = none)
             ∧ ∀ a b y z, rec' o = some a → rec' v = some b → WideIs a y → WideIs b z → WideOf (y + z) sum)

/-- 08 R172, R173, R175 to R177, R179: the transcendental functions have the special values of R173 and else the two
roundings of the function's value; `smexp` forms the record of a row from the wide exponentials of its leaves by the
canonical tree, and `smout` the lanes of the soft maximum. How near the value is that the roundings take, and that a row
of which every lane is masked is ROWEMPTY, is the model's reading (log entries 17, 109). -/
def Obligations.SpecialFunctions : Prop :=
  ∀ (s : State), s.discards = false →
    let m := s.fp
    let o := s.ht.opo .sfu
    let p := s.ht.opp .sfu
    let v := s.hand.tv
    let live (j : Nat) : Prop := (s.mask .sfu).testBit j = true
    let lane (j : Nat) : Ex := (decodeF .f32 (bits v (32 * j) 32)).flush .f32 m.ftz
    let nan : Nat × Nat := (0x7FC00000, 0)
    let invalid : Nat × Nat := (0x7FC00000, 16)
    let function (f : ℝ → ℝ) (exact : ℝ → Prop) (pinf ninf pzero nzero : Nat × Nat) (negative : Bool) (j : Nat)
        (r : Nat × Nat) : Prop :=
      (lane j = .nan → r = nan) ∧ (lane j = .inf false → r = pinf) ∧ (lane j = .inf true → r = ninf)
        ∧ (Finite (lane j) false 0 → r = pzero) ∧ (Finite (lane j) true 0 → r = nzero)
        ∧ ∀ g y, Finite (lane j) g y → 0 < y →
          let z := if g then -y else y
          if g = true ∧ negative = false then r = invalid
          else if f z = 0 then r = (0, 0)
          else
            ∃ (near : ℝ) (sign ex : Bool), 0 < near ∧ (sign = true ↔ f z < 0) ∧ (ex = true ↔ exact z)
              ∧ Near (-160) 200 near |f z| ∧ (exact z → near = |f z|) ∧ RoundsTwice m ex sign near r
    let lanes (i : Instr) (lat : Nat) (spec : Nat → Nat × Nat → Prop) : Prop :=
      ∃ g, YieldsElements i s .sfu lat 32 g ∧ ∀ j < 32, spec j (g j)
    let one : Nat × Nat := (0x3F800000, 0)
    let half : Nat × Nat := (0x3F000000, 0)
    let inf : Nat × Nat := (0x7F800000, 0)
    let minusZero : Nat × Nat := (0x80000000, 0)
    let pole : Nat × Nat := (0xFF800000, 8)
    let never (_ : ℝ) : Prop := False
    let phi (x : ℝ) : ℝ := 1 / 2 + (∫ t in (0 : ℝ)..x, Real.exp (-(t ^ 2) / 2)) / Real.sqrt (2 * Real.pi)
    lanes .expF32 9 (function Real.exp never inf (0, 0) one one true)
      ∧ lanes .exp2F32 8 (function (fun x => (2 : ℝ) ^ x) (fun x => |x| < 2 ^ 15 ∧ ∃ i : Int, x = i) inf (0, 0) one one true)
      ∧ lanes .logF32 10 (function Real.log never inf invalid pole pole false)
      ∧ lanes .log2F32 9 (function (Real.logb 2) (fun x => ∃ i : Int, x = 2 ^ i) inf invalid pole pole false)
      ∧ lanes .tanhF32 12 (function Real.tanh never one (0xBF800000, 0) (0, 0) minusZero true)
      ∧ lanes .sigmoidF32 12 (function (fun x => 1 / (1 + Real.exp (-x))) never one (0, 0) half half true)
      ∧ lanes .geluF32 14 (function (fun x => x * phi x) never inf minusZero (0, 0) minusZero true)
      ∧ (let nl := if bits p 0 6 = 0 ∨ 32 < bits p 0 6 then 32 else bits p 0 6
         ∃ (r : V1024) (sum : Wide) (leaf : Nat → Wide) (join : Wide → Wide → Wide) (vast : Finset Nat),
           Yields .smexpF32 s .sfu 12 [(.r, r), (.f, 0#1024)] 0
             ∧ RecordIs r sum vast.card (∃ j < nl, live j) (∃ j < nl, live j ∧ lane j = .nan)
             ∧ (∀ j, j ∈ vast ↔ j < nl ∧ live j ∧ Vast (lane j))
             ∧ (∀ j < nl, (live j ∧ lane j ≠ .nan ∧ ¬Vast (lane j) → WideExp (lane j) (leaf j))
               ∧ (¬live j ∨ lane j = .nan ∨ Vast (lane j) → leaf j = some (0, 0)))
             ∧ (∀ a b, join none a = none ∧ join a none = none
               ∧ ∀ c d y z, a = some c → b = some d → WideIs c y → WideIs d z → WideOf (y + z) (join a b))
             ∧ treeNode join ((List.range nl).map leaf) (Nat.clog 2 nl) 0 = some sum)
      ∧ (let rowNan := o.getLsbD 96 = true
         let present := o.getLsbD 97 = true
         let rne : FpMode := { m with rm := 0 }
         ∃ (g : Nat → Nat × Nat) (r : V1024) (fl : Nat), Yields .smoutF32 s .sfu 10 [(.r, r), (.f, BitVec.ofNat 1024 fl)] fl
           ∧ (∀ j < 32, (live j → bits r (32 * j) 32 = (g j).1) ∧ (¬live j → bits r (32 * j) 32 = 0))
           ∧ (∀ b, fl.testBit b = true ↔ (∃ j < 32, live j ∧ (g j).2.testBit b = true)
             ∨ b = 6 ∧ ¬present ∧ ¬rowNan ∧ ∀ j < 32, ¬live j)
           ∧ ∀ j < 32,
             (rowNan ∨ lane j = .nan → g j = nan)
               ∧ (¬rowNan → lane j ≠ .nan →
                 (¬present → g j = (0, 64))
                   ∧ (present → 1 ≤ bits o 64 32 → Vast (lane j) →
                     ∃ x, EncodesTo rne .f32 0 false 0 false (1 / (bits o 64 32 : ℝ)) ((g j).1, x) ∧ (g j).2 = x ||| 128)
                   ∧ (present → 1 ≤ bits o 64 32 → ¬Vast (lane j) → g j = (0, 128))
                   ∧ (present → bits o 64 32 = 0 → Vast (lane j) → g j = inf)
                   ∧ (present → bits o 64 32 = 0 → ¬Vast (lane j) →
                     (o.getLsbD 98 = true → g j = (0, 5))
                       ∧ (o.getLsbD 98 = false → ∀ sum, WideIs (bits o 0 24, bits o 32 16) sum →
                         (sum = 0 → g j = (0, 3))
                           ∧ (sum ≠ 0 → ∃ w y, WideExp (lane j) (some w) ∧ WideIs w y
                             ∧ RoundedOnce rne 0 false (y / sum) (g j))))))

/-! ## Issue, control, contexts (02, 04) -/

/-- 02 R34, 03 R63: the moves of a word whose destinations are registers all read their sources before any of them
writes: after the word a register holds what the move in the highest slot to it read, at its own width, every other
register what it held, and the context goes on at the next word. Memory, latches, ports, tokens and every other context
are unchanged. -/
def Obligations.MovesActTogether : Prop :=
  ∀ (s : State) (n : Nat) (k : Ctx) (w : Word), isTile n = true →
    let u := s.tile n
    let c := s.ctx n k
    let ms := u.performed k w
    c.pc ≤ 2047 → (wordCheck k w).isNone → u.ballastFail k w = none → u.merged s.now k w = none → u.captures = [] →
    c.pair = none → c.next = none → c.nest.active = false → headersOf w = [] →
    (∀ m ∈ ms, m.dst = .nil ∨ ∃ f i, m.dst = .reg f i) →
    ∃ t, exec (.transportWord n k w) s = .next t
      ∧ (∀ f i, (t.ctx n k).regs.read f i = match ms.reverse.find? (fun m => m.dst = .reg f i) with
          | some m => (c.regs.write f i (u.readSrc m).toNat).read f i
          | none => c.regs.read f i)
      ∧ (t.ctx n k).pc = c.pc + 1 ∧ (t.ctx n k).run = c.run
      ∧ SameOtherContexts s t n k ∧ SameMemory s t ∧ SameSync s t ∧ SameEngines s t ∧ SameDevice s t
      ∧ (∀ m so, (t.tile m).opo so = (s.tile m).opo so ∧ (t.tile m).opp so = (s.tile m).opp so)
      ∧ ∀ m so po, (t.tile m).port so po = (s.tile m).port so po

/-- 02 R43, 18 R411, 04 R95, R88: what stands in place of a word: a context past word 2,047 takes CTLFAULT with detail
0xB, a word that fails a check of R43 takes ILLWORD with the slot and detail of the first failing check, and an
operation that ballast may not use CTLFAULT with detail 0xA, in this order. An operation of a ballast word changes
nothing, but that a conversion with a stochastic mode counts its draw (07 R168). That an operation of a ballast word
is checked and then has no effect, that `ctl.retire` is allowed in one (log entries 16, 90), and the slots of details 0xA
and 0xB (log entry 70), are the model's reading. -/
def Obligations.WordsRefused : Prop :=
  (∀ (s : State) (n : Nat) (k : Ctx) (w : Word), isTile n = true →
     (2047 < (s.ctx n k).pc → exec (.transportWord n k w) s = .next (s.takeTrap n k (raiseAt .ctlfault 15 0xB)))
       ∧ ((s.ctx n k).pc ≤ 2047 → ∀ e, wordCheck k w = some e →
         exec (.transportWord n k w) s = .next (s.takeTrap n k (raiseAt .illword e.slot e.detail)))
       ∧ ((s.ctx n k).pc ≤ 2047 → wordCheck k w = none → ∀ j, (s.tile n).ballastFail k w = some j →
         exec (.transportWord n k w) s = .next (s.takeTrap n k (raiseAt .ctlfault j 0xA))))
    ∧ ∀ (s : State) (u : Twin) (x : Bool) (f : FTy) (w : IW), s.discards = true →
      (∀ i ∈
        [Instr.aluAdd u, .aluSub u x, .aluAddc u, .aluSubb u x, .aluAddsS64 u, .aluAddsN64 u, .aluSubsS64 u x, .aluSubsN64 u x,
          .aluAnd u, .aluOr u, .aluXor u, .aluAndn u x, .aluShl u x, .aluShrN64 u x, .aluShrS64 u x, .aluRol u x, .aluRor u x, .aluCeq u,
          .aluCne u, .aluCltS64 u x, .aluCltN64 u x, .aluCleS64 u x, .aluCleN64 u x, .aluMinS64 u, .aluMinN64 u, .aluMaxS64 u,
          .aluMaxN64 u, .aluSel u x, .aluAbsS64 u, .aluPass u, .aluPopc u, .aluClz u, .aluCtz u, .aluBfxS64 u, .aluBfxN64 u, .aluBfi u,
          .gpack u, .gset u x, .kfill u, .klow u, .khigh u, .mulS64, .mulN64, .madS64, .madN64, .mulS32, .mulN32, .mulrS64, .vfaAdd f,
          .vfaBdot, .vfaSub f x, .vfaMul f, .vfaFma f x, .vfaFms f x, .vfaFnma f x, .vfaFnms f x, .vfaMin f, .vfaMax f, .vfaCmp f x,
          .vfaClass f, .vfaScale f x, .vfbIadd w, .vfbIsub w x, .vfbImul w, .vfbIadds w, .vfbIminS w, .vfbImaxS w, .vfbIminN w,
          .vfbImaxN w, .vfbAnd, .vfbOr, .vfbXor, .vfbBsel x, .vfbShlN32 x, .vfbShrN32 x, .vfbShrS32 x, .vfbIcmpS32 x, .vfbIcmpN32 x,
          .kpack, .sbcast, .lbcast, .perm, .slideup x, .slidedn x, .mxunpack, .rsumF32, .rmaxF32, .rminF32, .rsumS32, .vfbFmaF32 x,
          .vfbFmsF32 x, .vfbFnmaF32 x, .vfbFnmsF32 x, .recipF32, .divF32, .sqrtF32, .rsqrtF32, .expF32, .exp2F32, .logF32, .log2F32, .tanhF32,
          .sigmoidF32, .geluF32, .rsumdF32, .rmeanF32, .rvarF32, .smexpF32, .smadd, .smoutF32],
        exec i s = .next s)
      ∧ ∀ q ∈ [(Instr.cvt, cvtOk (s.descP .vfb)), (.mxpack, mxpackOk (s.descP .vfb))],
        exec q.1 s = .next (if q.2 = true ∧ s.fp.resolve (dRm (s.descP .vfb)) = 4 then
          s.modCtx s.hand.tile s.hand.ctx fun c => c.setCr 0x02B (c.cr 0x02B + 1#64) else s)

/-- 18 R410, R412, R414, 03 R68, R69: taking a trap leaves the context trapped, to resume at the address given, records
cause, slot, detail and address in `traprec` and the rest in `trapaux`, takes the primary slot from it, and posts one
entry to the trap queue. Its results in flight move to the replay buffer, each with the cycles that it still had, 1 for
a data-locked one, and the value it has or will have; a take it had deferred is withdrawn, with status 0x03 and value 0.
They land, those counts on, after the first word that comes. No register file and no memory of any kind changes, and no
other context. -/
def Obligations.TakingATrap : Prop :=
  (∀ (s : State) (n : Nat) (k : Ctx) (r : Raise) (word resume t0 : Nat) (more : Bool),
     let t := s.takeTrapAt n k r word resume t0 more
     let c := s.ctx n k
     let d := t.ctx n k
     let u := s.tile n
     let withdrawn (id : Nat) : Prop := ∃ p ∈ u.sems, ∃ o ∈ p.2.takers, o.ctx = k ∧ o.id = id
     d = { c with run := .trapped, pc := resume, next := none, creg := d.creg } ∧ d.cr 0x076 = r.aux
       ∧ (let rec' := d.cr 0x075
         bits rec' 63 1 = 1 ∧ bits rec' 62 1 = b2n (more || !c.dues.isEmpty) ∧ bits rec' 61 1 = b2n r.eng
           ∧ bits rec' 60 1 = b2n c.sysField ∧ bits rec' 54 6 = r.cause.code ∧ bits rec' 50 4 = r.slot % 16
           ∧ bits rec' 32 16 = r.detail % 2 ^ 16 ∧ bits rec' 16 11 = word % 2 ^ 11 ∧ bits rec' 0 11 = resume % 2 ^ 11)
       ∧ (∀ num, num ≠ 0x075 → num ≠ 0x076 → d.cr num = c.cr num)
       ∧ (t.tile n).primary = (if u.primary = some k then none else u.primary)
       ∧ (∀ f ∈ (t.tile n).flights, f.ctx ≠ k)
       ∧ (∀ f ∈ u.flights, f.ctx ≠ k → f.so ≠ .sem → ¬withdrawn f.id → ¬(∃ i, f.id = i + 1 ∧ withdrawn i) → f ∈ (t.tile n).flights)
       ∧ (∀ x ∈ u.captures, x ∈ (t.tile n).captures)
       ∧ (∀ f ∈ u.flights, f.ctx = k → ∃ x ∈ (t.tile n).captures, x.by' = .trap k ∧ x.fl.id = f.id ∧ x.fl.so = f.so ∧ x.fl.po = f.po
         ∧ x.fl.locked = f.locked ∧ x.fl.flags = f.flags
         ∧ (withdrawn f.id → x.fl.val = 0#1024)
         ∧ (¬withdrawn f.id → (∃ i, f.id = i + 1 ∧ withdrawn i) → x.fl.val = 0x300#1024)
         ∧ (¬withdrawn f.id → (∀ i, f.id = i + 1 → ¬withdrawn i) → x.fl.val = f.val
           ∧ ∀ due, f.due = some due → x.fl.due = some due ∧ x.d = if f.locked then 1 else due - t0))
       ∧ SameOtherContexts s t n k ∧ SameMemory s t
       ∧ (if s.hub.trapq.length < 1024 then t.hub.trapq = s.hub.trapq ++ [w64 (2 ^ 63 + b2n r.eng * 2 ^ 61 + ctxNum k * 2 ^ 11 + n)]
         else t.hub.trapq = s.hub.trapq ∧ t.hub.trapLost = true))
    ∧ ∀ (s : State) (n : Nat) (who : Capturer) (u : Nat),
      let t := s.replay n who u
      (∀ x ∈ (s.tile n).captures, x.by' = who → { x.fl with due := some (u - 1 + x.d) } ∈ (t.tile n).flights
          ∧ Fixed t (u - 1 + x.d) prioLand (.resultLands n x.fl.so x.fl.po))
        ∧ (∀ x, x ∈ (t.tile n).captures ↔ x ∈ (s.tile n).captures ∧ x.by' ≠ who)
        ∧ (∀ f ∈ (s.tile n).flights, f ∈ (t.tile n).flights) ∧ Unchanged s t

/-- 04 R95, R97: `jmp`, `jmpr`, `call` and `ret` inside the code store send their context to the target and leave a nest
whose body the target lies outside; `call` pushes the address after its word and `ret` pops one; no register changes.
The transfers that are refused take CTLFAULT at their word, with the detail of the first failing test: 0x1 outside the
code store, 0x2 a routine's backward jump or a call of its own entry, 0x7 inside a nest, 0x8 in a handler, 0x3 a fifth
call, 0x4 a return from an empty stack. -/
def Obligations.Transfers : Prop :=
  (∀ (s : State), s.discards = false →
     let n := s.hand.tile
     let k := s.hand.ctx
     let c := s.hc
     let goes (i : Instr) (d : Context) : Prop :=
       ∃ t, exec i s = .next t ∧ t.ctx n k = d ∧ SameOtherContexts s t n k ∧ SameRest s t
     let left (a : Nat) : Nest :=
       if c.nest.active = true ∧ (c.nest.last < a ∨ a < c.nest.start) then { c.nest with active := false } else c.nest
     (s.tv.toNat ≤ 2047 → (isRoutine k = true → c.pc < s.tv.toNat) →
         goes .ctlJmp { c with next := some s.tv.toNat, nest := left s.tv.toNat })
       ∧ (∀ a : Nat, (c.pc : Int) + s.tv.toInt = a → a ≤ 2047 → (isRoutine k = true → c.pc < a) →
         goes .ctlJmpr { c with next := some a, nest := left a })
       ∧ (s.tv.toNat ≤ 2047 → ¬(isRoutine k = true ∧ s.tv.toNat = c.entryPc) → c.nest.active = false → c.saved = none →
         c.rstack.length < 4 → goes .ctlCall { c with next := some s.tv.toNat, rstack := (c.pc + 1) :: c.rstack })
       ∧ (∀ a l, c.rstack = a :: l → a ≤ 2047 → c.nest.active = false → goes .ctlRet { c with next := some a, rstack := l }))
    ∧ ∀ (s : State), s.discards = false →
          let c := s.hc
          let a := s.tv.toNat
          let traps (i : Instr) (d : Nat) : Prop :=
            exec i s = .next (s.takeTrap s.hand.tile s.hand.ctx (raiseAt .ctlfault s.hand.slot d))
          let routine := isRoutine s.hand.ctx = true
          (2047 < a → traps .ctlJmp 0x1 ∧ traps .ctlCall 0x1)
            ∧ ((c.pc : Int) + s.tv.toInt < 0 ∨ 2047 < (c.pc : Int) + s.tv.toInt → traps .ctlJmpr 0x1)
            ∧ (a ≤ 2047 → routine → a ≤ c.pc → traps .ctlJmp 0x2)
            ∧ (0 ≤ (c.pc : Int) + s.tv.toInt → (c.pc : Int) + s.tv.toInt ≤ 2047 → routine → s.tv.toInt ≤ 0 → traps .ctlJmpr 0x2)
            ∧ (a ≤ 2047 → routine → a = c.entryPc → traps .ctlCall 0x2)
            ∧ (a ≤ 2047 → ¬(routine ∧ a = c.entryPc) → c.nest.active = true → traps .ctlCall 0x7)
            ∧ (a ≤ 2047 → ¬(routine ∧ a = c.entryPc) → c.nest.active = false → c.saved.isSome → traps .ctlCall 0x8)
            ∧ (a ≤ 2047 → ¬(routine ∧ a = c.entryPc) → c.nest.active = false → c.saved = none → 4 ≤ c.rstack.length →
              traps .ctlCall 0x3)
            ∧ (c.nest.active = true → traps .ctlRet 0x7)
            ∧ (c.nest.active = false → c.rstack = [] → traps .ctlRet 0x4)

/-- 04 R98: `ldim` sets the count that the next nest takes in a dimension; `loop` arms a nest of tv dimensions over the
words from the one after it to the first that closes a body, each dimension with the count set for it or 1, or goes past
the body if a count is 0; `lidx` lands the index of a dimension; `lexit` ends the nest with the current pass. The
indices count as one number whose lowest digit is dimension 0: each pass but the last adds 1 to it and goes back to the
start of the body, and the nest ends with the pass in which the number is one less than the product of the counts, or
with a pass in which `lexit` was issued. -/
def Obligations.LoopNests : Prop :=
  (∀ (s : State), s.discards = false →
     let n := s.hand.tile
     let k := s.hand.ctx
     let c := s.hc
     let goes (i : Instr) (d : Context) : Prop :=
       ∃ t, exec i s = .next t ∧ t.ctx n k = d ∧ SameOtherContexts s t n k ∧ SameRest s t
     ((s.opo .ctl).toNat ≤ 5 → goes .ctlLdim { c with pend := spSet 1 c.pend (s.opo .ctl).toNat (s.tv.toNat % 2 ^ 32) })
       ∧ (∀ e, 1 ≤ s.tv.toNat → s.tv.toNat ≤ 6 → c.nest.active = false → c.saved = none →
           c.pc < e → e ≤ c.pc + 64 → e ≤ 2047 → (spGet 0#512 s.ht.code e).getLsbD 492 = true →
           (∀ a, c.pc < a → a < e → (spGet 0#512 s.ht.code a).getLsbD 492 = false) →
           ∃ x : Nest, (x.active = true ↔ ∀ d < s.tv.toNat, spGet 1 c.pend d ≠ 0) ∧ x.start = c.pc + 1 ∧ x.last = e
             ∧ x.dims = s.tv.toNat ∧ x.exit = false ∧ x.filled = false ∧ (∀ d < s.tv.toNat, spGet 0 x.cnt d = spGet 1 c.pend d)
             ∧ (∀ d, spGet 0 x.idx d = 0)
             ∧ goes .ctlLoop { c with nest := x, next := some (if x.active then c.pc + 1 else e + 1) })
       ∧ Yields64 .ctlLidx s .ctl 1 (w64 (if c.nest.active ∧ s.tv.toNat < c.nest.dims then spGet 0 c.nest.idx s.tv.toNat else 0))
       ∧ goes .ctlLexit { c with nest := if c.nest.active then { c.nest with exit := true } else c.nest })
    ∧ ∀ (x : Nest), x.active = true → (∀ d < x.dims, spGet 0 x.idx d < spGet 0 x.cnt d) →
          let weight (d : Nat) : Nat := ((List.range d).map fun e => spGet 0 x.cnt e).prod
          let place (y : Nest) : Nat := ((List.range x.dims).map fun d => spGet 0 y.idx d * weight d).sum
          let y := x.passEnd.1
          (x.exit = false → place x + 1 < weight x.dims →
              y.active = true ∧ x.passEnd.2 = x.start ∧ place y = place x + 1
                ∧ ∀ d < x.dims, spGet 0 y.idx d < spGet 0 x.cnt d)
            ∧ (x.exit = true ∨ place x + 1 = weight x.dims → y.active = false ∧ x.passEnd.2 = x.last + 1)

/-- 04 R81, R84, R88, R90, R99, R100: `retire`, `yield`, `wtok`, `wcyc`, `trap` and `uret` from their word on. That a
retiring context still takes a due trap (log entry 15), and that `uret` restores the guards in step 3 of its word (log
entry 116), is the model's choice. -/
def Obligations.ContextControl : Prop :=
  ∀ (s : State), s.discards = false →
    let n := s.hand.tile
    let k := s.hand.ctx
    let c := s.hc
    let u := s.tile n
    let goes (i : Instr) (d : Context) (gives : Bool) : Prop :=
      ∃ t, exec i s = .next t ∧ t.ctx n k = d ∧ SameOtherContexts s t n k ∧ SameRest s t
        ∧ (t.tile n).primary = if gives && u.primary = some k then none else u.primary
    (c.saved = none → ∃ t, exec .ctlRetire s = .next t
        ∧ t.ctx n k = { c with
            run := if isRoutine k then .retiring else .idle, ending := isRoutine k
            nest := { c.nest with active := false }, rstack := [] }
        ∧ (t.tile n).primary ≠ some k ∧ SameOtherContexts s t n k ∧ SameMemory s t ∧ SameSync s t ∧ SameEngines s t ∧ SameDevice s t
        ∧ ∀ e, (t.tile n).entry e
            = if isRoutine k = true ∧ c.entry = some e then { u.entry e with st := 2 } else u.entry e)
      ∧ goes .ctlYield c true
      ∧ goes .ctlWtok { c with holds := c.holds ++ [.token (s.tv.toNat % 2 ^ 6)] } true
      ∧ goes .ctlWcyc { c with holds := c.holds ++ [.untilCycle (s.now + 1 + s.tv.toNat % 2 ^ 24)] } true
      ∧ exec .ctlTrap s = .next (s.takeTrapAt n k (raiseAt .usertrap s.hand.slot (s.tv.toNat % 2 ^ 16)) c.pc
          (c.next.getD (c.pc + 1)) s.now)
      ∧ (∀ v, isRoutine k = true → c.saved = some v → (∀ x ∈ (s.tile n).captures, x.fl.err = none) →
        goes .ctlUret { c with
          regs := { c.regs with g := v.guards }, nest := v.nest, holds := v.holds, saved := none, next := some v.pc } false)

/-- 04 R101 to R103: queue counters of the selected list, the position, and the handler; an addition and the enables
take effect at the start of the next cycle: the counter saturates at 2^24 - 1, and the handler address and the enables
are those given. That entry numbers are bounded by `rlsel` where no list runs is the model's choice (log entry 119). -/
def Obligations.QueuesAndHandlers : Prop :=
  (∀ (s : State), s.discards = false →
     let n := s.hand.tile
     let k := s.hand.ctx
     let c := s.hc
     let u := s.tile n
     let update (num : Nat) (v : W64) : Agenda :=
       { cyc := s.now + 1, prio := prioUpdate, ins := .registerWrite { tile := n, ctx := k, num := num } v }
     let listed (e : Nat) : Prop := u.listFirst ≤ e ∧ e ≤ u.listLast
     (listed ((s.opo .ctl).toNat % 64) → ∃ t, exec .ctlQadd s = .next t ∧ Unchanged s t
         ∧ update updQadd (w64 ((s.opo .ctl).toNat % 128 + s.tv.toNat % 2 ^ 16 * 2 ^ 16)) ∈ t.agenda)
       ∧ (listed (s.tv.toNat % 64) → Yields64 .ctlQread s .ctl 1
           (w64 (if s.tv.getLsbD 6 then (u.entry (s.tv.toNat % 64)).count1 else (u.entry (s.tv.toNat % 64)).count0)))
       ∧ Yields64 .ctlWhere s .ctl 1 (w64 (c.pc + (if isRoutine k then c.entry.getD 0 else 0) * 2 ^ 11 + ctxNum k * 2 ^ 17
           + b2n c.saved.isSome * 2 ^ 19 + (if c.nest.active then c.nest.dims else 0) * 2 ^ 20))
       ∧ (isRoutine k = true → ∃ t, exec .ctlHset s = .next t ∧ Unchanged s t
         ∧ update updEnables (w64 ((s.opo .ctl).toNat % 2 ^ 11 + s.tv.toNat % 4 * 2 ^ 16)) ∈ t.agenda))
    ∧ ∀ (s : State) (n : Nat) (k : Ctx) (v : W64), isTile n = true →
      let u := s.tile n
      (let e := v.toNat % 64
       let x := u.entry e
       let add := v.toNat / 2 ^ 16 % 2 ^ 16
       ∃ t, exec (.registerWrite { tile := n, ctx := k, num := updQadd } v) s = .next t
         ∧ (t.tile n).entry e = (if v.getLsbD 6 then { x with count1 := min (2 ^ 24 - 1) (x.count1 + add) }
           else { x with count0 := min (2 ^ 24 - 1) (x.count0 + add) })
         ∧ (∀ f, f ≠ e → (t.tile n).entry f = u.entry f) ∧ SameContexts s t
         ∧ (∀ r, (t.tile n).rg r = u.rg r) ∧ SameMemory s t ∧ SameSync s t ∧ SameEngines s t ∧ SameDevice s t ∧ SameTime s t)
        ∧ ∃ t, exec (.registerWrite { tile := n, ctx := k, num := updEnables } v) s = .next t
          ∧ t.ctx n k = { s.ctx n k with handler := v.toNat % 2 ^ 11, ien := BitVec.ofNat 2 (v.toNat / 2 ^ 16) }
          ∧ SameOtherContexts s t n k ∧ SameRest s t

/-! ## Pointers, regions, tile SRAM (05, 09) -/

/-- 05 R124, R126, R127: in K0 and K1 each pointer operation lands pointer state as it stands before its word and, where
it changes a pointer, has the change made at the start of the next cycle; in K2 and K3 it lands 0 and changes nothing.
The update of a pointer by u steps and its uses moves its address by that many strides, inside its window where it has
one; the setters change the fields they name, and a copy the fields of both words; no other register of any context
changes. (05 R119, R121.) That uses which add up to 0 steps still apply R119 (log entry 102), and that a copy onto its own
source writes what step 3 read (log entry 120), is the model's reading. -/
def Obligations.PointerOperations : Prop :=
  (∀ (s : State), s.discards = false →
     let n := s.hand.tile
     let k := s.hand.ctx
     let r := s.hc.regs
     let o := s.opo .agu
     let v := s.tv
     let po := o.toNat % 8
     let pt := v.toNat % 8
     let word0 (p : Nat) : Nat := (spGet 0#32 r.addr p).toNat + (spGet 0#20 r.stride p).toNat * 2 ^ 32
     let word1 (p : Nat) : Nat :=
       (spGet 0#32 r.wbase p).toNat + (spGet 0#20 r.wlen p).toNat * 2 ^ 32 + (spGet 0#5 r.tag p).toNat * 2 ^ 52
     let gives (i : Instr) (x : Nat) (later : List (Nat × Nat × W64)) : Prop :=
       ∃ t, exec i s = .next t ∧ Lands s t .agu 1 [(.r, wide (w64 x))] 0 ∧ Unchanged s t
         ∧ ∀ q ∈ later, ({ cyc := s.now + 1, prio := q.1, ins := .registerWrite { tile := n, ctx := k, num := q.2.1 } q.2.2 } : Agenda)
             ∈ t.agenda
     (isRoutine k = true →
         gives .aguPstr (word0 po) [(prioUpdate, updStride + po, w64 (v.toNat % 2 ^ 20))]
         ∧ gives .aguPwin (word1 po)
             [(prioUpdate, updWindow + po, w64 (v.toNat % 2 ^ 32 + (s.opp .agu).toNat % 2 ^ 20 * 2 ^ 32))]
         ∧ gives .aguPreg (word1 po) [(prioUpdate, updTag + po, w64 (v.toNat % 2 ^ 5))]
         ∧ gives .aguPget (if v.getLsbD 3 then word1 pt else word0 pt) []
         ∧ gives .aguPadv (spGet 0#32 r.addr pt).toNat (if o = 0 then [] else [(prioWrite, updAdvance + pt, o)])
         ∧ gives .aguPpeek (if o = 0 then (spGet 0#32 r.addr pt).toNat else r.advanced pt o.toInt) []
         ∧ gives .aguPcopy (word0 pt) [(prioUpdate, updWord0 + po, w64 (word0 pt)), (prioUpdate, updWord1 + po, w64 (word1 pt))])
       ∧ (isRoutine k = false → ∀ i ∈ [Instr.aguPstr, .aguPwin, .aguPreg, .aguPget, .aguPadv, .aguPpeek, .aguPcopy], gives i 0 []))
    ∧ ∀ (s : State) (n : Nat) (k : Ctx) (p uses : Nat) (v : W64), isTile n = true → p < 8 → uses < 32 →
          let c := s.ctx n k
          let r := c.regs
          let does (num : Nat) (r' : Regs) : Prop :=
            ∃ t, exec (.registerWrite { tile := n, ctx := k, num := num } v) s = .next t ∧ t.ctx n k = { c with regs := r' }
              ∧ SameOtherContexts s t n k ∧ SameRest s t
          (∃ a : BitVec 32,
              (let b : Int := (spGet 0#32 r.wbase p).toNat
              let l : Int := (spGet 0#20 r.wlen p).toNat
              let x : Int := (spGet 0#32 r.addr p).toNat + (v.toInt + uses) * (spGet 0#20 r.stride p).toInt
              (a.toNat : Int) = if l = 0 then x % 2 ^ 32 else (b + (x - b) % l) % 2 ^ 32)
              ∧ does (updAdvance + 8 * uses + p) { r with addr := spSet 0#32 r.addr p a })
            ∧ does (updStride + p) { r with stride := spSet 0#20 r.stride p (v.setWidth 20) }
            ∧ does (updWindow + p)
                { r with wbase := spSet 0#32 r.wbase p (v.setWidth 32), wlen := spSet 0#20 r.wlen p ((v >>> 32).setWidth 20) }
            ∧ does (updTag + p) { r with tag := spSet 0#5 r.tag p (v.setWidth 5) }
            ∧ does (updWord0 + p)
                { r with addr := spSet 0#32 r.addr p (v.setWidth 32), stride := spSet 0#20 r.stride p ((v >>> 32).setWidth 20) }
            ∧ does (updWord1 + p)
                { r with
                  wbase := spSet 0#32 r.wbase p (v.setWidth 32), wlen := spSet 0#20 r.wlen p ((v >>> 32).setWidth 20)
                  tag := spSet 0#5 r.tag p ((v >>> 52).setWidth 5) }

/-- 05 R122, R123, R128, R129: `rchk` lands whether a range passes the region test for region tv[3:0]; `rassert` lands 1
where it passes and otherwise traps REGION, with detail 0x1 for a region that the entry does not declare and 0x2 for a
range outside it; `rget` returns a region word; `lea` computes an address. -/
def Obligations.RegionOperations : Prop :=
  ∀ (s : State), s.discards = false →
    let u := s.ht
    let k := s.hand.ctx
    let v := s.tv
    let m := v.toNat % 16
    let lo := (s.opo .agu).toNat % 2 ^ 32
    let hi := lo + max ((s.opp .agu).toNat % 2 ^ 32) 1 - 1
    let base := (u.rg (0x040 + m)).toNat % 2 ^ 32
    let bytes := (u.rg (0x040 + m)).toNat / 2 ^ 32
    let inside : Prop := base ≤ lo ∧ hi < base + bytes
    let declared : Prop :=
      v.getLsbD 5 = true ∨ isRoutine k = false ∨ match s.hc.entry with
        | some e => (u.rg (0x100 + 3 * e)).getLsbD (m + if v.getLsbD 4 then 16 else 0) = true
        | none => True
    ((declared ∧ inside → Yields64 .aguRchk s .agu 1 1#64) ∧ (¬(declared ∧ inside) → Yields64 .aguRchk s .agu 1 0#64))
      ∧ (declared ∧ inside → Yields64 .aguRassert s .agu 1 1#64)
      ∧ (¬declared → exec .aguRassert s = .next (s.takeTrap s.hand.tile k (raiseAt .region s.hand.slot 0x1)))
      ∧ (declared ∧ ¬inside → exec .aguRassert s = .next (s.takeTrap s.hand.tile k (raiseAt .region s.hand.slot 0x2)))
      ∧ Yields64 .aguRget s .agu 1 (u.rg (0x040 + m))
      ∧ Yields64 .aguLea s .agu 1 (s.opo .agu + v * BitVec.ofNat 64 (2 ^ ((s.opp .agu).toNat % 8)))

/-- 09 R184, R186, R190, R191: a load that passes its checks fixes an access of its rows, and its result lands in `.r`
three cycles after the last of them; no register and no memory changes with the trigger. A store that passes its checks
fixes an access of its rows with the trigger value as data, at the address of its `o` latch; the bytes are written when
its rows come, not before, and no register changes. The rows of a bank are touched in rising order, eight cycles apart,
the first in the first cycle of the requester's for the bank from the trigger's cycle, or from the socket's last earlier
access, on; the last cycle is the greatest of these, or the start where the form touches nothing. The cycle in which a
store has performed is the model's reading (log entry 37). -/
def Obligations.LoadsAndStoresStart : Prop :=
  ∀ (s : State) (u : Twin), s.discards = false →
    let n := s.hand.tile
    let k := s.hand.ctx
    let b := s.tile n
    let fixed (t : State) (x : Access) (q : Nat) (l : List (Nat × Nat)) : Prop :=
      let start := max s.now (spGet 0 b.plast q)
      x ∈ (t.tile n).accesses ∧ x.id = b.nextId ∧ x.q = q ∧ x.ctx = k ∧ x.issued = s.now
        ∧ (∀ p ∈ l, ∃ r ∈ x.rows, p ∈ r.bytes)
        ∧ (∀ r ∈ x.rows, ∀ p, p ∈ r.bytes ↔ p ∈ l ∧ sramBank p.1 = r.bank ∧ sramRow p.1 = r.row)
        ∧ (∀ r ∈ x.rows, r.bytes ≠ []) ∧ (x.rows.map fun r => (r.bank, r.row)).Nodup
        ∧ (∀ r ∈ x.rows,
          let before := ((l.filter fun p => sramBank p.1 = r.bank && decide (sramRow p.1 < r.row)).map fun p => sramRow p.1).dedup.length
          start + 8 * before ≤ r.cyc ∧ r.cyc < start + 8 * before + 8 ∧ (r.cyc + q) % 8 = r.bank)
        ∧ (∀ r ∈ x.rows, r.cyc ≤ x.last) ∧ (x.rows ≠ [] → ∃ r ∈ x.rows, r.cyc = x.last) ∧ (x.rows = [] → x.last = start)
        ∧ spGet 0 (t.tile n).plast q = x.last + 1
        ∧ ∀ j r, x.rows[j]? = some r → Fixed t r.cyc prioRead (.sramBankAccess n q x.id j)
    (let so := ldSock u
     let a := s.tv.toNat % 2 ^ 32
     let cw := s.opo so
     let loads (i : Instr) (f : Form) (sext : Nat) : Prop :=
       s.checkAccess f false a cw (b.tag so) = none →
         ∃ (t : State) (x : Access), exec i s = .next t ∧ Unchanged s t ∧ fixed t x (requester so) (touches f a cw)
           ∧ x.store = false ∧ x.sext = sext ∧ x.data = 0#1024
           ∧ (t.tile n).flights = b.flights ++
             [{ id := x.id, so := so, po := .r, ctx := k, locked := b.lockedMode so, due := some (x.last + 3), val := 0#1024
                flags := 0, far := none, ready := none, err := none, errAux := 0#64, errAt := none, raised := false }]
           ∧ Fixed t (x.last + 3) prioLand (.resultLands n so .r)
     loads (.ldN8 u) (.plain 1) 0 ∧ loads (.ldN16 u) (.plain 2) 0 ∧ loads (.ldN32 u) (.plain 4) 0 ∧ loads (.ldX64 u) (.plain 8) 0
       ∧ loads (.ldS8 u) (.plain 1) 8 ∧ loads (.ldS16 u) (.plain 2) 16 ∧ loads (.ldS32 u) (.plain 4) 32
       ∧ loads (.ldB128 u) (.plain 16) 0 ∧ loads (.ldB256 u) (.plain 32) 0 ∧ loads (.ldB512 u) (.plain 64) 0
       ∧ loads (.ldB1024 u) (.plain 128) 0 ∧ loads (.ldM1024 u) .masked 0 ∧ loads (.ldSd32 u) .strided 0)
      ∧ (let so := stSock u
         let a := (s.opo so).toNat % 2 ^ 32
         let cw := s.opp so
         let stores (i : Instr) (f : Form) : Prop :=
           s.checkAccess f true a cw (b.tag so) = none →
             ∃ (t : State) (x : Access), exec i s = .next t
               ∧ t.ctx n k = { s.hc with pair := (t.ctx n k).pair } ∧ (s.hc.pair = none → (t.ctx n k).pair = none)
               ∧ SameOtherContexts s t n k ∧ SameRest s t ∧ (t.tile n).flights = b.flights
               ∧ fixed t x (requester so) (touches f a cw) ∧ x.store = true ∧ x.data = s.hand.tv
         stores (.stB8 u) (.plain 1) ∧ stores (.stB16 u) (.plain 2) ∧ stores (.stB32 u) (.plain 4) ∧ stores (.stB64 u) (.plain 8)
           ∧ stores (.stB128 u) (.plain 16) ∧ stores (.stB256 u) (.plain 32) ∧ stores (.stB512 u) (.plain 64)
           ∧ stores (.stB1024 u) (.plain 128) ∧ stores (.stM1024 u) .masked ∧ stores (.stSd32 u) .strided)

/-- 09 R186, R189 to R191: the bytes that each form touches (nb bytes from the address; the four bytes of each enabled
lane of a row; the four bytes at each enabled lane's own address), and the access of one row: a row of a store writes
the bytes it touches, each with its byte of the data, and no other byte of any memory; a row of a load, where no error
is marked, puts the bytes it touches into the data of the load and leaves the others, and the value to land is that
data, sign-extended where the form says so. A load of one row so gives the bytes from its address on in little-endian
order, and one of several rows, masked or strided, whose rows are accessed with no store between them, every byte that
it touches in its place, and 0 elsewhere. No register changes. -/
def Obligations.RowsAreAccessed : Prop :=
  (∀ (a : Nat) (cw : W64) (x i : Nat),
     (∀ nb, (x, i) ∈ touches (.plain nb) a cw ↔ i < nb ∧ x = a + i)
       ∧ ((x, i) ∈ touches .masked a cw ↔ i < 128 ∧ cw.getLsbD (32 + i / 4) = true ∧ x = a + i)
       ∧ ((x, i) ∈ touches .strided a cw ↔ i < 128 ∧ cw.getLsbD (32 + i / 4) = true
           ∧ (x : Int) = (a + (i / 4 : Nat) * (cw.setWidth 20).toInt) % 2 ^ 32 + (i % 4 : Nat)))
    ∧ ∀ (s : State) (n q id j : Nat) (x : Access) (r : RowTouch),
          (s.tile n).accesses.find? (fun y => decide (y.id = id)) = some x → x.q = q → x.rows[j]? = some r →
          (x.store = true → ∃ t, exec (.sramBankAccess n q id j) s = .next t
              ∧ (∀ a, memGet (t.tile n).sram a = match r.bytes.reverse.find? (fun p => decide (p.1 = a)) with
                | some p => BitVec.ofNat 8 (bits x.data (8 * p.2) 8)
                | none => memGet (s.tile n).sram a)
              ∧ (∀ m, m ≠ n → t.tile m = s.tile m) ∧ SameDevice s t ∧ t.hbm = s.hbm ∧ t.host = s.host
              ∧ ∀ m k, (t.ctx m k).regs = (s.ctx m k).regs ∧ (t.ctx m k).creg = (s.ctx m k).creg)
            ∧ (∀ a nb, x.store = false → (s.tile n).marks = [] → x.rows = [r] → x.data = 0#1024 → nb ≤ 128 →
              r.bytes = (List.range nb).map (fun i => (a + i, i)) →
              ∃ t, exec (.sramBankAccess n q id j) s = .next t
                ∧ (t.tile n).flights = (s.tile n).flights.map (fun f =>
                  if f.id = id then { f with val := extended x.sext (BitVec.ofNat 1024 (memNat (s.tile n).sram a nb)) } else f)
                ∧ Unchanged s t)
            ∧ (x.store = false → (s.tile n).marks = [] →
              (∀ y ∈ x.rows, ∀ z ∈ x.rows, ∀ p ∈ y.bytes, ∀ o ∈ z.bytes, p.2 < 128 ∧ (p.2 = o.2 → p = o)) →
              let mem (a : Nat) : Nat := (memGet (s.tile n).sram a).toNat
              let loaded (t : State) (v : V1024) : Prop := Unchanged s t
                ∧ (t.tile n).flights = (s.tile n).flights.map (fun f => if f.id = id then { f with val := extended x.sext v } else f)
              (∃ t v, exec (.sramBankAccess n q id j) s = .next t ∧ loaded t v
                ∧ (t.tile n).accesses.find? (fun y => decide (y.id = id)) = some { x with data := v }
                ∧ (∀ p ∈ r.bytes, bits v (8 * p.2) 8 = mem p.1)
                ∧ ∀ i < 128, (∀ p ∈ r.bytes, p.2 ≠ i) → bits v (8 * i) 8 = bits x.data (8 * i) 8)
              ∧ (x.data = 0#1024 → ∃ t v, loaded t v
                ∧ Steps ((List.range x.rows.length).map fun j => .sramBankAccess n q id j) s t
                ∧ (∀ y ∈ x.rows, ∀ p ∈ y.bytes, bits v (8 * p.2) 8 = mem p.1)
                ∧ ∀ i < 128, (∀ y ∈ x.rows, ∀ p ∈ y.bytes, p.2 ≠ i) → bits v (8 * i) 8 = 0))

/-- 09 R182, R193, R194: the access tests of the forms of 1 to 128 bytes: a byte past the last of the class traps
SRAMACC with detail 0x1, else a misaligned address with 0x2, else a byte that the class lacks, or a wide form in the
extra region, with 0x3; a far load outside the slice, misaligned, or on the waymark tile with 0x5. Where none of these
holds, an access of a context that is no routine passes. That a far load tests all 64 bits of its trigger value is the
model's choice (log entry 121). -/
def Obligations.AccessTests : Prop :=
  ∀ (s : State) (u : Twin), s.discards = false →
    let last' := if s.ht.cls = 0 then 0x5FFFF else 0x6BFFF
    let traps (i : Instr) (d : Nat) : Prop :=
      exec i s = .next (s.takeTrap s.hand.tile s.hand.ctx (raiseAt .sramacc s.hand.slot d))
    let tests (i : Instr) (nb a : Nat) : Prop :=
      (last' < a + nb - 1 → traps i 0x1)
        ∧ (a + nb - 1 ≤ last' → a % nb ≠ 0 → traps i 0x2)
        ∧ (a + nb - 1 ≤ last' → a % nb = 0 → 32 ≤ nb → 0x60000 ≤ a → traps i 0x3)
        ∧ (a + nb - 1 ≤ last' → a % nb = 0 → s.ht.cls = 1 → 0x60000 ≤ a → 14 ≤ (a + nb - 1) % 16 → traps i 0x3)
    (∀ p ∈ [(Instr.ldN8 u, 1), (.ldS8 u, 1), (.ldN16 u, 2), (.ldS16 u, 2), (.ldN32 u, 4), (.ldS32 u, 4), (.ldX64 u, 8), (.ldB128 u, 16),
        (.ldB256 u, 32), (.ldB512 u, 64), (.ldB1024 u, 128)], tests p.1 p.2 (s.tv.toNat % 2 ^ 32))
      ∧ (∀ p ∈ [(Instr.stB8 u, 1), (.stB16 u, 2), (.stB32 u, 4), (.stB64 u, 8), (.stB128 u, 16), (.stB256 u, 32), (.stB512 u, 64),
        (.stB1024 u, 128)], tests p.1 p.2 ((s.opo (stSock u)).toNat % 2 ^ 32))
      ∧ (∀ p ∈ [(Instr.ldFl64 u, 8), (.ldFl1024 u, 128)],
        s.hand.tile = waymark ∨ 0x800000 ≤ s.tv.toNat ∨ s.tv.toNat % p.2 ≠ 0 → traps p.1 0x5)
      ∧ ∀ nb ∈ [1, 2, 4, 8, 16, 32, 64, 128], ∀ (write : Bool) (a : Nat) (cw : W64) (tag : Option Nat), isRoutine s.hand.ctx = false →
        a + nb - 1 ≤ last' → a % nb = 0 → (32 ≤ nb → a < 0x60000) → (s.ht.cls = 1 → 0x60000 ≤ a → (a + nb - 1) % 16 < 14) →
        s.checkAccess (.plain nb) write a cw tag = none

/-- 09 R194, 04 R85: a far load lands in an open cycle from 40 to 120 after its trigger, from the staging slice of the
tile's furlong, and holds its context until then. Its cycle is a free value (log entries 1, 15). -/
def Obligations.FarLoads : Prop :=
  ∀ (s : State) (u : Twin), s.discards = false → s.hand.tile ≠ waymark → s.tv.toNat < 0x800000 →
    let n := s.hand.tile
    let b := s.tile n
    ∀ p ∈ [(Instr.ldFl64 u, 8), (.ldFl1024 u, 128)], s.tv.toNat % p.2 = 0 →
      ∃ (t : State) (due : Nat), exec p.1 s = .next t ∧ s.now + 40 ≤ due ∧ due ≤ s.now + 120
        ∧ (t.tile n).flights = b.flights ++
          [{ id := b.nextId, so := ldSock u, po := .r, ctx := s.hand.ctx, locked := true, due := some due, val := 0#1024
             flags := 0, far := some (s.tv.toNat, p.2), ready := none, err := none, errAux := 0#64, errAt := none
             raised := false }]
        ∧ ({ cyc := due, prio := prioLand, ins := .resultLands n (ldSock u) .r } : Agenda) ∈ t.agenda
        ∧ t.ctx n s.hand.ctx = { s.hc with holds := s.hc.holds ++ [.result b.nextId] }
        ∧ (t.tile n).primary ≠ some s.hand.ctx ∧ SameOtherContexts s t n s.hand.ctx ∧ SameRest s t

/-- 03 R56, R60, R62, 06 R145, 09 R194, R196, 13 R287: the results that are due in a port in this cycle land. Where all
are data-locked they land in trigger order, and the port keeps the value of the latest trigger; where one is not, that
of the latest trigger lands, the others are discarded with their flags, and `ctlstat` of its context records the
collision and the socket: results of this cycle that have landed there before, replayed ones, take part. The flags of
those that land join `fpflags` of their contexts, and the errors they consumed are causes due there. A far load brings
the bytes of the slice as they are now; an uncorrectable error in each line is charged, and together they are one cause.
Results of other ports and cycles stay in flight. The cycle in which a far load reads, and the detail 0x2 of such an
error, are the model's choices (log entries 51, 52). -/
def Obligations.ResultsLand : Prop :=
  ∀ (s : State) (n : Nat) (so : Sock) (po : Port),
    let u := s.tile n
    let fu := s.furlong (furlongOf n)
    let fs := u.flights.filter fun f => decide (f.so = so ∧ f.po = po ∧ f.due = some s.now)
    let before := u.landed.filter fun p => decide (p.2.due = some s.now)
    let old := (before.filter fun p => decide (p.2.so = so ∧ p.2.po = po)).map (·.2)
    let value (f : Flight) : V1024 := match f.far with
      | some (o, b) => BitVec.ofNat 1024 (memNat fu.slice o b)
      | none => f.val
    let cause (f : Flight) : Option Due := f.err.map fun c =>
      { at' := s.now, urgent := false, what :=
          { cause := c, slot := 15, detail := bits f.errAux 48 16, aux := w64 (bits f.errAux 0 48), eng := false } }
    let lands (gs : List Flight) (also : Ctx → List Due) (flags : Ctx → W64) (t : State) : Prop :=
      exec (.resultLands n so po) s = .next t
        ∧ (∀ f ∈ gs, (∀ g ∈ old ++ gs, g ≠ f → g.id < f.id) → (t.tile n).port so po = value f)
        ∧ ((∀ f ∈ gs, ∃ g ∈ old, f.id < g.id) → (t.tile n).port so po = u.port so po)
        ∧ (∀ so' po', (so' ≠ so ∨ po' ≠ po) → (t.tile n).port so' po' = u.port so' po')
        ∧ (∀ k, let mine := gs.filter fun f => decide (f.ctx = k)
          (t.ctx n k).cr 0x029 = mine.foldl (fun v f => v ||| w64 f.flags) (flags k)
            ∧ (t.ctx n k).dues = (s.ctx n k).dues ++ mine.filterMap cause ++ also k
            ∧ (t.ctx n k).regs = (s.ctx n k).regs)
        ∧ (∀ f, f ∈ (t.tile n).flights ↔ f ∈ u.flights ∧ ¬(f.so = so ∧ f.po = po ∧ f.due = some s.now))
        ∧ (∀ m, m ≠ n → t.tile m = s.tile m) ∧ SameMemory s t ∧ SameSync s t ∧ SameDevice s t
    let none' (_ : Ctx) : List Due := []
    let kept (k : Ctx) : W64 := (s.ctx n k).cr 0x029
    let collided (k : Ctx) (t : State) : Prop :=
      ∀ j b, ((t.ctx n j).cr 0x021).getLsbD b =
        if j = k ∧ b = 1 then true
        else if j = k ∧ 16 ≤ b ∧ b < 21 then (sockNum so).testBit (b - 16)
        else ((s.ctx n j).cr 0x021).getLsbD b
    let calm (t : State) : Prop := ∀ k, (t.ctx n k).cr 0x021 = (s.ctx n k).cr 0x021
    let unmarked (f : Flight) : Prop := ∀ o b, f.far = some (o, b) → ∀ l, o / 64 ≤ l → l ≤ (o + b - 1) / 64 → spGet false fu.mark l = false
    (∀ x ∈ u.captures, x.fl.far = none ∨ x.fl.due ≠ some s.now ∨ x.fl.so ≠ so ∨ x.fl.po ≠ po) →
    ((∀ f ∈ fs, unmarked f ∧ f.locked = true) → (∀ g ∈ old, g.locked = true) → ∃ t, lands fs none' kept t ∧ calm t)
      ∧ (old = [] → ∀ f ∈ fs, unmarked f → (∃ g ∈ fs, g.locked = false) → (∀ g ∈ fs, g ≠ f → g.id < f.id) →
        ∃ t, lands [f] none' kept t ∧ (1 < fs.length → collided f.ctx t) ∧ (fs.length ≤ 1 → calm t))
      ∧ (fs ≠ [] → old ≠ [] → (∃ g ∈ old ++ fs, g.locked = false) →
        (∀ f ∈ fs, unmarked f → (∀ g ∈ old ++ fs, g ≠ f → g.id < f.id) → (∀ g ∈ old, g.id < f.id) →
          ∃ t, collided f.ctx t ∧ (t.tile n).port so po = value f ∧ lands [f] none' (fun k =>
            match before.find? fun p => decide (p.2.ctx = k) with
            | none => kept k
            | some p => (before.filter fun p => decide (p.2.ctx = k ∧ ¬(p.2.so = so ∧ p.2.po = po))).foldl
                (fun v p => v ||| w64 p.2.flags) p.1) t)
          ∧ ∀ f ∈ old, (∀ g ∈ old ++ fs, g ≠ f → g.id < f.id) → (∀ g ∈ fs, g.id < f.id) →
            ∃ t, collided f.ctx t ∧ (t.tile n).port so po = u.port so po ∧ lands [] none' kept t)
      ∧ ∀ f o b l, old = [] → fs = [f] → f.locked = true → f.far = some (o, b) → f.err = none → o / 64 ≤ l → l ≤ (o + b - 1) / 64 →
        spGet false fu.mark l = true → (∀ i, o / 64 ≤ i → i < l → spGet false fu.mark i = false) → l < 2 ^ 17 →
        let left := bits ((s.ctx n f.ctx).cr 0x062) 0 32
        let errors := ((List.range ((o + b - 1) / 64 + 1)).filter fun i => decide (o / 64 ≤ i) && spGet false fu.mark i).length
        let free : Bool := decide (left = 2 ^ 32 - 1)
        ∃ t, lands fs (fun k => if k = f.ctx then
            [{ at' := s.now, urgent := false, what :=
                { cause := if free = false ∧ left < errors then .errbudget else .uncorr, slot := 15, detail := 2
                  aux := w64 (64 * l), eng := false } }]
            else []) kept t
          ∧ bits ((t.ctx n f.ctx).cr 0x062) 0 32 = (if free then left else left - errors)

/-- 09 R196, R198, 18 R405: a corrected half is written back and its mark cleared; a legal write of `sramcfg`, or one
whose test has been passed, starts a class rewrite of 3,072 cycles, in which requester 7 meets each row with an error in
a cycle of the bank of its own, and one that is not legal is ignored; at its end the marks are clear and the extra region
reads 0, while the main part keeps its bytes. The slot of the bank in which requester 7 meets a row is open (log entry
99). -/
def Obligations.SramMaintenance : Prop :=
  ∀ (s : State) (n : Nat),
    let u := s.tile n
    (∀ bank row half, spFind u.marks (unitKey bank row half) = some .corrected →
        ∃ t, exec (.sramCorrectedRewrite n bank row half) s = .next t ∧ (t.tile n).marks = spErase u.marks (unitKey bank row half)
          ∧ (∀ r, r ≠ 0x079 → (t.tile n).rg r = u.rg r) ∧ (u.cairn = none → (t.tile n).rg 0x079 = u.rg 0x079)
          ∧ SameContexts s t ∧ SameMemory s t ∧ SameSync s t ∧ SameEngines s t ∧ SameDevice s t)
      ∧ (∀ bank row half, spFind u.marks (unitKey bank row half) = some .lost → u.busy = true →
        ∃ t, exec (.sramCorrectedRewrite n bank row half) s = .next t ∧ (t.tile n).marks = spErase u.marks (unitKey bank row half)
          ∧ ((t.tile n).rg 0x031).getLsbD 63 = true ∧ (∀ r, r ≠ 0x031 → (t.tile n).rg r = u.rg r)
          ∧ SameContexts s t ∧ SameMemory s t ∧ SameSync s t ∧ SameEngines s t ∧ SameDevice s t)
      ∧ (∀ v : W64, (.sramcfgWrite n v) ∈ s.accepted ∨ v.toNat % 4 ≠ 3 ∧ s.canRewrite n = true →
        ∃ t, exec (.sramcfgWrite n v) s = .next t ∧ (t.tile n).rg 0x030 = w64 (v.toNat % 4 + 4)
          ∧ (∀ r, r ≠ 0x030 → (t.tile n).rg r = u.rg r) ∧ (t.tile n).marks = u.marks
          ∧ t.accepted = s.accepted.erase (.sramcfgWrite n v)
          ∧ (∃ slot : Nat → Nat → Nat,
            let errs (bank row half : Nat) : Prop := bank < 8 ∧ row < 384 ∧ half < 2 ∧ (unitKey bank row half, Mark.lost) ∈ u.marks
            ∀ bank row half, errs bank row half →
              let w := slot bank row
              s.now ≤ w ∧ w < s.now + 3072 ∧ (w + 7) % 8 = bank ∧ Fixed t w prioRead (.sramCorrectedRewrite n bank row half)
                ∧ ∀ row' half', errs bank row' half' → row' ≠ row → slot bank row' ≠ w)
          ∧ Fixed t (s.now + 3072) prioWrite (.classRewriteEnd n)
          ∧ SameContexts s t ∧ SameMemory s t ∧ SameSync s t ∧ SameEngines s t ∧ SameDevice s t)
      ∧ (∀ v : W64, (.sramcfgWrite n v) ∉ s.accepted → v.toNat % 4 = 3 ∨ s.canRewrite n = false →
        exec (.sramcfgWrite n v) s = .next s)
      ∧ ∃ t, exec (.classRewriteEnd n) s = .next t ∧ (t.tile n).marks = [] ∧ (t.tile n).busy = false ∧ (t.tile n).cls = u.cls
        ∧ (∀ a < 0x60000, memGet (t.tile n).sram a = memGet u.sram a) ∧ (∀ a, 0x60000 ≤ a → memGet (t.tile n).sram a = 0#8)
        ∧ (∀ r, r ≠ 0x030 → r ≠ 0x079 → (t.tile n).rg r = u.rg r)
        ∧ SameContexts s t ∧ SameSync s t ∧ SameEngines s t ∧ SameDevice s t

/-! ## Guards, the scheduler, routines (03, 04) -/

/-- 04 R86, R88, R90, 18 R411: a throttled cycle changes nothing; a displaced slot goes to its context; a write of
`svcaddr` keeps its fields and starts or ends the program of K3 in the next cycle; a taken interrupt writes h0 to h2,
saves what `uret` restores and goes on at the handler; a cause due is taken in the order of R411. That an interrupt
takes its cycle (log entry 43), and that a displaced holder counts the cycle in which it is displaced (log entry 94), is
the model's reading. -/
def Obligations.SchedulerEvents : Prop :=
  ∀ (s : State) (n : Nat) (k : Ctx), isTile n = true →
    let u := s.tile n
    let c := s.ctx n k
    exec (.throttledCycle n) s = .next s
      ∧ (∃ t, exec (.displacement n k) s = .next t ∧ (t.tile n).primary = some k ∧ spGet 0 (t.tile n).displ (ctxNum k) = 0
        ∧ (∀ h, h ≠ k → spGet 0 (t.tile n).displ (ctxNum h)
          = if u.primary = some h ∧ h ≠ .k3 then 1 else spGet 0 u.displ (ctxNum h)) ∧ SameContexts s t ∧ SameRest s t)
      ∧ (∀ v : W64, ∃ t, exec (.svcaddrWrite n v) s = .next t
        ∧ (∀ i < 64, ((t.tile n).rg 0x023).getLsbD i
            = (decide (i < 11 ∨ (16 ≤ i ∧ i < 27) ∨ i = 32) && v.getLsbD i))
        ∧ (∀ r, r ≠ 0x023 → (t.tile n).rg r = u.rg r)
        ∧ NextCycle s t n .k3 updBallast (w64 (b2n (v.getLsbD 32)))
        ∧ SameContexts s t ∧ SameMemory s t ∧ SameSync s t ∧ SameEngines s t ∧ SameDevice s t)
      ∧ (u.ballast = true → u.k3.run ≠ .trapped →
        ∃ t, exec (.registerWrite { tile := n, ctx := .k3, num := updBallast } 0#64) s = .next t ∧ (t.tile n).ballast = false
          ∧ t.ctx n .k3 = { s.ctx n .k3 with run := .idle, holds := [] } ∧ (t.tile n).privO = [] ∧ (t.tile n).privP = []
          ∧ SameOtherContexts s t n .k3 ∧ SameRest s t)
      ∧ (∀ x : Intr, c.saved = none → c.pc < 2 ^ 11 → x.src < 16 → x.tok < 64 → x.status < 2 ^ 32 →
        (∃ l m, c.irqs = l ++ x :: m ∧ c.ien.getLsbD (x.src - 1) = true
          ∧ ∀ y ∈ l, y ≠ x ∧ c.ien.getLsbD (y.src - 1) = false) →
        ∃ t, exec (.interruptEntry n k) s = .next t
          ∧ (let d := t.ctx n k
            d.pc = c.handler ∧ d.nest.active = false ∧ d.holds = [] ∧ d.irqs = c.irqs.erase x ∧ d.irqOvf = false
              ∧ d.saved = some { pc := c.pc, guards := c.regs.g, nest := c.nest, holds := c.holds }
              ∧ d.regs.read .h 0 = c.pc
              ∧ d.regs.read .h 1 = x.src + x.tok * 2 ^ 4 + b2n c.irqOvf * 2 ^ 10 + x.status * 2 ^ 32
              ∧ (∀ i, (d.regs.read .h 2).testBit i = (decide (i < 24) && decide (spGet 0#1 c.regs.g i = 1#1)))
              ∧ (∀ f i, (f ≠ .h ∨ 3 ≤ i) → d.regs.read f i = c.regs.read f i) ∧ d.creg = c.creg ∧ d.rstack = c.rstack)
          ∧ SameOtherContexts s t n k ∧ SameMemory s t ∧ SameDevice s t)
      ∧ (c.dues ≠ [] → ∃ d ∈ c.dues,
        (∀ e ∈ c.dues, d.at' < e.at' ∨ d.at' = e.at' ∧ d.what.cause.code ≤ e.what.cause.code)
          ∧ exec (.trapTake n k) s
            = .next ((s.modCtx n k fun c => { c with dues := c.dues.erase d }).takeTrap n k d.what (s.wordFails n k)))

/-- 04 R80, R81, R82, R88, R91, R92: a firing takes its context and its counts; a retired routine adds what it makes and
frees its context, and the last one of the list ends the phase; the watchdog, a stalled list and the start of ballast.
That a context that becomes idle fires again in the cycle after is the model's reading (log entry 97). -/
def Obligations.RoutinesFireAndRetire : Prop :=
  ∀ (s : State) (n : Nat), isTile n = true →
    let u := s.tile n
    (∀ (e : Nat) (k : Ctx), e < 64 →
        k = .k0 ∧ u.k0.run = .idle ∧ u.k1.coupled = false
          ∨ k = .k1 ∧ u.k0.run ≠ .idle ∧ u.k1.run = .idle ∧ u.k0.coupled = false →
        ∃ t, exec (.entryFire n e) s = .next t
          ∧ (let c := s.ctx n k
            let d := t.ctx n k
            d.run = .ready ∧ d.pc = (u.rg (0x101 + 3 * e)).toNat % 2 ^ 11 ∧ d.wdog = some ((u.rg (0x102 + 3 * e)).toNat % 2 ^ 32)
              ∧ d.wstart = s.now + 1 ∧ d.entry = some e ∧ d.rstack = [] ∧ d.nest.active = false ∧ (∀ i, spGet 1 d.pend i = 1)
              ∧ d.ien = 0#2 ∧ d.holds = [] ∧ d.regs = c.regs ∧ d.creg = c.creg ∧ d.firing = c.firing + 1)
          ∧ (t.tile n).entry e =
            { st := 1, ctx := ctxNum k, count0 := (u.entry e).count0 - (u.rg (0x100 + 3 * e)).toNat / 2 ^ 32 % 2 ^ 16,
              count1 := (u.entry e).count1 - (u.rg (0x100 + 3 * e)).toNat / 2 ^ 48 % 2 ^ 16 }
          ∧ (∀ f, f ≠ e → (t.tile n).entry f = u.entry f) ∧ (t.tile n).nextEntry = e + 1
          ∧ SameOtherContexts s t n k ∧ SameMemory s t ∧ SameSync s t ∧ SameEngines s t ∧ SameDevice s t)
      ∧ (∀ (k : Ctx) (e : Nat), (s.ctx n k).run = .retiring → (s.ctx n k).entry = some e →
        (∀ f q, (u.entry f).count q ≤ 0xFFFFFF) →
        ∃ t, exec (.routineRetired n k) s = .next t
          ∧ (t.ctx n k).run = .idle ∧ (t.ctx n k).regs = (s.ctx n k).regs ∧ (t.ctx n k).creg = (s.ctx n k).creg
          ∧ ((t.tile n).entry e).st = 3 ∧ (∀ f, f ≠ e → ((t.tile n).entry f).st = (u.entry f).st)
          ∧ (∀ f q, q < 2 → ((t.tile n).entry f).count q = min 0xFFFFFF ((u.entry f).count q
              + (if u.makeDest e 0 = f ∧ u.makeQueue e 0 = q then u.makes e 0 else 0)
              + (if u.makeDest e 1 = f ∧ u.makeQueue e 1 = q then u.makes e 1 else 0)))
          ∧ (let ended := u.running = true ∧ ∀ f, u.listFirst ≤ f → f ≤ u.listLast → ((t.tile n).entry f).st = 3
            (ended → (t.tile n).running = false
              ∧ (bits (u.rg 0x051) 40 3 = 2 → bits ((t.tile n).rg 0x051) 40 3 = 3))
            ∧ (¬ended → (t.tile n).running = u.running ∧ ∀ r, (t.tile n).rg r = u.rg r))
          ∧ SameOtherContexts s t n k ∧ SameMemory s t ∧ SameSync s t ∧ SameEngines s t ∧ SameDevice s t)
      ∧ (∀ k : Ctx, (s.ctx n k).run = .ready →
        let cause := if u.waiting s.now k then Cause.waitunsat else .watchdog
        ∃ t, exec (.watchdog n k) s = .next t
          ∧ t.ctx n k = { s.ctx n k with
              dues := (s.ctx n k).dues ++ [{ at' := s.now, urgent := true, what := raiseAt cause 15 0 }] }
          ∧ SameOtherContexts s t n k ∧ SameRest s t)
      ∧ (u.frozen = false → exec (.waitunsatList n) s = .next (s.takeTrap n .k0 (raiseAt .waitunsat 15 0x01)))
      ∧ (u.frozen = true → ∃ t, exec (.waitunsatList n) s = .next t
        ∧ t.ctx n .k0 = { u.k0 with
            dues := u.k0.dues ++ [{ at' := s.now, urgent := false, what := raiseAt .waitunsat 15 0x01 }] }
        ∧ SameOtherContexts s t n .k0 ∧ SameRest s t)
      ∧ ∃ t, exec (.ballastStart n) s = .next t
        ∧ t.ctx n .k3 = { s.ctx n .k3 with
            run := .ready, pc := (u.rg 0x023).toNat / 2 ^ 16 % 2 ^ 11, next := none, rstack := [], nest := Nest.reset, holds := [] }
        ∧ (t.tile n).privO = [] ∧ (t.tile n).privP = [] ∧ SameOtherContexts s t n .k3 ∧ SameRest s t

/-! ## The matrix array (10) -/

/-- 10 R204, R210 to R212, R217, 12 R270, R272: a header in slot 12 whose token is not pending makes it pending and
leaves its command unstarted in the tile's engine, with the format context, the staging and the rounding of its word;
one issued over an unstarted command, or invalid, raises MXHAZ 0x4 or 0x5 on its context and gives its token back in the
next cycle; a pending token traps TOKDUP. That 0x4 goes before 0x5, and the eng bit of the cause, are the model's choice
(log entries 98, 125). -/
def Obligations.MatrixHeaders : Prop :=
  ∀ (s : State) (h : Hdr), s.discards = false →
    let n := s.hand.tile
    let k := s.hand.ctx
    let u := s.tile n
    let c := s.hc
    let ch := s.chain (chainOf n)
    let p := h.tokp.toNat
    ∀ q ∈ [(Instr.mxMm h, 1), (.mxGang h, 2), (.mxSeq h, 3), (.mxGseq h, 4), (.mxTadd h, 5), (.mxDrain h, 6), (.mxTcsave h, 7)],
      (p ≠ 63 → u.tokPending p = true → exec q.1 s = .next (s.takeTrap n k (raiseAt .tokdup s.hand.slot 0x1)))
        ∧ (p = 63 ∨ u.tokPending p = false →
          ∃ t, exec q.1 s = .next t ∧ SameOtherContexts s t n k ∧ SameMemory s t
            ∧ (∀ i, (t.tile n).tokPending i = (u.tokPending i || (decide (i = p) && decide (p ≠ 63))))
            ∧ (∀ i, i < 8 → (t.chain (chainOf n)).fmt i = ch.fmt i ∧ ∀ j < 4, (t.chain (chainOf n)).counter i j = ch.counter i j)
            ∧ (t.chain (chainOf n)).ivEnd = ch.ivEnd
            ∧ (let refused (d : Nat) (xs : List Due) : Prop := (t.tile n).eng.mx = u.eng.mx
                ∧ (c.run ≠ .idle → (t.ctx n k).dues = c.dues ++ xs ++ [engineDue s.now true .mxhaz d])
                ∧ TokenReturns s t n p
              (1728 ≤ n ∨ ch.word.getLsbD 63 = true ∨ s.slotOfTile n = none → refused 0x5 [])
              ∧ ∀ j, n < 1728 → ch.word.getLsbD 63 = false → s.slotOfTile n = some j →
                (u.eng.mx.isSome → refused 0x4 [])
                ∧ (u.eng.mx = none → (s.mxForm q.2 h j).valid ch = false → ∃ xs, refused 0x5 xs)
                ∧ (u.eng.mx = none → (s.mxForm q.2 h j).valid ch = true → ∃ x, (t.tile n).eng.mx = some x ∧ t.ctx n k = c
                  ∧ x.kind = q.2 ∧ x.h = h ∧ x.tile = n ∧ x.slot = j ∧ x.ctx = k ∧ x.firing = c.firing ∧ x.fmt = ch.fmt j
                  ∧ x.fpmode = c.cr 0x028 ∧ x.st = (List.range 6).map (fun i => spGet 0#64 c.regs.m i) ∧ x.issued = s.now
                  ∧ x.granted = none)))

/-- 10 R225 to R227: the operations of the socket `mx` land, one cycle on, what they read of their slot; `fset`, `tcclr`
and `chkclr` change it at the start of the next cycle, and nothing else. That bit 36 of the status tells of array runs
alone is the model's choice (log entry 126). -/
def Obligations.MatrixSocket : Prop :=
  ∀ (s : State) (j : Nat), s.discards = false → s.slotOfTile s.hand.tile = some j →
    let n := s.hand.tile
    let c := chainOf n
    let ch := s.chain c
    let lands (i : Instr) (v : W64) : Prop := Yields64 i s .mx 1 v
    let changes (i : Instr) (v : W64) (num : Nat) (w : W64) : Prop :=
      ∃ t, exec i s = .next t ∧ Lands s t .mx 1 [(.r, wide v)] 0 ∧ Unchanged s t
        ∧ NextCycle s t n s.hand.ctx num w
    let updates (num : Nat) (w : W64) (ch' : Chain) : Prop :=
      ∃ t, exec (.registerWrite { tile := n, ctx := s.hand.ctx, num := num } w) s = .next t ∧ t.chain c = ch'
        ∧ (∀ d, d ≠ c → t.chain d = s.chain d) ∧ SameContexts s t ∧ SameMemory s t ∧ SameSync s t ∧ SameEngines s t
    changes .fset (ch.fmt j) updFset (w64 (s.tv.toNat % 2 ^ 14)) ∧ lands .fget (ch.fmt j)
      ∧ lands .tcread (w64 (ch.counter j (s.tv.toNat % 4))) ∧ changes .tcclr (w64 (ch.counter j 3)) updTcclr 0#64
      ∧ lands .chkrd ch.chkrec ∧ changes .chkclr ch.chkrec updChkclr 0#64
      ∧ lands .dur (w64 (40 + (s.opo .mx).toNat % 2 ^ 11 * (s.tv.toNat % 2 ^ 8)))
      ∧ (ch.rp < 8 → ∃ v : W64, lands .mxStat v ∧ v.toNat % 2 ^ 32 = min (2 ^ 32 - 1) (ch.ivEnd - s.now)
        ∧ v.toNat / 2 ^ 32 % 8 = ch.rp ∧ v.getLsbD 35 = (s.tile n).eng.mx.isSome
        ∧ (v.getLsbD 36 = true ↔ ∃ r ∈ ch.runs, r.start ≤ s.now) ∧ v.toNat / 2 ^ 37 % 2 ^ 11 = 0)
      ∧ (∀ w : W64, isTile n = true → ∃ ch', updates updFset w ch' ∧ ch'.fmt j = w64 (w.toNat % 2 ^ 14)
        ∧ (∀ i, i ≠ j → ch'.fmt i = ch.fmt i) ∧ { ch' with mxfmt := ch.mxfmt } = ch)
      ∧ (isTile n = true → ∃ ch', updates updTcclr 0#64 ch'
        ∧ (∀ i < 8, ∀ q < 4, ch'.counter i q = if i = j then 0 else ch.counter i q) ∧ { ch' with counts := ch.counts } = ch)
      ∧ (isTile n = true → ∃ ch', updates updChkclr 0#64 ch' ∧ ch'.chkrec.toNat = ch.chkrec.toNat % 2 ^ 62
        ∧ { ch' with chkrec := ch.chkrec } = ch)

/-- 10 R213 to R217, R220: a command comes to its start. A solo command whose declared duration is the computed one
starts where E has passed, and E moves to its end; it is refused with 0x2 for its duration, else with 0x1; after a grant
that has started in its cycle it is not tested against E and starts where E stands, to which it moves its own end; a
gang command joins the barrier, and the eight start or are refused together; a counter save takes its next cycle of the
wheel, a drain gives its token at once. On a frozen tile a grant that has not come to its start is taken back, and a
complete gang with a frozen member waits (18 R416). How the grants behind it move and that gang waits, that the operation
is among the fields a gang shares, what weight streams in error mean for the duration test, and the eng bit of a cause
are the model's readings (log entries 55, 57, 98, 108). -/
def Obligations.MatrixStarts : Prop :=
  ∀ (s : State) (c : Nat),
    let ch := s.chain c
    let refusal (y : MxCmd) (d : Nat) (t : State) : Prop :=
      (t.tile y.tile).eng.mx = none
        ∧ ((s.ctx y.tile y.ctx).runs y.firing = true → engineDue s.now true .mxhaz d ∈ (t.ctx y.tile y.ctx).dues)
        ∧ TokenReturns s t y.tile y.h.tokp.toNat
        ∧ (t.chain c).ivEnd = ch.ivEnd ∧ (t.chain c).runs = ch.runs
    let started (ms : List MxCmd) (total : Nat) (t : State) : Prop :=
      (∀ y ∈ ms, (t.tile y.tile).eng.mx = none) ∧ (t.chain c).ivEnd = s.now + total
        ∧ (∃ r ∈ (t.chain c).runs, r.members = ms ∧ r.start = s.now ∧ r.total = total
          ∧ Fixed t (s.now + total) prioDone (.mxCommandComplete c r.id))
        ∧ SameContexts s t
    let ends (y : MxCmd) (ms : List MxCmd) (start : Nat := s.now) : Nat := planLength y (ch.plan ms start)
    let queued (x : MxCmd) (t : State) : Prop :=
      (t.tile x.tile).eng.mx = some { x with granted := some ch.ivEnd } ∧ (t.chain c).ivEnd = ch.ivEnd + x.declared
        ∧ Fixed t ch.ivEnd prioLand (.mxCommandStart x.tile)
        ∧ (∃ r ∈ (t.chain c).runs, r.members = [x] ∧ r.start = ch.ivEnd ∧ r.total = x.declared
          ∧ Fixed t (ch.ivEnd + x.declared) prioDone (.mxCommandComplete c r.id))
        ∧ SameContexts s t
    (∀ (n : Nat) (x : MxCmd), (s.tile n).eng.mx = some x → x.tile = n → chainOf n = c → x.granted = none →
      let y := { x with arrived := s.now }
      (x.kind ∉ [2, 4, 7] → ∃ t, exec (.mxCommandStart n) s = .next t ∧ SameMemory s t ∧ SameSync s t
          ∧ (t.chain c).rp = (x.slot + 1) % 8
          ∧ (ch.granted ≠ s.now + 1 →
            (ends y [y] ≠ x.declared → refusal x 0x2 t)
            ∧ (ends y [y] = x.declared → s.now < ch.ivEnd → refusal x 0x1 t)
            ∧ (ends y [y] = x.declared → ch.ivEnd ≤ s.now → started [y] x.declared t))
          ∧ (ch.granted = s.now + 1 → s.now < ch.ivEnd →
            (ends y [y] ch.ivEnd ≠ x.declared → refusal x 0x2 t) ∧ (ends y [y] ch.ivEnd = x.declared → queued y t)))
        ∧ (x.kind = 2 ∨ x.kind = 4 → ∃ t, exec (.mxCommandStart n) s = .next t
          ∧ t.chain c = { ch with arrivals := ch.arrivals ++ [(y, s.now)] } ∧ (t.tile n).eng.mx.isSome
          ∧ (ch.arrivals.length = 7 → Fixed t (s.now + 2) prioLand (.mxGangStart c))
          ∧ SameContexts s t ∧ SameMemory s t ∧ SameSync s t)
        ∧ (x.kind = 7 → ∃ (t : State) (w : Nat), exec (.mxCommandStart n) s = .next t ∧ s.now ≤ w
          ∧ (w + 6) % 8 = sramBank ((x.m 0).toNat % 2 ^ 32) ∧ (t.tile n).eng.mx = none ∧ (t.tile n).eng.tcsave = some (w, x)
          ∧ Fixed t (w) prioRead (.mxTcsaveWrite n)
          ∧ SameContexts s t ∧ SameMemory s t ∧ SameSync s t ∧ SameDevice s t)
        ∧ (∃ t, exec (.mxDrainDone n) s = .next t ∧ (t.tile n).eng.mx = none
          ∧ (x.h.tokp.toNat ≠ 63 → (t.tile n).tokPending x.h.tokp.toNat = false) ∧ SameContexts s t ∧ SameMemory s t ∧ SameDevice s t))
      ∧ (∀ (n w : Nat) (x : MxCmd), (s.tile n).eng.mx = some x → x.granted = some w → ∃ t, exec (.mxCommandStart n) s = .next t
        ∧ SameContexts s t ∧ SameMemory s t ∧ ((s.tile n).frozen = false → (t.tile n).eng.mx = none ∧ SameDevice s t)
        ∧ ∀ r, chainOf n = c → (s.tile n).frozen = true →
          ch.runs.find? (fun r => decide (s.now ≤ r.start ∧ r.start = w) && r.members.any fun z => decide (z.tile = n)) = some r →
          (∀ q ∈ ch.runs, q.id ≠ r.id → ∀ z ∈ q.members, z.tile ≠ n) →
          (t.tile n).eng.mx = some { x with granted := none }
            ∧ (t.chain c).runs.map (·.id) = (ch.runs.map (·.id)).filter (· ≠ r.id) ∧ (ch.runs = [r] → (t.chain c).ivEnd = w))
      ∧ (∀ ms : List MxCmd, ms ≠ [] → ch.arrivals.map (·.1) = ms → (ms.map (·.slot)).Pairwise (· < ·) →
        (∀ y ∈ ms, chainOf y.tile = c) → (ms.map (·.tile)).Nodup → ∃ t, exec (.mxGangStart c) s = .next t
          ∧ ((∃ y ∈ ms, (s.tile y.tile).frozen = true) → Fixed t (s.now + 1) prioLand (.mxGangStart c) ∧ Unchanged s t)
          ∧ ((∀ y ∈ ms, (s.tile y.tile).frozen = false) → (t.chain c).arrivals = [] ∧ SameMemory s t ∧ SameSync s t
          ∧ ((∃ y ∈ ms, ∃ z ∈ ms, y.shared ≠ z.shared) → ∀ y ∈ ms, refusal y 0x3 t)
          ∧ ((∀ y ∈ ms, ∀ z ∈ ms, y.shared = z.shared) → ∀ y, ms.head? = some y →
            (ends y ms ≠ y.declared → ∀ z ∈ ms, refusal z 0x2 t)
            ∧ (ends y ms = y.declared → s.now < ch.ivEnd → ∀ z ∈ ms, refusal z 0x1 t)
            ∧ (ends y ms = y.declared → ch.ivEnd ≤ s.now → started ms y.declared t))))

/-- 10 R202, R204, R207 to R209, R219, 11 R233, R234, R239, R245: what the accesses of a started command do, solo or
gang. A row of a tile addition reads its two operands and writes, at its columns, the sums of what was read. A row of a
pass reads its A row in its cycle, and, for each member under acc, the old accumulators of the member's columns; each
member's columns of a row of C take the `CanonicalSum` over all blocks of the `BlockDot`s of that row with the weights
of those columns, added to the old C under acc; the flags of these sums join the member's. No other byte of the tile
store changes, nor any other memory. That the two passes of a checked pair do not differ where they read the same is the
model's choice (log entry 53). -/
def Obligations.MatrixRows : Prop :=
  ∀ (s : State) (c id p m : Nat) (r : MxRun) (x : MxCmd), s.run? c id = some r → r.members.head? = some x →
    let ch := s.chain c
    let word (t : State) (row n : Nat) : Nat := memNat (t.chain c).ts (tsKey row (4 * (n % 128))) 4
    let frame (t : State) : Prop :=
      (∀ d, d ≠ c → t.chain d = s.chain d) ∧ SameContexts s t ∧ SameTiles s t ∧ SameSync s t ∧ SameEngines s t
        ∧ (∀ n, (t.tile n).sram = (s.tile n).sram) ∧ t.hbm = s.hbm ∧ t.host = s.host ∧ t.furlongs = s.furlongs
        ∧ t.granules = s.granules ∧ t.hub = s.hub ∧ t.links = s.links ∧ (t.chain c).wb = ch.wb
    let unread (key n : Nat) : Prop := ∀ b ∈ r.crows, ¬(b.p = key ∧ b.m = 2 * m + n / 128)
    (∀ act, x.isMul = false → ∃ t r', exec (.mxPassRowAccess c id p m act) s = .next t ∧ frame t ∧ t.run? c id = some r' ∧
        let first := 32 * ((x.m 3).toNat / 2 ^ 10 % 8)
        let last := first + 32 * ((x.m 3).toNat / 2 ^ 13 % 8 + 1)
        let row (n : Nat) := x.crow + 2 * m + n / 128
        let sum (n : Nat) : Nat × Nat := addNode (r.oldAcc 0 0 m n, 0) (r.oldAcc 0 1 m n, 0)
        (act ≠ .writeC → ∀ a, memGet (t.chain c).ts a = memGet ch.ts a)
          ∧ (∀ q ∈ [(RowAct.readA, 0, x.m 0), (.readC, 1, x.m 1)], act = q.1 → { r' with crows := r.crows, errs := r.errs } = r
            ∧ (ch.tsMark = [] → last ≤ 256 → ∀ n, first ≤ n → n < last → unread q.2.1 n →
              r'.oldAcc 0 q.2.1 m n = word s (bits q.2.2 0 12 + 2 * m + n / 128) n))
          ∧ (act = .writeC → last ≤ 256 →
            (∀ n, first ≤ n → n < last → word t (row n) n = (sum n).1 % 2 ^ 32)
              ∧ (∀ b, (spGet 0 r'.flags 0).testBit b = true ↔ (spGet 0 r.flags 0).testBit b = true
                ∨ ∃ n, first ≤ n ∧ n < last ∧ (sum n).2.testBit b = true)
              ∧ ∀ a, (∀ n, first ≤ n → n < last → a / 4 ≠ (tsKey (row n) (4 * (n % 128))) / 4) →
                memGet (t.chain c).ts a = memGet ch.ts a))
      ∧ (∀ a, x.isMul = true → r.passes[p]? = some a →
        let next (t : State) (cyc prio : Nat) (act : RowAct) : Prop :=
          m + 1 < a.rows → Fixed t cyc prio (.mxPassRowAccess c id p (m + 1) act)
        let crow (y : MxCmd) (n : Nat) : Nat := y.crow + 2 * (a.nbk * y.rows + a.row0 + m) + (y.colBase + n) / 128
        let place (y : MxCmd) (n : Nat) : Nat := tsKey (crow y n) (4 * ((y.colBase + n) % 128))
        (ch.tsMark = [] → ch.wbMark = [] → ∃ t r', exec (.mxPassRowAccess c id p m .readA) s = .next t ∧ frame t
          ∧ t.run? c id = some r'
          ∧ (let row := x.arow + a.row0 + m
            let bad := x.aScaled && decide (sideDseq (ch.sideOf row) ≠ sideSseq (ch.sideOf row))
            let seen : ARow := { p := p, m := m, data := ch.rowVal row, side := ch.sideOf row, badSeq := bad, uncorr := false }
            let before := r.arow (p - 1) m
            { r' with diffs := r.diffs } = { r with arows := r.arows ++ [seen], scaleseq := r.scaleseq || bad }
              ∧ ∃ ds, r'.diffs = r.diffs ++ ds ∧ ds.length ≤ 1 ∧ (∀ d ∈ ds, d.1 = p ∧ d.2.getLsbD 63 = true)
                ∧ (a.rep = false → ds = [])
                ∧ (ch.wbOld = [] → before.data = seen.data → before.side = seen.side → before.badSeq = bad →
                  before.uncorr = false → ds = []))
          ∧ (∀ b, memGet (t.chain c).ts b = memGet ch.ts b)
          ∧ next t (a.start + (m + 1) * a.cmax) prioUpdate .readA)
        ∧ (∃ t r', exec (.mxPassRowAccess c id p m .readC) s = .next t ∧ frame t ∧ t.run? c id = some r'
          ∧ { r' with crows := r.crows, errs := r.errs } = r
          ∧ (∀ i y, i < 8 → r.members[i]? = some y → y.acc = true → ch.tsMark = [] → ∀ n < y.cols, y.colBase + n < 256 →
            unread (8 * p + i) (y.colBase + n) →
            r'.oldAcc p i m (y.colBase + n) = word s (crow y n) (y.colBase + n))
          ∧ (∀ b, memGet (t.chain c).ts b = memGet ch.ts b)
          ∧ next t (a.start + 39 + (m + 2) * a.cmax) prioUpdate .readC)
        ∧ (∃ t r', exec (.mxPassRowAccess c id p m .writeC) s = .next t ∧ frame t ∧ t.run? c id = some r'
          ∧ (∀ i y, r.members[i]? = some y →
            ∃ (us : List (Nat × Pass × TileUse)) (res : Nat → Nat × Nat),
              us.map (fun u => (u.2.1, u.1))
                  = r.passes.zipIdx.filter (fun q => !q.1.rep && decide (q.1.row0 = a.row0) && decide (q.1.nbk = a.nbk))
                ∧ (∀ u ∈ us, TileRead s c y u.2.1.wt u.2.2)
                ∧ (∀ n < y.cols, ∃ g : Nat × Pass × TileUse → Nat → Nat × Nat,
                  res n = canonicalSum (us.flatMap fun u => (List.range u.2.1.blks).map (g u))
                    ∧ ∀ u ∈ us, ∀ lb < u.2.1.blks, BlockIs y (r.arow u.1 m) u.2.2 n (u.2.1.blk0 + lb) lb (g u lb))
                ∧ (let val (n : Nat) : Nat × Nat := if y.acc then addNode (r.oldAcc p i m (y.colBase + n), 0) (res n) else res n
                  (∀ n < y.cols, y.colBase + n < 256 →
                    (∀ j z, i < j → r.members[j]? = some z → ∀ n' < z.cols, place z n' ≠ place y n) →
                    word t (crow y n) (y.colBase + n) = (val n).1 % 2 ^ 32)
                  ∧ ∀ b, (spGet 0 r'.flags i).testBit b = true ↔ (spGet 0 r.flags i).testBit b = true
                    ∨ ∃ n < y.cols, (val n).2.testBit b = true))
          ∧ (∀ b, (∀ y ∈ r.members, ∀ n < y.cols, b / 4 ≠ place y n / 4) → memGet (t.chain c).ts b = memGet ch.ts b)
          ∧ next t (a.start + 39 + (m + 2) * a.cmax) prioArray .writeC))

/-- 10 R216, R217, R220, R221, R223, 01 R15, 18 R405: completion, solo or gang, gives back the token of each member, ORs
its flags into its `fpflags`, counts the array time of its slot, and raises MXCHK, SCALESEQ and WFMT where the command
has met them; a counter save writes the four counters of its slot and its token is done in the next cycle; a write of
`mxcheck` holds for the passes that start from its cycle on, counted from 0; a write of a chain word that passes its
conditions, or has passed them when it was made, gives the chain its word. How commands in progress follow a write of
`mxcheck`, counters where a stream gives no weights, and the eng bit of a cause are the model's choice (log entries 54,
57, 98). -/
def Obligations.MatrixCompletes : Prop :=
  ∀ (s : State) (c : Nat),
    let ch := s.chain c
    (∀ (id : Nat) (r : MxRun), s.run? c id = some r → (r.members.map (·.tile)).Nodup → (r.members.map (·.slot)).Nodup →
        (∀ x ∈ r.members, x.slot < 8) →
        ∃ t, exec (.mxCommandComplete c id) s = .next t
          ∧ (t.chain c).runs = ch.runs.filter (fun q => decide (q.id ≠ id)) ∧ (t.chain c).ivEnd = ch.ivEnd
          ∧ (∀ i x, r.members[i]? = some x →
            (x.h.tokp.toNat ≠ 63 → (t.tile x.tile).tokPending x.h.tokp.toNat = false)
              ∧ (t.ctx x.tile x.ctx).cr 0x029 = (s.ctx x.tile x.ctx).cr 0x029 ||| w64 (spGet 0 r.flags i)
              ∧ ((s.ctx x.tile x.ctx).runs x.firing = true →
                (r.diffs ≠ [] → engineDue s.now true .mxchk 0 ∈ (t.ctx x.tile x.ctx).dues)
                  ∧ (r.scaleseq = true → engineDue s.now true .scaleseq 0 ∈ (t.ctx x.tile x.ctx).dues)
                  ∧ (r.wfmt = true → engineDue s.now true .wfmt 0 ∈ (t.ctx x.tile x.ctx).dues))
              ∧ (t.chain c).counter x.slot 1
                = if x.isMul then min (2 ^ 64 - 1) (ch.counter x.slot 1 + r.total) else ch.counter x.slot 1)
          ∧ (∀ n k, (t.ctx n k).regs = (s.ctx n k).regs)
          ∧ (∀ i < 8, (∀ x ∈ r.members, x.slot ≠ i) → ∀ q < 4, (t.chain c).counter i q = ch.counter i q)
          ∧ (∀ n, (∀ x ∈ r.members, x.tile ≠ n) → (t.tile n).tokens = (s.tile n).tokens)
          ∧ SameMemory s t)
      ∧ (∀ (n w : Nat) (x : MxCmd), chainOf n = c → (s.tile n).eng.tcsave = some (w, x) →
        ((s.tile n).busy = false →
          let a := (x.m 0).toNat % 2 ^ 32
          ∃ t, exec (.mxTcsaveWrite n) s = .next t
            ∧ (∀ i < 4, memNat (t.tile n).sram (a + 8 * i) 8 = ch.counter x.slot i % 2 ^ 64)
            ∧ (∀ b, (b < a ∨ a + 32 ≤ b) → memGet (t.tile n).sram b = memGet (s.tile n).sram b)
            ∧ TokenReturns s t n x.h.tokp.toNat ∧ (t.tile n).eng = (s.tile n).eng
            ∧ (∀ m, m ≠ n → t.tile m = s.tile m) ∧ SameContexts s t ∧ SameDevice s t)
        ∧ ((s.tile n).busy = true → ∃ t, exec (.mxTcsaveWrite n) s = .next t
            ∧ (t.tile n).eng.tcsave = some (s.now + 8, x) ∧ Fixed t (s.now + 8) prioRead (.mxTcsaveWrite n)
            ∧ SameContexts s t ∧ SameTiles s t ∧ SameMemory s t ∧ SameSync s t ∧ SameDevice s t))
      ∧ (c < 192 → ∀ v : W64, ∃ t, exec (.mxcheckWrite c v) s = .next t
        ∧ (t.chain c).mxcheck = w64 (v.toNat % 2 ^ 16)
        ∧ (ch.runs = [] → t.chain c = { ch with mxcheck := w64 (v.toNat % 2 ^ 16), passes := 0 })
        ∧ (∀ (i : Nat) (r : MxRun), ch.runs[i]? = some r → ∃ r', (t.chain c).runs[i]? = some r'
          ∧ r'.id = r.id ∧ r'.members = r.members ∧ (r.start < s.now → r'.start = r.start)
          ∧ (∀ x, r.members.head? = some x → x.isMul = true →
            ∃ new, r'.passes = r.passes.takeWhile (fun a => decide (a.start < s.now) || a.rep) ++ new
              ∧ ∀ a ∈ new, a.rep = false → (a.checked = true ↔ v.toNat % 2 ^ 16 ≠ 0 ∧ a.pnum % (v.toNat % 2 ^ 16) = 0)))
        ∧ (∀ d, d ≠ c → t.chain d = s.chain d) ∧ SameContexts s t ∧ SameTiles s t ∧ SameMemory s t ∧ SameSync s t)
      ∧ (c < 192 → ∀ v : W64, (s.chainWordOk c v = false → .chainWordWrite c v ∉ s.accepted →
          exec (.chainWordWrite c v) s = .next s)
        ∧ (s.chainWordOk c v = true ∨ .chainWordWrite c v ∈ s.accepted → ∃ t, exec (.chainWordWrite c v) s = .next t
          ∧ t.chain c = { ch with word := v } ∧ t.accepted = s.accepted.erase (.chainWordWrite c v)
          ∧ (∀ d, d ≠ c → t.chain d = s.chain d) ∧ SameContexts s t ∧ SameMemory s t ∧ SameSync s t ∧ SameEngines s t))

/-! ## Copies between tile SRAM and the chain (11) -/

/-- 11 R246, R249, R250, R251, 12 R270, R272: a `tsw` operation that passes its tests makes its token pending and waits
in its engine with its operands; one that fails traps TSWACC with the first detail; it starts with the accesses of its
first unit, and its end gives the token back and raises the error it met. A bank read takes its bytes of tile SRAM into
the unit, a bank write puts its bytes there; the read of a row, a side word or a part of the weight buffer takes its
bytes into the unit (`tsout`, `tscopy`; `scout`; `wbout`), and its write puts the unit's bytes, or those of `tsfill`,
into the columns of the row with its sequence number (`tsin`, `tscopy`, `tsfill`), into the side word (`scin`), or into
the weight buffer (`wbin`); no other byte of any memory changes (11 R231, R247). That the cause which an
operation of a running firing raises has `eng` 0 is the model's reading (log entry 98). -/
def Obligations.TileStoreCopies : Prop :=
  ((∀ (s : State), s.discards = false →
     let n := s.hand.tile
     let u := s.tile n
     ∀ q ∈ [(Instr.tsin, 0), (.tsout, 1), (.tscopy, 2), (.tsfill, 3), (.scin, 4), (.scout, 5), (.wbin, 6), (.wbout, 7)],
       let x : Tsw :=
         { op := q.2, ctx := s.hand.ctx, slot := s.hand.slot, firing := s.hc.firing, opo := s.opo .tsw, opp := s.opp .tsw
           tv := s.tv, issued := s.now, started := none, left := 0, buf := [], side := 0#288, err := none, errAux := 0#64
           errAt := none }
       let p := (s.opo .tsw).toNat % 2 ^ 6
       (s.checkTsw q.2 = none → ∃ t, exec q.1 s = .next t ∧ (t.tile n).eng = { u.eng with tsw := some x }
           ∧ (p ≠ 63 → spFind (t.tile n).tokens p = some { owner := 5, ctx := s.hand.ctx })
           ∧ (∀ i, i ≠ p ∨ p = 63 → spFind (t.tile n).tokens i = spFind u.tokens i)
           ∧ SameContexts s t ∧ SameTiles s t ∧ SameMemory s t ∧ SameDevice s t ∧ SameTime s t)
         ∧ (∀ d, s.tswFail x = some d → exec q.1 s = .next (s.takeTrap n s.hand.ctx (raiseAt .tswacc s.hand.slot d)))
         ∧ (x.badBits = false → q.2 < 6 → 4096 < x.row + x.count → s.tswFail x = some 0x2)
         ∧ (x.badBits = false → 6 ≤ q.2 → 0x200000 < x.waddr + 64 * x.count → s.tswFail x = some 0x3)
         ∧ (s.tswFail x = none → 1728 > n ∧ (s.chain (chainOf n)).word.getLsbD 63 = false ∧ (s.slotOfTile n).isSome
           ∧ (p = 63 ∨ p ≠ (s.opo .tsw).toNat / 2 ^ 6 % 2 ^ 6)))
     ∧ ∀ (s : State) (n : Nat) (x : Tsw), (s.tile n).eng.tsw = some x →
       (0 < s.now → ∃ t, exec (.tswStart n) s = .next t
           ∧ (∃ y, (t.tile n).eng.tsw = some y ∧ { y with left := x.left } = { x with started := some s.now })
           ∧ (x.readsSram = true → ∀ b ∈ banksOf (x.sramAt 0).1 (x.sramAt 0).2, ∃ w, s.now ≤ w ∧ w < s.now + 8 ∧ (w + 6) % 8 = b.1
             ∧ Fixed t w prioRead (.tswUnitAccess n { e := 0, kind := .read, j := b.1 }))
           ∧ (x.readsSram = false → ∃ w, s.now ≤ w ∧ w < s.now + 16 ∧ w % 16 = 2 * ((s.slotOfTile n).getD 0)
             ∧ Fixed t w prioRead (.tswUnitAccess n { e := 0, kind := .chain, j := 0 }))
           ∧ SameContexts s t ∧ SameTiles s t ∧ SameMemory s t ∧ SameSync s t ∧ SameDevice s t)
         ∧ (∃ t, exec (.tswComplete n) s = .next t ∧ (t.tile n).eng = { (s.tile n).eng with tsw := none }
           ∧ (x.tokp ≠ 63 → (t.tile n).tokPending x.tokp = false)
           ∧ (∀ i, i ≠ x.tokp → (t.tile n).tokPending i = (s.tile n).tokPending i)
           ∧ SameOtherContexts s t n x.ctx ∧ SameMemory s t
           ∧ (x.err = none → SameContexts s t ∧ SameTiles s t ∧ SameDevice s t)
           ∧ (∀ cause, x.err = some cause → (s.ctx n x.ctx).runs x.firing = true →
             t.ctx n x.ctx = { s.ctx n x.ctx with
               dues := (s.ctx n x.ctx).dues ++ [{ at' := s.now, urgent := false
                                                  what := { cause := cause, slot := 15, detail := bits x.errAux 48 16
                                                            aux := w64 (bits x.errAux 0 48), eng := false } }] })))
    ∧ ∀ (s : State) (n e : Nat) (x : Tsw), (s.tile n).eng.tsw = some x → n < 1728 →
          let c := chainOf n
          let at' := x.sramAt e
          let mine (b a : Nat) : Prop := at'.1 ≤ a ∧ a < at'.1 + at'.2 ∧ sramBank a = b
          let row (t : State) (r col i : Nat) : Byte := memGet (t.chain c).ts (tsKey r (col + i))
          let seqOf (t : State) (r : Nat) : Nat := bits ((t.chain c).sideOf r) 0 16
          let wb (t : State) (i : Nat) : Byte := memGet (t.chain c).wb (x.waddr + x.wbOff e + i)
          let side := (s.chain c).sideOf (x.row + e)
          let elsewhere (t : State) : Prop := (∀ d, d ≠ c → t.chain d = s.chain d) ∧ t.furlongs = s.furlongs ∧ t.hbm = s.hbm
            ∧ t.host = s.host ∧ t.granules = s.granules ∧ t.hub = s.hub ∧ t.links = s.links ∧ (∀ m, (t.tile m).sram = (s.tile m).sram)
          let tsSame (t : State) : Prop :=
            (∀ a, memGet (t.chain c).ts a = memGet (s.chain c).ts a) ∧ ∀ r, (t.chain c).sideOf r = (s.chain c).sideOf r
          (∀ b, (s.tile n).busy = false → (∀ w y, (s.tile n).eng.tcsave = some (w, y) → w ≠ s.now) →
              ((s.tile n).marks = [] → ∃ t y, exec (.tswUnitAccess n { e := e, kind := .read, j := b }) s = .next t
                ∧ (t.tile n).eng.tsw = some y
                ∧ (∀ a, (mine b a → spGet 0#8 y.buf a = memGet (s.tile n).sram a) ∧ (¬mine b a → spGet 0#8 y.buf a = spGet 0#8 x.buf a))
                ∧ SameContexts s t ∧ SameTiles s t ∧ SameMemory s t ∧ SameSync s t ∧ SameDevice s t)
              ∧ (∃ t, exec (.tswUnitAccess n { e := e, kind := .write, j := b }) s = .next t
                ∧ (∀ a, (mine b a → memGet (t.tile n).sram a = spGet 0#8 x.buf a)
                  ∧ (¬mine b a → memGet (t.tile n).sram a = memGet (s.tile n).sram a))
                ∧ (∀ m, m ≠ n → t.tile m = s.tile m) ∧ SameContexts s t ∧ SameDevice s t ∧ t.hbm = s.hbm ∧ t.host = s.host))
            ∧ (∀ b, (s.tile n).busy = true → ∀ kind, kind ≠ .chain → ∃ t, exec (.tswUnitAccess n { e := e, kind := kind, j := b }) s = .next t
              ∧ Fixed t (s.now + 8) prioRead (.tswUnitAccess n { e := e, kind := kind, j := b }) ∧ Unchanged s t)
            ∧ (∃ t, exec (.tswUnitAccess n { e := e, kind := .chain, j := 0 }) s = .next t
              ∧ Fixed t s.now prioSide (.tswUnitAccess n { e := e, kind := .chain, j := 1 })
              ∧ (x.op ∈ [1, 2, 5, 7] → ∃ y, (t.tile n).eng.tsw = some y
                ∧ { y with buf := x.buf, err := x.err, errAux := x.errAux, errAt := x.errAt } = x
                ∧ (x.op = 1 → ∀ i < x.len, spGet 0#8 y.buf (at'.1 + i) = row s (x.row + e) x.col i)
                ∧ (x.op = 2 → ∀ i < x.len, spGet 0#8 y.buf i = row s (x.row + e) x.col i)
                ∧ (x.op = 5 → ∀ i < 64, (spGet 0#8 y.buf (at'.1 + i)).toNat
                  = if i < 32 then bits side (32 + 8 * i) 8 else if i < 36 then bits side (8 * (i - 32)) 8 else 0)
                ∧ (x.op = 7 → ∀ i < at'.2, spGet 0#8 y.buf (at'.1 + i) = wb s i))
              ∧ (x.op ∉ [1, 2, 5, 7] → (t.tile n).eng.tsw = some x)
              ∧ (∀ m k, (t.ctx m k).regs = (s.ctx m k).regs) ∧ SameMemory s t ∧ SameSync s t)
            ∧ ∃ t, exec (.tswUnitAccess n { e := e, kind := .chain, j := 1 }) s = .next t
              ∧ elsewhere t ∧ SameContexts s t ∧ SameSync s t
              ∧ (x.op ∈ [0, 2, 3] →
                let q := (if x.op = 2 then x.drow else x.row) + e
                let k := tsKey q (if x.op = 2 then x.dcol else x.col)
                (∀ i < x.len, memGet (t.chain c).ts (k + i)
                    = if x.op = 0 then spGet 0#8 x.buf (at'.1 + i) else if x.op = 2 then spGet 0#8 x.buf i
                      else BitVec.ofNat 8 (x.tv.toNat % 2 ^ 32 / 2 ^ (8 * (i % 4))))
                  ∧ (∀ a, (a < k ∨ k + x.len ≤ a) → memGet (t.chain c).ts a = memGet (s.chain c).ts a)
                  ∧ seqOf t q = x.seq ∧ (∀ i, 16 ≤ i → ((t.chain c).sideOf q).getLsbD i = ((s.chain c).sideOf q).getLsbD i)
                  ∧ ∀ r, r ≠ q → (t.chain c).sideOf r = (s.chain c).sideOf r)
              ∧ (x.op = 4 →
                (∀ i < 32, bits ((t.chain c).sideOf (x.row + e)) (32 + 8 * i) 8 = (spGet 0#8 x.buf (at'.1 + i)).toNat)
                  ∧ bits ((t.chain c).sideOf (x.row + e)) 16 16 = x.seq ∧ seqOf t (x.row + e) = seqOf s (x.row + e)
                  ∧ (∀ r, r ≠ x.row + e → (t.chain c).sideOf r = (s.chain c).sideOf r)
                  ∧ ∀ a, memGet (t.chain c).ts a = memGet (s.chain c).ts a)
              ∧ (x.op = 6 → (∀ i < at'.2, wb t i = spGet 0#8 x.buf (at'.1 + i)) ∧ tsSame t
                ∧ ∀ a, (a < x.waddr + x.wbOff e ∨ x.waddr + x.wbOff e + at'.2 ≤ a) →
                  memGet (t.chain c).wb a = memGet (s.chain c).wb a)
              ∧ (x.op ≠ 6 → ∀ a, memGet (t.chain c).wb a = memGet (s.chain c).wb a)
              ∧ (x.op ∈ [1, 5, 7] → tsSame t)

/-! ## Semaphores (12) -/

/-- 12 R254, R255, R258, R260, R262, R266, R268: the local operations, relaxed, acquire, or release with nothing to wait
for, act on their word in their own cycle, leave every other word, and their results are ready two cycles later; a take
of an empty word waits on its list; an acquire form holds its context. -/
def Obligations.SemaphoreOperations : Prop :=
  ∀ (s : State), s.discards = false →
    let n := s.hand.tile
    let k := s.hand.ctx
    let u := s.tile n
    let c := s.hc
    let a := s.opo .sem
    let p := s.opp .sem
    let v := s.tv
    let w := a.toNat % 2 ^ 9
    let x := u.sem w
    let full := 2 * b2n x.full
    let kept (t : State) (srcs : Sparse SrcEntry) : Prop :=
      t.ctx n k = (if a.getLsbD 14 then { c with holds := c.holds ++ [.result u.nextId] } else c) ∧ SameOtherContexts s t n k
        ∧ (t.tile n).srcs = srcs ∧ (t.tile n).tokens = u.tokens ∧ (∀ m, m ≠ n → t.tile m = s.tile m)
        ∧ SameMemory s t ∧ SameEngines s t ∧ SameDevice s t ∧ (u.cairn = none → SameTiles s t)
    let word (t : State) (x' : SemWord) : Prop := ∀ i, (t.tile n).sem i = if i = w then x' else u.sem i
    let answers (i : Instr) (r : W64) (st : Nat) (x' : SemWord) : Prop :=
      ∃ t, exec i s = .next t ∧ SemLands s t r st ∧ word t x' ∧ kept t u.srcs
    let entry := v.toNat % 2 ^ 6
    let record (e : SrcEntry) : W64 := w64 (e.src.toNat + e.lseq.toNat * 2 ^ 31 + 2 ^ 47 + b2n e.awaiting * 2 ^ 48)
    a.toNat < 2 ^ 16 → a.toNat % 2 ^ 14 < 2 ^ 9 →
    (a.getLsbD 15 = true →
      (∀ y ∈ u.accesses, y.store = true → y.q < 4 → y.ctx = k → y.issued < s.now → y.last < s.now)
        ∧ ∀ y, u.eng.tsw = some y → y.ctx = k → s.now ≤ y.issued) →
    (x.bad = false →
        (x.full = true → answers .semTake x.val 0x3 { x with full := false } ∧ answers .semPut 0#64 0x202 x)
        ∧ (x.full = false → 16 ≤ x.takers.length → answers .semTake 0#64 0x100 x)
        ∧ (x.full = false → x.takers.length < 16 → ∃ t, exec .semTake s = .next t
          ∧ word t { x with takers := x.takers ++ [{ id := u.nextId, ctx := k, op := 0, addr := a, opp := p, tv := v }] }
          ∧ kept t u.srcs ∧ (t.tile n).flights = u.flights ++ semFlights u.nextId k)
        ∧ (x.full = false → x.takers = [] → answers .semPut 0#64 0x1 { x with val := v, full := true })
        ∧ (∀ o l, x.full = false → x.takers = o :: l → o.id + 1 < u.nextId →
          ∃ t, exec .semPut s = .next t ∧ SemLands s t 0#64 0x1 ∧ word t { x with val := v, takers := l } ∧ kept t u.srcs
            ∧ ∀ f ∈ u.flights, (f.id = o.id ∨ f.id = o.id + 1) → ∃ g ∈ (t.tile n).flights, g.id = f.id ∧ g.ready = some (s.now + 2)
              ∧ g.val = wide (if f.id = o.id then v else 0x5#64))
        ∧ answers .semLd x.val (1 + full) x
        ∧ answers .semAdd x.val (1 + full) { x with val := x.val + v }
        ∧ answers .semAnd x.val (1 + full) { x with val := x.val &&& v }
        ∧ answers .semOr x.val (1 + full) { x with val := x.val ||| v }
        ∧ answers .semMaxS64 x.val (1 + full) { x with val := if x.val.toInt < v.toInt then v else x.val }
        ∧ answers .semMaxN64 x.val (1 + full) { x with val := if x.val.toNat < v.toNat then v else x.val }
        ∧ answers .semMinS64 x.val (1 + full) { x with val := if v.toInt < x.val.toInt then v else x.val }
        ∧ answers .semMinN64 x.val (1 + full) { x with val := if v.toNat < x.val.toNat then v else x.val }
        ∧ (x.val = p → answers .semCas x.val (1 + full) { x with val := v }) ∧ (x.val ≠ p → answers .semCas x.val full x)
        ∧ answers .semQlen (w64 x.takers.length) (1 + full) x)
      ∧ (p.getLsbD 0 = false → answers .semSt 0#64 (1 + full) { x with val := v, full := false, bad := false })
      ∧ (p.getLsbD 0 = true → x.takers = [] → answers .semSt 0#64 (1 + full) { x with val := v, full := true, bad := false })
      ∧ answers .semSrcrd (match spFind u.srcs entry with | some e => record e | none => 0#64) 0x1 x
      ∧ (∃ t, exec .semSrcdrop s = .next t ∧ word t x
        ∧ SemLands s t (match spFind u.srcs entry with | some e => record e | none => 0#64) 0x1
        ∧ kept t (match spFind u.srcs entry with | some e => if e.awaiting then u.srcs else spErase u.srcs entry | none => u.srcs))
      ∧ (x.bad = true → ∀ i ∈ [Instr.semTake, .semPut, .semLd, .semAdd, .semAnd, .semOr, .semMaxS64, .semMaxN64, .semMinS64, .semMinN64,
          .semCas, .semQlen], ∃ t, exec i s = .next t ∧ word t x
            ∧ (∃ g ∈ (t.tile n).flights, g.id = u.nextId + 1 ∧ g.val = wide (w64 (0x600 + full)) ∧ g.ready = some (s.now + 2)))

/-- 12 R259, R263, R265, R266, R268, 14 R295, R304, R305, R311: `wadd` on a group, the tests of the address word, the
request of a remote form, which leaves at once; a release form waits, with what its context has still to perform, and
acts or leaves when that has performed; a request is accepted once for its source and sequence, acts in its turn and is
answered by a reply, or without one by its return where it fails; a repeated one is answered again; a tile that accepts
none returns it; and a reply makes its results ready. Times of requests and replies are free values (log entries 1,
15). -/
def Obligations.RemoteSemaphores : Prop :=
  let asks (q : Packet) (op : Nat) (a p v : W64) : Prop := q.ptype = 4#4 ∧ q.ddev.toNat = a.toNat / 2 ^ 43 % 2 ^ 20
    ∧ q.dtile.toNat = a.toNat / 2 ^ 32 % 2 ^ 11 ∧ q.seq.toNat = a.toNat / 2 ^ 16 % 2 ^ 16 ∧ q.aop.toNat = op
    ∧ q.addr.toNat = a.toNat % 2 ^ 16 ∧ q.payload.toNat = v.toNat + p.toNat * 2 ^ 64
  (∀ (s : State), s.discards = false →
    let n := s.hand.tile
    let k := s.hand.ctx
    let u := s.tile n
    let a := s.opo .sem
    let traps (i : Instr) (d : Nat) : Prop := exec i s = .next (s.takeTrap n k (raiseAt .semacc s.hand.slot d))
    let due (y : Access) : Prop := y.store = true ∧ y.q < 4 ∧ y.ctx = k ∧ y.issued < s.now ∧ s.now ≤ y.last
    let busy : Prop := (∃ y ∈ u.accesses, due y) ∨ ∃ y, u.eng.tsw = some y ∧ y.ctx = k ∧ y.issued < s.now
    let delays (t : State) (op : Nat) : Prop := ∃ o w, (t.tile n).delayed = u.delayed ++ [(o, w)]
      ∧ o = { id := u.nextId, ctx := k, op := op, addr := a, opp := s.opp .sem, tv := s.tv }
      ∧ (∀ i, i ∈ w.stores ↔ ∃ y ∈ u.accesses, due y ∧ y.id = i)
      ∧ (∀ y, u.eng.tsw = some y → y.ctx = k → y.issued < s.now → w.tsw = some y.issued)
    (∀ g w kw : Nat, 1 ≤ g → g ≤ 3 → w < 2 ^ 9 → w % 2 ^ g = 0 → kw < 2 ^ g → a.toNat = w + g * 2 ^ 9 + kw * 2 ^ 11 →
        (∀ i < 2 ^ g, (u.sem (w + i)).bad = false) →
        let size := 64 * 2 ^ g
        let sum (t : State) : Nat := ((List.range (2 ^ g)).map fun i => ((t.tile n).sem (w + i)).val.toNat * 2 ^ (64 * i)).sum
        let add : Int := ((s.opp .sem).toInt * 2 ^ 64 + s.tv.toNat) * 2 ^ (64 * kw)
        let exact : Int := sum s + add
        let signed : Int := (BitVec.ofNat size (sum s)).toInt + add
        ∃ t, exec .semWadd s = .next t ∧ (sum t : Int) = exact % 2 ^ size
          ∧ SemLands s t (u.sem (w + kw)).val (1 + 2 * b2n (u.sem w).full
            + 8 * b2n (decide (exact < 0 ∨ 2 ^ size ≤ exact))
            + 16 * b2n (decide (signed < -2 ^ (size - 1) ∨ 2 ^ (size - 1) - 1 < signed)))
          ∧ (∀ i, ((t.tile n).sem i).full = (u.sem i).full ∧ ((t.tile n).sem i).takers = (u.sem i).takers)
          ∧ (∀ i, (i < w ∨ w + 2 ^ g ≤ i) → (t.tile n).sem i = u.sem i)
          ∧ SameContexts s t ∧ SameMemory s t ∧ SameEngines s t ∧ SameDevice s t)
      ∧ (a.toNat < 2 ^ 9 → traps .semWadd 0x2)
      ∧ (a.getLsbD 63 = true → ∀ i ∈ [Instr.semSt, .semQlen, .semSrcrd, .semSrcdrop], traps i 0x1)
      ∧ (a.toNat < 2 ^ 16 → a.toNat % 2 ^ 14 < 2 ^ 9 → a.getLsbD 15 = true → busy →
        ∀ q ∈ [(Instr.semTake, 0), (.semPut, 1), (.semLd, 2), (.semSt, 3), (.semAdd, 4), (.semAnd, 5), (.semOr, 6), (.semMaxS64, 7),
          (.semMaxN64, 8), (.semMinS64, 9), (.semMinN64, 10), (.semCas, 11), (.semQlen, 13), (.semSrcrd, 14), (.semSrcdrop, 15)],
          ∃ t, exec q.1 s = .next t ∧ delays t q.2 ∧ (t.tile n).sems = u.sems ∧ (t.tile n).srcs = u.srcs
            ∧ (t.tile n).flights = u.flights ++ semFlights u.nextId k
            ∧ (∀ m j, (t.ctx m j).regs = (s.ctx m j).regs) ∧ SameMemory s t)
      ∧ (a.getLsbD 63 = true → a.toNat % 2 ^ 14 < 2 ^ 9 →
        ∀ q ∈ [(Instr.semTake, 0), (.semPut, 1), (.semLd, 2), (.semAdd, 4), (.semAnd, 5), (.semOr, 6), (.semMaxS64, 7), (.semMaxN64, 8),
          (.semMinS64, 9), (.semMinN64, 10), (.semCas, 11)],
          (1535 < a.toNat / 2 ^ 32 % 2 ^ 11 → traps q.1 0x3)
          ∧ (a.toNat / 2 ^ 32 % 2 ^ 11 ≤ 1535 → ∃ t y, exec q.1 s = .next t ∧ y ∈ (t.tile n).net.awaited ∧ y.id = u.nextId ∧ y.ctx = k
            ∧ asks y.pkt q.2 a (s.opp .sem) s.tv
            ∧ (a.getLsbD 15 = false ∨ ¬busy ∧ u.net.awaited = [] ∧ u.net.answered = [] → Sent s t y.pkt) ∧ (a.getLsbD 15 = true → busy → delays t q.2)
            ∧ (t.tile n).flights = u.flights ++ semFlights u.nextId k ∧ (t.tile n).primary ≠ some k
            ∧ (t.tile n).sems = u.sems ∧ (∀ m j, (t.ctx m j).regs = (s.ctx m j).regs) ∧ SameMemory s t)))
    ∧ ∀ (s : State) (n : Nat),
      let u := s.tile n
      let same (t : State) : Prop := (∀ m j, (t.ctx m j).regs = (s.ctx m j).regs) ∧ SameMemory s t
      let performed (w : Waits) : Prop := (∀ y ∈ u.accesses, y.id ∈ w.stores → y.last < s.now)
        ∧ (∀ y, u.eng.tsw = some y → w.tsw ≠ some y.issued) ∧ ∀ y ∈ u.net.awaited, y.id ∉ w.remote
      let word (t : State) (w : Nat) (x : SemWord) : Prop := ∀ i, (t.tile n).sem i = if i = w then x else u.sem i
      (∀ id, s.semRelease n = some id → ∃ o w, (o, w) ∈ u.delayed ∧ o.id = id ∧ performed w)
        ∧ (∀ o w, (o, w) ∈ u.delayed → performed w → w.remote = [] → u.semActed ≠ s.now + 1 → (s.semRelease n).isSome)
        ∧ (∀ id o l, u.delayed.find? (fun d => decide (d.1.id = id)) = some (o, l) → ∃ t, exec (.semReleaseAct n id) s = .next t
          ∧ (t.tile n).delayed = u.delayed.filter (fun d => decide (d.1.id ≠ id)) ∧ same t
          ∧ (o.addr.getLsbD 63 = true → o.op < 16 → ∃ q, asks q o.op o.addr o.opp o.tv ∧ Sent s t q)
          ∧ (o.addr.getLsbD 63 = false → o.op = 1 →
            let w := o.addr.toNat % 2 ^ 9
            (u.sem w).full = false → (u.sem w).bad = false → (u.sem w).takers = [] →
            word t w { u.sem w with val := o.tv, full := true }))
        ∧ (∀ p : Packet,
          let reply (r : W64) (st : Nat) : Packet :=
            { p with ptype := 6#4, cls := 2#2, vc := 1#1, npay := 1#3, nbm := 15#7, ddev := p.sdev, dtile := p.stile
                     sdev := p.ddev, stile := p.dtile, payload := BitVec.ofNat 1024 (r.toNat + st * 2 ^ 64) }
          let answered (t : State) (r : W64) (st : Nat) : Prop := (p.ptype = 4#4 → Sent s t (reply r st))
            ∧ (p.ptype ≠ 4#4 → 2 ^ 8 ≤ st → Returned s t p (0x10 + st / 2 ^ 8))
          let accepted (t : State) (i : Nat) (e : SrcEntry) : Prop := spFind (t.tile n).srcs i = some e
            ∧ (t.tile n).remoteQ = u.remoteQ ++ [p] ∧ Fixed t (max s.now u.semNext) prioDeliver (.semRemoteAct n)
          let refused (t : State) : Prop := (t.tile n).srcs = u.srcs ∧ (t.tile n).remoteQ = u.remoteQ
          (∀ why, s.refuses n = some why → ∃ t, exec (.semRemoteArrival n p) s = .next t ∧ (t.tile n).sems = u.sems ∧ refused t
            ∧ Returned s t p why ∧ same t)
          ∧ (s.refuses n = none → ¬Enters s n p → ∃ t, exec (.semRemoteArrival n p) s = .next t ∧ WaitsAtInput s t n p)
          ∧ (s.refuses n = none → Enters s n p → ∃ t, exec (.semRemoteArrival n p) s = .next t ∧ (t.tile n).sems = u.sems ∧ same t
            ∧ (∀ i e, u.srcs.find? (fun e => decide (e.2.src = srcOf p)) = some (i, e) →
              (p.seq = e.lseq + 1#16 → accepted t i { e with lseq := p.seq, awaiting := true })
              ∧ (p.seq ≠ e.lseq + 1#16 → refused t)
              ∧ (p.seq = e.lseq → e.awaiting = false → e.status.toNat < 2 ^ 16 →
                answered t e.r (e.status ||| 0x20#64).toNat)
              ∧ (p.seq ≠ e.lseq + 1#16 → p.seq ≠ e.lseq → answered t 0#64 0x400))
            ∧ (u.srcs.find? (fun e => decide (e.2.src = srcOf p)) = none →
              (∀ i < 64, (spFind u.srcs i = none ∧ ∀ j < i, spFind u.srcs j ≠ none) →
                accepted t i { src := srcOf p, lseq := p.seq, r := 0#64, status := 0#64, awaiting := true })
              ∧ ((∀ i < 64, spFind u.srcs i ≠ none) → refused t ∧ answered t 0#64 0x500)))
          ∧ ∀ l, u.remoteQ = p :: l →
            let w := p.addr.toNat % 2 ^ 9
            let x := u.sem w
            let v := w64 (bits p.payload 0 64)
            let q := w64 (bits p.payload 64 64)
            let full := 2 * b2n x.full
            let outcome (x' : SemWord) (r : W64) (st : Nat) : Prop := ∃ t, exec (.semRemoteAct n) s = .next t
              ∧ (t.tile n).remoteQ = l ∧ same t ∧ word t w x' ∧ answered t r st
              ∧ ∀ i e, spFind u.srcs i = some e → spFind (t.tile n).srcs i
                = some (if e.src = srcOf p then { e with r := r, status := w64 st, awaiting := false } else e)
            let acts (op : Nat) (c : Prop) (x' : SemWord) (r : W64) (st : Nat) : Prop :=
              p.aop.toNat = op → x.bad = false → c → outcome x' r st
            acts 0 (x.full = true) { x with full := false } x.val 0x3 ∧ acts 0 (x.full = false) x 0#64 0x700
              ∧ acts 1 (x.full = true) x 0#64 0x202
              ∧ acts 1 (x.full = false ∧ x.takers = []) { x with val := v, full := true } 0#64 0x1
              ∧ (∀ o rest, acts 1 (x.full = false ∧ x.takers = o :: rest) { x with val := v, takers := rest } 0#64 0x1)
              ∧ acts 2 True x x.val (1 + full) ∧ acts 4 True { x with val := x.val + v } x.val (1 + full)
              ∧ acts 5 True { x with val := x.val &&& v } x.val (1 + full)
              ∧ acts 6 True { x with val := x.val ||| v } x.val (1 + full)
              ∧ acts 7 True { x with val := if x.val.toInt < v.toInt then v else x.val } x.val (1 + full)
              ∧ acts 8 True { x with val := if x.val.toNat < v.toNat then v else x.val } x.val (1 + full)
              ∧ acts 9 True { x with val := if v.toInt < x.val.toInt then v else x.val } x.val (1 + full)
              ∧ acts 10 True { x with val := if v.toNat < x.val.toNat then v else x.val } x.val (1 + full)
              ∧ acts 11 (x.val = q) { x with val := v } x.val (1 + full) ∧ acts 11 (x.val ≠ q) x x.val full
              ∧ (x.bad = true → p.aop.toNat ≤ 11 → p.aop.toNat ≠ 3 → outcome x 0#64 (0x600 + full)))
        ∧ (∀ p y, s.refuses n = none → u.awaits p 4 = some y → ∃ t, exec (.semReplyArrival n p) s = .next t ∧ same t
          ∧ (t.tile n).net.awaited = u.net.awaited.filter (fun b => decide (b.id ≠ y.id))
          ∧ ∀ f ∈ u.flights, (f.id = y.id ∨ f.id = y.id + 1) → ∃ g ∈ (t.tile n).flights, g.id = f.id ∧ g.ready = some (s.now + 1)
            ∧ g.val = (if p.ptype = 2#4 then wide (if f.id = y.id then 0#64 else w64 ((0x80 + p.reason.toNat) * 2 ^ 8))
              else wide (w64 (bits p.payload (if f.id = y.id then 0 else 64) 64))))

/-! ## Tokens, time, the synchronisation engine (12, 15) -/

/-- 12 R272 to R274, 15 R342 to R345: the operations of the socket `syn` land, one cycle on, token states, reads of pace
time of one of the last three cycles, and the step's status; `tpend` makes a token pending, `tdone` one of a program
done in the next cycle, and `wtime` holds its context until its time. Which of the last three cycles a read of pace
time takes is a free value (log entries 1, 64). -/
def Obligations.TokensAndTime : Prop :=
  ∀ (s : State), s.discards = false →
    let n := s.hand.tile
    let k := s.hand.ctx
    let u := s.tile n
    let c := s.hc
    let v := s.tv
    let p := v.toNat % 64
    let traps (i : Instr) (d : Nat) : Prop := exec i s = .next (s.takeTrap n k (raiseAt .tokdup s.hand.slot d))
    let waits (r : Nat) (holds : List Hold) : Prop :=
      ∃ t, exec .wtime s = .next t ∧ Lands s t .syn 1 [(.r, wide (w64 r))] 0 ∧ t.ctx n k = { c with holds := holds }
        ∧ (t.tile n).primary ≠ some k ∧ SameOtherContexts s t n k ∧ SameRest s t
    (u.tokPending p = true → traps .tpend 0x1)
      ∧ (u.tokPending p = false → ∃ t, exec .tpend s = .next t ∧ Lands s t .syn 1 [(.r, wide 0#64)] 0
        ∧ (∀ i, spFind (t.tile n).tokens i = if i = p then some { owner := 1, ctx := k } else spFind u.tokens i)
        ∧ SameContexts s t ∧ SameTiles s t ∧ SameMemory s t ∧ SameEngines s t ∧ SameDevice s t)
      ∧ (∀ x, spFind u.tokens p = some x → x.owner ≠ 1 → traps .tdone 0x3)
      ∧ (∀ x, spFind u.tokens p = some x → x.owner = 1 → ∃ t, exec .tdone s = .next t
        ∧ Lands s t .syn 1 [(.r, wide 0#64)] 0 ∧ Unchanged s t ∧ NextCycle s t n .k0 updTokDone (w64 (p + 2 ^ 8)))
      ∧ (spFind u.tokens p = none → Yields64 .tdone s .syn 1 0#64)
      ∧ (isTile n = true → ∀ j < 64, ∃ t, exec (.registerWrite { tile := n, ctx := .k0, num := updTokDone } (w64 (j + 2 ^ 8))) s = .next t
        ∧ (∀ i, (t.tile n).tokPending i = (decide (i ≠ j) && u.tokPending i)) ∧ SameContexts s t ∧ SameMemory s t)
      ∧ Yields64 .tstat s .syn 1 (match spFind u.tokens p with
        | some x => w64 (1 + x.owner * 2 + ctxNum x.ctx * 16)
        | none => 0#64)
      ∧ (∃ r : W64, (∀ i < 64, r.getLsbD i = u.tokPending i) ∧ Yields64 .tmap s .syn 1 r)
      ∧ (∃ l < 3, Yields64 .pace s .syn 1 (s.paceAgo l).1)
      ∧ (∃ l < 3, Yields64 .pacefx s .syn 1
          (w64 ((s.paceAgo l).1.toNat % 2 ^ 48 * 2 ^ 16 + (s.paceAgo l).2.toNat / 2 ^ 16)))
      ∧ (∃ l < 3, let ns := (s.paceAgo l).1.toNat
        (v.toNat ≤ ns → waits (2 ^ 63 + min (ns - v.toNat) (2 ^ 63 - 1)) c.holds)
          ∧ (ns < v.toNat → waits (v.toNat - ns) (c.holds ++ [.untilPace v.toNat l])))
      ∧ Yields64 .synMstat s .syn 1 (u.rg 0x051)
      ∧ (∀ x, u.seqr.xstart = some x → bits (u.rg 0x051) 40 3 = 4 → Yields64 .xcyc s .syn 1 (w64 (s.now - x)))
      ∧ (bits (u.rg 0x051) 40 3 ≠ 4 → Yields64 .xcyc s .syn 1 (BitVec.allOnes 64))
      ∧ (∃ r : W64, Yields64 .bstat s .syn 1 r ∧ r.getLsbD 16 = u.eng.barPending.isSome ∧ r.getLsbD 25 = u.eng.barMismatch
        ∧ (∀ tag, u.eng.barPending = some tag → r.setWidth 16 = tag)
        ∧ (∀ j < 8, n < 1728 →
          (r.getLsbD (17 + j) = true ↔ ∃ b ∈ (s.chain (chainOf n)).bar, b.1 = j)))

/-- 15 R346, R347, 12 R270, R272: a header in slot 14 that passes its tests makes its token pending and enters the
engine with its operand, and a barrier becomes pending; the tests fail in the order of R347; the end of a command gives
its token back, and a barrier whose tags differ raises SYNACC 0x3, with `eng` 0 where its firing still runs: the model's
reading (log entry 98). -/
def Obligations.SynchronisationEngine : Prop :=
  (∀ (s : State) (h : Hdr), s.discards = false →
    let n := s.hand.tile
    let k := s.hand.ctx
    let u := s.tile n
    let o := s.opo .syn
    let p := h.tokp.toNat
    let held (kind : Nat) : SynCmd :=
      { id := u.nextId, kind := kind, h := h, ctx := k, firing := s.hc.firing, o := o, issued := s.now, arrived := none
        doneAt := none, lag := 0 }
    ∀ q ∈ [(Instr.synTimer h, 1), (.synDelay h, 2), (.synGbar h, 3), (.synJoin h, 4)],
      let traps (c : Cause) (d : Nat) : Prop := exec q.1 s = .next (s.takeTrap n k (raiseAt c s.hand.slot d))
      let apart : Prop := n < 1728 ∧ (s.chain (chainOf n)).word.getLsbD 63 = false ∧ (s.slotOfTile n).isSome
      (p ≠ 63 → u.tokPending p = true → traps .tokdup 0x1)
        ∧ (p = 63 ∨ u.tokPending p = false →
          (q.2 = 3 → 2 ^ 16 ≤ o.toNat → traps .synacc 0x1)
          ∧ ((q.2 ≠ 3 ∨ o.toNat < 2 ^ 16) → 8 ≤ u.eng.syn.length → traps .synacc 0x2)
          ∧ (q.2 = 3 → o.toNat < 2 ^ 16 → u.eng.syn.length < 8 → u.eng.barPending.isSome → traps .synacc 0x4)
          ∧ (q.2 = 3 → o.toNat < 2 ^ 16 → u.eng.syn.length < 8 → u.eng.barPending = none → ¬apart → traps .synacc 0x5)
          ∧ (u.eng.syn.length < 8 → (q.2 = 3 → o.toNat < 2 ^ 16 ∧ u.eng.barPending = none ∧ apart) → ∃ t, exec q.1 s = .next t
            ∧ (t.tile n).eng = { u.eng with
                syn := u.eng.syn ++ [held q.2], barPending := if q.2 = 3 then some (o.setWidth 16) else u.eng.barPending }
            ∧ (∀ i, spFind (t.tile n).tokens i
                = if i = p ∧ p ≠ 63 then some { owner := 4, ctx := k } else spFind u.tokens i)
            ∧ SameContexts s t ∧ SameTiles s t ∧ SameMemory s t ∧ SameDevice s t ∧ SameTime s t)))
    ∧ ∀ (s : State) (n id : Nat) (x : SynCmd), (s.tile n).eng.syn.find? (fun y => decide (y.id = id)) = some x →
      ∃ t, exec (.synCommandDone n id) s = .next t
        ∧ (t.tile n).eng.syn = (s.tile n).eng.syn.filter (fun y => decide (y.id ≠ id))
        ∧ (x.h.tokp.toNat ≠ 63 → (t.tile n).tokPending x.h.tokp.toNat = false)
        ∧ (∀ i, i ≠ x.h.tokp.toNat → (t.tile n).tokPending i = (s.tile n).tokPending i)
        ∧ SameOtherContexts s t n x.ctx ∧ SameMemory s t
        ∧ (x.kind ≠ 3 → SameContexts s t ∧ SameDevice s t)
        ∧ (x.kind = 3 → (t.tile n).eng.barPending = none
          ∧ (let tags := (s.chain (chainOf n)).bar.map (·.2.1)
            ((∀ a ∈ tags, ∀ b ∈ tags, a = b) → (t.tile n).eng.barMismatch = false ∧ SameContexts s t)
            ∧ ((∃ a ∈ tags, ∃ b ∈ tags, a ≠ b) → (t.tile n).eng.barMismatch = true
              ∧ ((s.ctx n x.ctx).runs x.firing = true →
                (t.ctx n x.ctx).dues = (s.ctx n x.ctx).dues ++ [engineDue s.now false .synacc 0x3]))))

/-! ## Copy engines (13) -/

/-- 13 R276, R278 to R281, R290, R291, 12 R270, R272: a copy header that passes its tests makes its token pending and
joins the engine with the image of c0 to c13; one that fails traps CEACC with the first detail; the operations of the
socket `ce` land, one cycle on, what the engine holds, and `abort` removes the waiting commands of its context, giving
back their tokens, and marks its executing one. -/
def Obligations.CopyCommands : Prop :=
  ∀ (s : State), s.discards = false →
    let n := s.hand.tile
    let k := s.hand.ctx
    let u := s.tile n
    let c := s.hc
    let l := u.eng.copies
    let running := l.head?.filter (·.started.isSome)
    (∀ h : Hdr, ∀ q ∈ [(Instr.ceCopy h, 1), (.ceXcopy h, 2), (.ceFill h, 3), (.cePlace h, 4), (.ceCode h, 5)],
        let p := h.tokp.toNat
        let x := s.ceForm q.2 h
        let traps (e : Cause) (d : Nat) : Prop := exec q.1 s = .next (s.takeTrap n k (raiseAt e s.hand.slot d))
        (p ≠ 63 → u.tokPending p = true → traps .tokdup 0x1)
          ∧ (p = 63 ∨ u.tokPending p = false →
            (∀ d, s.ceFail n x = some d → traps .ceacc d)
            ∧ (s.ceFail n x = none → l.length < 4 ∧ x.esz ≤ 12 ∧ x.ndm ≤ 5 ∧ x.progress < x.total
              ∧ ∃ t, exec q.1 s = .next t ∧ (t.tile n).eng = { u.eng with copies := l ++ [x] }
                ∧ (∀ i, spFind (t.tile n).tokens i
                    = if i = p ∧ p ≠ 63 then some { owner := 3, ctx := k } else spFind u.tokens i)
                ∧ SameContexts s t ∧ SameTiles s t ∧ SameMemory s t ∧ SameDevice s t ∧ SameTime s t))
          ∧ x.kind = q.2 ∧ x.h = h ∧ x.ctx = k ∧ x.firing = c.firing ∧ x.started = none
          ∧ x.image = (List.range 14).map (fun i => spGet 0#64 c.regs.c i)
          ∧ (12 < (spGet 0#64 c.regs.c 2).toNat / 2 ^ 12 % 16 → s.ceFail n x = some 0x1))
      ∧ (l.length ≤ 4 → ∃ r : W64, Yields64 .ceStat s .ce 1 r ∧ r.toNat % 8 = l.length ∧ r.getLsbD 3 = running.isSome
        ∧ r.getLsbD 4 = l.any (·.susp) ∧ r.toNat / 2 ^ 5 = (match running with | some x => x.h.tokp.toNat | none => 63))
      ∧ Yields64 .ceProg s .ce 1 (w64 (match running with | some x => x.done - ((x.outs.map (·.e)).dedup).length | none => 0))
      ∧ Yields64 .ceLast s .ce 1 (c.lastCe.setWidth 64)
      ∧ ∃ t, exec .ceAbort s = .next t
        ∧ Lands s t .ce 1 [(.r, wide (w64 (l.filter fun x => decide (x.ctx = k)).length))] 0
        ∧ (t.tile n).eng.copies = (l.filter fun x => decide (x.ctx ≠ k) || x.started.isSome).map
            (fun x => if x.ctx = k then { x with aborted := true } else x)
        ∧ (∀ x ∈ l, x.ctx = k → x.started = none → TokenReturns s t n x.h.tokp.toNat ∧ bits (t.ctx n k).lastCe 24 8 = 0x01)
        ∧ t.ctx n k = { c with lastCe := (t.ctx n k).lastCe } ∧ SameOtherContexts s t n k
        ∧ SameTiles s t ∧ SameMemory s t ∧ SameDevice s t

/-- 13 R275 to R277, R280 to R285, R287, R288, R291, 16 R353, R364, 17 R366 to R377, R381, R392: a command starts with its
first access; a unit read in any space goes into the element, a unit written to tile SRAM or the chain's memories comes
out of it in order; for any other space the element's writes go on their way together once it is read, and each performs
in a cycle of its own; no other byte of any memory, code store or table changes; a write of a line that the host may
cache waits for a snoop. The endpoints of an element in virtual memory are translated once, before its first access, and
a fault there ends the command with its code; where the tile is frozen, or the command aborted, no element begins past a
stop point. Once its last write has performed its token is done and its status recorded, and a fault writes its image,
with the progress of the last stop point, to c0 to c13; so does a suspension, whose token stays pending; an aborted one
records 0x01 and raises nothing. The layout of an encrypted line, one translation for all units of an element, the
distances of accesses without exact cycles, that ERRBUDGET comes before a fault, and the eng bit of a cause of a firing
that still runs are the model's readings (log entries 1, 19, 96, 98, 107, 137). -/
def Obligations.CopyRuns : Prop :=
  ∀ (s : State) (n : Nat) (x : Copy), (s.tile n).eng.copies.head? = some x →
    let u := s.tile n
    let c := chainOf n
    let slot := (s.slotOfTile n).getD 0
    let imaged (t : State) : Prop :=
      (∀ i < 14, spGet 0#64 (t.ctx n x.ctx).regs.c i = if i = 13 then putBits (x.c 13) 0 48 x.stopPoint else x.c i)
        ∧ { (t.ctx n x.ctx).regs with c := (s.ctx n x.ctx).regs.c } = (s.ctx n x.ctx).regs
    let status (t : State) (code : Nat) : Prop :=
      (t.ctx n x.ctx).lastCe.toNat = code * 2 ^ 24 + x.h.tokp.toNat * 2 ^ 18 + ctxNum x.ctx * 2 ^ 16 + min 0xFFFF x.errs
    let faults (t : State) (e : Nat) : Prop := ∃ (f : XFault) (va a kind : Nat),
      (x.hasSrc = true ∧ x.ssp = 2 ∧ va = (x.sa e).toNat ∧ kind = (if x.kind = 5 then 2 else 0)
          ∨ x.dsp = 2 ∧ va = (x.da e).toNat ∧ kind = 1)
        ∧ (a = va ∨ a % 4096 = 0 ∧ va < a ∧ a < va + x.size) ∧ Translates s (x.req n a kind) (.inl f)
        ∧ (t.tile n).eng.copies.head? = some { x with
            resting := x.resting || decide (x.outs ≠ [])
            fault := some (if f.cause = .perm then 0x03 else if f.cause = .classdeny then 0x04 else 0x02,
              { cause := f.cause, slot := 15, detail := f.detail, aux := w64 va, eng := false }) }
        ∧ (x.outs = [] → Fixed t (s.now + 1) prioDone (.ceCommandComplete n)) ∧ SameMemory s t
    let apart : Prop := x.dsp ∉ [0, 3, 4]
    let stops : Prop := x.fault.isSome = true ∨ x.done = x.total
      ∨ x.progress < x.done ∧ x.done * x.size % 4096 = 0 ∧ (x.aborted = true ∨ u.frozen = true)
    let goesOn (t : State) : Prop :=
      (x.outs ≠ [] → (t.tile n).eng.copies.head? = some { x with resting := true })
        ∧ (x.outs = [] → (t.tile n).eng = u.eng
          ∧ (x.fault.isSome = true ∨ x.aborted = true ∨ x.done = x.total → Fixed t (s.now + 1) prioDone (.ceCommandComplete n))
          ∧ (x.fault = none → x.aborted = false → x.done ≠ x.total → Fixed t (s.now + 1) prioUpdate (.ceSuspend n)))
        ∧ SameContexts s t ∧ SameMemory s t ∧ SameTiles s t ∧ SameDevice s t
    (0 < s.now → ∃ t, exec (.ceCommandStart n) s = .next t
        ∧ (t.tile n).eng.copies = { x with started := some s.now, susp := false } :: u.eng.copies.drop 1
        ∧ (x.exact = true →
          let read := x.hasSrc
          let sp := if read then x.ssp else x.dsp
          let a := (if read then x.sa x.done else x.da x.done).toNat
          ∃ w, s.now ≤ w ∧ (sp = 0 → w < s.now + 8 ∧ (w + 4) % 8 = sramBank a)
            ∧ (sp ≠ 0 → w < s.now + 16 ∧ w % 16 = 2 * slot + 1)
            ∧ Fixed t w (if read then prioRead else prioSide) (.ceElementMove n { e := x.done, kind := if read then .read else .write, j := 0 }))
        ∧ (x.exact = false → x.hasSrc = true → x.ssp = 1 → ∃ w, s.now ≤ w ∧ w < s.now + 128
            ∧ Fixed t w prioRead (.ceElementMove n { e := x.done, kind := .read, j := 0 }))
        ∧ (apart → x.hasSrc = false → Fixed t s.now prioRead (.ceElementMove n { e := x.done, kind := .read, j := 0 }))
        ∧ SameContexts s t ∧ SameTiles s t ∧ SameMemory s t ∧ SameSync s t ∧ SameDevice s t)
      ∧ (∀ e j : Nat, let first : Prop := j = 0
        (first ∧ stops → ∃ t, exec (.ceElementMove n { e := e, kind := .read, j := j }) s = .next t ∧ goesOn t)
        ∧ (¬(first ∧ stops) → ∃ t, exec (.ceElementMove n { e := e, kind := .read, j := j }) s = .next t
        ∧ (∀ m k, (t.ctx m k).regs = (s.ctx m k).regs) ∧ (∀ m, (t.tile m).sram = (s.tile m).sram)
        ∧ (LaidOut s → SameMemory s t)
        ∧ (x.hasSrc = true → x.ssp = 0 → u.busy = true → Unchanged s t
          ∧ Fixed t (s.now + 8) prioRead (.ceElementMove n { e := e, kind := .read, j := j }))
        ∧ (¬(x.hasSrc = true ∧ x.ssp = 0 ∧ u.busy = true) → (x.ssp = 2 ∨ x.dsp = 2 → LaidOut s) →
          let base := (x.sa e).toNat
          (first ∧ faults t e) ∨ ∃ (y : Copy) (sx dx : List XPage), (t.tile n).eng.copies.head? = some y
            ∧ (first → (if x.hasSrc = true ∧ x.ssp = 2 then PagesOf s n x (if x.kind = 5 then 2 else 0) base sx else sx = [])
              ∧ if x.dsp = 2 then PagesOf s n x 1 (x.da e).toNat dx else dx = [])
            ∧ (¬first → sx = x.sx ∧ dx = x.dx)
            ∧ (let place := base + ((unitsOf x.ssp base x.size).getD j (0, 0)).1
              let held : Prop := x.ssp ∈ [0, 1, 3, 4] ∨ x.ssp = 2 ∧ ∃ p ∈ sx, p.vpage = place / 4096
              let sent := apart ∧ (x.hasSrc = true → held ∧ (unitsOf x.ssp base x.size).length ≤ j + 1)
              (¬sent → y.sx = sx ∧ y.dx = dx ∧ y.outs = x.outs ∧ y.done = x.done)
              ∧ (sent → y.buf = [] ∧ y.sx = [] ∧ y.dx = [] ∧ y.done = e + 1
                ∧ y.outs.map (fun w => (w.e, w.j, w.addr, w.bytes.length)) = x.outs.map (fun w => (w.e, w.j, w.addr, w.bytes.length))
                    ++ (unitsOf x.dsp (x.da e).toNat x.size).zipIdx.map (fun q => (e, q.2, (x.da e).toNat + q.1.1, q.1.2))
                ∧ ∀ w ∈ y.outs.drop x.outs.length,
                  (x.dsp = 2 → w.page = dx.find? fun p => decide (p.vpage = w.addr / 4096))
                    ∧ ∃ c, s.now < c ∧ (x.dsp = 1 → c ≤ s.now + 128 * y.outs.length)
                      ∧ Fixed t c prioSide (.ceElementMove n { e := e, kind := .write, j := w.j })))
            ∧ (x.hasSrc = false → apart → ∀ w ∈ y.outs.drop x.outs.length, x.bufBad = [] →
                w.bytes = x.data (w.addr - (x.da e).toNat) w.bytes.length ∧ w.bad = false)
            ∧ ∀ off w, x.hasSrc = true → (unitsOf x.ssp base x.size)[j]? = some (off, w) →
              let a := base + off
              let takes (mem : Nat → Byte) : Prop :=
                let taken := x.buf ++ (List.range w).map fun i => (off + i, mem (a + i))
                (¬(apart ∧ (unitsOf x.ssp base x.size).length ≤ j + 1) → y.buf = taken)
                  ∧ (apart → (unitsOf x.ssp base x.size).length ≤ j + 1 → x.bufBad = [] → (x.dsp < 5 ∨ y.lost = false) →
                    ∀ v ∈ y.outs.drop x.outs.length, v.bytes = { x with buf := taken }.data (v.addr - (x.da e).toNat) v.bytes.length)
              (x.ssp = 0 → takes (memGet u.sram)
                  ∧ (u.marks = [] → x.dsp ≠ 2 → SameContexts s t ∧ SameDevice s t))
                ∧ (x.ssp = 1 → x.olds = [] → takes (memGet (s.furlong (furlongOf n)).slice))
                ∧ (x.ssp = 3 → takes (memGet (s.chain c).ts)) ∧ (x.ssp = 4 → takes (memGet (s.chain c).wb))
                ∧ (x.ssp = 2 → x.olds = [] → ∀ p, sx.find? (fun p => decide (p.vpage = a / 4096)) = some p →
                  p.pa % 4096 = 0 → (p.pa < 2 ^ 39 ∨ 2 ^ 51 ≤ p.pa) →
                  takes (fun b => physByte s p.key (p.pa + a % 4096 + (b - a)))))))
      ∧ (¬apart → ∀ e j : Nat, let first : Prop := j = 0 ∧ x.hasSrc = false
        (first ∧ stops → ∃ t, exec (.ceElementMove n { e := e, kind := .write, j := j }) s = .next t ∧ goesOn t)
        ∧ (¬(first ∧ stops) → ∃ t, exec (.ceElementMove n { e := e, kind := .write, j := j }) s = .next t
        ∧ (∀ m k, (t.ctx m k).regs = (s.ctx m k).regs)
        ∧ (x.dsp = 0 → u.busy = true → Unchanged s t
          ∧ Fixed t (s.now + 8) prioSide (.ceElementMove n { e := e, kind := .write, j := j }))
        ∧ (¬(x.dsp = 0 ∧ u.busy = true) → x.bufBad = [] →
          let base := (x.da e).toNat
          ∀ off w, (unitsOf x.dsp base x.size)[j]? = some (off, w) →
          let a := base + off
          let data (i : Nat) : Byte := ((x.data off w)[i]?).getD 0#8
          let takes (old new : Nat → Byte) : Prop := ∀ b, new b = if a ≤ b ∧ b < a + w then data (b - a) else old b
          let srams : Prop := ∀ m, (t.tile m).sram = (s.tile m).sram
          let outer : Prop := t.hbm = s.hbm ∧ t.host = s.host ∧ t.granules = s.granules ∧ t.links = s.links
          let chains : Prop := srams ∧ (∀ d, d ≠ c → t.chain d = s.chain d) ∧ t.furlongs = s.furlongs ∧ outer
          (x.dsp = 0 → takes (memGet u.sram) (memGet (t.tile n).sram) ∧ (∀ m, m ≠ n → t.tile m = s.tile m)
            ∧ SameContexts s t ∧ SameDevice s t ∧ outer)
          ∧ (x.dsp = 3 → takes (memGet (s.chain c).ts) (memGet (t.chain c).ts)
            ∧ (∀ b < 288, ((t.chain c).sideOf (a / 512)).getLsbD b
              = if b < 16 then x.seq.testBit b else ((s.chain c).sideOf (a / 512)).getLsbD b)
            ∧ (∀ r, r ≠ a / 512 → (t.chain c).sideOf r = (s.chain c).sideOf r)
            ∧ (∀ b, memGet (t.chain c).wb b = memGet (s.chain c).wb b) ∧ chains)
          ∧ (x.dsp = 4 → takes (memGet (s.chain c).wb) (memGet (t.chain c).wb)
            ∧ (∀ r, (t.chain c).sideOf r = (s.chain c).sideOf r) ∧ (∀ b, memGet (t.chain c).ts b = memGet (s.chain c).ts b) ∧ chains))))
      ∧ (apart → ∀ (e j : Nat) (v : OutWrite), x.outs.find? (fun o => decide (o.e = e ∧ o.j = j)) = some v →
        (x.dsp = 2 → LaidOut s) → ∃ t, exec (.ceElementMove n { e := e, kind := .write, j := j }) s = .next t
        ∧ (∀ m k, (t.ctx m k).regs = (s.ctx m k).regs)
        ∧ (let a := v.addr
          let w := v.bytes.length
          let data (i : Nat) : Byte := (v.bytes[i]?).getD 0#8
          let takes (old new : Nat → Byte) : Prop := ∀ b, new b = if a ≤ b ∧ b < a + w then data (b - a) else old b
          let srams : Prop := ∀ m, (t.tile m).sram = (s.tile m).sram
          let outer : Prop := t.hbm = s.hbm ∧ t.host = s.host ∧ t.granules = s.granules ∧ t.links = s.links
          let inner : Prop := srams ∧ (∀ d, t.chain d = s.chain d) ∧ t.furlongs = s.furlongs
          let rest := x.outs.filter fun o => decide (¬(o.e = e ∧ o.j = j))
          let arrives : Prop := ∃ y, (t.tile n).eng.copies.head? = some y ∧ y.outs = rest ∧ y.done = x.done
            ∧ (rest = [] → x.resting = true → stops → x.fault.isSome = true ∨ x.aborted = true ∨ x.done = x.total →
              Fixed t (s.now + 1) prioDone (.ceCommandComplete n))
            ∧ (rest = [] → x.resting = true → stops → x.fault = none → x.aborted = false → x.done ≠ x.total →
              Fixed t (s.now + 1) prioUpdate (.ceSuspend n))
          (x.dsp = 1 → arrives
            ∧ (∀ f, (if x.kind = 4 then f < 48 ∧ (x.c 11).getLsbD f = true else f = furlongOf n) →
              takes (memGet (s.furlong f).slice) (memGet (t.furlong f).slice))
            ∧ (∀ f, ¬(if x.kind = 4 then f < 48 ∧ (x.c 11).getLsbD f = true else f = furlongOf n) → t.furlong f = s.furlong f)
            ∧ (∀ d, t.chain d = s.chain d) ∧ SameContexts s t ∧ srams ∧ outer)
          ∧ (x.dsp = 2 → ∀ p, v.page = some p → p.pa % 4096 = 0 → (p.pa < 2 ^ 39 ∨ 2 ^ 51 ≤ p.pa) → a % 64 + w ≤ 64 →
            let pa := p.pa + a % 4096
            (spGet false s.hostCached (pa / 64) = true → (∃ w', s.now < w'
                  ∧ Fixed t w' prioSide (.ceElementMove n { e := e, kind := .write, j := j }))
                ∧ Output.backInvalidate (pa / 64) ∈ t.hub.outputs ∧ spGet false t.hostCached (pa / 64) = false ∧ SameMemory s t)
              ∧ (spGet false s.hostCached (pa / 64) = false → v.bad = false → arrives
                ∧ PhysWritten s t p.key pa v.bytes ∧ srams ∧ (∀ d, t.chain d = s.chain d)
                  ∧ ∀ f, memGet (t.furlong f).slice = memGet (s.furlong f).slice))
          ∧ (5 ≤ x.dsp → x.dsp ≤ 7 → (x.dsp = 5 → a % 64 + w ≤ 64) → (x.dsp ≠ 5 → a % 8 + w ≤ 8) →
            let m := s.codeTarget x
            let codeByte (v : State) (k b : Nat) : Nat := bits (spGet 0#512 (v.tile k).code (b / 64)) (8 * (b % 64)) 8
            let regByte (v : State) (k b : Nat) : Nat := bits ((v.tile k).rg (b / 8)) (8 * (b % 8)) 8
            let first := if x.dsp = 6 then 8 * 0x100 else 8 * 0x040
            let here (k b : Nat) : Prop := k = m ∧ a ≤ b ∧ b < a + w
            arrives ∧ inner ∧ outer
              ∧ (∀ k b, codeByte t k b = if x.dsp = 5 ∧ k = m ∧ a ≤ b ∧ b < a + w then (data (b - a)).toNat else codeByte s k b)
              ∧ ∀ k b, (x.dsp ≠ 5 → here k b → regByte t k (first + b) = (data (b - a)).toNat)
                ∧ (x.dsp = 5 ∨ ¬(k = m ∧ first + a ≤ b ∧ b < first + a + w) → regByte t k b = regByte s k b))))
      ∧ (x.kind = 3 → ∀ off w i, i < w → (x.data off w)[i]? = some (BitVec.ofNat 8 ((x.c 11).toNat / 2 ^ (8 * ((off + i) % 8)))))
      ∧ (x.image.length = 14 → x.h.tokp.toNat < 64 → ∃ t, exec (.ceCommandComplete n) s = .next t
        ∧ (t.tile n).eng.copies = u.eng.copies.drop 1
        ∧ (x.h.tokp.toNat ≠ 63 → (t.tile n).tokPending x.h.tokp.toNat = false)
        ∧ (x.aborted = false → x.fault = none →
          status t (if x.lost then 0x05 else 0x00) ∧ (∀ k, (t.ctx n k).regs = (s.ctx n k).regs)
            ∧ ∀ e, x.firstErr = some e → (s.ctx n x.ctx).runs x.firing = true → (t.ctx n x.ctx).dues = (s.ctx n x.ctx).dues
              ++ [{ at' := s.now, urgent := false, what := { cause := e, slot := 15, detail := bits x.errAux 48 16
                                                             aux := w64 (bits x.errAux 0 48), eng := false } }])
        ∧ (x.aborted = false → ∀ code r, x.fault = some (code, r) → code < 256 → status t code ∧ imaged t
          ∧ ((s.ctx n x.ctx).runs x.firing = true →
            (∃ es, (∀ e ∈ es, e.what.cause = .errbudget) ∧ (es ≠ [] ↔ x.firstErr = some .errbudget)
              ∧ (t.ctx n x.ctx).dues = (s.ctx n x.ctx).dues ++ es ++ [({ at' := s.now, urgent := false, what := r } : Due)])))
        ∧ (x.aborted = true → status t 0x01 ∧ imaged t ∧ (t.ctx n x.ctx).dues = (s.ctx n x.ctx).dues)
        ∧ (x.irq = true → isRoutine x.ctx = true → (s.ctx n x.ctx).runs x.firing = true → (s.ctx n x.ctx).ien.getLsbD 0 = true →
          (s.ctx n x.ctx).irqs.length < 8 →
          (t.ctx n x.ctx).irqs
            = (s.ctx n x.ctx).irqs ++ [{ src := 1, tok := x.h.tokp.toNat, status := (t.ctx n x.ctx).lastCe.toNat }])
        ∧ SameOtherContexts s t n x.ctx ∧ SameMemory s t)
      ∧ (x.image.length = 14 → ∃ t, exec (.ceSuspend n) s = .next t ∧ imaged t ∧ status t 0x06
        ∧ (∃ y, (t.tile n).eng.copies = y :: u.eng.copies.drop 1 ∧ y.susp = true ∧ y.started = none
          ∧ y.done = x.stopPoint % 2 ^ 48)
        ∧ (t.tile n).tokens = u.tokens ∧ SameOtherContexts s t n x.ctx ∧ SameMemory s t)

/-! ## Network sockets (14, 15) -/

/-- 14 R312 to R316, R318, R319, 12 R270: a send operation that passes its tests makes its token pending, queues its
packet with the fields of R316, and lands 0; the operations on the inbox land its records and status one cycle on, and
the service operations, which only K2 may issue, spill, replay or return the held arrival: a spill writes its bytes
through requester 5, and with the cycle after it the hold of that arrival, and of no later one, ends; a rejected one
goes back with reason 0x04; then the next message that waits at the input is held. -/
def Obligations.NetworkOperations : Prop :=
  ∀ (s : State), s.discards = false →
    let n := s.hand.tile
    let k := s.hand.ctx
    let u := s.tile n
    let x := u.net
    let o := s.opo .ns
    let v := s.tv
    let head : W64 := match x.queue with | [] => 0#64 | i :: _ => spGet 0#64 x.recs i
    let traps (i : Instr) (d : Nat) : Prop := exec i s = .next (s.takeTrap n k (raiseAt .nsacc s.hand.slot d))
    let answered (t : State) (r : W64) : Prop :=
      ∃ f ∈ (t.tile n).flights, f.so = .ns ∧ f.po = .r ∧ f.ctx = k ∧ f.val = wide r
        ∧ f.due = some (s.now + 1) ∧ Fixed t (s.now + 1) prioLand (.resultLands n .ns .r)
    let same (t : State) : Prop := SameContexts s t ∧ SameTiles s t ∧ SameMemory s t ∧ SameDevice s t
    let inbox (i : Instr) (r : W64) (y : Inbox) : Prop :=
      ∃ t, exec i s = .next t ∧ Lands s t .ns 1 [(.r, wide r)] 0 ∧ (t.tile n).net = y ∧ SameSync s t ∧ same t
    (∀ q ∈ [(Instr.nsSend, 0), (.nsRst, 1), (.nsRatom, 2), (.nsXsend, 3)],
        let p := v.toNat % 2 ^ 6
        let size := v.toNat / 2 ^ 21 % 2 ^ 7 + 1
        (s.checkSend q.2 = none → ∃ t y, exec q.1 s = .next t ∧ (t.tile n).net.out = x.out ++ [y] ∧ answered t 0#64
          ∧ y.ctx = k ∧ y.tok = p ∧ y.irq = v.getLsbD 6
          ∧ (y.pkt.ptype = (match q.2 with | 0 => 1#4 | 1 => 3#4 | 2 => 5#4 | _ => 8#4))
          ∧ y.pkt.cls = (if v.getLsbD 7 then 2#2 else 1#2) ∧ y.pkt.vc = 0#1 ∧ y.pkt.npay.toNat = (size + 31) / 32
          ∧ y.pkt.ddev.toNat = o.toNat / 2 ^ 43 % 2 ^ 20 ∧ y.pkt.dtile.toNat = o.toNat / 2 ^ 32 % 2 ^ 11
          ∧ y.pkt.nbm.toNat + 1 = size ∧ y.pkt.tag.toNat = v.toNat / 2 ^ 13 % 2 ^ 8
          ∧ y.pkt.payload.toNat = (u.opp .ns).toNat % 2 ^ (8 * size)
          ∧ (q.2 = 2 → y.pkt.addr.toNat = o.toNat % 2 ^ 16 ∧ y.pkt.seq.toNat = o.toNat / 2 ^ 16 % 2 ^ 16
            ∧ y.pkt.aop.toNat = v.toNat / 2 ^ 9 % 2 ^ 4)
          ∧ (q.2 ≠ 2 → y.pkt.addr.toNat = o.toNat % 2 ^ 32)
          ∧ (q.2 = 1 → ∃ a, (t.tile n).net.awaited = x.awaited ++ [a] ∧ a.pkt = y.pkt ∧ a.tok = p)
          ∧ (∀ i, spFind (t.tile n).tokens i = if i = p ∧ p ≠ 63 then some { owner := 6, ctx := k } else spFind u.tokens i)
          ∧ same t)
        ∧ (s.nsFail (s.nsForm q.2) = some 0x1 → q.2 ≠ 2 → traps q.1 0x1)
        ∧ (q.2 < 2 → isRoutine k = true → (u.rg 0x022).getLsbD 16 = false → (s.nsForm q.2).badFields = false →
          o.toNat / 2 ^ 32 % 2 ^ 11 ≤ 1535 → traps q.1 0x4)
        ∧ (q.2 = 3 → bits (u.rg 0x051) 40 3 ≠ 4 → (s.nsForm 3).badFields = false → o.toNat / 2 ^ 32 % 2 ^ 11 ≤ 1535 →
          traps q.1 0x4))
      ∧ inbox .nsRecv head { x with queue := x.queue.drop 1 } ∧ inbox .nsPeek head x
      ∧ (let i := v.toNat % 32
        inbox .nsRelease (if spGet false x.full i then 1#64 else 0#64)
          { x with full := spSet false x.full i false, queue := x.queue.filter fun j => decide (j ≠ i) })
      ∧ (x.queue.length ≤ 32 → x.out.length ≤ 8 → ∃ r : W64, inbox .nsStat r x
        ∧ r.toNat % 2 ^ 6 = ((List.range 32).filter fun i => !spGet false x.full i).length
        ∧ r.toNat / 2 ^ 6 % 2 ^ 6 = x.queue.length ∧ r.getLsbD 12 = x.overflow ∧ r.getLsbD 13 = x.held.isSome
        ∧ r.toNat / 2 ^ 14 % 2 ^ 4 = x.out.length ∧ r.getLsbD 18 = (u.rg 0x038).getLsbD 0 ∧ r.toNat < 2 ^ 19)
      ∧ inbox .nsLast (s.hc.lastNs.setWidth 64) x
      ∧ (k ≠ .k2 → traps .nsSpill 0x3 ∧ traps .nsLback 0x3 ∧ traps .nsReject 0x3 ∧ traps .nsOvclr 0x3)
      ∧ (k = .k2 →
        let a := v.toNat % 2 ^ 32
        (a % 64 ≠ 0 → traps .nsSpill 0x6)
        ∧ (a % 64 = 0 → a < 0x60000 → x.held = none → inbox .nsSpill 0#64 x)
        ∧ (a % 64 = 0 → a < 0x60000 → ∀ c y p, x.held = some (c, y, p) → ∃ t w acc, exec .nsSpill s = .next t
          ∧ s.now < w ∧ w ≤ s.now + 8 ∧ (w + 5) % 8 = sramBank a ∧ acc ∈ (t.tile n).accesses
          ∧ acc.store = true ∧ acc.q = 5 ∧ acc.last = w ∧ acc.data = y.payload.setWidth 1024
          ∧ acc.rows = [{ cyc := w, bank := sramBank a, row := sramRow a, bytes := (List.range 64).map fun i => (a + i, i) }]
          ∧ Fixed t w prioRead (.sramBankAccess n 5 acc.id 0)
          ∧ (∃ f ∈ (t.tile n).flights, f.so = .ns ∧ f.po = .r ∧ f.val = wide y.record
            ∧ ∃ d, f.due = some d ∧ w < d ∧ d ≤ s.now + 9 ∧ (u.lastDue .ns ≤ w → d = w + 1))
          ∧ w ∈ (t.tile n).net.spillAt
          ∧ Fixed t (w + 1) prioUpdate (.registerWrite { tile := n, ctx := .k2, num := updSpill } (w64 c)) ∧ same t)
        ∧ (x.free = none → inbox .nsLback 0#64 x)
        ∧ (∀ i, x.free = some i → inbox .nsLback 1#64 { x with
            win := spSet 0#512 x.win i (BitVec.ofNat 512 ((u.opp .ns).toNat % 2 ^ (8 * (o.toNat / 2 ^ 8 % 2 ^ 6 + 1))))
            full := spSet false x.full i true, queue := x.queue ++ [i]
            recs := spSet 0#64 x.recs i (w64 (o.toNat / 2 ^ 6 * 2 ^ 6 + 2 ^ 5 + i)) })
        ∧ (x.held = none → inbox .nsReject 0#64 x)
        ∧ (∀ c y p, x.held = some (c, y, p) → ∃ t, exec .nsReject s = .next t ∧ Returned s t p 0x04
          ∧ Lands s t .ns 1 [(.r, wide y.record)] 0 ∧ HoldEnded s t n ∧ SameContexts s t ∧ SameMemory s t)
        ∧ (∀ c y p w, x.held = some (c, y, p) → isTile n = true →
          ∃ t, exec (.registerWrite { tile := n, ctx := .k2, num := updSpill } w) s = .next t
            ∧ (w = w64 c → HoldEnded s t n ∧ SameContexts s t ∧ SameMemory s t) ∧ (w ≠ w64 c → t = s))
        ∧ (∀ w, x.held = none → isTile n = true →
          exec (.registerWrite { tile := n, ctx := .k2, num := updSpill } w) s = .next s)
        ∧ (x.held.isSome → inbox .nsOvclr 0#64 x) ∧ (x.held = none → inbox .nsOvclr 1#64 { x with overflow := false }))

/-- 14 R296, R304 to R307, R310, R311, R316 to R318, 15 R334, R335: a packet leaves in its turn, toward its destination,
and its command ends with its status; one that reaches a tile where packets of its class and VC wait stands behind them;
a message is delivered into the lowest free slot with its record, or is held, or goes back with reason 0x06, and one
held for 4,096 cycles with 0x04; a return finds a free slot or is counted as lost; a tile that accepts none returns it
with its reason; a remote store inside the window and a transfer join the writes of requester 5, whose parts write their
bytes and no other, and the last part of a store is acknowledged; a store outside goes back with 0x07; an
acknowledgement, or a return, ends the store whose fields it keeps; a delivery port takes transfers whole, in the order of
their due cycles, and a late one is recorded. The order and the times of packets are free values (log entries 1, 15, 35);
that a return or a recovery takes a free slot in overflow mode (log entry 102), the parts of requester 5 (log entry 40)
and the fields that an answer keeps, the class of a store among them (log entry
36), are the model's reading. -/
def Obligations.PacketsArrive : Prop :=
  ∀ (s : State) (n : Nat),
    let u := s.tile n
    let x := u.net
    let quiet (t : State) : Prop := (∀ m k, (t.ctx m k).regs = (s.ctx m k).regs) ∧ SameMemory s t
    let ends (t : State) (tok : Nat) (k : Ctx) (code reason tag : Nat) (irq : Bool) (firing : Nat) : Prop :=
      NextCycle s t n k updNsDone (nsEnd tok (ctxNum k) code reason tag irq firing)
    let writes (i : Instr) (p : Packet) (b : Nat) (last : State → Prop) : Prop :=
      (s.fiveTaken n = true → ∃ t, exec i s = .next t ∧ Fixed t (s.now + 8) prioRead i ∧ Unchanged s t)
        ∧ (s.fiveTaken n = false → p.addr.toNat + p.nbm.toNat < 0x60000 → ∀ o w, (rowsOfPacket p)[b]? = some (o, w) →
          ∃ t, exec i s = .next t
            ∧ (∀ a, memGet (t.tile n).sram a
              = if p.addr.toNat + o ≤ a ∧ a < p.addr.toNat + o + w then BitVec.ofNat 8 (bits p.payload (8 * (a - p.addr.toNat)) 8)
                else memGet u.sram a)
            ∧ (∀ m, m ≠ n → (t.tile m).sram = (s.tile m).sram) ∧ (∀ m k, (t.ctx m k).regs = (s.ctx m k).regs)
            ∧ (b + 1 < (rowsOfPacket p).length → ∃ c, s.now < c ∧ c ≤ s.now + 8
              ∧ (c + 5) % 8 = sramBank (p.addr.toNat + (((rowsOfPacket p)[b + 1]?).getD (0, 0)).1)
              ∧ Fixed t c prioRead (writeStep n p (b + 1)))
            ∧ ((rowsOfPacket p).length = b + 1 → last t))
    let joins (t : State) (p : Packet) : Prop :=
      (t.tile n).net.wq = x.wq ++ [(p, s.now)] ∧ (x.wq = [] → ∃ c, s.now < c ∧ c ≤ s.now + 8 ∧ (c + 5) % 8 = sramBank p.addr.toNat
        ∧ Fixed t c prioRead (writeStep n p 0))
    (∀ cls y, s.injHead n cls = some y → ∃ t, exec (.packetInject n cls) s = .next t
        ∧ (t.tile n).net.out = x.out.filter (fun z => decide (z.id ≠ y.id)) ∧ (t.tile n).seqr.injected = u.seqr.injected + 1
        ∧ (y.pkt.ptype ≠ 3#4 → ends t y.tok y.ctx 0x00 0 y.pkt.tag.toNat y.irq y.firing)
        ∧ (cls = 0#2 → ∀ m, s.destTile y.pkt.dtile.toNat = some m →
          let lat := exchangeLat y.pkt.stile.toNat y.pkt.dtile.toNat
          Fixed t (s.now + 1 - flitsOf y.pkt + lat) prioDeliver (.exchangeDelivery m y.pkt 1)
            ∧ (y.issued + 1 + lat, s.now + 1 - flitsOf y.pkt + lat, y.pkt) ∈ (t.tile m).net.xin)
        ∧ (cls ≠ 0#2 → Sent s t y.pkt)
        ∧ quiet t)
      ∧ (isTile n = true → ∀ k tok code reason tag irq firing, tok < 64 → code < 2 ^ 8 → reason < 2 ^ 7 → tag < 2 ^ 8 →
        ∃ t, exec (.registerWrite { tile := n, ctx := k, num := updNsDone } (nsEnd tok (ctxNum k) code reason tag irq firing)) s = .next t
          ∧ (t.ctx n k).lastNs.toNat = code * 2 ^ 24 + tok * 2 ^ 18 + ctxNum k * 2 ^ 16 + reason * 2 ^ 8 + tag
          ∧ (tok ≠ 63 → (t.tile n).tokPending tok = false) ∧ SameOtherContexts s t n k ∧ quiet t)
      ∧ (∀ (p : Packet) (why : Nat), s.refuses n = some why →
        ∀ i ∈ [Instr.messageDelivery n p, .remoteStoreWrite n p 0, .exchangeDelivery n p 0],
          ∃ t, exec i s = .next t ∧ Returned s t p why ∧ quiet t)
      ∧ (∀ p : Packet, s.refuses n = none → ¬Enters s n p →
        (∃ t, exec (.messageDelivery n p) s = .next t ∧ WaitsAtInput s t n p)
          ∧ (∃ t, exec (.remoteStoreWrite n p 0) s = .next t ∧ WaitsAtInput s t n p)
          ∧ (p.sdev.toNat ≠ s.deviceId → ∃ t, exec (.exchangeDelivery n p 0) s = .next t ∧ WaitsAtInput s t n p))
      ∧ (∀ p : Packet, s.refuses n = none → Enters s n p → ∃ t, exec (.messageDelivery n p) s = .next t ∧ quiet t
        ∧ let msg : Prop := p.ptype = 1#4
        (∀ i, (x.overflow = false ∨ ¬msg) → x.free = some i → i < 32 → (t.tile n).net.queue = x.queue ++ [i]
          ∧ (∀ j, spGet 0#512 (t.tile n).net.win j = if j = i then
              BitVec.ofNat 512 (p.payload.toNat % 2 ^ (8 * (min p.nbm.toNat 63 + 1))) else spGet 0#512 x.win j)
          ∧ (∀ j, spGet false (t.tile n).net.full j = (decide (j = i) || spGet false x.full j))
          ∧ (let r := spGet 0#64 (t.tile n).net.recs i
            r.toNat % 32 = i ∧ r.getLsbD 5 = true ∧ r.getLsbD 6 = decide (p.ptype = 2#4) ∧ r.getLsbD 7 = decide (p.cls = 2#2)
              ∧ r.toNat / 2 ^ 8 % 2 ^ 6 = p.nbm.toNat % 64 ∧ r.toNat / 2 ^ 14 % 2 ^ 8 = p.tag.toNat
              ∧ r.toNat / 2 ^ 22 % 2 ^ 7 = p.reason.toNat ∧ r.toNat / 2 ^ 29 = p.sdev.toNat * 2 ^ 11 + p.stile.toNat))
        ∧ (x.overflow = true → msg → x.held = none → (∃ a, (t.tile n).net.held = some (s.now, a, p))
          ∧ (t.tile n).net.queue = x.queue ∧ Fixed t (s.now + 4096) prioDeliver (.heldArrivalTimeout n))
        ∧ (x.overflow = true → msg → x.held.isSome → (t.tile n).net.waiting = x.waiting ++ [p] ∧ (t.tile n).net.held = x.held
          ∧ (t.tile n).net.queue = x.queue)
        ∧ (x.overflow = false → x.free = none → msg → (u.rg 0x038).getLsbD 0 = true →
          (t.tile n).net.overflow = true ∧ ∃ a, (t.tile n).net.held = some (s.now, a, p))
        ∧ (x.free = none → (x.overflow = false ∧ (u.rg 0x038).getLsbD 0 = false ∨ ¬msg) → Returned s t p 0x06
          ∧ (t.tile n).net.queue = x.queue ∧ (t.tile n).net.held = x.held
          ∧ (p.ptype = 2#4 → p.ddev.toNat = s.deviceId → s.destTile p.dtile.toNat = some n →
            bits ((t.tile n).rg 0x03A) 16 16 = min 0xFFFF (bits (u.rg 0x03A) 16 16 + 1))))
      ∧ (∃ t, exec (.k2Wake n) s = .next t
        ∧ t.ctx n .k2 = { s.ctx n .k2 with run := .ready, pc := (u.rg 0x023).toNat % 2 ^ 11, next := none }
        ∧ SameOtherContexts s t n .k2 ∧ SameRest s t)
      ∧ (∀ c a p, x.held = some (c, a, p) → ∃ t, exec (.heldArrivalTimeout n) s = .next t ∧ quiet t
        ∧ (c + 4096 = s.now → (∀ w ∈ x.spillAt, w < s.now) → Returned s t p 0x04 ∧ HoldEnded s t n)
        ∧ (c + 4096 ≠ s.now → t = s))
      ∧ (∀ p : Packet, s.refuses n = none → Enters s n p → p.ptype = 3#4 → ∃ t, exec (.remoteStoreWrite n p 0) s = .next t
        ∧ quiet t ∧ (u.storeOk p = true → joins t p)
        ∧ (u.storeOk p = false → (t.tile n).net.wq = x.wq ∧ Returned s t p 0x07))
      ∧ (∀ p b, p.ptype = 3#4 → writes (.remoteStoreWrite n p (b + 1)) p b fun t => (t.tile n).net.wq = x.wq.drop 1
        ∧ Sent s t { p with ptype := 7#4, cls := 2#2, vc := 1#1, npay := 0#3, ddev := p.sdev, dtile := p.stile, sdev := p.ddev
                            stile := p.dtile, seq := BitVec.ofNat 16 p.cls.toNat, payload := 0#1024 })
      ∧ (∀ p y, s.refuses n = none → u.awaits p 3 = some y → ∃ t, exec (.storeAcknowledgement n p) s = .next t ∧ quiet t
        ∧ (t.tile n).net.awaited = x.awaited.filter (fun z => decide (z.id ≠ y.id))
        ∧ (p.ptype = 7#4 → ends t y.tok y.ctx 0x01 0 y.pkt.tag.toNat y.irq y.firing)
        ∧ (p.ptype = 2#4 → ends t y.tok y.ctx 0x02 p.reason.toNat y.pkt.tag.toNat y.irq y.firing))
      ∧ (∀ p : Packet, s.refuses n = none → p.ptype = 8#4 → (p.sdev.toNat = s.deviceId ∨ Enters s n p) →
        ∃ t, exec (.exchangeDelivery n p 0) s = .next t ∧ joins t p ∧ quiet t)
      ∧ (∀ p : Packet, let take := Instr.exchangeDelivery n p 1
        (s.now < x.portFree → ∃ t, exec take s = .next t ∧ Fixed t x.portFree prioDeliver take ∧ Unchanged s t)
          ∧ (x.portFree ≤ s.now → (∀ y ∈ x.xin, s.now < y.2.1) → exec take s = .next s)
          ∧ ∀ due there q, x.portFree ≤ s.now → x.xin.find? (fun y => decide (y.2.1 ≤ s.now)) = some (due, there, q) →
            (q ≠ p → ∃ t, exec take s = .next t ∧ Fixed t s.now prioDeliver take ∧ Unchanged s t)
              ∧ (q = p → ∃ t, exec take s = .next t
                ∧ (t.tile n).net.xin = x.xin.erase (due, there, p) ∧ (t.tile n).net.portFree = s.now + flitsOf p
                ∧ Fixed t (s.now + flitsOf p - 1) prioDeliver (.exchangeDelivery n p 0)
                ∧ (due < s.now → ((t.tile n).rg 0x052).getLsbD 63 = true) ∧ (s.now ≤ due → ∀ r, (t.tile n).rg r = u.rg r)
                ∧ quiet t))
      ∧ ∀ p b, p.ptype = 8#4 → writes (.exchangeDelivery n p (b + 2)) p b fun t => (t.tile n).net.wq = x.wq.drop 1

/-! ## Links (14 R292 to R303, 20 R458, 21 R470) -/

/-- 14 R293, R297 to R303, 20 R458, 21 R470: a fabric port takes a data flit only in sequence and whole, and naks any
other once, the number expected each time it fails, and answers any other failure by a control flit; the flits of a
packet that goes on follow its head to the output chosen for it; idle, ack and nak act on its buffers; an output sends a
control flit owed, a flit to be sent again, or the flit that the class rule picks, none of a stopped pair, and none that
cuts into a packet in progress on the other VC while that is not stopped; a truncated packet ends at its output with a cancelled tail and goes back without payload; a port goes down, dies, trains and clears
its digest. One flit a cycle, the bit order of the checks, and what goes out where no control flit is owed or a critical
packet in progress has no next flit, are the model's choice (log entries 41, 42, 133, 135). -/
def Obligations.FabricPorts : Prop :=
  ∀ (s : State) (l : Nat), l < 32 →
    let x := s.link l
    let rest (t : State) : Prop := SameContexts s t ∧ SameTiles s t ∧ SameMemory s t ∧ SameSync s t ∧ SameEngines s t
      ∧ t.hub = s.hub ∧ t.now = s.now ∧ ∀ m, m ≠ l → t.link m = s.link m
    let becomes (i : Instr) (y : LinkEnd) : Prop := ∃ t, exec i s = .next t ∧ t.link l = y ∧ rest t
    let owes (y : LinkEnd) (ctype cseq : Nat) : Prop := ∃ d, y.ctl = x.ctl ++ [d] ∧ bits d 248 8 = ctype ∧ bits d 240 8 = cseq
      ∧ bits d 234 6 = x.stopRx.toNat
    (∀ c st, becomes (.idle l c st) { x with stopTx := st })
      ∧ (∀ c st pre f post, x.sent = pre ++ f :: post → Fovh.lseq f = c.toNat → (∀ g ∈ pre, Fovh.lseq g ≠ c.toNat) →
        becomes (.ack l c st) { x with stopTx := st, sent := post, resend := x.resend.filter post.contains, sinceAck := s.now }
          ∧ becomes (.nak l c st) { x with stopTx := st, resend := f :: post })
      ∧ (x.up = false → ∀ f, exec (.flitReceive l f) s = .next s)
      ∧ (x.up = true → ∀ f,
        let whole := bits f.ovh 16 16 = flitCrc f ∧ bits f.ovh 0 2 = 0
        let pair := Fovh.pair f
        ∃ t, exec (.flitReceive l f) s = .next t
          ∧ (Fovh.fcls f ≠ 0 → ¬(whole ∧ Fovh.lseq f = x.nextRx) → rest t ∧ (t.link l).nextRx = x.nextRx ∧ (t.link l).inp = x.inp
            ∧ (t.link l).nakSent = true
            ∧ (x.nakSent = false ∨ (¬whole ∧ Fovh.lseq f = x.nextRx) → owes (t.link l) 2 (x.nextRx % 256))
            ∧ (x.nakSent = true → ¬whole → Fovh.lseq f ≠ x.nextRx → owes (t.link l) 0 0)
            ∧ (x.nakSent = true → whole → (t.link l).ctl = x.ctl))
          ∧ (Fovh.fcls f ≠ 0 → whole → Fovh.lseq f = x.nextRx →
            (Fovh.head f = false → spFind x.inp pair = none →
              rest t ∧ (t.link l).protoErr = x.protoErr + 1 ∧ (t.link l).inp = x.inp ∧ (t.link l).nextRx = (x.nextRx + 1) % 256
                ∧ ((x.accepted + 1) % 16 = 0 → owes (t.link l) 1 (x.nextRx % 256)))
            ∧ (∀ r, Fovh.head f = false → Fovh.tail f = false → spFind x.inp pair = some r →
              (r.out = none → rest t) ∧ (t.link l).nextRx = (x.nextRx + 1) % 256
                ∧ (∀ q, q ≠ pair → spFind (t.link l).inp q = spFind x.inp q)
                ∧ spFind (t.link l).inp pair = some { r with flits := r.flits ++ [f.data], lastAt := s.now }
                ∧ ∀ o c, r.out = some o → c ∈ (s.link o).outq → c.more = true → c.src = some (l, pair) →
                  { c with left := c.left ++ [f] } ∈ (t.link o).outq)
            ∧ (Fovh.head f = true → Fovh.tail f = false → ∃ ok o, spFind (t.link l).inp pair
                = some { head := f.data, valid := ok, out := o, flits := [], lastAt := s.now }
              ∧ (f.data.toNat / 2 ^ 252 = 0 ∨ 11 < f.data.toNat / 2 ^ 252 → ok = false) ∧ (ok = false → o = none)
              ∧ ∀ m, o = some m → ∃ c ∈ (t.link m).outq, c.left = [f] ∧ c.more = true ∧ c.src = some (l, pair))
            ∧ (∀ r, Fovh.head f = false → Fovh.tail f = true → Fovh.cancel f = false → spFind x.inp pair = some r → r.valid = true →
              r.flits = [] → r.head.toNat / 2 ^ 252 = 10 → r.head.toNat / 2 ^ 246 % 8 = 1 →
              ∃ p : Packet, p.ptype = 10#4 ∧ Fixed t s.now prioEnd (.heartbeatReceive (.port l) p)))
          ∧ (Fovh.fcls f = 0 → ¬whole → rest t ∧ owes (t.link l) 0 0)
          ∧ (Fovh.fcls f = 0 → whole → ∀ i, (bits f.data 248 8, i) ∈ [(0, Instr.idle), (1, Instr.ack), (2, Instr.nak)] →
            exec (i l (f.data.extractLsb' 240 8) (f.data.extractLsb' 234 6)) s = .next t)
          ∧ (Fovh.fcls f = 0 → whole → 2 < bits f.data 248 8 → t.link l = { x with linkErr := x.linkErr + 1 } ∧ rest t))
      ∧ (x.up = false → exec (.outputFlitSelect l) s = .next s)
      ∧ (x.up = true → ∃ t f, exec (.outputFlitSelect l) s = .next t ∧ t.hub.outputs = s.hub.outputs ++ [.flit l f]
        ∧ SameContexts s t ∧ SameTiles s t ∧ SameMemory s t ∧ (∀ m, m ≠ l → t.link m = s.link m)
        ∧ (∀ d r, x.ctl = d :: r → bits f.data 234 6 = x.stopRx.toNat
          ∧ (∀ i, i < 234 ∨ 240 ≤ i → f.data.getLsbD i = d.getLsbD i)
          ∧ Fovh.fcls f = 0 ∧ bits f.ovh 16 16 = flitCrc f ∧ (t.link l).ctl = r)
        ∧ (∀ g r, x.ctl = [] → x.resend = g :: r →
          let stopped : Prop := bitOf x.stopTx (Fovh.pair g) = true ∧ ¬(Fovh.fcls g = 3 ∧ Fovh.head g = false)
          (t.link l).sent = x.sent ∧ (¬stopped → f = g ∧ (t.link l).resend = r)
            ∧ (stopped → Fovh.fcls f = 0 ∧ (t.link l).resend = x.resend))
        ∧ (x.ctl = [] → x.resend = [] → 64 ≤ x.sent.length → Fovh.fcls f = 0 ∧ (t.link l).sent = x.sent)
        ∧ (x.ctl = [] → x.resend = [] → x.sent.length < 64 →
          let el := x.eligible
          ((∀ c ∈ [1, 2, 3], el c = false) → x.begun 3 0 = false → x.begun 3 1 = false →
            Fovh.fcls f = 0 ∧ bits f.data 248 8 = 0 ∧ bits f.data 234 6 = x.stopRx.toNat ∧ (t.link l).wu = 0 ∧ (t.link l).wb = 0)
          ∧ ((x.begun 3 0 ∨ x.begun 3 1) → el 3 = false → Fovh.fcls f = 0 ∧ (t.link l).sent = x.sent)
          ∧ ∀ c, el c = true →
            c = (if x.begun 3 0 ∨ x.begun 3 1 then 3 else if el 2 ∧ 6 ≤ x.wu then 2 else if el 1 ∧ 29 ≤ x.wb then 1
              else if el 3 then 3 else if el 2 then 2 else 1) →
            (t.link l).wu = (if c = 2 ∨ el 2 = false then 0 else x.wu + 1)
              ∧ (t.link l).wb = (if c = 1 ∨ el 1 = false then 0 else x.wb + 1)
              ∧ ∃ v b g left, x.nextOf c v = some (b, g, left) ∧ f.data = g.data ∧ Fovh.lseq f = x.nextTx % 256
                ∧ bits f.ovh 16 16 = flitCrc f ∧ (t.link l).sent = x.sent ++ [f] ∧ (t.link l).nextTx = (x.nextTx + 1) % 256
                ∧ (bitOf x.stopTx (2 * (c - 1) + v) = true → c = 3 ∧ x.begun 3 v = true)
                ∧ (∀ u ≤ 1, x.begun c u = true → x.canSend c u = true → x.begun c v = true ∧ (spGet 0 x.lastVc c = u → v = u))
                ∧ (∀ u ≤ 1, x.begun c u = true → (bitOf x.stopTx (2 * (c - 1) + u) = false ∨ c = 3) → x.begun c (1 - u) = false →
                  v = u)
                ∧ (x.begun c 0 = false → x.begun c 1 = false → x.canSend c 1 = true → v = 1)))
      ∧ (∀ (cls : BitVec 2) (vc : BitVec 1) (r : Reasm), cls ≠ 0#2 →
        let pair := 2 * (cls.toNat - 1) + vc.toNat
        spFind x.inp pair = some r → ∃ t, exec (.truncationTimeout l cls vc) s = .next t
          ∧ SameContexts s t ∧ SameMemory s t ∧ (t.link l).inp = spErase x.inp pair
          ∧ (r.valid = false → r.out = none → t.link l = { x with inp := spErase x.inp pair } ∧ rest t)
          ∧ (r.valid = true → Returned s t (packetOf r.head []) 0x05 false)
          ∧ ∀ o, r.out = some o →
            (∀ c ∈ (s.link o).outq, c.more = true → c.src = some (l, pair) → c ∉ (t.link o).outq)
              ∧ ∀ q c, spFind (s.link o).cur q = some c → c.more = true → c.src = some (l, pair) →
                ∃ g, spFind (t.link o).cur q = some { c with left := [g], more := false }
                  ∧ Fovh.tail g = true ∧ Fovh.cancel g = true)
      ∧ (∃ t, exec (.linkDown l) s = .next t ∧ t.link l = { x with up := false, training := true } ∧ rest t
        ∧ Fixed t (s.now + 2 ^ 21) prioDone (.linkDead l))
      ∧ (∃ t, exec (.linkDead l) s = .next t ∧ (x.sent = [] → x.inp = [] →
        (x.outq = [] → t.link l = { x with dead := true, up := false, training := false, resend := [], cur := [], ctl := [] } ∧ rest t)
        ∧ ∀ c, x.outq = [c] →
          (∀ h fs, c.more = false → c.left = h :: fs → ∃ u, t = u.route (packetOf h.data (fs.map (·.data))) ∧ rest u ∧ u.link l
            = { x with dead := true, up := false, training := false, resend := [], cur := [], ctl := [], outq := [] })
          ∧ ∀ j q r, c.more = true → c.src = some (j, q) → j ≠ l → spFind (s.link j).inp q = some r →
            ∃ o, spFind (t.link j).inp q = some { r with out := o } ∧ (t.link l).dead = true ∧ (t.link l).outq = []
              ∧ ∀ m, o = some m → m ≠ l ∧ c ∈ (t.link m).outq))
      ∧ (∀ (lanes : Nat) (asym : Int) (ok : Bool),
        let group (w : Nat) : Prop := ∃ i, i + w ≤ 8 ∧ ∀ j < w, lanes.testBit (i + j) = true
        ∃ t, exec (.fabricPortTrain l lanes asym ok) s = .next t ∧ rest t
          ∧ ((t.link l).width = 0 ↔ group 8) ∧ ((t.link l).width = 1 ↔ ¬group 8 ∧ group 4)
          ∧ ((t.link l).width = 2 ↔ ¬group 4 ∧ group 2) ∧ ((t.link l).width = 3 ↔ ¬group 2)
          ∧ (ok = true → group 2 → (t.link l).up = true ∧ (t.link l).dead = false ∧ (t.link l).training = false
            ∧ ((t.link l).asym = true ↔ 2 < asym ∨ asym < -2)
            ∧ (x.dead = false → x.training = true →
              (t.link l).nextTx = x.nextTx ∧ (t.link l).nextRx = x.nextRx ∧ (t.link l).sent = x.sent ∧ (t.link l).resend = x.sent))
          ∧ (ok = false ∨ ¬group 2 → (t.link l).training = true
            ∧ (x.training = false → (t.link l).up = false ∧ Fixed t (s.now + 2 ^ 21) prioDone (.linkDead l))))
      ∧ becomes (.digestReset l) { x with digest := BitVec.allOnes 64, digCount := 0#64 }

/-! ## Supersteps (15 R322 to R331, R339, 18 R423) -/

/-- 15 R323, R325 to R331: a member that arrives is counted in its group; at a release each member advances by its step
table, into a compute phase with the list of record cur checked and selected, into an exchange phase run by K0, or to a
stop; the root chooses a start time, which passes down the tree, and with it the counts of the next phase begin, from the
packets of that phase which have settled before; a milestone that fails interrupts the waymark tile, freezes its members,
and tells the parent and every child but its sender. The times of reports inside the device are free values; who starts a
group, which children are known, and which packets from other devices count are the model's reading (log entries 15, 26,
44), as are the restart at the end of a phase (27), slot 15 of the cause of a bad record (70) and the count of interrupts
of the waymark tile (73). -/
def Obligations.Milestones : Prop :=
  ∀ (s : State),
    let isT (n : Nat) : Prop := n < 1728 ∨ n = waymark
    let quiet (t : State) : Prop := SameContexts s t ∧ SameTiles s t ∧ SameMemory s t ∧ SameSync s t ∧ SameEngines s t
    let step (v : Tile) (round cur : Nat) : Prop :=
      bits (v.rg 0x051) 48 16 = round ∧ bits (v.rg 0x051) 43 5 = cur ∧ v.stepRound = round ∧ v.stepCur = cur
    let computes (n : Nat) (v : Tile) (round cur : Nat) : Prop :=
      let u := s.tile n
      let a := (u.rg (0x200 + 2 * cur)).toNat
      let b := (u.rg (0x201 + 2 * cur)).toNat
      let bad := a / 2 ^ 43 ≠ 0 ∨ a / 2 ^ 18 % 2 ^ 14 ≠ 0 ∨ a / 2 ^ 14 % 4 ≠ 0 ∨ a / 2 ^ 6 % 4 ≠ 0 ∨ b % 2 ^ 32 ≠ 0
        ∨ a / 2 ^ 16 % 4 = 3 ∨ (a / 2 ^ 17 % 2 = 1 ∧ b / 2 ^ 32 = 0)
      step v round cur ∧ v.phase = 2
        ∧ (v.rg 0x022).toNat = a % 2 ^ 6 + a / 2 ^ 8 % 2 ^ 6 * 2 ^ 8 + a / 2 ^ 16 % 2 * 2 ^ 16
        ∧ (v.running = true → ¬bad ∧ a % 2 ^ 6 ≤ a / 2 ^ 8 % 2 ^ 6 ∧ v.nextEntry = a % 2 ^ 6)
        ∧ (v.running = false → u.frozen = false → v.k0.run = .trapped ∧ bits (v.k0.cr 0x075) 54 6 = 0x03
          ∧ bits (v.k0.cr 0x075) 32 16 = 0xC)
        ∧ (v.running = false → u.frozen = true →
          v.k0 = { u.k0 with dues := u.k0.dues ++ [{ at' := s.now, urgent := false, what := raiseAt .ctlfault 15 0xC }] })
    let released (t : State) (n : Nat) (late : Bool) : Prop :=
      let u := s.tile n
      let v := t.tile n
      let goes := u.stepRun = true ∧ u.seqr.restart = false
      let xpres := (u.rg (0x200 + 2 * u.stepCur)).toNat / 2 ^ 17 % 2 = 1
      let stops (run : Bool) : Prop := v.stepRun = run ∧ v.phase = (if u.seqr.restart then 1 else 0)
        ∧ (v.k0, v.k1, v.k2, v.k3) = (u.k0, u.k1, u.k2, u.k3)
      (bits (v.rg 0x051) 39 1 = b2n late ∧ bits (v.rg 0x051) 0 32 = min 0xFFFFFFFF (s.now - u.seqr.arrived.getD s.now))
        ∧ (u.phase = 1 → (goes → computes n v u.stepRound u.stepCur) ∧ (¬goes → stops u.stepRun))
        ∧ (u.phase = 3 → xpres →
          (goes → v.phase = 4 ∧ step v u.stepRound u.stepCur ∧ v.rg 0x052 = 0#64 ∧ v.seqr.xstart = some s.now
            ∧ v.k0.run = .ready ∧ v.k0.pc = bits (u.rg (0x200 + 2 * u.stepCur)) 32 11 ∧ v.k0.wstart = s.now
            ∧ v.k0.wdog = some (bits (u.rg (0x201 + 2 * u.stepCur)) 32 32) ∧ v.k0.regs = u.k0.regs
            ∧ (v.k1, v.k2, v.k3) = (u.k1, u.k2, u.k3))
          ∧ (¬goes → stops u.stepRun))
        ∧ ((u.phase = 3 ∧ ¬xpres) ∨ u.phase = 5 →
          (u.stepCur ≠ u.stepLast → goes → computes n v u.stepRound ((u.stepCur + 1) % 32))
          ∧ (u.stepCur = u.stepLast → u.stepWrap = true → goes → computes n v ((u.stepRound + 1) % 2 ^ 16) 0)
          ∧ (u.stepCur = u.stepLast → u.stepWrap = false → stops false))
    let tells (t : State) (kind dev : Nat) (what : Nat → Prop) : Prop := ∃ q : Packet, Sent s t q ∧ q.ptype = 9#4 ∧ q.cls = 3#2
      ∧ q.ddev = BitVec.ofNat 20 dev ∧ q.dtile = 0x7FF#11 ∧ q.payload.toNat % 4 = kind ∧ what q.payload.toNat
    let kinds (t : State) (m : Mile) (T : Nat) : Prop :=
      (∃ late, t.mile theDomain = some { m with start := some T, late := late }
        ∧ (late = true → Fixed t (s.now + 64) prioDeliver (.domainStart true))
        ∧ (late = false ↔ (s.hub.paceNs.toNat * 2 ^ 32 + s.hub.paceFr.toNat + 63 * ((s.hubRg 0x054).toNat % 2 ^ 36)) / 2 ^ 32 < T))
      ∧ t.hub.injected = 0 ∧ t.hub.settledN = s.hub.settledNext ∧ t.hub.settledNext = 0 ∧ (∀ c ∈ m.children, tells t 1 c.1 fun p => p / 2 ^ 23 % 2 ^ 64 = T % 2 ^ 64)
      ∧ SameMemory s t ∧ SameContexts s t
    let failed (t : State) (gr : Group) (code : Nat) (sender : Option Nat) : Prop :=
      t.mile gr = none ∧ SameMemory s t ∧ t.hub.stepIrqs = s.hub.stepIrqs + 1
        ∧ (gr.lvl = 4 → ∀ d, (d ∈ s.hub.kids ∨ s.isRoot = false ∧ d = (s.hubRg 0x056).toNat % 2 ^ 20) → sender ≠ some d →
          tells t 2 d fun _ => True)
        ∧ ∀ n ∈ s.membersOf gr, isT n → (t.tile n).frozen = true ∧ (t.tile n).phase = 6
        ∧ bits ((t.tile n).rg 0x051) 37 2 = code ∧ (t.tile n).running = false
        ∧ ((s.tile n).frozen = false → bits ((t.tile n).rg 0x077) 54 6 = 0x23)
    (∀ n, isT n →
        let gr := groupOf n (s.tile n).stepLevel
        ∃ t m, exec (.milestoneArrive n) s = .next t ∧ t.mile gr = some m ∧ m.last = s.now ∧ n ∈ m.arrived
          ∧ (∀ old, s.mile gr = some old → m = { old with arrived := old.arrived ++ [n], last := s.now })
          ∧ (s.mile gr = none → m.first = s.now ∧ m.arrived = [n]) ∧ (t.tile n).seqr.arrived = some s.now ∧ quiet t)
      ∧ (∀ gr m, gr.lvl < 4 → s.mile gr = some m → (s.membersOf gr).Nodup →
        ∃ t, exec (.milestoneRelease gr) s = .next t ∧ t.mile gr = none ∧ (∀ n ∈ s.membersOf gr, released t n (((s.tile n).rg 0x051).getLsbD 39))
          ∧ (∀ n, n ∉ s.membersOf gr → t.tile n = s.tile n) ∧ SameMemory s t)
      ∧ (∀ late, (s.membersOf theDomain).Nodup → ∃ t, exec (.domainStart late) s = .next t ∧ t.mile theDomain = none
        ∧ (∀ n ∈ s.membersOf theDomain, released t n late)
        ∧ (∀ n, n ∉ s.membersOf theDomain → t.tile n = s.tile n) ∧ SameMemory s t)
      ∧ (∀ m, s.mile theDomain = some m → ∃ t, exec (.milestoneRelease theDomain) s = .next t
        ∧ kinds t m ((s.hub.paceNs.toNat + (s.hubRg 0x056).toNat / 2 ^ 32) % 2 ^ 64))
      ∧ (∀ p m, s.mile theDomain = some m → ∃ t, exec (.milestoneReleasePacket p) s = .next t
        ∧ kinds t m (p.payload.toNat / 2 ^ 23 % 2 ^ 64))
      ∧ (∀ p, s.mile theDomain = none → exec (.milestoneReleasePacket p) s = .next s)
      ∧ (∀ p, ∃ t m, exec (.milestoneArrivePacket p) s = .next t ∧ t.mile theDomain = some m ∧ quiet t
        ∧ p.sdev.toNat ∈ t.hub.kids ∧ (p.sdev.toNat, p.payload.toNat / 2 ^ 87 % 2 ^ 48, p.payload.toNat / 2 ^ 135 % 2 ^ 48) ∈ m.children
        ∧ (∀ old, s.mile theDomain = some old → m.arrived = old.arrived
          ∧ (∀ c ∈ old.children, c.1 ≠ p.sdev.toNat → c ∈ m.children)
          ∧ ∀ c ∈ m.children, c.1 = p.sdev.toNat ∨ c ∈ old.children))
      ∧ (∀ gr, ∃ t, exec (.milestoneTimeout gr) s = .next t ∧ failed t gr 1 none)
      ∧ (∀ p, (s.membersOf theDomain = [] ∨ ∃ n ∈ s.membersOf theDomain, (s.tile n).phase ≠ 6) →
        ∃ t, exec (.milestoneFailPacket p) s = .next t ∧ failed t theDomain 2 (some p.sdev.toNat))
      ∧ (∀ p, s.membersOf theDomain ≠ [] → (∀ n ∈ s.membersOf theDomain, (s.tile n).phase = 6) →
        exec (.milestoneFailPacket p) s = .next s)

/-- 15 R324, R325, R339, 18 R405, R423: a write of `stepctl` sets the fields it may, and one whose test has passed
lands; and, where it sets run, sends a stopped member to its start milestone; one of `paceadj` adds to pace time unless
it is locked; a heartbeat returns the count of missed periods to 0, and a tile or a port that misses enough of them is
dead. When a beat arrives in its period, and that a tile which a fault has made silent sends none, is the model's choice
(log entry 45), as is the value of `paceadj` of which the low 32 bits alone are taken (log entry 136). -/
def Obligations.SequencerAndHeartbeats : Prop :=
  ∀ (s : State),
    let quiet (t : State) : Prop := SameContexts s t ∧ SameMemory s t ∧ SameSync s t ∧ SameEngines s t
    (∀ n v, (n < 1728 ∨ n = waymark) →
        let u := s.tile n
        let lvl := if 4 < v.toNat / 2 ^ 32 % 8 then 3 else v.toNat / 2 ^ 32 % 8
        let same := v.toNat % 32 = u.stepCur ∧ v.toNat / 2 ^ 8 % 32 = u.stepLast ∧ v.getLsbD 13 = u.stepWrap
          ∧ v.getLsbD 30 = u.stepMember ∧ lvl = u.stepLevel
        let legal := ((u.rg 0x050).toNat / 2 ^ 5 % 8 = 0 ∧ (u.rg 0x050).toNat / 2 ^ 14 % 2 ^ 16 = 0
          ∧ (u.rg 0x050).toNat / 2 ^ 35 % 2 ^ 13 = 0)
        ∃ t, exec (.stepctlWrite n v) s = .next t ∧ quiet t ∧ (∀ m, m ≠ n → t.tile m = s.tile m) ∧ s.hub = t.hub
          ∧ (∀ r, r ≠ 0x050 → r ≠ 0x051 → (t.tile n).rg r = u.rg r)
          ∧ t.accepted = s.accepted.erase (.stepctlWrite n v)
          ∧ (u.stepRun = true → ¬same → .stepctlWrite n v ∉ s.accepted → t.tile n = u)
          ∧ (u.stepRun = false ∨ (same ∧ legal) ∨ .stepctlWrite n v ∈ s.accepted →
            let w := t.tile n
            w.stepCur = v.toNat % 32 ∧ w.stepLast = v.toNat / 2 ^ 8 % 32 ∧ w.stepWrap = v.getLsbD 13 ∧ w.stepMember = v.getLsbD 30
              ∧ w.stepLevel = lvl ∧ w.stepRun = v.getLsbD 31
              ∧ w.stepRound = (if u.stepRun = false ∧ v.getLsbD 31 = true then 0 else u.stepRound)
              ∧ (u.stepRun = false → v.getLsbD 31 = true → v.getLsbD 30 = true → u.phase = 0 → w.phase = 1)))
      ∧ (∀ v, ∃ t, exec (.paceadj v) s = .next t ∧ quiet t ∧ SameTiles s t
        ∧ ((s.hubRg 0x053).getLsbD 63 = true → t = s)
        ∧ ((s.hubRg 0x053).getLsbD 63 = false →
          t.hub = { s.hub with paceNs := s.hub.paceNs + BitVec.ofNat 64 (v.toNat % 2 ^ 32) }))
      ∧ (∀ n, (n < 1728 ∨ n = waymark) →
        ((s.tile n).silent = true → ∃ t, exec (.heartbeatSend (.tile n)) s = .next t ∧ quiet t ∧ SameTiles s t
            ∧ t.agenda = s.agenda)
          ∧ ((s.tile n).silent = false → ∃ t d p, exec (.heartbeatSend (.tile n)) s = .next t ∧ quiet t
            ∧ d < 2 ^ ((s.hubRg 0x07B).toNat % 32) ∧ Fixed t (s.now + 1 + d) prioDeliver (.heartbeatReceive (.tile n) p)
            ∧ p.ptype = 10#4 ∧ p.cls = 3#2 ∧ p.npay = 0#3 ∧ p.dtile = 0x7FF#11)
          ∧ (∀ p, ∃ t, exec (.heartbeatReceive (.tile n) p) s = .next t ∧ quiet t ∧ SameTiles s t ∧ (t.beatOf n).missed = 0
            ∧ ∀ m, m ≠ n → t.beatOf m = s.beatOf m)
          ∧ ∃ t, exec (.heartbeatMiss (.tile n)) s = .next t ∧ SameMemory s t ∧ (t.beatOf n).missed = (s.beatOf n).missed + 1
            ∧ ((s.beatOf n).missed + 1 < (s.hubRg 0x07B).toNat / 2 ^ 8 % 16 → quiet t ∧ SameTiles s t)
            ∧ ((s.hubRg 0x07B).toNat / 2 ^ 8 % 16 ≤ (s.beatOf n).missed + 1 → (s.tile n).dead = false →
              (t.tile n).dead = true ∧ (t.tile n).frozen = true
                ∧ (n < 1728 → ∀ m, m / 9 = n / 9 → (t.tile m).frozen = true)
                ∧ ((s.tile n).frozen = false → bits ((t.tile n).rg 0x077) 54 6 = 0x26)
                ∧ (s.hub.trapq.length < 1024 → ∃ e, t.hub.trapq = s.hub.trapq ++ [e] ∧ e.getLsbD 63 = true ∧ bits e 0 11 = n % 2 ^ 11)))
      ∧ (∀ l < 32, (∃ t p, exec (.heartbeatSend (.port l)) s = .next t ∧ quiet t ∧ p.ptype = 10#4 ∧ p.cls = 3#2 ∧ p.dtile = 0x7FF#11
          ∧ t.link l = { s.link l with outq := (s.link l).outq ++ [Sending.whole p] })
        ∧ (∀ p, ∃ t, exec (.heartbeatReceive (.port l) p) s = .next t ∧ quiet t
          ∧ t.link l = { s.link l with missed := 0, beat := true })
        ∧ ∃ t, exec (.heartbeatMiss (.port l)) s = .next t
          ∧ ((s.link l).missed + 1 < (s.hubRg 0x07B).toNat / 2 ^ 8 % 16 → quiet t
            ∧ t.link l = { s.link l with missed := (s.link l).missed + 1, beat := true })
          ∧ ((s.hubRg 0x07B).toNat / 2 ^ 8 % 16 ≤ (s.link l).missed + 1 →
            (t.link l).training = true ∧ Fixed t (s.now + 2 ^ 21) prioDone (.linkDead l)))

/-! ## System operations (16 R355 to R357, 17 R386 to R400, 18 R402 to R429) -/

/-- 18 R403 to R407, R414, R438, 21 R461: `csrr` and `csrw` act on a register of their own context, tile or device, and
reach the hub within 64 cycles; `xcsrr` and `xcsrw` hold their context until `csrres` is written, with the value read,
0, or 1 for a write that is refused; each traps SYSACC where its tests fail. A write lands in the step of its register;
a read of `trapq` removes the oldest entry. The order of the details of SYSACC, what the chain words read at the waymark
tile, and what a confidential context sees of its own tile are the model's reading (log entries 29, 74, 114). -/
def Obligations.ControlRegisters : Prop :=
  (∀ (s : State), s.discards = false →
    let n := s.hand.tile
    let k := s.hand.ctx
    let u := s.tile n
    let c := s.hc
    let o := s.opo .sys
    let traps (i : Instr) (d : Nat) : Prop := exec i s = .next (s.takeTrap n k (raiseAt .sysacc s.hand.slot d))
    let hubAccess (i : Instr) (fn : Nat) (num v : W64) : Prop := ∃ t due x, exec i s = .next t
      ∧ x ∈ t.hub.accesses ∧ x.fn = fn ∧ x.tile = n ∧ x.ctx = k ∧ x.opo = num ∧ x.tv = v ∧ x.id = u.nextId ∧ x.acted = false
      ∧ s.now < due ∧ due ≤ s.now + 64 ∧ Fixed t due prioWrite (.registerWrite { tile := n, ctx := k, num := updHub } (w64 x.id))
      ∧ Fixed t due prioLand (.resultLands n .sys .r) ∧ SameContexts s t ∧ SameTiles s t ∧ SameMemory s t
    let held (i : Instr) (fn : Nat) : Prop := ∃ t x, exec i s = .next t ∧ x ∈ t.hub.accesses ∧ x.fn = fn ∧ x.tile = n ∧ x.ctx = k
      ∧ x.opo = o ∧ x.opp = s.opp .sys ∧ t.ctx n k = { c with holds := c.holds ++ [.csrres] } ∧ (t.tile n).primary ≠ some k
      ∧ (∃ a, s.now < a ∧ Fixed t a prioUpdate (.registerWrite { tile := n, ctx := k, num := updAccess } (w64 x.id)))
      ∧ SameOtherContexts s t n k ∧ SameTiles s t ∧ SameMemory s t
    let own (r : Nat) : RegRef := { tile := n, ctx := k, num := r }
    let conditional (x : RegRef) : Prop := x.num = 0x030 ∨ x.num = 0x050 ∨ (0x070 ≤ x.num ∧ x.num < 0x074 ∧ x.tile < 1728)
    (let r := s.tv.toNat;
      (2 ^ 12 ≤ r → traps .csrr 0x1)
        ∧ (r = 0x07E → c.isSys = false → traps .csrr 0x3)
        ∧ (r < 2 ^ 12 → isAssigned r = false → traps .csrr 0x4)
        ∧ (r < 2 ^ 12 → isAssigned r = true → isHubNum r = false → ∃ v, Yields64 .csrr s .sys 1 v ∧ Reads s n k (own r) v)
        ∧ (r < 2 ^ 12 → isHubNum r = true → (r = 0x07E → c.isSys = true) → hubAccess .csrr 0 s.tv 0#64))
      ∧ (let r := o.toNat
        let any := r ∈ [0x020, 0x021, 0x028, 0x029, 0x02A, 0x02B, 0x02C, 0x031, 0x035, 0x067] ∨ readOnly r = true
        let x := own r
        let v := s.maskedWrite n x s.tv;
        (2 ^ 12 ≤ r → traps .csrw 0x1)
          ∧ (r < 2 ^ 12 → isAssigned r = false → traps .csrw 0x4)
          ∧ (r < 2 ^ 12 → isAssigned r = true → ¬any → c.isSys = false → traps .csrw 0x3)
          ∧ (r < 2 ^ 12 → isAssigned r = true → any ∨ c.isSys = true →
            (isHubNum r = false → s.refusesWrite x v = true → Yields64 .csrw s .sys 1 1#64)
            ∧ (isHubNum r = false → s.refusesWrite x v = false → ∃ t, exec .csrw s = .next t
              ∧ Lands s t .sys 1 [(.r, wide 0#64)] 0 ∧ Unchanged s t ∧ Fixed t (s.now + 1) prioWrite (writeLands x v)
              ∧ (conditional x → writeLands x v ∈ t.accepted))
            ∧ (isHubNum r = true → hubAccess .csrw 1 o v))
          ∧ (n ≠ waymark → r ≠ 0x074 → r ≠ 0x061 → r ≠ 0x080 → v = s.tv))
      ∧ (let bad := (o.toNat / 2 ^ 47 ≠ 0 ∨ o.toNat / 2 ^ 43 % 4 ≠ 0 ∨ o.toNat / 2 ^ 12 % 2 ^ 20 ≠ 0)
        let m := o.toNat / 2 ^ 32 % 2 ^ 11;
        ∀ q ∈ [(Instr.xcsrr, 2), (.xcsrw, 3)],
          (bad → traps q.1 0x1) ∧ (¬bad → c.isSys = false → traps q.1 0x3)
            ∧ (¬bad → c.isSys = true → 1728 ≤ m → m ≤ 2046 → traps q.1 0x5)
            ∧ (¬bad → c.isSys = true → m < 1728 ∨ m = 2047 → isAssigned (o.toNat % 2 ^ 12) = false → traps q.1 0x4)
            ∧ (¬bad → c.isSys = true → m < 1728 ∨ m = 2047 → isAssigned (o.toNat % 2 ^ 12) = true → held q.1 q.2)))
    ∧ ∀ (s : State) (n : Nat) (k : Ctx), (n < 1728 ∨ n = waymark) →
      let c := s.ctx n k
      let u := s.tile n
      let lost := b2n s.hub.trapLost * 2 ^ 62
      let same (t : State) : Prop := SameContexts s t ∧ SameTiles s t ∧ SameMemory s t ∧ SameSync s t
      let acts (x : SysAccess) (num : Nat) (t : State) : Prop :=
        exec (.registerWrite { tile := n, ctx := k, num := num } (w64 x.id)) s = .next t ∧ same t
      (∀ x : SysAccess, x.id < 2 ^ 64 →
          (s.hub.accesses.find? (fun y => decide (y.fn ≤ 1 ∧ y.tile = n ∧ y.id = x.id) && y.ctx = k) = some x →
            let r := x.opo.toNat % 2 ^ 12
            ∃ t, acts x updHub t ∧ t.hub = s.hub ∧ Fixed t s.now prioDone (.hubRegisterAccessDone n k x.id)
              ∧ (x.fn = 1 → Fixed t s.now prioWrite (writeLands { tile := n, ctx := k, num := r } x.tv))
              ∧ (x.fn = 0 → x.acted = false → r = 0x07E → Fixed t s.now prioDone (.trapq n k false)))
          ∧ (s.hub.accesses.find? (fun y => decide (2 ≤ y.fn ∧ y.id = x.id)) = some x → x.tile = n → x.ctx = k →
            let g := tgtReg x.opo
            let dead := g.tile < 1728 ∧ (s.tile g.tile).dead = true
            let v := s.maskedWrite n g x.opp
            let answers (c : Nat) (v : W64) (t : State) : Prop := Fixed t c prioDone (.csrresWritten n k v)
            (x.fn = 2 → ∃ t, acts x updAccess t ∧ (dead → answers s.now (BitVec.allOnes 64) t)
              ∧ (¬dead → g.num = 0x07E → Fixed t s.now prioDone (.trapq n k true))
              ∧ (¬dead → g.num ≠ 0x07E → ∃ v, answers s.now v t ∧ Reads s n k g v))
            ∧ (x.fn = 3 → ∃ t, acts x updAccess t ∧ (dead ∨ s.refusesWrite g v = true → answers s.now 1#64 t)
              ∧ (¬dead → s.refusesWrite g v = false → answers (s.now + 1) 0#64 t ∧ Fixed t (s.now + 1) prioWrite (writeLands g v)))))
        ∧ (∀ r v, r < 2 ^ 12 →
          let x : RegRef := { tile := n, ctx := k, num := r }
          let i := writeLands x v
          (r = 0x023 → i = .svcaddrWrite n v) ∧ (r = 0x030 → i = .sramcfgWrite n v) ∧ (r = 0x050 → i = .stepctlWrite n v)
            ∧ (r = 0x034 → n < 1728 → i = .mxcheckWrite (n / 9) v)
            ∧ (∀ j < 4, r = 0x070 + j → n < 1728 → i = .chainWordWrite (4 * (n / 36) + j) v)
            ∧ (r = 0x0EB → i = .thctlWrite v) ∧ (∀ l < 32, r = 0x0A0 + l ∨ r = 0x0C0 + l → i = .digestReset l)
            ∧ (r = 0x0F5 → i = .hostreq v)
            ∧ (r ∉ [0x023, 0x030, 0x050, 0x034, 0x0EB, 0x0F5] → ¬(0x070 ≤ r ∧ r < 0x074) → ¬(0x0A0 ≤ r ∧ r < 0x0E0) →
              i = .registerWrite x v))
        ∧ (∀ v, ∃ t, exec (.csrresWritten n k v) s = .next t ∧ (t.ctx n k).cr 0x06A = v ∧ (∀ r, r ≠ 0x06A → (t.ctx n k).cr r = c.cr r)
          ∧ (∀ h, h ∈ (t.ctx n k).holds ↔ h ∈ c.holds ∧ h ≠ .csrres) ∧ (t.ctx n k).regs = c.regs ∧ SameOtherContexts s t n k
          ∧ SameRest s t)
        ∧ (∀ r v, r < 2 ^ 12 → isAssigned r = true →
          ∃ t, exec (.registerWrite { tile := n, ctx := k, num := r } v) s = .next t ∧ SameMemory s t ∧ SameSync s t ∧ SameEngines s t
            ∧ (∀ m j, (t.ctx m j).regs = (s.ctx m j).regs) ∧ (∀ m j e, ¬(isCtxNum r = true ∧ m = n ∧ j = k ∧ e = r) → (t.ctx m j).cr e = (s.ctx m j).cr e)
            ∧ (∀ m e, ¬(isTileNum r = true ∧ m = n ∧ e = r) → (t.tile m).rg e = (s.tile m).rg e)
            ∧ (r ∈ [0x02A, 0x02B, 0x060, 0x061, 0x062] → (t.ctx n k).cr r = v)
            ∧ (r = 0x021 → (t.ctx n k).cr r = c.cr r &&& ~~~(v &&& 0x3#64))
            ∧ (r = 0x029 → (t.ctx n k).cr r = c.cr r &&& ~~~(v &&& 0x1FF#64))
            ∧ (r = 0x063 → ((t.ctx n k).cr r).toNat = min 2 (v.toNat % 4))
            ∧ (r = 0x074 → (t.ctx n k).cr r = v &&& 0x7F01#64)
            ∧ (r = 0x075 → (t.ctx n k).cr r = (v &&& 0x7FF#64) ||| (c.cr r &&& ~~~0x7FF#64))
            ∧ ((0x040 ≤ r ∧ r < 0x050) ∨ (0x100 ≤ r ∧ r < 0x1C0) ∨ (0x200 ≤ r ∧ r < 0x240) ∨ r = 0x039 → (t.tile n).rg r = v)
            ∧ (r = 0x022 → (t.tile n).rg r = v &&& 0x13F3F#64) ∧ (r = 0x038 → (t.tile n).rg r = v &&& 1#64)
            ∧ (r = 0x03A → (t.tile n).rg r = 0#64) ∧ (r = 0x078 → (t.tile n).rg r = v &&& 0xFF0FFFFFFFF00000#64)
            ∧ (r = 0x056 → t.hubRg r = v &&& 0xFFFFFFFF8FFFFFFF#64) ∧ (r = 0x057 → t.hubRg r = v)
            ∧ (r = 0x054 → (t.hubRg r).toNat = min (max (v.toNat % 2 ^ 36) (0x86BCA1AF - 2 ^ 21)) (0x86BCA1AF + 2 ^ 21))
            ∧ (r ∈ [0x051, 0x052, 0x077, 0x079] → (t.tile n).rg r = u.rg r)
            ∧ (r ∈ [0x065, 0x06A, 0x076, 0x07A] → (t.ctx n k).cr r = c.cr r))
        ∧ (∀ x, s.hub.accesses.find? (fun y => decide (y.fn ≤ 1 ∧ y.tile = n ∧ y.id = x.id) && y.ctx = k) = some x →
          ∃ t, exec (.hubRegisterAccessDone n k x.id) s = .next t ∧ t.hub = { s.hub with accesses := s.hub.accesses.erase x }
            ∧ SameContexts s t ∧ SameTiles s t ∧ SameMemory s t
            ∧ (x.fn = 0 → x.acted = false → isHubNum (x.opo.toNat % 2 ^ 12) = true →
              ∀ f ∈ (t.tile n).flights, f.id = x.id → f.val = wide (s.hubValue (x.opo.toNat % 2 ^ 12)))
            ∧ (x.fn = 1 → (t.tile n).flights = u.flights))
        ∧ (∀ x viaX, s.hub.accesses.find? (fun y => y.fn = (if viaX then 2 else 0) && y.tile = n && y.ctx = k && !y.acted
            && bits y.opo 0 12 = 0x07E) = some x →
          ∃ t v, exec (.trapq n k viaX) s = .next t ∧ t.hub.trapLost = false ∧ t.hub.trapq = s.hub.trapq.tail
            ∧ (s.hub.trapq = [] → v = w64 lost) ∧ (∀ e l, s.hub.trapq = e :: l → v = e ||| w64 lost)
            ∧ (viaX = true → Fixed t s.now prioDone (.csrresWritten n k v))
            ∧ (viaX = false → ∀ f ∈ (t.tile n).flights, f.id = x.id → f.val = wide v)
            ∧ SameContexts s t ∧ SameTiles s t ∧ SameMemory s t)

/-- 16 R355 to R357: a fence lands 0, waits for the context's earlier stores and `tsw` operation and for its remote stores
and requests within scope that have no answer, and is complete when none of these is left. That a tile is in its own
scope at every level is the model's reading (log entry 95). -/
def Obligations.Fences : Prop :=
  (∀ (s : State) (lv : Nat) (rw : Bool), s.discards = false → lv ≤ 5 →
    let n := s.hand.tile
    let k := s.hand.ctx
    let u := s.tile n
    let c := s.hc
    let earlier (w : Waits) : Prop :=
      (∀ i, i ∈ w.stores ↔ ∃ x ∈ u.accesses, x.id = i ∧ x.store = true ∧ x.q < 4 ∧ x.ctx = k ∧ x.issued < s.now ∧ s.now ≤ x.last)
        ∧ (∀ i, w.tsw = some i ↔ ∃ x, u.eng.tsw = some x ∧ x.issued = i ∧ x.ctx = k ∧ i < s.now)
        ∧ (∀ i, i ∈ w.remote ↔ ∃ x, (x ∈ u.net.awaited ∨ (x ∈ u.net.answered ∧ u.unlanded i = true)) ∧ x.id = i ∧ x.ctx = k
          ∧ x.issued < s.now ∧ (x.pkt.ptype = 3#4 ∨ x.pkt.ptype = 4#4)
          ∧ (lv = 5 ∨ (x.pkt.ddev.toNat = s.deviceId ∧ (lv = 4 ∨ ∃ m, s.destTile x.pkt.dtile.toNat = some m
            ∧ (m = n ∨ (m < 1728 ∧ n < 1728 ∧ ((lv = 1 ∧ m / 9 = n / 9) ∨ (lv = 2 ∧ m / 36 = n / 36)
              ∨ (lv = 3 ∧ m / 432 = n / 432))))))))
    ∃ t w, exec (if rw then .fenceRw lv else .fenceW lv) s = .next t ∧ Lands s t .sys 1 [(.r, wide 0#64)] 0 ∧ earlier w
      ∧ t.ctx n k = (if w.stores = [] ∧ w.tsw = none ∧ w.remote = [] then c else { c with fences := c.fences ++ [{ rw := rw, waits := w }] })
      ∧ SameOtherContexts s t n k ∧ SameRest s t)
    ∧ ∀ (s : State) (n : Nat) (k : Ctx),
      let u := s.tile n
      let c := s.ctx n k
      let done (w : Waits) : Prop := (∀ x ∈ u.accesses, x.id ∈ w.stores → x.last < s.now) ∧ (∀ x, u.eng.tsw = some x → w.tsw ≠ some x.issued)
        ∧ (∀ x ∈ u.net.awaited, x.id ∉ w.remote) ∧ (∀ i ∈ w.remote, u.unlanded i = false)
      ∃ t, exec (.fenceComplete n k) s = .next t ∧ t.ctx n k = { c with fences := (t.ctx n k).fences }
        ∧ (∀ f, f ∈ (t.ctx n k).fences ↔ f ∈ c.fences ∧ ¬done f.waits) ∧ SameOtherContexts s t n k ∧ SameRest s t

/-- 18 R406, R407, R415 to R422, R433: `tctl` asks its function of the target and holds its context; at the target each
function acts as its row says and answers 0 done, 1 wrong state, 2 invalid address, 3 image unusable, 4 no cairn; a
halt completes as its tile becomes quiet, and a matrix grant that it has not started then is lost. A function waits for
what has been captured, for local accesses and for a class rewrite (03 R68, 09 R200; log entry 99). The order of the
details of its tests (log entry 74), what an image holds as an object, and which state a kill, a clear and a rollback
reach beyond the named registers (log entries 14, 76, 77, 81, 82), are the model's reading. -/
def Obligations.TileControl : Prop :=
  (∀ (s : State), s.discards = false →
    let n := s.hand.tile
    let k := s.hand.ctx
    let c := s.hc
    let o := s.opo .sys
    let m := o.toNat / 2 ^ 32 % 2 ^ 11
    let bad := (o.toNat / 2 ^ 47 ≠ 0 ∨ o.toNat / 2 ^ 43 % 4 ≠ 0 ∨ o.toNat / 2 ^ 12 % 2 ^ 20 ≠ 0 ∨ 16 ≤ s.tv.toNat)
    ∀ q ∈ [(Instr.tctlFreeze, 0), (.tctlResume, 1), (.tctlHalt, 2), (.tctlUnhalt, 3), (.tctlSave, 4), (.tctlRestore, 5),
        (.tctlResumeContext, 6), (.tctlKillContext, 7), (.tctlClearContext, 8), (.tctlRollback, 9)],
      let traps (d : Nat) : Prop := exec q.1 s = .next (s.takeTrap n k (raiseAt .sysacc s.hand.slot d))
      (bad → traps 0x1) ∧ (¬bad → 10 ≤ s.tv.toNat → traps 0x2) ∧ (s.tv.toNat < 10 → ¬bad → c.isSys = false → traps 0x3)
        ∧ (s.tv.toNat < 10 → ¬bad → c.isSys = true → 1728 ≤ m → m ≤ 2046 → traps 0x5)
        ∧ (s.tv.toNat < 10 → ¬bad → c.isSys = true → m < 1728 ∨ m = 2047 → ∃ t x, exec q.1 s = .next t ∧ x ∈ t.hub.accesses
          ∧ x.fn = 4 ∧ x.tile = n ∧ x.ctx = k ∧ x.opo = o ∧ x.opp = s.opp .sys ∧ x.tv = w64 q.2
          ∧ t.ctx n k = { c with holds := c.holds ++ [.csrres] } ∧ (t.tile n).primary ≠ some k
          ∧ (∃ a, s.now < a ∧ Fixed t a prioEnd (.registerWrite { tile := n, ctx := k, num := updAccess } (w64 x.id)))
          ∧ SameOtherContexts s t n k ∧ SameTiles s t ∧ SameMemory s t))
    ∧ (∀ (s : State) (x : SysAccess), (x.tile < 1728 ∨ x.tile = waymark) → (tgtTile x.opo < 1728 ∨ tgtTile x.opo = waymark) → x.fn = 4 →
      x.id < 2 ^ 64 → s.hub.accesses.find? (fun y => decide (2 ≤ y.fn ∧ y.id = x.id)) = some x →
      let n := tgtTile x.opo
      let k := tgtCtx x.opo
      let u := s.tile n
      let c := u.ctx k
      let mates := if n < 1728 then (List.range 9).map (fun i => 9 * (n / 9) + i) else [n]
      let frozen := ∀ m ∈ mates, (s.tile m).frozen = true
      let acts (t : State) : Prop := exec (.registerWrite { tile := x.tile, ctx := x.ctx, num := updAccess } (w64 x.id)) s = .next t
      let answers (t : State) (v : Nat) : Prop := Fixed t (s.now + 1) prioDone (.csrresWritten x.tile x.ctx (w64 v))
      let same (t : State) : Prop := SameContexts s t ∧ SameTiles s t ∧ SameMemory s t ∧ SameSync s t
      let caused (t : State) (e : Nat) : Prop := ∀ m ∈ mates, (t.tile m).frozen = true
        ∧ ((s.tile m).frozen = false → bits ((t.tile m).rg 0x077) 54 6 = if m = n then e else 0x22)
      let awaits (m : Nat) (w : Capturer) : Prop := ∃ y ∈ (s.tile m).captures, y.by' = w ∧ y.fl.locked = true ∧ ∀ d, y.fl.due = some d → s.now < d
      let moving (m : Nat) : Prop := (∃ w, awaits m w) ∨ (∃ y ∈ (s.tile m).accesses, s.now ≤ y.last)
        ∨ ((s.tile m).rg 0x030).getLsbD 2 = true
      let waits : Prop := ∃ t, acts t ∧ t.hub = s.hub ∧ same t
        ∧ Fixed t (s.now + 1) prioEnd (.registerWrite { tile := x.tile, ctx := x.ctx, num := updAccess } (w64 x.id))
      let still := u.frozen = true → ¬moving n
      let addr := x.opp.toNat
      (x.tv = 0#64 → ∃ t, acts t ∧ answers t 0 ∧ SameMemory s t ∧ (frozen → same t) ∧ caused t 0x20)
        ∧ (x.tv = 1#64 → (u.frozen = false ∨ u.dead = true → ∃ t, acts t ∧ answers t 1 ∧ same t)
          ∧ (u.frozen = true → u.dead = false → s.tripped n = true → ∃ t, acts t ∧ answers t 1 ∧ same t)
          ∧ (u.frozen = true → u.dead = false → s.tripped n = false → (∃ m ∈ s.resumed n, awaits m .freeze) → waits)
          ∧ (u.frozen = true → u.dead = false → s.tripped n = false → (∀ m ∈ s.resumed n, ¬awaits m .freeze) → ∃ t, acts t ∧ answers t 0 ∧ SameMemory s t
            ∧ ∀ m ∈ s.resumed n, ((s.tile m).halted = true → t.tile m = s.tile m)
              ∧ ((s.tile m).halted = false → (s.tile m).frozen = true → (t.tile m).frozen = false ∧ (t.tile m).resumeAt = some (s.now + 1)
                ∧ ∀ o p r, (s.tile m).savedPorts = some (o, p, r) → (t.tile m).latO = o ∧ (t.tile m).latP = p ∧ (t.tile m).ports = r)))
        ∧ (x.tv = 2#64 → ∃ t, acts t ∧ caused t 0x25 ∧ (t.tile n).halted = true ∧ SameMemory s t
          ∧ (u.dead = true ∨ (t.tile n).quiet = true → answers t 0)
          ∧ (u.dead = false → (t.tile n).quiet = false → ∃ y ∈ t.hub.accesses, y = { x with acted := true }))
        ∧ (x.tv = 3#64 → (u.halted = true → u.dead = false → ∃ t, acts t ∧ answers t 0 ∧ (t.tile n).halted = false
            ∧ (t.tile n).frozen = u.frozen ∧ SameContexts s t ∧ SameMemory s t)
          ∧ (u.halted = false ∨ u.dead = true → ∃ t, acts t ∧ answers t 1 ∧ same t))
        ∧ (x.tv = 4#64 ∨ x.tv = 5#64 → u.frozen = true → moving n → waits)
        ∧ (x.tv = 4#64 → still → (u.quiet = false → ∃ t, acts t ∧ answers t 1 ∧ same t)
          ∧ (u.quiet = true → s.imageAddrOk addr = false → ∃ t, acts t ∧ answers t 2 ∧ same t)
          ∧ (u.quiet = true → s.imageAddrOk addr = true → ∃ t im, acts t ∧ spFind t.images (addr / 0x10000) = some im ∧ im.tile = u
            ∧ im.slot = s.slotOrLast n ∧ SameContexts s t ∧ SameMemory s t
            ∧ (∀ p ∈ u.marks, p.2 = .corrected → ∃ a, s.now < a
              ∧ Fixed t a prioRead (.sramCorrectedRewrite n (p.1 / 768) (p.1 / 2 % 384) (p.1 % 2)))
            ∧ ((∀ p ∈ u.marks, p.2 ≠ .lost) → im.usable = true ∧ answers t 0)
            ∧ ((∃ p ∈ u.marks, p.2 = .lost) → im.usable = false ∧ answers t 3)))
        ∧ (x.tv = 5#64 → still → (u.quiet = false ∨ u.halted = false → ∃ t, acts t ∧ answers t 1 ∧ same t)
          ∧ (u.quiet = true → u.halted = true → s.imageAddrOk addr = false → ∃ t, acts t ∧ answers t 2 ∧ same t)
          ∧ (u.quiet = true → u.halted = true → s.imageAddrOk addr = true →
            (spFind s.images (addr / 0x10000) = none → ∃ t, acts t ∧ answers t 3 ∧ same t)
            ∧ ∀ im, spFind s.images (addr / 0x10000) = some im →
              let lost : Prop := ∃ p ∈ s.hbmMark, p.2 = .lost ∧ addr ≤ 64 * p.1 ∧ 64 * p.1 < addr + 0xA0000
              (im.usable = false ∨ im.slot ≠ s.slotOrLast n ∨ im.material ≠ spGet 0#512 s.hub.keys im.key ∨ lost →
                ∃ t, acts t ∧ answers t 3 ∧ same t)
              ∧ (im.usable = true → ¬lost → im.slot.isSome = true → im.slot = s.slotOrLast n → im.material = spGet 0#512 s.hub.keys im.key →
                ∃ t, acts t ∧ answers t 0 ∧ (∀ j, (t.tile n).ctx j = im.tile.ctx j) ∧ (t.tile n).sram = im.tile.sram
                  ∧ (t.tile n).code = im.tile.code ∧ (t.tile n).sems = im.tile.sems ∧ (t.tile n).tokens = im.tile.tokens
                  ∧ (t.tile n).latO = im.tile.latO ∧ (t.tile n).ports = im.tile.ports ∧ (t.tile n).cairn = im.tile.cairn
                  ∧ (∀ r ∈ [0x078, 0x079], (t.tile n).rg r = im.tile.rg r)
                  ∧ (t.tile n).eng = { im.tile.eng with mx := im.tile.eng.mx.map fun y => { y with granted := none } }
                  ∧ (t.tile n).net = u.net ∧ (t.tile n).halted = u.halted ∧ ∀ m, m ≠ n → t.tile m = s.tile m)))
        ∧ (x.tv = 6#64 → (c.run = .trapped → u.frozen = false → c.ending = true → awaits n (.trap k) → waits)
          ∧ (c.run = .trapped → u.frozen = false → (c.ending = true → ¬awaits n (.trap k)) → ∃ t, acts t ∧ answers t 0
            ∧ (t.ctx n k).run = (if c.ending then .retiring else .ready) ∧ (t.ctx n k).pc = bits (c.cr 0x075) 0 11
            ∧ bits ((t.ctx n k).cr 0x075) 63 1 = 0 ∧ (t.ctx n k).regs = c.regs ∧ SameOtherContexts s t n k ∧ SameMemory s t)
          ∧ (c.run ≠ .trapped ∨ u.frozen = true → ∃ t, acts t ∧ answers t 1 ∧ same t))
        ∧ (x.tv = 7#64 → (c.run = .trapped ∨ c.run = .idle → ∃ t, acts t ∧ answers t 0 ∧ (t.ctx n k).run = .idle
            ∧ bits ((t.ctx n k).cr 0x075) 63 1 = 0 ∧ (t.ctx n k).regs = c.regs ∧ (t.ctx n k).dues = []
            ∧ (∀ e, c.entry = some e → ((t.tile n).entry e).st = 3) ∧ (∀ f ∈ (t.tile n).captures, f.fl.ctx ≠ k)
            ∧ SameOtherContexts s t n k ∧ SameMemory s t)
          ∧ (c.run = .ready ∨ c.run = .retiring → ∃ t, acts t ∧ answers t 1 ∧ same t))
        ∧ (x.tv = 8#64 → (c.run = .trapped ∨ c.run = .idle ∨ u.frozen = true → ∃ t, acts t ∧ answers t 0
            ∧ (t.ctx n k).regs = Regs.reset ∧ (∀ r, r ≠ 0x074 → (t.ctx n k).cr r = ctxRegReset r) ∧ (t.ctx n k).cr 0x074 = c.cr 0x074
            ∧ (∀ f ∈ (t.tile n).captures, f.fl.ctx ≠ k) ∧ (c.run = .trapped → (t.ctx n k).run = .idle)
            ∧ SameOtherContexts s t n k ∧ SameMemory s t)
          ∧ (c.run = .ready ∨ c.run = .retiring → u.frozen = false → ∃ t, acts t ∧ answers t 1 ∧ same t))
        ∧ (x.tv = 9#64 → ((∃ m ∈ mates, (s.tile m).frozen = false ∨ (s.tile m).quiet = false) → ∃ t, acts t ∧ answers t 1 ∧ same t)
          ∧ ((∀ m ∈ mates, (s.tile m).frozen = true ∧ (s.tile m).quiet = true) → (∃ m ∈ mates, moving m) → waits)
          ∧ ((∀ m ∈ mates, (s.tile m).frozen = true ∧ (s.tile m).quiet = true ∧ ¬moving m) → n < 1728 →
            ((∃ j < 8, (s.tile (s.slotTile (n / 9) j)).cairn = none ∨ ((s.tile (s.slotTile (n / 9) j)).rg 0x079).getLsbD 62 = true) →
              ∃ t, acts t ∧ answers t 4 ∧ same t)
            ∧ ((∀ j < 8, (s.tile (s.slotTile (n / 9) j)).cairn.isSome = true
                ∧ ((s.tile (s.slotTile (n / 9) j)).rg 0x079).getLsbD 62 = false) → ∃ t, acts t ∧ answers t 0
              ∧ ∀ j < 8, let m := s.slotTile (n / 9) j
                (t.tile m).phase = 1 ∧ (t.tile m).k0.run = .idle ∧ (t.tile m).k1.run = .idle ∧ (t.tile m).k2.run = .idle
                  ∧ (t.tile m).k0.regs = (s.tile m).k0.regs
                  ∧ (∀ e, ((t.tile m).entry e).st = 0 ∧ ((t.tile m).entry e).count0 = 0 ∧ ((t.tile m).entry e).count1 = 0)
                  ∧ (t.tile m).net.passing = (s.tile m).net.passing ++ (s.tile m).net.waiting
                  ∧ (t.tile m).net.queue = [] ∧ (t.tile m).net.out = [] ∧ (t.tile m).eng.copies = []
                  ∧ ∀ ca, (s.tile m).cairn = some ca → (t.tile m).tokens = ca.toks ∧ ((∀ p ∈ ca.sram, p.2.length = 256) →
                    (∀ a, (∀ p ∈ ca.sram, p.1 ≠ a / 256) → memGet (t.tile m).sram a = memGet (s.tile m).sram a)
                    ∧ ∀ p ∈ ca.sram, (∀ z ∈ ca.sram, z.1 = p.1 → z = p) →
                      ∀ i < 256, memGet (t.tile m).sram (256 * p.1 + i) = p.2.getD i 0#8)))))
    ∧ ∀ (s : State) (n : Nat), (n < 1728 ∨ n = waymark) → ∃ t, exec (.tileQuiet n) s = .next t ∧ (t.tile n).quiet = true
      ∧ (∀ x ∈ s.hub.accesses, x.fn = 4 → x.tv = 2#64 → tgtTile x.opo = n → x.acted = true →
        Fixed t (s.now + 1) prioDone (.csrresWritten x.tile x.ctx 0#64))
      ∧ SameContexts s t ∧ SameMemory s t ∧ SameSync s t ∧ (∀ m, (t.tile m).net = (s.tile m).net)
      ∧ (∀ m, m ≠ n → (t.tile m).eng = (s.tile m).eng)
      ∧ (let due (r : MxRun) : Prop := s.now ≤ r.start ∧ (s.tile n).eng.mx.bind (·.granted) = some r.start
          ∧ ∃ y ∈ r.members, y.tile = n
        (n = waymark ∨ (∀ r ∈ (s.chain (n / 9)).runs, ¬due r) → (t.tile n).eng = (s.tile n).eng)
          ∧ (n < 1728 → (∃ r ∈ (s.chain (n / 9)).runs, due r) →
            (t.tile n).eng = { (s.tile n).eng with mx := (s.tile n).eng.mx.map fun y => { y with granted := none } }))

/-- 17 R386 to R388, R397 to R400, 18 R408, 21 R476: `mwait` holds its context until its line is written, its limit passes
or an alert comes; `tlbprobe` and `tlbinv` hold theirs until they are done, and a shootdown leaves no selected entry
in its scope; `gctl` moves a granule through its states, `gstat` and `ptclr` answer, and a scrub rewrites a corrected
line. A probe answers what its context's translation does, and a shootdown and a drain wait for elements in hand. That a
probe walks in one cycle, the cycle of the limit, and that a granule accepts accesses through the cycle in which it begins
to drain, are the model's reading (log entries 59, 83, 96, 103), as is the order of the details of the tests (log entry
74). -/
def Obligations.MonitorsTranslationsGranules : Prop :=
  (∀ (s : State), s.discards = false →
    let n := s.hand.tile
    let k := s.hand.ctx
    let c := s.hc
    let o := s.opo .sys
    let v := s.tv
    let traps (i : Instr) (d : Nat) : Prop := exec i s = .next (s.takeTrap n k (raiseAt .sysacc s.hand.slot d))
    let held (t : State) (h : Hold) : Prop := t.ctx n k = { c with holds := c.holds ++ [h] } ∧ (t.tile n).primary ≠ some k
      ∧ SameOtherContexts s t n k ∧ SameTiles s t ∧ SameMemory s t
    let asks (i : Instr) (fn : Nat) (h : Hold) : Prop := ∃ t x, exec i s = .next t ∧ x ∈ t.hub.accesses ∧ x.fn = fn ∧ x.tile = n ∧ x.ctx = k
      ∧ x.opo = o ∧ x.opp = s.opp .sys ∧ x.tv = v ∧ held t h
      ∧ x.xid.ptbase = c.cr 0x060 ∧ x.xid.keyperm = c.cr 0x061 ∧ x.xid.clsfloor = c.cr 0x063 ∧ x.xid.sys = c.isSys
      ∧ ∃ a, s.now < a ∧ Fixed t a prioUpdate (.registerWrite { tile := n, ctx := k, num := updAccess } (w64 x.id))
    let line := o.toNat % 2 ^ 52
    let gn := o.toNat % 2 ^ 9
    let g := s.granule gn
    let moves (i : Instr) (r : Nat) (g' : Granule) (out : List Output) (t : State) : Prop :=
      exec i s = .next t ∧ Lands s t .sys 1 [(.r, wide (w64 r))] 0 ∧ (∀ j, t.granule j = if j = gn then g' else s.granule j)
        ∧ SameTiles s t ∧ SameMemory s t ∧ t.hub = { s.hub with outputs := s.hub.outputs ++ out }
    let granule (i : Instr) (r : Nat) (g' : Granule) (t : State) : Prop := moves i r g' [] t
    let snoops := (s.hostCached.filter fun p => p.1 / 2 ^ 24 = gn).map fun p => Output.backInvalidate p.1
    (n ≠ waymark → traps .mwait 0x6)
      ∧ (n = waymark → line % 64 ≠ 0 ∨ s.backed line = false → traps .mwait 0x1)
      ∧ (n = waymark → line % 64 = 0 → s.backed line = true →
        let alert := s.hubRg 0x0ED ≠ 0#64 ∨ s.hub.trapq ≠ []
        (alert → ∃ t, exec .mwait s = .next t ∧ Lands s t .sys 1 [(.r, wide 0#64)] 0 ∧ (t.ctx n k).cr 0x06A = 2#64
          ∧ (t.ctx n k).holds = c.holds ∧ SameRest s t)
        ∧ (¬alert → ∃ t m, exec .mwait s = .next t ∧ Lands s t .sys 1 [(.r, wide 0#64)] 0 ∧ held t .mwait
          ∧ spFind t.hub.monitors (ctxNum k) = some m ∧ m.line = line / 64
          ∧ m.limit = (if v.toNat % 2 ^ 32 = 0 then none else some (s.now + v.toNat % 2 ^ 32 + 1))))
      ∧ (4 ≤ o.toNat → traps .tlbprobe 0x1) ∧ (o.toNat = 3 → traps .tlbprobe 0x2) ∧ (o.toNat < 3 → asks .tlbprobe 6 .xlres)
      ∧ (∀ i ∈ [Instr.tlbinvAddress, .tlbinvAsid, .tlbinvGlobal, .tlbinvAll],
        let kind := o.toNat % 8
        let scope := o.toNat / 16 % 8
        let bad := (2 ^ 7 ≤ o.toNat ∨ 2 ^ 16 ≤ v.toNat ∨ ((kind = 0 ∨ kind = 2) ∧ 2 ^ 57 ≤ (s.opp .sys).toNat))
        let odd := (4 ≤ kind ∨ (scope ≠ 0 ∧ scope ≠ 2 ∧ scope ≠ 4))
        (bad → traps i 0x1) ∧ (¬bad → odd → traps i 0x2) ∧ (¬bad → ¬odd → c.isSys = false → traps i 0x3)
          ∧ (¬bad → ¬odd → c.isSys = true → asks i 5 .tlbinv))
      ∧ (∀ i ∈ [Instr.gctlOffline, .gctlOnline, .gctlConvert],
        let bad := (2 ^ 9 ≤ o.toNat ∨ 2 ^ 6 ≤ v.toNat)
        let odd := (v.toNat % 4 = 3 ∨ (v.toNat % 4 = 2 ∧ v.toNat / 16 % 4 = 3))
        (bad → traps i 0x1) ∧ (¬bad → odd → traps i 0x2) ∧ (¬bad → ¬odd → c.isSys = false → traps i 0x3))
      ∧ (o.toNat < 2 ^ 9 → v.toNat < 2 ^ 6 → v.toNat % 4 < 3 → v.toNat / 16 < 3 → c.isSys = true →
        (g.st = 0 → ∃ t, moves .gctlOffline 1 { g with st := 1, drainAt := s.now } snoops t ∧ held t (.drain gn)
          ∧ ∃ a, s.now < a ∧ Fixed t a prioDone (.granuleDrained gn))
        ∧ (g.st = 2 → ∃ t, granule .gctlOffline 1 g t ∧ SameContexts s t)
        ∧ (g.st = 1 ∨ g.st = 3 → ∃ t, granule .gctlOffline 0 g t ∧ SameContexts s t)
        ∧ (g.st = 0 → ∃ t, granule .gctlOnline 1 g t ∧ SameContexts s t)
        ∧ (g.st = 2 → ∃ t, granule .gctlOnline 1 { g with st := 0 } t ∧ SameContexts s t)
        ∧ (g.st = 1 ∨ g.st = 3 → ∃ t, granule .gctlOnline 0 g t ∧ SameContexts s t)
        ∧ (g.st = 2 → ∃ t a, granule .gctlConvert 1 { g with st := 3, cls := v.toNat / 16 } t ∧ SameContexts s t
          ∧ s.now < a ∧ a ≤ s.now + 2 ^ 22 ∧ Fixed t a prioDone (.conversionEnd gn))
        ∧ (g.st ≠ 2 → ∃ t, granule .gctlConvert 0 g t ∧ SameContexts s t))
      ∧ (2 ^ 9 ≤ v.toNat → traps .gstat 0x1)
      ∧ (v.toNat < 2 ^ 9 → let x := s.granule v.toNat
        Yields64 .gstat s .sys 1 (w64 (x.st + 4 * x.cls
          + 2 ^ 32 * (if x.cls = 0 then 917504 else if x.cls = 1 then 1015808 else 1048576))))
      ∧ (2 ^ 40 ≤ v.toNat → traps .ptclr 0x1) ∧ (v.toNat < 2 ^ 40 → c.isSys = false → traps .ptclr 0x3)
      ∧ (v.toNat < 2 ^ 40 → c.isSys = true → ∃ t, exec .ptclr s = .next t
        ∧ Lands s t .sys 1 [(.r, wide (w64 (b2n (decide (v.toNat ∈ s.hub.poison)))))] 0 ∧ NextCycle s t n k updPtclr v ∧ Unchanged s t))
    ∧ ∀ (s : State),
      (∀ k why m, spFind s.hub.monitors (ctxNum k) = some m → ∃ t, exec (.mwaitWake k why) s = .next t
          ∧ (t.ctx waymark k).cr 0x06A = (if s.hubRg 0x0ED ≠ 0#64 ∨ s.hub.trapq ≠ [] then 2#64 else w64 why)
          ∧ (∀ h, h ∈ (t.ctx waymark k).holds ↔ h ∈ (s.ctx waymark k).holds ∧ h ≠ .mwait) ∧ spFind t.hub.monitors (ctxNum k) = none
          ∧ SameOtherContexts s t waymark k ∧ SameTiles s t ∧ SameMemory s t)
        ∧ (∀ n k v, (n < 1728 ∨ n = waymark) →
          (∃ t, exec (.xlresWritten n k v) s = .next t ∧ (t.ctx n k).cr 0x065 = v ∧ (t.ctx n k).regs = (s.ctx n k).regs
            ∧ (∀ h, h ∈ (t.ctx n k).holds ↔ h ∈ (s.ctx n k).holds ∧ h ≠ .xlres) ∧ SameOtherContexts s t n k ∧ SameRest s t)
          ∧ ∃ t, exec (.tlbinvComplete n k) s = .next t ∧ (t.ctx n k).regs = (s.ctx n k).regs
            ∧ (∀ h, h ∈ (t.ctx n k).holds ↔ h ∈ (s.ctx n k).holds ∧ h ≠ .tlbinv) ∧ SameOtherContexts s t n k ∧ SameRest s t)
        ∧ (∀ x : SysAccess, (x.tile < 1728 ∨ x.tile = waymark) → x.fn = 5 → x.id < 2 ^ 64 →
          s.hub.accesses.find? (fun y => decide (2 ≤ y.fn ∧ y.id = x.id)) = some x →
          let kind := x.opo.toNat % 8
          let scope := x.opo.toNat / 16 % 8
          let selects (e : TlbEntry) : Prop := kind = 3
            ∨ ((kind = 0 ∨ kind = 1) ∧ e.glob = false ∧ e.asid = x.tv.toNat % 2 ^ 16
              ∧ (kind = 1 ∨ x.opp.toNat % 2 ^ 57 / (4096 * 4 ^ e.size) = e.vbase))
            ∨ (kind = 2 ∧ e.glob = true ∧ x.opp.toNat % 2 ^ 57 / (4096 * 4 ^ e.size) = e.vbase)
          let uses (p : XPage) : Prop := kind = 3
            ∨ ((kind = 0 ∨ kind = 1) ∧ p.glob = false ∧ p.asid = x.tv.toNat % 2 ^ 16
              ∧ (kind = 1 ∨ x.opp.toNat % 2 ^ 57 / (4096 * 4 ^ p.size) = p.vpage * 4096 / (4096 * 4 ^ p.size)))
            ∨ (kind = 2 ∧ p.glob = true ∧ x.opp.toNat % 2 ^ 57 / (4096 * 4 ^ p.size) = p.vpage * 4096 / (4096 * 4 ^ p.size))
          let inHand : Prop := ∃ u ∈ s.tiles, (scope = 4 ∨ u.1 = x.tile ∨ (scope = 2 ∧ xFurlong u.1 = xFurlong x.tile))
            ∧ ∃ y ∈ u.2.eng.copies, ∃ p, (p ∈ y.sx ∨ p ∈ y.dx ∨ ∃ w ∈ y.outs, w.page = some p) ∧ uses p
          let again : Instr := .registerWrite { tile := x.tile, ctx := x.ctx, num := updAccess } (w64 x.id)
          kind < 4 → ∃ t, exec again s = .next t
            ∧ (inHand → Fixed t (s.now + 1) prioUpdate again ∧ t.hub = s.hub)
            ∧ (¬inHand → Fixed t s.now prioDone (.tlbinvComplete x.tile x.ctx))
            ∧ (∀ n, scope = 4 ∨ n = x.tile ∨ (scope = 2 ∧ xFurlong n = xFurlong x.tile) →
              ∀ e, (e ∈ (t.tile n).dtlb ↔ e ∈ (s.tile n).dtlb ∧ ¬selects e) ∧ (e ∈ (t.tile n).itlb ↔ e ∈ (s.tile n).itlb ∧ ¬selects e))
            ∧ (∀ n, ¬(scope = 4 ∨ n = x.tile ∨ (scope = 2 ∧ xFurlong n = xFurlong x.tile)) → t.tile n = s.tile n)
            ∧ (∀ f, scope = 4 ∨ (scope = 2 ∧ f = xFurlong x.tile) → ∀ e, e ∈ (t.furlong f).tlb ↔ e ∈ (s.furlong f).tlb ∧ ¬selects e)
            ∧ SameContexts s t ∧ SameMemory s t)
        ∧ (∀ x : SysAccess, (x.tile < 1728 ∨ x.tile = waymark) → x.fn = 6 → x.id < 2 ^ 64 → LaidOut s →
          s.hub.accesses.find? (fun y => decide (2 ≤ y.fn ∧ y.id = x.id)) = some x →
          let q : XReq := { tile := x.tile, va := x.tv.toNat, kind := x.opo.toNat % 4, ptbase := x.xid.ptbase, keyperm := x.xid.keyperm
                            clsfloor := x.xid.clsfloor.toNat % 4, sys := x.xid.sys }
          ∃ t r v, exec (.registerWrite { tile := x.tile, ctx := x.ctx, num := updAccess } (w64 x.id)) s = .next t ∧ Translates s q r
            ∧ Fixed t s.now prioDone (.xlresWritten x.tile x.ctx v) ∧ SameContexts s t ∧ SameTiles s t ∧ SameMemory s t
            ∧ (∀ f, r = .inl f → v = w64 (2 ^ 63 + (match f.cause with | .pageflt => 1 | .perm => 2 | .ptpoison => 3 | _ => 4) * 2 ^ 12
              + f.detail))
            ∧ ∀ pa key, r = .inr (pa, key) → ∃ m c size, LeafFor s q m c size ∧ LeafAnswers s q m c size r
              ∧ v = w64 (key * 2 ^ 56 + size * 2 ^ 52 + pa % 2 ^ 52))
        ∧ (∀ n k v, (n < 1728 ∨ n = waymark) →
          let frame := v.toNat % 2 ^ 40
          ∃ t, exec (.registerWrite { tile := n, ctx := k, num := updPtclr } v) s = .next t
            ∧ (∀ g, g ∈ t.hub.poison ↔ g ∈ s.hub.poison ∧ g ≠ frame)
            ∧ (∀ f e, e ∈ (t.furlong f).walk ↔ e ∈ (s.furlong f).walk ∧ ¬(e.poison = true ∧ e.frame = frame))
            ∧ SameContexts s t ∧ SameTiles s t ∧ SameMemory s t ∧ SameSync s t)
        ∧ (∀ g < 512,
          let inHand : Prop := ∃ u ∈ s.tiles, ∃ y ∈ u.2.eng.copies, ∃ p, (p ∈ y.sx ∨ p ∈ y.dx ∨ ∃ w ∈ y.outs, w.page = some p) ∧ p.pa < 2 ^ 39 ∧ p.pa / 2 ^ 30 = g
          (inHand → ∃ t, exec (.granuleDrained g) s = .next t ∧ Fixed t (s.now + 1) prioDone (.granuleDrained g) ∧ Unchanged s t)
          ∧ (¬inHand → ∃ t, exec (.granuleDrained g) s = .next t ∧ (t.granule g).st = 2 ∧ (t.granule g).cls = (s.granule g).cls
            ∧ (∀ j, j ≠ g → t.granule j = s.granule j) ∧ (∀ n k, Hold.drain g ∉ (t.ctx n k).holds) ∧ SameTiles s t ∧ SameMemory s t
            ∧ (∀ n k v, (t.ctx n k).saved = some v → Hold.drain g ∉ v.holds)
            ∧ ∀ l, l / 2 ^ 24 = g → spGet false t.hostCached l = false)
          ∧ ∃ t, exec (.conversionEnd g) s = .next t ∧ (t.granule g).st = 2 ∧ (t.granule g).cls = (s.granule g).cls
            ∧ (∀ j, j ≠ g → t.granule j = s.granule j) ∧ SameContexts s t ∧ SameTiles s t
            ∧ (∀ a, memGet t.hbm a = if a / 2 ^ 30 = g then 0#8 else memGet s.hbm a)
            ∧ ∀ l, l / 2 ^ 24 = g → spFind t.hbmMark l = none)
        ∧ ∀ l, l < 2 ^ 33 → (s.granule (l / 2 ^ 24)).cls = 0 → ∃ t, exec (.scrub l) s = .next t ∧ SameContexts s t ∧ SameTiles s t ∧ SameMemory s t
          ∧ (spFind s.hbmMark l = some .corrected → spFind t.hbmMark l = none)
          ∧ (spFind s.hbmMark l = some .lost → spFind t.hbmMark l = some .lost)
          ∧ (∀ mk, spFind s.hbmMark l = some mk → (s.hubRg 0x067).getLsbD 63 = false →
            t.hubRg 0x067 = w64 (2 ^ 63 + (if mk = .corrected then 0 else 2) * 2 ^ 60 + 3 * 2 ^ 58 + l))

/-! ## Paired mode (18 R425 to R429) -/

/-- 18 R407, R425 to R429: `pairon` and `pairoff` hold their context for the partner; a coupled context closes its
interval in place of a word; at the comparison equal fingerprints take a checkpoint, a first difference returns both
contexts to theirs, and their interval runs again, and a second traps PAIRMIS. How the closing word waits, when contexts
couple, and that a first word which a comparison has let through is neither compared nor released again is the model's
reading (log entry 86). -/
def Obligations.PairedMode : Prop :=
  (∀ (s : State), s.discards = false →
    let n := s.hand.tile
    let k := s.hand.ctx
    let c := s.hc
    let fits := (k = .k0 ∨ k = .k1) ∧ c.entry.isSome = true ∧ c.saved = none
    (¬fits → ∀ i ∈ [Instr.pairon, .pairoff], exec i s = .next (s.takeTrap n k (raiseAt .sysacc s.hand.slot 0x6)))
      ∧ (fits → ∀ q ∈ [(Instr.pairon, Hold.pairon), (.pairoff, .pairoff)], ∃ t p, exec q.1 s = .next t
        ∧ Lands s t .sys 1 [(.r, wide 0#64)] 0 ∧ t.ctx n k = { c with holds := c.holds ++ [q.2], pair := some p }
        ∧ (q.2 = .pairon → p.asked = true) ∧ (q.2 = .pairoff → p.leaving = true)
        ∧ (c.pair = none → ∀ j, s.slotOfTile n = some j → p.partner = s.slotTile (n / 9) (j ^^^ 1))
        ∧ (t.tile n).primary ≠ some k ∧ SameOtherContexts s t n k ∧ SameRest s t))
    ∧ ∀ (s : State) (n : Nat) (k : Ctx),
      (∀ p, (s.ctx n k).pair = some p → ∃ t, exec (.pairIntervalClose n k) s = .next t
          ∧ t.ctx n k = { s.ctx n k with pair := some { p with closed := some s.now }, holds := (s.ctx n k).holds ++ [.pairClose] }
          ∧ SameOtherContexts s t n k ∧ SameRest s t)
        ∧ ∀ p q m, s.partnerOf n k = some (p, m, q) →
          let mine (j : Nat) : Pair := if j = n then p else q
          let others (t : State) : Prop := ∀ j, j ≠ n → j ≠ m → t.tile j = s.tile j
          ∃ t, exec (.pairCompare n k) s = .next t ∧ others t
            ∧ (p.print = q.print → SameMemory s t ∧ ∀ j, (j = n ∨ j = m) → (t.ctx j k).regs = (s.ctx j k).regs
              ∧ (t.ctx j k).pc = (s.ctx j k).pc ∧ Hold.pairClose ∉ (t.ctx j k).holds
              ∧ bits ((t.ctx j k).cr 0x07A) 0 32 = min 0xFFFFFFFF (bits ((s.ctx j k).cr 0x07A) 0 32 + 1)
              ∧ bits ((t.ctx j k).cr 0x07A) 32 16 = (if (mine j).retried then min 0xFFFF (bits ((s.ctx j k).cr 0x07A) 32 16 + 1)
                else bits ((s.ctx j k).cr 0x07A) 32 16)
              ∧ ∃ y, (t.ctx j k).pair = some y ∧ y.words = 0 ∧ y.print = BitVec.allOnes 64 ∧ y.undo = [] ∧ y.closed = none ∧ y.commitOk = true
                ∧ y.retried = false ∧ y.opened = true ∧ y.again = false ∧ y.save.regs = (s.ctx j k).regs ∧ y.save.pc = (s.ctx j k).pc)
            ∧ (p.print ≠ q.print → p.retried = false → ∀ j, (j = n ∨ j = m) → (t.ctx j k).regs = (mine j).save.regs
              ∧ (t.ctx j k).pc = (mine j).save.pc ∧ (t.ctx j k).nest = (mine j).save.nest ∧ Hold.pairClose ∉ (t.ctx j k).holds
              ∧ (∃ y, (t.ctx j k).pair = some y ∧ y.retried = true ∧ y.closed = none ∧ y.undo = []
                ∧ y.commitOk = (mine j).opened ∧ y.again = (mine j).opened)
              ∧ (∀ so ∈ [Sock.alu0, .alu1, .mul, .agu, .ld0, .ld1, .st0, .st1, .vfa, .vfb, .sfu, .mx],
                let back {α : Type} (old : Sparse α) (d now : α) : Prop := ((∀ z ∈ old, z.1 ≠ sockNum so) → now = d)
                  ∧ ∀ v, (∃ z ∈ old, z.1 = sockNum so) → (∀ z ∈ old, z.1 = sockNum so → z.2 = v) → now = v
                back (mine j).save.latO 0#1024 (spGet 0#1024 (t.tile j).latO (sockNum so))
                  ∧ back (mine j).save.latP 0#1024 (spGet 0#1024 (t.tile j).latP (sockNum so)) ∧ back (mine j).save.tagO none ((t.tile j).tag so))
              ∧ (∀ a, (∀ w ∈ (mine j).undo, w.1 ≠ 2 * (a / 128) + 1) → memGet (t.tile j).sram a = memGet (s.tile j).sram a)
              ∧ (∀ a w, w ∈ (mine j).undo → w.1 = 2 * (a / 128) + 1 → (∀ z ∈ (mine j).undo, z.1 = w.1 → z = w) →
                (memGet (t.tile j).sram a).toNat = bits w.2 (8 * (a % 128)) 8))
            ∧ (p.print ≠ q.print → p.retried = true → SameMemory s t ∧ ∀ j, (j = n ∨ j = m) → (t.ctx j k).run = .trapped
              ∧ bits ((t.ctx j k).cr 0x07A) 0 32 = min 0xFFFFFFFF (bits ((s.ctx j k).cr 0x07A) 0 32 + 1)
              ∧ bits ((t.ctx j k).cr 0x075) 54 6 = 0x1B ∧ bits ((t.ctx j k).cr 0x075) 32 16 = 0x1
              ∧ (t.ctx j k).pc = (s.ctx j k).pc ∧ (t.ctx j k).regs = (s.ctx j k).regs)

/-! ## Observation and the platform (20, 21) -/

/-- 20 R450, R452, R454, R455, R457: the debug sequencer takes its transition and its action; a stop freezes one tile;
the oldest record of the encoder goes to its place in the trace area; a sample of link counts is written or counted as
skipped, with the round and step of the milestone it follows. What happens to records whose area has gone, and to those
of a cycle in which capture ends, the growth of the counts of links inside the package, and the hint that a record
carries beside its bytes, are the model's choice (log entries 22, 41, 85, 123). -/
def Obligations.DebugAndTrace : Prop :=
  ∀ (s : State),
    (∀ n, (s.tile n).transits = true →
        let u := s.tile n
        let e := (u.rg 0x081).toNat / 2 ^ (16 * ((u.rg 0x080).toNat / 2 ^ 8 % 4)) % 2 ^ 16
        let act := e / 2 ^ 5 % 4
        ∃ t, exec (.debugTransition n) s = .next t ∧ NextCycle s t n .k0 updDebug (w64 (e / 2 ^ 3 % 4 + act * 4))
          ∧ ((t.tile n).rg 0x087).toNat % 2 ^ 32 = (if e.testBit 10 then 0 else (u.rg 0x087).toNat % 2 ^ 32)
          ∧ ((t.tile n).rg 0x088).toNat % 2 ^ 32 = (if e.testBit 10 then 0 else (u.rg 0x088).toNat % 2 ^ 32)
          ∧ (act = 3 → u.confidential = false → Fixed t s.now prioEnd (.debugStop n))
          ∧ SameContexts s t ∧ SameMemory s t ∧ SameSync s t ∧ SameEngines s t)
      ∧ (∀ n v, (n < 1728 ∨ n = waymark) →
        let old := (s.tile n).rg 0x080
        let act := v.toNat / 4 % 4
        ∃ t, exec (.registerWrite { tile := n, ctx := .k0, num := updDebug } v) s = .next t
          ∧ bits ((t.tile n).rg 0x080) 8 2 = v.toNat % 4
          ∧ ((t.tile n).rg 0x080).getLsbD 3 = (if act = 1 then true else if act = 2 then false else old.getLsbD 3)
          ∧ (∀ i, i ≠ 3 → i ≠ 8 → i ≠ 9 → ((t.tile n).rg 0x080).getLsbD i = old.getLsbD i)
          ∧ (∀ m r, m ≠ n ∨ r ≠ 0x080 → (t.tile m).rg r = (s.tile m).rg r)
          ∧ SameContexts s t ∧ SameMemory s t ∧ SameSync s t ∧ SameEngines s t ∧ SameDevice s t)
      ∧ (∀ n, (n < 1728 ∨ n = waymark) → ∃ t, exec (.debugStop n) s = .next t ∧ (t.tile n).frozen = true ∧ SameMemory s t
        ∧ (∀ m, m ≠ n → t.tile m = s.tile m)
        ∧ ((s.tile n).frozen = false → bits ((t.tile n).rg 0x077) 54 6 = 0x21
          ∧ bits ((t.tile n).rg 0x077) 0 48 = s.hub.paceNs.toNat % 2 ^ 48 ∧ (t.tile n).flights = [] ∧ (t.tile n).primary = none
          ∧ (t.tile n).savedPorts = some ((s.tile n).latO, (s.tile n).latP, (s.tile n).ports) ∧ ∀ k, (t.ctx n k).regs = (s.ctx n k).regs)
        ∧ ((s.tile n).frozen = true → t = s))
      ∧ (∀ n r rest, (s.tile n).encoder = r :: rest → rest.length < 64 →
        let u := s.tile n
        let base := (u.rg 0x089).toNat / 2 ^ 20 % 2 ^ 32 * 2 ^ 20
        let size := (u.rg 0x089).toNat / 2 ^ 56 * 2 ^ 20
        let i := (u.rg 0x08A).toNat % 2 ^ 32
        let pa := base + 16 * (i % (size / 16))
        let stores := s.traceAreaOk base size = true ∧ s.backed pa = true
        let lost := if stores then u.encLost else u.encLost + 1
        let tells := lost ≠ 0 ∧ (u.rg 0x080).getLsbD 0 = true ∧ (u.rg 0x080).getLsbD 3 = true ∧ u.confidential = false
          ∧ s.traceAreaOk base size = true
        ∃ t, exec (.traceRecordStore n) s = .next t ∧ SameContexts s t ∧ SameSync s t
          ∧ (¬tells → (t.tile n).encoder = rest ∧ (t.tile n).encLost = lost)
          ∧ (tells → (t.tile n).encLost = 0 ∧ ∃ x : TraceRec, (t.tile n).encoder = rest ++ [x] ∧ x.hint = 0#2
            ∧ bits x.body 120 8 = 0x0C ∧ bits x.body 96 24 = 0 ∧ bits x.body 64 32 = lost % 2 ^ 32
            ∧ bits x.body 16 48 = s.hub.paceNs.toNat % 2 ^ 48
            ∧ ∃ c, s.now < c ∧ Fixed t c prioSide (.traceRecordStore n))
          ∧ (stores →
            (∀ i < 16, memGet t.hbm (pa + i) = BitVec.ofNat 8 (bits r.body (8 * i) 8))
            ∧ (∀ a, a < pa ∨ pa + 16 ≤ a → LaidOut s ∨ a / 64 ≠ pa / 64 → memGet t.hbm a = memGet s.hbm a)
            ∧ (∀ a, memGet t.host a = memGet s.host a)
            ∧ bits ((t.tile n).rg 0x08A) 0 32 = min 0xFFFFFFFF (i + 1)
            ∧ ((t.tile n).rg 0x080).getLsbD 3
              = ((u.rg 0x080).getLsbD 3 && ((u.rg 0x089).getLsbD 19 || decide (i + 1 ≠ size / 16))))
          ∧ (¬stores → SameMemory s t ∧ ((t.tile n).rg 0x080).getLsbD 2 = true
            ∧ bits ((t.tile n).rg 0x08A) 32 32 = min 0xFFFFFFFF (bits (u.rg 0x08A) 32 32 + 1)))
      ∧ (let links := Config.meshLinks + Config.chipletLinks + 32
        let size := 320 + 64 * links
        let slots := (s.hubRg 0x090).toNat / 2 ^ 56 * 2 ^ 20 / size
        let base := (s.hubRg 0x090).toNat / 2 ^ 20 % 2 ^ 32 * 2 ^ 20
        let pa := base + s.hub.sample % slots * size
        let skips := slots = 0 ∨ s.now < s.hub.sampleEnd ∨ (∃ p ∈ s.tiles, p.2.confidential = true);
        (skips → ∃ t, exec .linkCountSample s = .next t ∧ t = { s with hub := { s.hub with
          skipped := s.hub.skipped + 1, sampleOf := s.hub.sampleOf.drop 1 } })
        ∧ (¬skips → ∃ t, exec .linkCountSample s = .next t ∧ t.hub.sample = s.hub.sample + 1 ∧ t.hub.skipped = 0 ∧ SameContexts s t
          ∧ SameTiles s t ∧ SameSync s t ∧ (base + slots * size ≤ 2 ^ 39 →
            let put (o : Nat) (bs : List Byte) : Prop := ∀ i < bs.length, HbmAt s ((pa + o + i) / 64 * 64) →
              memGet t.hbm (pa + o + i) = bs.getD i 0#8
            put 0 (leBytes 8 s.hub.paceNs.toNat ++ leBytes 4 s.hub.sample ++ leBytes 2 links ++ leBytes 2 s.hub.skipped)
              ∧ ((s.hubRg 0x090).getLsbD 19 = false → put 16 (leBytes 8 0))
              ∧ (∀ v l, (s.hubRg 0x090).getLsbD 19 = true → s.hub.sampleOf = v :: l →
                put 16 (leBytes 8 v) ∧ t.hub.sampleOf = l)
              ∧ put 24 (leBytes 40 0) ∧ (∀ l < 32, put (64 + 8 * l) (leBytes 8 (s.link l).digest.toNat))
              ∧ (∀ j < Config.meshLinks + Config.chipletLinks,
                put (320 + 64 * j) (leBytes 8 (if j < Config.meshLinks then j else 2 ^ 24 + (j - Config.meshLinks)))
                ∧ put (320 + 64 * j + 56) (leBytes 8 0)
                ∧ (Config.meshLinks ≤ 2 ^ 24 → ∀ i < 12, ∃ g ≤ s.now - s.hub.innerAt, put (320 + 64 * j + 8 + 4 * i) (leBytes 4
                  (bits (spGet 0#1024 s.hub.inner (if j < Config.meshLinks then j else 2 ^ 24 + (j - Config.meshLinks))) (32 * i) 32 + g))))
              ∧ (∀ l < 32,
                let o := 320 + 64 * (Config.meshLinks + Config.chipletLinks + l)
                put o (leBytes 8 (2 * 2 ^ 24 + l)) ∧ put (o + 56) (leBytes 8 0)
                  ∧ ∀ p < 6, put (o + 8 + 8 * p) (leBytes 4 (spGet 0 (s.link l).flits p))
                    ∧ put (o + 12 + 8 * p) (leBytes 4 (spGet 0 (s.link l).stalls p)))
              ∧ (∀ a, a < pa ∨ pa + size ≤ a ∨ ¬HbmAt s (a / 64 * 64) → memGet t.hbm a = memGet s.hbm a)
              ∧ (∀ a, memGet t.host a = memGet s.host a) ∧ ∀ f a, memGet (t.furlong f).slice a = memGet (s.furlong f).slice a)))

/-- 16 R364, 21 R461, R462, R466 to R469: what the host reads and writes, what a request to it raises, and how the
records of the launch queue end: a status byte, a completion word and the head, in this order; a launch loads the code
of its image, gives K0 and K1 of its tiles their registers, sets their steps running and unhalts and resumes them. The
operands of host steps, serving a record as one step, a launch of an image with an uncorrectable error, the context a
key is attached to, the address of the host's window, and what a device reset leaves where no value is given are the
model's choice (log entries 5, 9, 12, 23, 46, 48, 49, 112). -/
def Obligations.HostAndLaunch : Prop :=
  ∀ (s : State),
    let quiet (t : State) : Prop := SameContexts s t ∧ SameTiles s t ∧ SameSync s t ∧ SameEngines s t
    let base := (s.hubRg 0x0F4).toNat / 2 ^ 12 % 2 ^ 40 * 2 ^ 12
    let count := 2 ^ ((s.hubRg 0x0F4).toNat % 16)
    let num (a n : Nat) : Nat := ofLe (memBytes s.host a n)
    let rec' (r o n : Nat) : Nat := num (base + 256 + 256 * (r % count) + o) n
    let head (r type : Nat) : Prop := num (base + 64) 4 = r ∧ num base 4 ≠ r ∧ rec' r 0 1 = type ∧ (s.hubRg 0x0F6).getLsbD 62 = false
    let ends (t : State) (r status : Nat) : Prop :=
      let at' := base + 256 + 256 * (r % count) + 1
      let w := rec' r 32 8
      ofLe (memBytes t.host (base + 64) 4) = (r + 1) % 2 ^ 32
        ∧ ((w + 8 ≤ base + 64 ∨ base + 68 ≤ w) → ofLe (memBytes t.host w 8) = r % 2 ^ 32 + status * 2 ^ 32)
        ∧ ((w + 8 ≤ at' ∨ at' < w) → (memGet t.host at').toNat = status)
        ∧ ∀ a, a ≠ at' → ¬(w ≤ a ∧ a < w + 8) → ¬(base + 64 ≤ a ∧ a < base + 68) → memGet t.host a = memGet s.host a
    let hdm := s.hub.hdmBase
    (∀ a, hdm ≤ a → a < hdm + 2 ^ 39 →
        let l := (a - hdm) / 64 * 64
        (s.backed l = false ∨ s.online l = false →
          exec (.hostRead a) s = .next { s with hub := { s.hub with outputs := s.hub.outputs ++ [.hostData a 0#512 true] } }
            ∧ ∀ v, ∃ t, exec (.hostWrite a v) s = .next t ∧ quiet t ∧ SameMemory s t ∧ (t.hubRg 0x067).getLsbD 63 = true)
        ∧ (s.backed l = true → s.online l = true →
          (∃ t v p, exec (.hostRead a) s = .next t ∧ quiet t ∧ SameMemory s t ∧ t.hub.outputs = s.hub.outputs ++ [.hostData a v p]
            ∧ spGet false t.hostCached (l / 64) = true
            ∧ (s.unlaid l = false → ∀ i < 64, bits v (8 * i) 8 = (memGet s.hbm (l + i)).toNat)
            ∧ ((∀ q, spFind s.hbmMark (l / 64) = some q → q = .corrected) → p = false)
            ∧ (spFind s.hbmMark (l / 64) = some .lost → (s.granule (l / 2 ^ 30)).cls ≠ 2 → p = true))
          ∧ ∀ v, ∃ t, exec (.hostWrite a v) s = .next t ∧ quiet t ∧ Output.hostWritten a ∈ t.hub.outputs ∧ (∀ b, memGet t.host b = memGet s.host b)
            ∧ ∀ b, memGet t.hbm b = if l ≤ b ∧ b < l + 64 then BitVec.ofNat 8 (bits v (8 * (b - l)) 8) else memGet s.hbm b))
      ∧ (∀ a v, (a < hdm ∨ hdm + 2 ^ 39 ≤ a) → 2 ^ 51 ≤ a → a < 2 ^ 52 →
        let l := (a - 2 ^ 51) / 64 * 64
        ∃ t, exec (.hostWrite a v) s = .next t ∧ quiet t ∧ t.hbm = s.hbm
          ∧ ∀ b, memGet t.host b = if l ≤ b ∧ b < l + 64 then BitVec.ofNat 8 (bits v (8 * (b - l)) 8) else memGet s.host b)
      ∧ (∀ i < 32, (hdm + 2 ^ 39 ≤ 2 ^ 52 ∨ 2 ^ 52 + 256 ≤ hdm) → exec (.hostRead (2 ^ 52 + 8 * i)) s
        = .next { s with hub := { s.hub with outputs := s.hub.outputs ++ [.hostIo (2 ^ 52 + 8 * i) (s.hubValue (0x0E0 + i))] } })
      ∧ (∀ v, (hdm + 2 ^ 39 ≤ 2 ^ 52 ∨ 2 ^ 52 + 256 ≤ hdm) → ∃ t, exec (.hostWrite (2 ^ 52 + 8 * 20) v) s = .next t ∧ quiet t ∧ SameMemory s t
        ∧ (t.hubRg 0x0F4).toNat = v.toNat / 2 ^ 12 % 2 ^ 40 * 2 ^ 12 + v.toNat % 16)
      ∧ (∀ v, ∃ t, exec (.hostreq v) s = .next t ∧ quiet t ∧ SameMemory s t ∧ t.hubRg 0x0F5 = v &&& 0x80000000000001FF#64
        ∧ t.hub.outputs = s.hub.outputs ++ (if v.getLsbD 63 then [.msix 1] else []))
      ∧ (∀ r, head r 3 → ∃ t, exec (.granuleRelease r) s = .next t ∧ quiet t ∧ ends t r 0
        ∧ ∀ l, l / 2 ^ 24 = rec' r 2 2 → spGet false t.hostCached l = false)
      ∧ (∀ r, head r 2 →
        let slot := rec' r 40 1
        let key := Config.decapsulate (memBytes s.host (rec' r 8 8) 1180)
        (slot = 0 ∨ 63 < slot ∨ (s.hubRg 0x066).getLsbD slot = true ∨ key = none →
          ∃ t, exec (.keyLoad r) s = .next t ∧ quiet t ∧ ends t r 0x07 ∧ t.hub = s.hub)
        ∧ ∀ v, 1 ≤ slot → slot ≤ 63 → (s.hubRg 0x066).getLsbD slot = false → key = some v →
          let shares (n : Nat) : Prop := (n < 1728 ∨ n = waymark) ∧ ∀ j, ((s.ctx n j).cr 0x074).getLsbD 14 = true →
            bits ((s.ctx n j).cr 0x074) 8 6 = slot
          ∃ t, exec (.keyLoad r) s = .next t ∧ ends t r 0 ∧ spGet 0#512 t.hub.keys slot = v ∧ (t.hubRg 0x064).getLsbD slot = true
            ∧ (t.hubRg 0x066).getLsbD slot = true ∧ SameTiles s t ∧ (∀ a, memGet t.hbm a = memGet s.hbm a)
            ∧ ((∃ n, shares n) → ∃ n k, shares n ∧ ((t.ctx n k).cr 0x074).getLsbD 14 = true
              ∧ bits ((t.ctx n k).cr 0x074) 8 6 = slot ∧ ((t.ctx n k).cr 0x061).getLsbD slot = true ∧ SameOtherContexts s t n k)
            ∧ ((∀ n, ¬shares n) → SameContexts s t))
      ∧ (∀ r, head r 1 →
        let cb := rec' r 2 2
        let pa := rec' r 8 8
        let ptbase := BitVec.ofNat 64 (rec' r 16 8)
        let keyperm := BitVec.ofNat 64 (rec' r 24 8)
        let b := memBytes s.hbm pa (max 64 (ofLe (memBytes s.hbm (pa + 32) 8)))
        let readable : Prop := s.readable pa 64 = true ∧ ∀ x ∈ imageParts b, s.readable (pa + x.1) x.2 = true
        let loads : Prop := readable ∧ s.loadFails b cb keyperm = none ∧ s.tooWeak cb (chainsUsed b) (leAt b 7 1) = false
        let refused : Prop := ∃ t c, exec (.launch r) s = .next t ∧ quiet t ∧ 1 ≤ c ∧ c ≤ 5 ∧ ends t r c
        (∀ a n, 0 < n → (s.readable a n = true ↔ a + n ≤ 2 ^ 39 ∧ ∀ i < n, s.backed (a + i) = true ∧ s.online (a + i) = true))
        ∧ (s.readable pa 64 = false → refused)
        ∧ (headerFails b = none → ¬readable → refused)
        ∧ (∀ c, s.readable pa 64 = true → headerFails b = some c ∨ readable ∧ s.loadFails b cb keyperm = some c →
          ∃ t, exec (.launch r) s = .next t ∧ quiet t ∧ ends t r c ∧ t.hub = s.hub ∧ ∀ a, memGet t.hbm a = memGet s.hbm a)
        ∧ (leAt b 0 4 ≠ 0x31495458 → headerFails b = some 1)
        ∧ (readable → s.loadFails b cb keyperm = none → s.tooWeak cb (chainsUsed b) (leAt b 7 1) = true → refused)
        ∧ (loads → (∃ p ∈ s.imageErrors pa b, p.2 = .lost) →
          ∃ t c, exec (.launch r) s = .next t ∧ ends t r c ∧ c ≤ 5 ∧ (c ≠ 0 → quiet t))
        ∧ (loads → (∀ p ∈ s.imageErrors pa b, p.2 ≠ .lost) → ∃ t, exec (.launch r) s = .next t ∧ ends t r 0
            ∧ (∀ l ∈ relocatedLines b pa, spGet false s.hostCached l = true →
              spGet false t.hostCached l = false ∧ Output.backInvalidate l ∈ t.hub.outputs)
            ∧ (∀ o < 8 * chainsUsed b,
              let m := s.physical (8 * cb + o)
              let image := (s.relocated b).1
              let code (x : Section) : Prop := x ∈ imageSections b ∧ (x.tile = 0xFFFF ∨ x.tile = o) ∧ x.kind = 1
              9 * cb ≤ m → m < 9 * (cb + chainsUsed b) → (∀ p < 8 * chainsUsed b, s.physical (8 * cb + p) = m → p = o) →
                (imageRelocs b = [] → image = b)
                  ∧ (∀ k ∈ [Ctx.k0, .k1], let c := t.ctx m k
                    c.cr 0x060 = ptbase ∧ c.cr 0x061 = keyperm ∧ (c.cr 0x063).toNat = leAt b 7 1)
                  ∧ ((t.tile m).rg 0x050).getLsbD 31 = true ∧ ((t.tile m).rg 0x050).getLsbD 30 = true
                  ∧ bits ((t.tile m).rg 0x050) 48 16 = 0 ∧ (t.tile m).halted = false
                  ∧ ((s.tile m).phase = 0 ∨ (s.tile m).phase = 6 → (t.tile m).phase = 1)
                  ∧ (s.tripped m = false → (t.tile m).frozen = false ∧ (t.tile m).resumeAt = some (s.now + 1))
                  ∧ (s.tripped m = true → (t.tile m).frozen = true)
                  ∧ ∀ x, code x → (∀ y, code y → y ≠ x → y.load + y.size / 64 ≤ x.load ∨ x.load + x.size / 64 ≤ y.load) →
                    ∀ i < x.size / 64, spGet 0#512 (t.tile m).code (x.load + i) = BitVec.ofNat 512 (leAt image (x.offset + 64 * i) 64))
            ∧ (∀ n, n < 9 * cb ∨ 9 * (cb + chainsUsed b) ≤ n → (∀ o < 8 * chainsUsed b, n ≠ s.physical (8 * cb + o)) → ∀ k, t.ctx n k = s.ctx n k)
            ∧ ∀ a, a < pa ∨ pa + b.length ≤ a → memGet t.hbm a = memGet s.hbm a))
      ∧ ∃ t, exec .deviceReset s = .next t ∧ t.now = 0 ∧ t.tiles = [] ∧ t.chains = [] ∧ t.furlongs = [] ∧ t.hbm = [] ∧ t.granules = []
        ∧ t.images = [] ∧ t.host = s.host ∧ t.deviceId = s.deviceId ∧ t.hub.outputs = s.hub.outputs
        ∧ ((t.hubRg 0x0F6).getLsbD 63 = true) ∧ (Config.firmwareOk = false → (t.hubRg 0x0F6).getLsbD 62 = true ∧ t.links = [])

/-- 21 R464, R472 to R479: a latch of the sensors moves each zone and each refresh state by its hysteresis; `thctl` and
a latch have the levels written in the next cycle; a meter update steps the ballast duty, which the tiles in ballast
mode take; an attestation request is answered in its order or refused. Request and response codes of SPDM and their
order are presumed (log entry 47); that a trip freezes every tile of its chains with THERMAL (log entry 79), that a sensor
fails once, and the cycles of the latch (log entries 100, 110), are the model's reading. -/
def Obligations.HeatPowerAttestation : Prop :=
  ∀ (s : State),
    let taken (r : Int) : Int := if r = -32768 then 1888 else r
    (∀ l : List Int,
        let at' (n : Nat) : Int := (l[n]?).getD 0
        let hot (lo k : Nat) (T : Int) : Prop := (∃ i < k, T = taken (at' (lo + i))) ∧ ∀ i < k, taken (at' (lo + i)) ≤ T
        let point (z : Nat) : Int := if z = 1 then 1600 else if z = 2 then 1728 else if z = 3 then 1888 else 2000
        s.now % 2 ^ 14 = 0 → s.now ≠ 0 → ∃ t, exec (.sensorLatch l) s = .next t ∧ SameMemory s t ∧ (∀ n k, (t.ctx n k).regs = (s.ctx n k).regs)
          ∧ (∀ k < 11, ∀ j < 4, bits (t.hubRg (0x0E0 + k)) (16 * j) 16 = (BitVec.ofInt 16 (at' (4 * k + j))).toNat)
          ∧ (∀ z ≤ 4, ∀ T, hot (if z = 4 then 32 else 8 * z) (if z = 4 then 4 else 8) T →
            (∀ q, 1 ≤ q → q ≤ 4 → (q ≤ t.zone z ↔ point q ≤ T ∨ ∃ p, q ≤ p ∧ p ≤ s.zone z ∧ point p - 64 ≤ T))
            ∧ (t.zone z ≠ s.zone z → (t.hubRg 0x0ED).getLsbD z = true)
            ∧ (t.zone z = 4 → s.zone z ≠ 4 → ∀ n < 1728, (z = 4 ∨ n / 432 = z) → (t.tile n).frozen = true
              ∧ ((s.tile n).frozen = false → bits ((t.tile n).rg 0x077) 54 6 = 0x24)))
          ∧ (∀ i < 8,
            let T := taken (at' (36 + i))
            let r := spGet 0 s.hub.refresh i
            let up := if 1680 < T then 3 else if 1520 < T then 2 else if 1360 < T then 1 else 0
            let bound : Int := if r = 1 then 1360 else if r = 2 then 1520 else 1680
            spGet 0 t.hub.refresh i = (if r < up then up else if r ≠ 0 ∧ T ≤ bound - 32 then r - 1 else r)
              ∧ (spGet 0 t.hub.refresh i ≠ r → (t.hubRg 0x0ED).getLsbD (5 + i) = true))
          ∧ ((∃ n < 44, at' n = -32768 ∧ (s.hubRg (0x0E0 + n / 4)).toNat / 2 ^ (16 * (n % 4)) % 2 ^ 16 ≠ 0x8000) → (t.hubRg 0x0ED).getLsbD 13 = true)
          ∧ (∀ b, (s.hubRg 0x0ED).getLsbD b = true → (t.hubRg 0x0ED).getLsbD b = true)
          ∧ NextCycle s t waymark .k0 updLevels 0#64)
      ∧ (∀ v, ∃ t, exec (.thctlWrite v) s = .next t ∧ (t.hubRg 0x0EB).toNat = v.toNat % 2 ^ 16 ∧ NextCycle s t waymark .k0 updLevels 0#64
        ∧ SameContexts s t ∧ SameTiles s t ∧ SameMemory s t
        ∧ ∀ l < 4, let floor (z : Nat) : Nat := if z = 2 then 4 else if 3 ≤ z then 12 else 0
          bits (t.hubRg 0x0EC) (32 + 4 * l) 4 = max (v.toNat / 2 ^ (4 * l) % 16) (max (floor (s.zone l)) (floor (s.zone 4))))
      ∧ (∀ n < 1728, ∃ t, exec (.registerWrite { tile := waymark, ctx := .k0, num := updLevels } 0#64) s = .next t ∧ SameMemory s t
        ∧ SameContexts s t ∧ (t.tile n).rg 0x025 = w64 (s.leagueLevel (n / 432))
        ∧ (2 ≤ s.zone (n / 432) ∨ 2 ≤ s.zone 4 → (t.tile n).rg 0x024 = 0#64)
        ∧ (s.zone (n / 432) < 2 → s.zone 4 < 2 → (t.tile n).rg 0x024 = (s.tile n).rg 0x024))
      ∧ (∀ (v : W64) (n : Nat), (s.tiles.map Prod.fst).Pairwise (· < ·) → (n < 1728 ∨ n = waymark) →
        ∃ t, exec (.registerWrite { tile := waymark, ctx := .k0, num := updDuty } v) s = .next t ∧ SameContexts s t ∧ SameMemory s t
          ∧ (∀ r, r ≠ 0x024 → (t.tile n).rg r = (s.tile n).rg r)
          ∧ (t.tile n).rg 0x024 = if ((s.tile n).rg 0x023).getLsbD 32 = false then (s.tile n).rg 0x024
            else if 2 ≤ s.zone 4 ∨ n < 1728 ∧ 2 ≤ s.zone (n / 432) then 0#64 else v)
      ∧ (∀ w : Nat,
        let c := (s.hubRg 0x0EF).toNat
        let d := s.hub.duty
        let set : Int := 1000 * (c / 2 ^ 32 % 2 ^ 16 : Nat)
        let band : Int := 1000 * (c / 2 ^ 24 % 2 ^ 8 : Nat)
        let e := s.hub.energy + w * 2 ^ 16
        (s.now + 1) % 2 ^ 16 = 0 → ∃ t, exec (.powerMeterUpdate w) s = .next t ∧ t.hub.energy = e ∧ SameContexts s t ∧ SameTiles s t ∧ SameMemory s t
          ∧ (t.hubRg 0x0EE).toNat = w % 2 ^ 32 + e / 1900000000000 % 2 ^ 32 * 2 ^ 32
          ∧ (c / 2 ^ 63 = 0 → t.hub.duty = d)
          ∧ (c / 2 ^ 63 = 1 → NextCycle s t waymark .k0 updDuty (w64 t.hub.duty)
            ∧ t.hub.duty = (if (w : Int) < set - band then (if d < c / 2 ^ 8 % 32 then d + 1 else d)
              else if set + band < (w : Int) then (if c % 32 < d then d - 1 else d) else d)))
      ∧ ∀ m : Message,
        let p := s.hub.spdm
        let refused (i : Instr) : Prop :=
          exec i s = .next { s with hub := { s.hub with outputs := s.hub.outputs ++ [.spdm 0x7F#8 []] } }
        let answered (i : Instr) (code : Byte) (now' : Spdm → Prop) : Prop := ∃ t body, exec i s = .next t
          ∧ t.hub.outputs = s.hub.outputs ++ [.spdm code body] ∧ now' t.hub.spdm ∧ SameContexts s t ∧ SameTiles s t ∧ SameMemory s t
        let order (y : Spdm) : Prop := y.versioned = p.versioned ∧ y.capable = p.capable ∧ y.negotiated = p.negotiated
        answered (.getVersion m) 0x04#8 (fun y => y.versioned = true ∧ y.capable = false ∧ y.negotiated = false)
          ∧ (p.versioned = false → refused (.getCapabilities m))
          ∧ (p.versioned = true → answered (.getCapabilities m) 0x61#8 fun y => y.capable = true ∧ y.negotiated = p.negotiated)
          ∧ (p.capable = false ∨ Config.offersMlDsa65 m.body = false ∨ Config.offersShake256 m.body = false → refused (.negotiateAlgorithms m))
          ∧ (p.capable = true → Config.offersMlDsa65 m.body = true → Config.offersShake256 m.body = true →
            answered (.negotiateAlgorithms m) 0x63#8 fun y => y.negotiated = true)
          ∧ (p.negotiated = false → refused (.getDigests m) ∧ refused (.getCertificate m) ∧ refused (.challenge m)
            ∧ refused (.getMeasurements m))
          ∧ (p.negotiated = true → answered (.getDigests m) 0x01#8 order
            ∧ (m.param1.toNat % 16 = 0 → answered (.getCertificate m) 0x02#8 order ∧ answered (.challenge m) 0x03#8 order)
            ∧ (m.param1.toNat % 16 ≠ 0 → refused (.getCertificate m) ∧ refused (.challenge m))
            ∧ (m.param2.toNat ≤ 3 ∨ m.param2.toNat = 0xFF → answered (.getMeasurements m) 0x60#8 order)
            ∧ (3 < m.param2.toNat → m.param2.toNat ≠ 0xFF → refused (.getMeasurements m)))

/-! ## Steps, encodings, reset and what every step keeps -/

/-- 02 R23, 04 R85, R94: where the issue stage comes to a tile whose context k holds the primary slot, is ready and has no
cause due, interrupt or pair, and the 512 bits at its address in the code store decode to an instruction, the step is
that instruction, with the tile off the stage's list; every step that the part picks is taken by `exec`; and a word
placed for the next fetch is what the next step runs. The stages of a cycle and the order of tiles in them are the
model's (log entry 2). -/
def Obligations.StepRunsTheDecoded : Prop :=
  (∀ (s : State) (n : Nat) (k : Ctx) (rest : List Nat) (i : Instr),
    let u := s.tile n
    let c := s.ctx n k
    s.micro = { stage := 5, todo := n :: rest } → n < 4096 → u.displaces s.now = none → u.issuer s.now = some k
      → u.throttled s.now = false → c.dues = [] → c.takeable = none → c.pair = none → c.pc ≤ 2047
      → (c.nest.active = false ∨ c.nest.filled = false) → decodeWord n k (spGet 0#512 u.code c.pc) = .ok i
      → step s = exec i { s with micro := { stage := 5, todo := rest } })
    ∧ (∀ s s' i t, s.pick = (s', some i) → exec i s' = .next t → step s = .next t)
    ∧ (∀ s s', s.pick = (s', none) → step s = .next s')
    ∧ ∀ (b : W512) (i : Instr), decodeTableWord 512 b.toNat = some i →
      let s := State.reset.withFetchWord 512 b.toNat
      step s = exec i { s with micro := { stage := 5, todo := [] } }

/-- 02 R26, R28, R33: two words of 02 and one that is refused, written out, and what their slots name; the headers of every
command of the slots 12, 13 and 14, trigger fields of every socket, and control flits, written out (02 R33 to R36, 10 R210,
13 R278, 14 R293, 15 R346). -/
def Obligations.WordsDecode : Prop :=
  (let w := wordOf (BitVec.ofNat 512 (0x00000800 * 2 ^ 480 + 0x00224200 * 2 ^ 448 + 0x02064300 * 2 ^ 416));
    wordCheck .k0 w = none
      ∧ movesOf .k0 w = [{ slot := 0, ctx := .k0, src := .reg .s 4, dst := .opnd .alu0 false, limm := 0#32, guard := 0, neg := false },
        { slot := 1, ctx := .k0, src := .imm 12#10, dst := .trig .alu0 false 0, limm := 0#32, guard := 0, neg := false }])
    ∧ (let w := wordOf (BitVec.ofNat 512 (0x00004800 * 2 ^ 480 + 0x34008049 * 2 ^ 448 + 0x00012345 * 2 ^ 416 + 0x011410BF * 2 ^ 64));
      wordCheck .k2 w = none
        ∧ movesOf .k0 w = [{ slot := 0, ctx := .k0, src := .limm, dst := .reg .s 9, limm := 0x12345#32, guard := 6, neg := true }]
        ∧ decodeHeader 12 (slotOf w 12) = some (.mxMm { tokp := 5#6, toka := 1#6, tokb := 2#6, tokc := 63#6 }))
    ∧ wordCheck .k2 (wordOf (BitVec.ofNat 512 (0x00004800 * 2 ^ 480 + 0x34008054 * 2 ^ 448 + 0x00012345 * 2 ^ 416))) = some ⟨0, 0x0A⟩
    ∧ (let h : Hdr := { tokp := 5#6, toka := 1#6, tokb := 2#6, tokc := 63#6 }
      let header (slot op : Nat) : Option Instr := decodeHeader slot (BitVec.ofNat 32 (op * 2 ^ 24 + 0x1410BF))
      (List.range 9).map (header 12) = [none, some (.mxMm h), some (.mxGang h), some (.mxSeq h), some (.mxGseq h), some (.mxTadd h),
          some (.mxDrain h), some (.mxTcsave h), none]
        ∧ (List.range 7).map (header 13) = [none, some (.ceCopy h), some (.ceXcopy h), some (.ceFill h), some (.cePlace h),
          some (.ceCode h), none]
        ∧ (List.range 6).map (header 14) = [none, some (.synTimer h), some (.synDelay h), some (.synGbar h), some (.synJoin h), none])
    ∧ decodeControl 3 (BitVec.ofNat 256 (5 * 2 ^ 240 + 2 * 2 ^ 234)) = some (.idle 3 5#8 2#6)
    ∧ decodeControl 3 (BitVec.ofNat 256 (2 ^ 248 + 0x7F * 2 ^ 240)) = some (.ack 3 0x7F#8 0#6)
    ∧ decodeControl 3 (BitVec.ofNat 256 (2 * 2 ^ 248 + 0x80 * 2 ^ 240)) = some (.nak 3 0x80#8 0#6)
    ∧ ∀ p ∈ [((0x4300 : Nat), (0 : Nat), Instr.aluAdd .a), (0x4581, 0, .aluSub .b true), (0x432B, 0, .klow .a), (0x4706, 0, .divS64 false),
        (0x4906, 0, .aguPcopy), (0x4106, 0, .ctlLidx), (0x4B03, 0, .ldX64 .a), (0x510D, 0, .stSd32 .b), (0x5303, 0, .vfaBdot),
        (0x5531, 0, .mxpack), (0x5715, 0, .smadd), (0x5902, 0, .tcread), (0x5B05, 0, .scout), (0x5D01, 0, .ceProg),
        (0x5F0A, 0, .nsLback), (0x610B, 0, .semCas), (0x6302, 0, .tstat), (0x651D, 0, .fenceRw 5), (0x6504, 2, .tctlHalt),
        (0x6509, 3, .tlbinvAll), (0x650A, 1, .gctlOnline)], decodeTrig (BitVec.ofNat 15 p.1) p.2.1 = some p.2.2

/-- 02 R23 to R33, R41, 14 R293: the fields of a word and its bits are the same thing, a legal word decodes to what it
was encoded from, every trigger destination, header and control flit decodes to its instruction, and every move to its
fields. -/
def Obligations.DecodeAndEncodeAgree : Prop :=
  (∀ b : W512, bitsOfWord (wordOf b) = b) ∧ (∀ w : Word, wordOf (bitsOfWord w) = w)
    ∧ (∀ n k w, (Instr.transportWord n k w).wf = true → ∃ b, encode (.transportWord n k w) = some b
      ∧ decodeWord n k b = .ok (.transportWord n k w))
    ∧ (∀ i : Instr, i.wf = true → (∀ d sel, encodeTrig i = some (d, sel) → decodeTrig d sel = some i)
      ∧ (∀ slot r, encodeHeader i = some (slot, r) → decodeHeader slot r = some i)
      ∧ ∀ l d, encodeControl i = some (l, d) → decodeControl l d = some i)
    ∧ ∀ (guard : Nat) (neg : Bool) (x : Src) (y : Dst), guard < 32 → x.ok = true → y.ok = true →
      let r := moveBits guard neg x y
      srcOf r = some x ∧ dstOf r = y ∧ bits r 27 5 = guard ∧ bitOf r 26 = neg

/-- What reset leaves, by the rules named here and, where they give no value, by the model's choice: every context idle with nothing in flight, control registers at the
reset values of their field maps, tile, chain, furlong and device memories listing nothing, semaphores empty, no token
pending, all granules online in class P (01 R14, 03 R51, R58, 04 R78, R84, 10 R203, 12 R252, R269, 15 R324 to R342, 17
R382, R391, 18 R402, R414, R423, 20 R456, R458, 21 R471 to R479). The model's own are: the word address and current
entry of a context (log entry 3), `trapaux` and the last status words (4), the device id (5), the pace counter (6), the
contents of the code store (8), what any memory that nothing has written reads as (9), empty TLBs and walk caches (10),
`hostreq`, the ballast duty and the digests of ports (11), and the counts of a link end (13). -/
def Obligations.ResetState : Prop :=
  (∀ n k, let c := State.reset.ctx n k
      c.run = .idle ∧ c.entry = none ∧ c.nest.active = false ∧ c.rstack = [] ∧ c.dues = [] ∧ c.isSys = decide (n = waymark)
        ∧ c.cr 0x060 = 0#64 ∧ c.cr 0x061 = 1#64 ∧ c.cr 0x062 = BitVec.allOnes 64 ∧ c.cr 0x063 = 2#64 ∧ c.cr 0x075 = 0#64
        ∧ (∀ r, r ∉ [0x061, 0x062, 0x063, 0x074] → c.cr r = 0#64) ∧ c.cr 0x074 = (if n = waymark then 1#64 else 0#64)
        ∧ c.pc = 0 ∧ c.holds = [] ∧ c.saved = none ∧ (∀ f i, c.regs.read f i = 0) ∧ c.regs.stride = [] ∧ c.regs.wbase = []
        ∧ c.regs.wlen = [] ∧ c.regs.tag = [])
    ∧ (∀ n, let u := State.reset.tile n
      u.rg 0x020 = 0x7E181#64 ∧ u.rg 0x022 = 0#64 ∧ u.rg 0x025 = 0#64 ∧ u.rg 0x030 = 0#64 ∧ u.rg 0x050 = 0#64 ∧ u.rg 0x051 = 0#64
        ∧ u.rg 0x077 = 0#64 ∧ u.rg 0x080 = 0#64 ∧ (∀ r, r ≠ 0x020 → u.rg r = 0#64) ∧ u.sram = [] ∧ u.code = [] ∧ u.marks = []
        ∧ (∀ a, memGet u.sram a = 0#8) ∧ (∀ a, spGet 0#512 u.code a = 0#512) ∧ (∀ so, u.opo so = 0#1024 ∧ u.opp so = 0#1024)
        ∧ u.dtlb = [] ∧ u.itlb = [] ∧ u.cairn = none ∧ u.eng = Engines.reset ∧ u.net = Inbox.reset ∧ u.flights = [] ∧ u.entries = [] ∧ (∀ i, u.tokPending i = false)
        ∧ (∀ i, u.sem i = { val := 0#64, full := false, takers := [], bad := false }) ∧ ∀ i, spFind u.srcs i = none)
    ∧ (∀ c, let x := State.reset.chain c
      x.ts = [] ∧ x.wb = [] ∧ x.side = [] ∧ x.tsMark = [] ∧ x.wbMark = [] ∧ x.counts = [] ∧ x.runs = [] ∧ x.mxcheck = 0#64
        ∧ x.tserr = 0#64 ∧ x.chkrec = 0#64)
    ∧ (∀ f, let x := State.reset.furlong f
      x.slice = [] ∧ x.mark = [] ∧ x.tlb = [] ∧ x.walk = [])
    ∧ State.reset.hbm = [] ∧ State.reset.hbmMark = [] ∧ State.reset.images = [] ∧ State.reset.hostCached = [] ∧ State.reset.now = 0
    ∧ (∀ a, memGet State.reset.hbm a = 0#8)
    ∧ (∀ c, (State.reset.chain c).word = 0x76543210#64 ∧ (State.reset.chain c).rp = 0 ∧ ∀ j, (State.reset.chain c).fmt j = 0x233#64)
    ∧ (∀ g, State.reset.granule g = { st := 0, cls := 0, drainAt := 0 })
    ∧ (∀ l, State.reset.link l = LinkEnd.reset ∧ (State.reset.link l).digest = BitVec.allOnes 64 ∧ (State.reset.link l).digCount = 0#64)
    ∧ State.reset.hubRg 0x053 = 0xFF000000000000#64 ∧ State.reset.hubRg 0x054 = 0x86BCA1AF#64 ∧ State.reset.hubRg 0x056 = 0#64
    ∧ State.reset.hubRg 0x057 = 0x0500000004000000#64 ∧ State.reset.hubRg 0x07B = 0x414#64
    ∧ State.reset.hubRg 0x0EF = BitVec.ofNat 64 (2800 * 2 ^ 32 + 16 * 2 ^ 24 + 16 * 2 ^ 8) ∧ State.reset.hub.trapq = []
    ∧ State.reset.hub.paceNs = 0#64 ∧ State.reset.hub.keys = [] ∧ State.reset.hubRg 0x064 = 1#64 ∧ State.reset.hubRg 0x090 = 16#64
    ∧ (∀ r, r ∉ [0x053, 0x054, 0x057, 0x064, 0x07B, 0x090, 0x0EF] → State.reset.hubRg r = 0#64) ∧ State.reset.hub.poison = []
    ∧ State.reset.hub.monitors = [] ∧ State.reset.hub.accesses = [] ∧ State.reset.hub.zones = [] ∧ State.reset.hub.refresh = []

/-- From every state in which HBM and host memory are in canonical form, the trap queue holds at most 1,024 entries (18
R414) and the list of tiles is in order, every step leads to a state in which they still are. The canonical form is
the model's own (log entry 9). -/
def Obligations.EveryStepKeepsTheInvariant : Prop :=
  ∀ s t : State, s.Inv → step s = .next t → t.Inv

/-- The state after reset meets the invariant that every step keeps. The canonical form is the model's own (log entry
9). -/
def Obligations.ResetMeetsTheInvariant : Prop := State.reset.Inv
end

