-- ==== Sys2Proof/Laws/Sparse.lean ====
section
/-!
SUPPORT. Sparse maps: reading after writing, and the canonical form kept by every operation.
-/

namespace Sys2Proof

variable {α : Type}

@[simp] theorem spFind_spPut_same (m : Sparse α) (n : Nat) (v : α) : spFind (spPut m n v) n = some v := by
  induction m with
  | nil => simp [spPut, spFind]
  | cons p m ih =>
    obtain ⟨k, w⟩ := p
    simp only [spPut]
    split
    · simp [spFind]
    · split
      · simp [spFind]
      · simp [spFind, *]

theorem spFind_spPut_other (m : Sparse α) (n a : Nat) (v : α) (h : a ≠ n) : spFind (spPut m n v) a = spFind m a := by
  induction m with
  | nil => simp [spPut, spFind, h]
  | cons p m ih =>
    obtain ⟨k, w⟩ := p
    simp only [spPut]
    split
    · simp [spFind, h]
    · split
      · rename_i hk
        subst hk
        simp [spFind, h]
      · simp [spFind, ih]

@[simp] theorem spGet_spPut_same (d : α) (m : Sparse α) (n : Nat) (v : α) : spGet d (spPut m n v) n = v := by
  induction m with
  | nil => simp [spPut, spGet]
  | cons p m ih =>
    obtain ⟨k, w⟩ := p
    simp only [spPut]
    split
    · simp [spGet]
    · split
      · simp [spGet]
      · simp [spGet, *]

theorem spGet_spPut_other (d : α) (m : Sparse α) (n a : Nat) (v : α) (h : a ≠ n) :
    spGet d (spPut m n v) a = spGet d m a := by
  induction m with
  | nil => simp [spPut, spGet, h]
  | cons p m ih =>
    obtain ⟨k, w⟩ := p
    simp only [spPut]
    split
    · simp [spGet, h]
    · split
      · rename_i hk
        subst hk
        simp [spGet, h]
      · simp [spGet, ih]

theorem spErase_cons_same (m : Sparse α) (n : Nat) (w : α) : spErase ((n, w) :: m) n = spErase m n :=
  List.filter_cons_of_neg (by simp)

theorem spErase_cons_other (m : Sparse α) (n k : Nat) (w : α) (h : k ≠ n) : spErase ((k, w) :: m) n = (k, w) :: spErase m n :=
  List.filter_cons_of_pos (by simpa using h)

@[simp] theorem spGet_spErase_same (d : α) (m : Sparse α) (n : Nat) : spGet d (spErase m n) n = d := by
  induction m with
  | nil => rfl
  | cons p m ih =>
    obtain ⟨k, w⟩ := p
    by_cases hk : k = n
    · subst hk
      rw [spErase_cons_same, ih]
    · rw [spErase_cons_other m n k w hk, spGet, if_neg (Ne.symm hk), ih]

theorem spGet_spErase_other (d : α) (m : Sparse α) (n a : Nat) (h : a ≠ n) : spGet d (spErase m n) a = spGet d m a := by
  induction m with
  | nil => rfl
  | cons p m ih =>
    obtain ⟨k, w⟩ := p
    by_cases hk : k = n
    · subst hk
      rw [spErase_cons_same, ih, spGet, if_neg h]
    · rw [spErase_cons_other m n k w hk, spGet, spGet, ih]

variable [DecidableEq α]

@[simp] theorem spGet_spSet_same (d : α) (m : Sparse α) (n : Nat) (v : α) : spGet d (spSet d m n v) n = v := by
  simp only [spSet]
  split
  · rename_i h
    simp [h]
  · simp

theorem spGet_spSet_other (d : α) (m : Sparse α) (n a : Nat) (v : α) (h : a ≠ n) :
    spGet d (spSet d m n v) a = spGet d m a := by
  simp only [spSet]
  split
  · exact spGet_spErase_other d m n a h
  · exact spGet_spPut_other d m n a v h

/-- The canonical form, said of every entry: keys rise strictly, and no entry is the default. -/
theorem spWf_iff (d : α) (m : Sparse α) :
    spWf d m = true ↔ (m.map Prod.fst).Pairwise (· < ·) ∧ ∀ p ∈ m, p.2 ≠ d := by
  induction m with
  | nil => simp [spWf]
  | cons p m ih =>
    obtain ⟨k, v⟩ := p
    cases m with
    | nil => simp [spWf]
    | cons q m =>
      obtain ⟨k', v'⟩ := q
      simp only [spWf, Bool.and_eq_true, Bool.not_eq_true', decide_eq_false_iff_not, decide_eq_true_eq, ih]
      simp only [List.map_cons, List.pairwise_cons, List.mem_cons, forall_eq_or_imp, List.mem_map,
        forall_exists_index, and_imp, forall_apply_eq_imp_iff₂]
      constructor
      · rintro ⟨⟨hv, hk⟩, ⟨h1, h2⟩, h3, h4⟩
        exact ⟨⟨⟨hk, fun a ha => lt_trans hk (h1 a ha)⟩, h1, h2⟩, hv, h3, h4⟩
      · rintro ⟨⟨⟨hk, -⟩, h1, h2⟩, hv, h3, h4⟩
        exact ⟨⟨hv, hk⟩, ⟨h1, h2⟩, h3, h4⟩

/-- A part of a canonical map is canonical. -/
theorem spWf_filter (d : α) (m : Sparse α) (f : Nat × α → Bool) (h : spWf d m = true) : spWf d (m.filter f) = true := by
  rw [spWf_iff] at h ⊢
  exact ⟨h.1.sublist (List.Sublist.map _ List.filter_sublist), fun p hp => h.2 p (List.mem_of_mem_filter hp)⟩

omit [DecidableEq α] in
theorem mem_spPut (m : Sparse α) (n : Nat) (v : α) (p : Nat × α) (h : p ∈ spPut m n v) : p = (n, v) ∨ p ∈ m := by
  induction m with
  | nil => simpa [spPut] using h
  | cons q m ih =>
    obtain ⟨k, w⟩ := q
    simp only [spPut] at h
    split at h
    · simpa using h
    · split at h
      · rcases List.mem_cons.mp h with h | h
        · exact .inl h
        · exact .inr (List.mem_cons_of_mem _ h)
      · rcases List.mem_cons.mp h with h | h
        · exact .inr (h ▸ List.mem_cons_self)
        · exact (ih h).imp_right (List.mem_cons_of_mem _)

omit [DecidableEq α] in
theorem spPut_sorted (m : Sparse α) (n : Nat) (v : α) (h : (m.map Prod.fst).Pairwise (· < ·)) :
    ((spPut m n v).map Prod.fst).Pairwise (· < ·) := by
  induction m with
  | nil => simp [spPut]
  | cons q m ih =>
    obtain ⟨k, w⟩ := q
    simp only [List.map_cons, List.pairwise_cons] at h
    simp only [spPut]
    split
    · rename_i hn
      simp only [List.map_cons, List.pairwise_cons, List.mem_cons, forall_eq_or_imp]
      exact ⟨⟨hn, fun a ha => lt_trans hn (h.1 a ha)⟩, h⟩
    · split
      · rename_i hk
        simp only [List.map_cons, List.pairwise_cons]
        exact ⟨hk ▸ h.1, h.2⟩
      · simp only [List.map_cons, List.pairwise_cons]
        refine ⟨fun a ha => ?_, ih h.2⟩
        obtain ⟨p, hp, rfl⟩ := List.mem_map.mp ha
        rcases mem_spPut m n v p hp with rfl | hp
        · omega
        · exact h.1 _ (List.mem_map_of_mem hp)

/-- Writing keeps the canonical form. -/
theorem spSet_wf (d : α) (m : Sparse α) (n : Nat) (v : α) (h : spWf d m = true) : spWf d (spSet d m n v) = true := by
  simp only [spSet]
  split
  · exact spWf_filter d m _ h
  · rename_i hv
    rw [spWf_iff] at h ⊢
    refine ⟨spPut_sorted m n v h.1, fun p hp => ?_⟩
    rcases mem_spPut m n v p hp with rfl | hp
    · exact hv
    · exact h.2 p hp

end Sys2Proof
end

