-- ==== Sys2Proof/Laws/Memory.lean ====
section
/-!
SUPPORT. Byte memories: reading after writing, and the canonical form kept by every operation.
-/

namespace Sys2Proof.Machine

@[simp] theorem memGet_memSet_same (m : Bytes) (a : Nat) (b : Byte) : memGet (memSet m a b) a = b :=
  spGet_spSet_same _ _ _ _

theorem memGet_memSet_other (m : Bytes) (a x : Nat) (b : Byte) (h : x ≠ a) : memGet (memSet m a b) x = memGet m x :=
  spGet_spSet_other _ _ _ _ _ h

theorem memSet_wf (m : Bytes) (a : Nat) (b : Byte) (h : memWf m = true) : memWf (memSet m a b) = true :=
  spSet_wf _ _ _ _ h

theorem memPuts_wf (m : Bytes) (l : List (Nat × Byte)) (h : memWf m = true) : memWf (memPuts m l) = true := by
  induction l generalizing m with
  | nil => exact h
  | cons p l ih => exact ih _ (memSet_wf m p.1 p.2 h)

theorem memPut_wf (m : Bytes) (a : Nat) (bs : List Byte) (h : memWf m = true) : memWf (memPut m a bs) = true :=
  memPuts_wf m _ h

theorem memFilter_wf (m : Bytes) (f : Host.Cell → Bool) (h : memWf m = true) : memWf (m.filter f) = true :=
  spWf_filter _ _ _ h

/-- Every memory of the machine right after reset has the canonical form. -/
theorem reset_wf (n : Nat) :
    Memory.wf State.reset.hbm = true ∧ Memory.wf State.reset.host = true ∧ Memory.wf (State.reset.tile n).sram = true
      ∧ Memory.wf (State.reset.chain n).ts = true ∧ Memory.wf (State.reset.chain n).wb = true
      ∧ Memory.wf (State.reset.furlong n).slice = true := ⟨rfl, rfl, rfl, rfl, rfl, rfl⟩

/-- A byte outside the written addresses reads as before. -/
theorem memGet_memPuts_outside (m : Bytes) (l : List (Nat × Byte)) (a : Nat) (h : ∀ p ∈ l, p.1 ≠ a) :
    memGet (memPuts m l) a = memGet m a := by
  induction l generalizing m with
  | nil => rfl
  | cons p l ih =>
    have hp : p.1 ≠ a := h p List.mem_cons_self
    exact (ih (memSet m p.1 p.2) fun q hq => h q (List.mem_cons_of_mem _ hq)).trans
      (memGet_memSet_other m p.1 a p.2 (Ne.symm hp))

theorem memGet_memPut_outside (m : Bytes) (a x : Nat) (bs : List Byte) (h : x < a ∨ a + bs.length ≤ x) :
    memGet (memPut m a bs) x = memGet m x := by
  apply memGet_memPuts_outside
  intro p hp
  obtain ⟨i, hi, rfl⟩ := List.mem_mapIdx.mp hp
  simp only
  omega

end Sys2Proof.Machine
end

