-- ==== Sys2Proof/Laws/PerInstr.lean ====
section
/-!
SUPPORT. Encodings instruction by instruction: the destination field of a trigger, the slot of an engine header and the
data bits of a control flit decode to the instruction they were made from (02 R26, R33, R41, 14 R293).
-/

namespace Sys2Proof.Laws.RoundTrip

/-- What a well-formed instruction is written as reads back as that instruction. -/
def Statement (i : Instr) : Prop :=
  i.wf = true →
    (∀ d sel, encodeTrig i = some (d, sel) → decodeTrig d sel = some i)
    ∧ (∀ slot r, encodeHeader i = some (slot, r) → decodeHeader slot r = some i)
    ∧ (∀ l d, encodeControl i = some (l, d) → decodeControl l d = some i)

/-- An instruction that is written none of these ways. -/
theorem vacuous (i : Instr) (h1 : encodeTrig i = none) (h2 : encodeHeader i = none) (h3 : encodeControl i = none) :
    Statement i := by
  intro _
  refine ⟨fun d sel h => ?_, fun slot r h => ?_, fun l d h => ?_⟩
  · rw [h1] at h
    cases h
  · rw [h2] at h
    cases h
  · rw [h3] at h
    cases h

/-- A triggered operation without a field of numbers. -/
theorem ofTrig (i : Instr) (d : BitVec 15) (sel : Nat) (h1 : encodeTrig i = some (d, sel)) (h2 : encodeHeader i = none)
    (h3 : encodeControl i = none) (hd : decodeTrig d sel = some i) : Statement i := by
  intro _
  refine ⟨fun d' sel' h => ?_, fun slot r h => ?_, fun l d h => ?_⟩
  · rw [h1] at h
    cases h
    exact hd
  · rw [h2] at h
    cases h
  · rw [h3] at h
    cases h

/-- A fence of level lv. -/
theorem ofFence (i : Instr) (lv base : Nat) (h1 : encodeTrig i = some (dstBits 18 false (base + lv), 0))
    (h2 : encodeHeader i = none) (h3 : encodeControl i = none) (hw : i.wf = true → decide (lv < 6) = true)
    (hd : ∀ k, k < 6 → lv = k → decodeTrig (dstBits 18 false (base + k)) 0 = some i) : Statement i := by
  intro w
  have hlv : lv < 6 := of_decide_eq_true (hw w)
  refine ⟨fun d' sel' h => ?_, fun slot r h => ?_, fun l d h => ?_⟩
  · rw [h1] at h
    cases h
    exact hd lv hlv rfl
  · rw [h2] at h
    cases h
  · rw [h3] at h
    cases h

/-- A number with the four token fields and the opcode of a header. -/
theorem header_fields (e p a b c : Nat) (he : e < 256) (hp : p < 64) (ha : a < 64) (hb : b < 64) (hc : c < 64) :
    let n := e * 2 ^ 24 + p * 2 ^ 18 + a * 2 ^ 12 + b * 2 ^ 6 + c
    n < 2 ^ 32 ∧ n / 2 ^ 24 % 2 ^ 8 = e ∧ n / 2 ^ 18 % 2 ^ 6 = p ∧ n / 2 ^ 12 % 2 ^ 6 = a ∧ n / 2 ^ 6 % 2 ^ 6 = b ∧ n % 2 ^ 6 = c := by
  simp only
  omega

theorem ofNat_toNat6 (x : BitVec 6) : BitVec.ofNat 6 x.toNat = x := by simp

/-- The fields of a header's 32 bits. -/
theorem header_bits (e : Nat) (h : Hdr) (he : e < 256) :
    let r := BitVec.ofNat 32 (e * 2 ^ 24 + h.tokp.toNat * 2 ^ 18 + h.toka.toNat * 2 ^ 12 + h.tokb.toNat * 2 ^ 6
      + h.tokc.toNat)
    bits r 24 8 = e ∧ hdrFields r = h := by
  obtain ⟨h0, h1, h2, h3, h4, h5⟩ := header_fields e h.tokp.toNat h.toka.toNat h.tokb.toNat h.tokc.toNat he h.tokp.isLt
    h.toka.isLt h.tokb.isLt h.tokc.isLt
  simp only [bits, hdrFields, BitVec.toNat_ofNat, Nat.mod_eq_of_lt h0, Nat.shiftRight_eq_div_pow, h1, h2, h3, h4, h5, pow_zero,
    Nat.div_one, BitVec.ofNat_toNat, BitVec.setWidth_eq, and_self]

theorem bits_zero32 : bits (0#32) 24 8 = 0 := rfl

/-- A header slot whose fields are those of a legal command decodes to it. -/
theorem decodeHeader_of (r : BitVec 32) (i : Instr) (h : Hdr) (slot e : Nat) (hb : bits r 24 8 = e) (hf : hdrFields r = h)
    (he : 0 < e ∧ e < 64) (w : hdrOk h = true) (ho : headerOf slot e h = some i) : decodeHeader slot r = some i := by
  have hr : r ≠ 0#32 := by
    rintro rfl
    rw [bits_zero32] at hb
    omega
  simp only [hdrOk, Bool.or_eq_true, decide_eq_true_eq, Bool.not_eq_true', Bool.or_eq_false_iff, decide_eq_false_iff_not] at w
  have e0 : e ≠ 0 := by omega
  have e1 : ¬ (0x80 ≤ e) := by omega
  have e2 : ¬ (0x40 ≤ e) := by omega
  simp only [decodeHeader, headerCheck, hb, hf, ho, if_neg hr]
  simp [e0, e1, e2]
  rw [if_neg (by tauto)]

/-- A command of an engine header. -/
theorem ofHeader (i : Instr) (h : Hdr) (slot e : Nat) (h1 : encodeTrig i = none) (h2 : eopOf i = some (slot, e, h))
    (he : 0 < e ∧ e < 64) (hc : encodeControl i = none) (hw : i.wf = hdrOk h) (ho : headerOf slot e h = some i) : Statement i := by
  intro w
  rw [hw] at w
  obtain ⟨hb, hf⟩ := header_bits e h (by omega)
  refine ⟨fun d sel hh => ?_, fun s r hh => ?_, fun l d hh => ?_⟩
  · rw [h1] at hh
    cases hh
  · simp only [encodeHeader, h2, Option.map_some, Option.some.injEq, Prod.mk.injEq] at hh
    rw [← hh.1, ← hh.2]
    exact decodeHeader_of _ i h slot e hb hf he w ho
  · rw [hc] at hh
    cases hh

/-- A control flit's fields. -/
theorem control_bits (t : Nat) (ht : t < 256) (q : BitVec 8) (st : BitVec 6) :
    bits (controlData t q st) 0 234 = 0 ∧ bits (controlData t q st) 248 8 = t
      ∧ BitVec.ofNat 8 (bits (controlData t q st) 240 8) = q ∧ BitVec.ofNat 6 (bits (controlData t q st) 234 6) = st := by
  have hq := q.isLt
  have hs := st.isLt
  have h0 : t * 2 ^ 248 + q.toNat * 2 ^ 240 + st.toNat * 2 ^ 234 < 2 ^ 256 := by omega
  have h1 : (t * 2 ^ 248 + q.toNat * 2 ^ 240 + st.toNat * 2 ^ 234) % 2 ^ 234 = 0 := by omega
  have h2 : (t * 2 ^ 248 + q.toNat * 2 ^ 240 + st.toNat * 2 ^ 234) / 2 ^ 248 % 2 ^ 8 = t := by omega
  have h3 : (t * 2 ^ 248 + q.toNat * 2 ^ 240 + st.toNat * 2 ^ 234) / 2 ^ 240 % 2 ^ 8 = q.toNat := by omega
  have h4 : (t * 2 ^ 248 + q.toNat * 2 ^ 240 + st.toNat * 2 ^ 234) / 2 ^ 234 % 2 ^ 6 = st.toNat := by omega
  simp only [bits, controlData, BitVec.toNat_ofNat, Nat.mod_eq_of_lt h0, Nat.shiftRight_eq_div_pow, pow_zero, Nat.div_one, h1, h2,
    h3, h4, BitVec.ofNat_toNat, BitVec.setWidth_eq, and_self]

theorem decodeControl_idle (l : Nat) (q : BitVec 8) (st : BitVec 6) :
    decodeControl l (controlData 0 q st) = some (.idle l q st) := by
  obtain ⟨h0, h1, h2, h3⟩ := control_bits 0 (by decide) q st
  simp only [decodeControl, h0, h1, h2, h3, ne_eq, not_true_eq_false, if_false]

theorem decodeControl_ack (l : Nat) (q : BitVec 8) (st : BitVec 6) :
    decodeControl l (controlData 1 q st) = some (.ack l q st) := by
  obtain ⟨h0, h1, h2, h3⟩ := control_bits 1 (by decide) q st
  simp only [decodeControl, h0, h1, h2, h3, ne_eq, not_true_eq_false, if_false]

theorem decodeControl_nak (l : Nat) (q : BitVec 8) (st : BitVec 6) :
    decodeControl l (controlData 2 q st) = some (.nak l q st) := by
  obtain ⟨h0, h1, h2, h3⟩ := control_bits 2 (by decide) q st
  simp only [decodeControl, h0, h1, h2, h3, ne_eq, not_true_eq_false, if_false]

/-- An event of a link end that a control flit stands for. -/
theorem ofControl (i : Instr) (l t : Nat) (q : BitVec 8) (st : BitVec 6) (h1 : encodeTrig i = none)
    (h2 : encodeHeader i = none) (h3 : encodeControl i = some (l, controlData t q st))
    (hd : decodeControl l (controlData t q st) = some i) : Statement i := by
  intro _
  refine ⟨fun d sel h => ?_, fun slot r h => ?_, fun l' d h => ?_⟩
  · rw [h1] at h
    cases h
  · rw [h2] at h
    cases h
  · rw [h3] at h
    cases h
    exact hd

theorem transportWord (n : Nat) (k : Ctx) (w : Word) : Statement (.transportWord n k w) := vacuous _ rfl rfl rfl

theorem throttledCycle (n : Nat) : Statement (.throttledCycle n) := vacuous _ rfl rfl rfl

theorem displacement (n : Nat) (k : Ctx) : Statement (.displacement n k) := vacuous _ rfl rfl rfl

theorem resultLands (n : Nat) (so : Sock) (po : Port) : Statement (.resultLands n so po) := vacuous _ rfl rfl rfl

theorem entryFire (n : Nat) (e : Nat) : Statement (.entryFire n e) := vacuous _ rfl rfl rfl

theorem routineRetired (n : Nat) (k : Ctx) : Statement (.routineRetired n k) := vacuous _ rfl rfl rfl

theorem watchdog (n : Nat) (k : Ctx) : Statement (.watchdog n k) := vacuous _ rfl rfl rfl

theorem waitunsatList (n : Nat) : Statement (.waitunsatList n) := vacuous _ rfl rfl rfl

theorem ballastStart (n : Nat) : Statement (.ballastStart n) := vacuous _ rfl rfl rfl

theorem interruptEntry (n : Nat) (k : Ctx) : Statement (.interruptEntry n k) := vacuous _ rfl rfl rfl

theorem aluAdd (u : Twin) : Statement (.aluAdd u) := by
  cases u <;> exact ofTrig _ _ _ rfl rfl rfl rfl

theorem aluSub (u : Twin) (x : Bool) : Statement (.aluSub u x) := by
  cases u <;> cases x <;> exact ofTrig _ _ _ rfl rfl rfl rfl

theorem aluAddc (u : Twin) : Statement (.aluAddc u) := by
  cases u <;> exact ofTrig _ _ _ rfl rfl rfl rfl

theorem aluSubb (u : Twin) (x : Bool) : Statement (.aluSubb u x) := by
  cases u <;> cases x <;> exact ofTrig _ _ _ rfl rfl rfl rfl

theorem aluAddsS64 (u : Twin) : Statement (.aluAddsS64 u) := by
  cases u <;> exact ofTrig _ _ _ rfl rfl rfl rfl

theorem aluAddsN64 (u : Twin) : Statement (.aluAddsN64 u) := by
  cases u <;> exact ofTrig _ _ _ rfl rfl rfl rfl

theorem aluSubsS64 (u : Twin) (x : Bool) : Statement (.aluSubsS64 u x) := by
  cases u <;> cases x <;> exact ofTrig _ _ _ rfl rfl rfl rfl

theorem aluSubsN64 (u : Twin) (x : Bool) : Statement (.aluSubsN64 u x) := by
  cases u <;> cases x <;> exact ofTrig _ _ _ rfl rfl rfl rfl

theorem aluAnd (u : Twin) : Statement (.aluAnd u) := by
  cases u <;> exact ofTrig _ _ _ rfl rfl rfl rfl

theorem aluOr (u : Twin) : Statement (.aluOr u) := by
  cases u <;> exact ofTrig _ _ _ rfl rfl rfl rfl

theorem aluXor (u : Twin) : Statement (.aluXor u) := by
  cases u <;> exact ofTrig _ _ _ rfl rfl rfl rfl

theorem aluAndn (u : Twin) (x : Bool) : Statement (.aluAndn u x) := by
  cases u <;> cases x <;> exact ofTrig _ _ _ rfl rfl rfl rfl

theorem aluShl (u : Twin) (x : Bool) : Statement (.aluShl u x) := by
  cases u <;> cases x <;> exact ofTrig _ _ _ rfl rfl rfl rfl

theorem aluShrN64 (u : Twin) (x : Bool) : Statement (.aluShrN64 u x) := by
  cases u <;> cases x <;> exact ofTrig _ _ _ rfl rfl rfl rfl

theorem aluShrS64 (u : Twin) (x : Bool) : Statement (.aluShrS64 u x) := by
  cases u <;> cases x <;> exact ofTrig _ _ _ rfl rfl rfl rfl

theorem aluRol (u : Twin) (x : Bool) : Statement (.aluRol u x) := by
  cases u <;> cases x <;> exact ofTrig _ _ _ rfl rfl rfl rfl

theorem aluRor (u : Twin) (x : Bool) : Statement (.aluRor u x) := by
  cases u <;> cases x <;> exact ofTrig _ _ _ rfl rfl rfl rfl

theorem aluCeq (u : Twin) : Statement (.aluCeq u) := by
  cases u <;> exact ofTrig _ _ _ rfl rfl rfl rfl

theorem aluCne (u : Twin) : Statement (.aluCne u) := by
  cases u <;> exact ofTrig _ _ _ rfl rfl rfl rfl

theorem aluCltS64 (u : Twin) (x : Bool) : Statement (.aluCltS64 u x) := by
  cases u <;> cases x <;> exact ofTrig _ _ _ rfl rfl rfl rfl

theorem aluCltN64 (u : Twin) (x : Bool) : Statement (.aluCltN64 u x) := by
  cases u <;> cases x <;> exact ofTrig _ _ _ rfl rfl rfl rfl

theorem aluCleS64 (u : Twin) (x : Bool) : Statement (.aluCleS64 u x) := by
  cases u <;> cases x <;> exact ofTrig _ _ _ rfl rfl rfl rfl

theorem aluCleN64 (u : Twin) (x : Bool) : Statement (.aluCleN64 u x) := by
  cases u <;> cases x <;> exact ofTrig _ _ _ rfl rfl rfl rfl

theorem aluMinS64 (u : Twin) : Statement (.aluMinS64 u) := by
  cases u <;> exact ofTrig _ _ _ rfl rfl rfl rfl

theorem aluMinN64 (u : Twin) : Statement (.aluMinN64 u) := by
  cases u <;> exact ofTrig _ _ _ rfl rfl rfl rfl

theorem aluMaxS64 (u : Twin) : Statement (.aluMaxS64 u) := by
  cases u <;> exact ofTrig _ _ _ rfl rfl rfl rfl

theorem aluMaxN64 (u : Twin) : Statement (.aluMaxN64 u) := by
  cases u <;> exact ofTrig _ _ _ rfl rfl rfl rfl

theorem aluSel (u : Twin) (x : Bool) : Statement (.aluSel u x) := by
  cases u <;> cases x <;> exact ofTrig _ _ _ rfl rfl rfl rfl

theorem aluAbsS64 (u : Twin) : Statement (.aluAbsS64 u) := by
  cases u <;> exact ofTrig _ _ _ rfl rfl rfl rfl

theorem aluPass (u : Twin) : Statement (.aluPass u) := by
  cases u <;> exact ofTrig _ _ _ rfl rfl rfl rfl

theorem aluPopc (u : Twin) : Statement (.aluPopc u) := by
  cases u <;> exact ofTrig _ _ _ rfl rfl rfl rfl

theorem aluClz (u : Twin) : Statement (.aluClz u) := by
  cases u <;> exact ofTrig _ _ _ rfl rfl rfl rfl

theorem aluCtz (u : Twin) : Statement (.aluCtz u) := by
  cases u <;> exact ofTrig _ _ _ rfl rfl rfl rfl

theorem aluBfxS64 (u : Twin) : Statement (.aluBfxS64 u) := by
  cases u <;> exact ofTrig _ _ _ rfl rfl rfl rfl

theorem aluBfxN64 (u : Twin) : Statement (.aluBfxN64 u) := by
  cases u <;> exact ofTrig _ _ _ rfl rfl rfl rfl

theorem aluBfi (u : Twin) : Statement (.aluBfi u) := by
  cases u <;> exact ofTrig _ _ _ rfl rfl rfl rfl

theorem gpack (u : Twin) : Statement (.gpack u) := by
  cases u <;> exact ofTrig _ _ _ rfl rfl rfl rfl

theorem gset (u : Twin) (x : Bool) : Statement (.gset u x) := by
  cases u <;> cases x <;> exact ofTrig _ _ _ rfl rfl rfl rfl

theorem kfill (u : Twin) : Statement (.kfill u) := by
  cases u <;> exact ofTrig _ _ _ rfl rfl rfl rfl

theorem klow (u : Twin) : Statement (.klow u) := by
  cases u <;> exact ofTrig _ _ _ rfl rfl rfl rfl

theorem khigh (u : Twin) : Statement (.khigh u) := by
  cases u <;> exact ofTrig _ _ _ rfl rfl rfl rfl

theorem divS64 (x : Bool) : Statement (.divS64 x) := by
  cases x <;> exact ofTrig _ _ _ rfl rfl rfl rfl

theorem divN64 (x : Bool) : Statement (.divN64 x) := by
  cases x <;> exact ofTrig _ _ _ rfl rfl rfl rfl

theorem vfaAdd (f : FTy) : Statement (.vfaAdd f) := by
  cases f <;> exact ofTrig _ _ _ rfl rfl rfl rfl

theorem vfaSub (f : FTy) (x : Bool) : Statement (.vfaSub f x) := by
  cases f <;> cases x <;> exact ofTrig _ _ _ rfl rfl rfl rfl

theorem vfaMul (f : FTy) : Statement (.vfaMul f) := by
  cases f <;> exact ofTrig _ _ _ rfl rfl rfl rfl

theorem vfaFma (f : FTy) (x : Bool) : Statement (.vfaFma f x) := by
  cases f <;> cases x <;> exact ofTrig _ _ _ rfl rfl rfl rfl

theorem vfaFms (f : FTy) (x : Bool) : Statement (.vfaFms f x) := by
  cases f <;> cases x <;> exact ofTrig _ _ _ rfl rfl rfl rfl

theorem vfaFnma (f : FTy) (x : Bool) : Statement (.vfaFnma f x) := by
  cases f <;> cases x <;> exact ofTrig _ _ _ rfl rfl rfl rfl

theorem vfaFnms (f : FTy) (x : Bool) : Statement (.vfaFnms f x) := by
  cases f <;> cases x <;> exact ofTrig _ _ _ rfl rfl rfl rfl

theorem vfaMin (f : FTy) : Statement (.vfaMin f) := by
  cases f <;> exact ofTrig _ _ _ rfl rfl rfl rfl

theorem vfaMax (f : FTy) : Statement (.vfaMax f) := by
  cases f <;> exact ofTrig _ _ _ rfl rfl rfl rfl

theorem vfaCmp (f : FTy) (x : Bool) : Statement (.vfaCmp f x) := by
  cases f <;> cases x <;> exact ofTrig _ _ _ rfl rfl rfl rfl

theorem vfaClass (f : FTy) : Statement (.vfaClass f) := by
  cases f <;> exact ofTrig _ _ _ rfl rfl rfl rfl

theorem vfaScale (f : FTy) (x : Bool) : Statement (.vfaScale f x) := by
  cases f <;> cases x <;> exact ofTrig _ _ _ rfl rfl rfl rfl

theorem vfbIadd (w : IW) : Statement (.vfbIadd w) := by
  cases w <;> exact ofTrig _ _ _ rfl rfl rfl rfl

theorem vfbIsub (w : IW) (x : Bool) : Statement (.vfbIsub w x) := by
  cases w <;> cases x <;> exact ofTrig _ _ _ rfl rfl rfl rfl

theorem vfbImul (w : IW) : Statement (.vfbImul w) := by
  cases w <;> exact ofTrig _ _ _ rfl rfl rfl rfl

theorem vfbIadds (w : IW) : Statement (.vfbIadds w) := by
  cases w <;> exact ofTrig _ _ _ rfl rfl rfl rfl

theorem vfbIminS (w : IW) : Statement (.vfbIminS w) := by
  cases w <;> exact ofTrig _ _ _ rfl rfl rfl rfl

theorem vfbImaxS (w : IW) : Statement (.vfbImaxS w) := by
  cases w <;> exact ofTrig _ _ _ rfl rfl rfl rfl

theorem vfbIminN (w : IW) : Statement (.vfbIminN w) := by
  cases w <;> exact ofTrig _ _ _ rfl rfl rfl rfl

theorem vfbImaxN (w : IW) : Statement (.vfbImaxN w) := by
  cases w <;> exact ofTrig _ _ _ rfl rfl rfl rfl

theorem vfbBsel (x : Bool) : Statement (.vfbBsel x) := by
  cases x <;> exact ofTrig _ _ _ rfl rfl rfl rfl

theorem vfbShlN32 (x : Bool) : Statement (.vfbShlN32 x) := by
  cases x <;> exact ofTrig _ _ _ rfl rfl rfl rfl

theorem vfbShrN32 (x : Bool) : Statement (.vfbShrN32 x) := by
  cases x <;> exact ofTrig _ _ _ rfl rfl rfl rfl

theorem vfbShrS32 (x : Bool) : Statement (.vfbShrS32 x) := by
  cases x <;> exact ofTrig _ _ _ rfl rfl rfl rfl

theorem vfbIcmpS32 (x : Bool) : Statement (.vfbIcmpS32 x) := by
  cases x <;> exact ofTrig _ _ _ rfl rfl rfl rfl

theorem vfbIcmpN32 (x : Bool) : Statement (.vfbIcmpN32 x) := by
  cases x <;> exact ofTrig _ _ _ rfl rfl rfl rfl

theorem slideup (x : Bool) : Statement (.slideup x) := by
  cases x <;> exact ofTrig _ _ _ rfl rfl rfl rfl

theorem slidedn (x : Bool) : Statement (.slidedn x) := by
  cases x <;> exact ofTrig _ _ _ rfl rfl rfl rfl

theorem vfbFmaF32 (x : Bool) : Statement (.vfbFmaF32 x) := by
  cases x <;> exact ofTrig _ _ _ rfl rfl rfl rfl

theorem vfbFmsF32 (x : Bool) : Statement (.vfbFmsF32 x) := by
  cases x <;> exact ofTrig _ _ _ rfl rfl rfl rfl

theorem vfbFnmaF32 (x : Bool) : Statement (.vfbFnmaF32 x) := by
  cases x <;> exact ofTrig _ _ _ rfl rfl rfl rfl

theorem vfbFnmsF32 (x : Bool) : Statement (.vfbFnmsF32 x) := by
  cases x <;> exact ofTrig _ _ _ rfl rfl rfl rfl

theorem ldN8 (u : Twin) : Statement (.ldN8 u) := by
  cases u <;> exact ofTrig _ _ _ rfl rfl rfl rfl

theorem ldN16 (u : Twin) : Statement (.ldN16 u) := by
  cases u <;> exact ofTrig _ _ _ rfl rfl rfl rfl

theorem ldN32 (u : Twin) : Statement (.ldN32 u) := by
  cases u <;> exact ofTrig _ _ _ rfl rfl rfl rfl

theorem ldX64 (u : Twin) : Statement (.ldX64 u) := by
  cases u <;> exact ofTrig _ _ _ rfl rfl rfl rfl

theorem ldS8 (u : Twin) : Statement (.ldS8 u) := by
  cases u <;> exact ofTrig _ _ _ rfl rfl rfl rfl

theorem ldS16 (u : Twin) : Statement (.ldS16 u) := by
  cases u <;> exact ofTrig _ _ _ rfl rfl rfl rfl

theorem ldS32 (u : Twin) : Statement (.ldS32 u) := by
  cases u <;> exact ofTrig _ _ _ rfl rfl rfl rfl

theorem ldB128 (u : Twin) : Statement (.ldB128 u) := by
  cases u <;> exact ofTrig _ _ _ rfl rfl rfl rfl

theorem ldB256 (u : Twin) : Statement (.ldB256 u) := by
  cases u <;> exact ofTrig _ _ _ rfl rfl rfl rfl

theorem ldB512 (u : Twin) : Statement (.ldB512 u) := by
  cases u <;> exact ofTrig _ _ _ rfl rfl rfl rfl

theorem ldB1024 (u : Twin) : Statement (.ldB1024 u) := by
  cases u <;> exact ofTrig _ _ _ rfl rfl rfl rfl

theorem ldM1024 (u : Twin) : Statement (.ldM1024 u) := by
  cases u <;> exact ofTrig _ _ _ rfl rfl rfl rfl

theorem ldSd32 (u : Twin) : Statement (.ldSd32 u) := by
  cases u <;> exact ofTrig _ _ _ rfl rfl rfl rfl

theorem ldFl64 (u : Twin) : Statement (.ldFl64 u) := by
  cases u <;> exact ofTrig _ _ _ rfl rfl rfl rfl

theorem ldFl1024 (u : Twin) : Statement (.ldFl1024 u) := by
  cases u <;> exact ofTrig _ _ _ rfl rfl rfl rfl

theorem stB8 (u : Twin) : Statement (.stB8 u) := by
  cases u <;> exact ofTrig _ _ _ rfl rfl rfl rfl

theorem stB16 (u : Twin) : Statement (.stB16 u) := by
  cases u <;> exact ofTrig _ _ _ rfl rfl rfl rfl

theorem stB32 (u : Twin) : Statement (.stB32 u) := by
  cases u <;> exact ofTrig _ _ _ rfl rfl rfl rfl

theorem stB64 (u : Twin) : Statement (.stB64 u) := by
  cases u <;> exact ofTrig _ _ _ rfl rfl rfl rfl

theorem stB128 (u : Twin) : Statement (.stB128 u) := by
  cases u <;> exact ofTrig _ _ _ rfl rfl rfl rfl

theorem stB256 (u : Twin) : Statement (.stB256 u) := by
  cases u <;> exact ofTrig _ _ _ rfl rfl rfl rfl

theorem stB512 (u : Twin) : Statement (.stB512 u) := by
  cases u <;> exact ofTrig _ _ _ rfl rfl rfl rfl

theorem stB1024 (u : Twin) : Statement (.stB1024 u) := by
  cases u <;> exact ofTrig _ _ _ rfl rfl rfl rfl

theorem stM1024 (u : Twin) : Statement (.stM1024 u) := by
  cases u <;> exact ofTrig _ _ _ rfl rfl rfl rfl

theorem stSd32 (u : Twin) : Statement (.stSd32 u) := by
  cases u <;> exact ofTrig _ _ _ rfl rfl rfl rfl

theorem sramBankAccess (n : Nat) (q : Nat) (id : Nat) (j : Nat) : Statement (.sramBankAccess n q id j) := vacuous _ rfl rfl rfl

theorem sramCorrectedRewrite (n : Nat) (bank row half : Nat) : Statement (.sramCorrectedRewrite n bank row half) := vacuous _ rfl rfl rfl

theorem sramcfgWrite (n : Nat) (v : W64) : Statement (.sramcfgWrite n v) := vacuous _ rfl rfl rfl

theorem classRewriteEnd (n : Nat) : Statement (.classRewriteEnd n) := vacuous _ rfl rfl rfl

theorem mxMm (h : Hdr) : Statement (.mxMm h) := ofHeader (.mxMm h) h _ _ rfl rfl (by decide) rfl rfl rfl

theorem mxGang (h : Hdr) : Statement (.mxGang h) := ofHeader (.mxGang h) h _ _ rfl rfl (by decide) rfl rfl rfl

theorem mxSeq (h : Hdr) : Statement (.mxSeq h) := ofHeader (.mxSeq h) h _ _ rfl rfl (by decide) rfl rfl rfl

theorem mxGseq (h : Hdr) : Statement (.mxGseq h) := ofHeader (.mxGseq h) h _ _ rfl rfl (by decide) rfl rfl rfl

theorem mxTadd (h : Hdr) : Statement (.mxTadd h) := ofHeader (.mxTadd h) h _ _ rfl rfl (by decide) rfl rfl rfl

theorem mxDrain (h : Hdr) : Statement (.mxDrain h) := ofHeader (.mxDrain h) h _ _ rfl rfl (by decide) rfl rfl rfl

theorem mxTcsave (h : Hdr) : Statement (.mxTcsave h) := ofHeader (.mxTcsave h) h _ _ rfl rfl (by decide) rfl rfl rfl

theorem mxCommandStart (n : Nat) : Statement (.mxCommandStart n) := vacuous _ rfl rfl rfl

theorem mxGangStart (c : Nat) : Statement (.mxGangStart c) := vacuous _ rfl rfl rfl

theorem mxPassRowAccess (c : Nat) (id : Nat) (p : Nat) (m : Nat) (a : RowAct) : Statement (.mxPassRowAccess c id p m a) := vacuous _ rfl rfl rfl

theorem mxCommandComplete (c : Nat) (id : Nat) : Statement (.mxCommandComplete c id) := vacuous _ rfl rfl rfl

theorem mxDrainDone (n : Nat) : Statement (.mxDrainDone n) := vacuous _ rfl rfl rfl

theorem mxTcsaveWrite (n : Nat) : Statement (.mxTcsaveWrite n) := vacuous _ rfl rfl rfl

theorem tswStart (n : Nat) : Statement (.tswStart n) := vacuous _ rfl rfl rfl

theorem tswUnitAccess (n : Nat) (a : UnitAct) : Statement (.tswUnitAccess n a) := vacuous _ rfl rfl rfl

theorem tswComplete (n : Nat) : Statement (.tswComplete n) := vacuous _ rfl rfl rfl

theorem semReleaseAct (n : Nat) (id : Nat) : Statement (.semReleaseAct n id) := vacuous _ rfl rfl rfl

theorem semRemoteArrival (n : Nat) (p : Packet) : Statement (.semRemoteArrival n p) := vacuous _ rfl rfl rfl

theorem semRemoteAct (n : Nat) : Statement (.semRemoteAct n) := vacuous _ rfl rfl rfl

theorem semReplyArrival (n : Nat) (p : Packet) : Statement (.semReplyArrival n p) := vacuous _ rfl rfl rfl

theorem synTimer (h : Hdr) : Statement (.synTimer h) := ofHeader (.synTimer h) h _ _ rfl rfl (by decide) rfl rfl rfl

theorem synDelay (h : Hdr) : Statement (.synDelay h) := ofHeader (.synDelay h) h _ _ rfl rfl (by decide) rfl rfl rfl

theorem synGbar (h : Hdr) : Statement (.synGbar h) := ofHeader (.synGbar h) h _ _ rfl rfl (by decide) rfl rfl rfl

theorem synJoin (h : Hdr) : Statement (.synJoin h) := ofHeader (.synJoin h) h _ _ rfl rfl (by decide) rfl rfl rfl

theorem synCommandDone (n : Nat) (id : Nat) : Statement (.synCommandDone n id) := vacuous _ rfl rfl rfl

theorem ceCopy (h : Hdr) : Statement (.ceCopy h) := ofHeader (.ceCopy h) h _ _ rfl rfl (by decide) rfl rfl rfl

theorem ceXcopy (h : Hdr) : Statement (.ceXcopy h) := ofHeader (.ceXcopy h) h _ _ rfl rfl (by decide) rfl rfl rfl

theorem ceFill (h : Hdr) : Statement (.ceFill h) := ofHeader (.ceFill h) h _ _ rfl rfl (by decide) rfl rfl rfl

theorem cePlace (h : Hdr) : Statement (.cePlace h) := ofHeader (.cePlace h) h _ _ rfl rfl (by decide) rfl rfl rfl

theorem ceCode (h : Hdr) : Statement (.ceCode h) := ofHeader (.ceCode h) h _ _ rfl rfl (by decide) rfl rfl rfl

theorem ceCommandStart (n : Nat) : Statement (.ceCommandStart n) := vacuous _ rfl rfl rfl

theorem ceElementMove (n : Nat) (a : UnitAct) : Statement (.ceElementMove n a) := vacuous _ rfl rfl rfl

theorem ceCommandComplete (n : Nat) : Statement (.ceCommandComplete n) := vacuous _ rfl rfl rfl

theorem ceSuspend (n : Nat) : Statement (.ceSuspend n) := vacuous _ rfl rfl rfl

theorem packetInject (n : Nat) (cls : BitVec 2) : Statement (.packetInject n cls) := vacuous _ rfl rfl rfl

theorem exchangeDelivery (n : Nat) (p : Packet) (b : Nat) : Statement (.exchangeDelivery n p b) := vacuous _ rfl rfl rfl

theorem messageDelivery (n : Nat) (p : Packet) : Statement (.messageDelivery n p) := vacuous _ rfl rfl rfl

theorem k2Wake (n : Nat) : Statement (.k2Wake n) := vacuous _ rfl rfl rfl

theorem heldArrivalTimeout (n : Nat) : Statement (.heldArrivalTimeout n) := vacuous _ rfl rfl rfl

theorem remoteStoreWrite (n : Nat) (p : Packet) (b : Nat) : Statement (.remoteStoreWrite n p b) := vacuous _ rfl rfl rfl

theorem storeAcknowledgement (n : Nat) (p : Packet) : Statement (.storeAcknowledgement n p) := vacuous _ rfl rfl rfl

theorem flitReceive (l : Nat) (f : Flit) : Statement (.flitReceive l f) := vacuous _ rfl rfl rfl

theorem idle (l : Nat) (cseq : BitVec 8) (stop : BitVec 6) : Statement (.idle l cseq stop) := ofControl (.idle l cseq stop) l 0 cseq stop rfl rfl rfl (decodeControl_idle l cseq stop)

theorem ack (l : Nat) (cseq : BitVec 8) (stop : BitVec 6) : Statement (.ack l cseq stop) := ofControl (.ack l cseq stop) l 1 cseq stop rfl rfl rfl (decodeControl_ack l cseq stop)

theorem nak (l : Nat) (cseq : BitVec 8) (stop : BitVec 6) : Statement (.nak l cseq stop) := ofControl (.nak l cseq stop) l 2 cseq stop rfl rfl rfl (decodeControl_nak l cseq stop)

theorem outputFlitSelect (l : Nat) : Statement (.outputFlitSelect l) := vacuous _ rfl rfl rfl

theorem truncationTimeout (l : Nat) (cls : BitVec 2) (vc : BitVec 1) : Statement (.truncationTimeout l cls vc) := vacuous _ rfl rfl rfl

theorem linkDown (l : Nat) : Statement (.linkDown l) := vacuous _ rfl rfl rfl

theorem linkDead (l : Nat) : Statement (.linkDead l) := vacuous _ rfl rfl rfl

theorem fabricPortTrain (l : Nat) (lanes : Nat) (asym : Int) (ok : Bool) : Statement (.fabricPortTrain l lanes asym ok) := vacuous _ rfl rfl rfl

theorem milestoneArrive (n : Nat) : Statement (.milestoneArrive n) := vacuous _ rfl rfl rfl

theorem milestoneRelease (gr : Group) : Statement (.milestoneRelease gr) := vacuous _ rfl rfl rfl

theorem milestoneArrivePacket (p : Packet) : Statement (.milestoneArrivePacket p) := vacuous _ rfl rfl rfl

theorem milestoneReleasePacket (p : Packet) : Statement (.milestoneReleasePacket p) := vacuous _ rfl rfl rfl

theorem milestoneFailPacket (p : Packet) : Statement (.milestoneFailPacket p) := vacuous _ rfl rfl rfl

theorem domainStart (late : Bool) : Statement (.domainStart late) := vacuous _ rfl rfl rfl

theorem milestoneTimeout (gr : Group) : Statement (.milestoneTimeout gr) := vacuous _ rfl rfl rfl

theorem stepctlWrite (n : Nat) (v : W64) : Statement (.stepctlWrite n v) := vacuous _ rfl rfl rfl

theorem paceadj (v : W64) : Statement (.paceadj v) := vacuous _ rfl rfl rfl

theorem heartbeatSend (b : Beater) : Statement (.heartbeatSend b) := vacuous _ rfl rfl rfl

theorem heartbeatReceive (b : Beater) (p : Packet) : Statement (.heartbeatReceive b p) := vacuous _ rfl rfl rfl

theorem heartbeatMiss (b : Beater) : Statement (.heartbeatMiss b) := vacuous _ rfl rfl rfl

theorem fenceW (lv : Nat) : Statement (.fenceW lv) := ofFence (.fenceW lv) lv 0x10 rfl rfl rfl (fun h => h) fun k hk e => by
  subst e
  interval_cases lv <;> rfl

theorem fenceRw (lv : Nat) : Statement (.fenceRw lv) := ofFence (.fenceRw lv) lv 0x18 rfl rfl rfl (fun h => h) fun k hk e => by
  subst e
  interval_cases lv <;> rfl

theorem fenceComplete (n : Nat) (k : Ctx) : Statement (.fenceComplete n k) := vacuous _ rfl rfl rfl

theorem csrresWritten (n : Nat) (k : Ctx) (v : W64) : Statement (.csrresWritten n k v) := vacuous _ rfl rfl rfl

theorem registerWrite (r : RegRef) (v : W64) : Statement (.registerWrite r v) := vacuous _ rfl rfl rfl

theorem hubRegisterAccessDone (n : Nat) (k : Ctx) (id : Nat) : Statement (.hubRegisterAccessDone n k id) := vacuous _ rfl rfl rfl

theorem chainWordWrite (c : Nat) (v : W64) : Statement (.chainWordWrite c v) := vacuous _ rfl rfl rfl

theorem svcaddrWrite (n : Nat) (v : W64) : Statement (.svcaddrWrite n v) := vacuous _ rfl rfl rfl

theorem mxcheckWrite (c : Nat) (v : W64) : Statement (.mxcheckWrite c v) := vacuous _ rfl rfl rfl

theorem tileQuiet (n : Nat) : Statement (.tileQuiet n) := vacuous _ rfl rfl rfl

theorem pairIntervalClose (n : Nat) (k : Ctx) : Statement (.pairIntervalClose n k) := vacuous _ rfl rfl rfl

theorem pairCompare (n : Nat) (k : Ctx) : Statement (.pairCompare n k) := vacuous _ rfl rfl rfl

theorem mwaitWake (k : Ctx) (why : Nat) : Statement (.mwaitWake k why) := vacuous _ rfl rfl rfl

theorem tlbinvComplete (n : Nat) (k : Ctx) : Statement (.tlbinvComplete n k) := vacuous _ rfl rfl rfl

theorem granuleDrained (gn : Nat) : Statement (.granuleDrained gn) := vacuous _ rfl rfl rfl

theorem conversionEnd (gn : Nat) : Statement (.conversionEnd gn) := vacuous _ rfl rfl rfl

theorem scrub (line : Nat) : Statement (.scrub line) := vacuous _ rfl rfl rfl

theorem trapTake (n : Nat) (k : Ctx) : Statement (.trapTake n k) := vacuous _ rfl rfl rfl

theorem trapq (n : Nat) (k : Ctx) (viaX : Bool) : Statement (.trapq n k viaX) := vacuous _ rfl rfl rfl

theorem debugTransition (n : Nat) : Statement (.debugTransition n) := vacuous _ rfl rfl rfl

theorem debugStop (n : Nat) : Statement (.debugStop n) := vacuous _ rfl rfl rfl

theorem traceRecordStore (n : Nat) : Statement (.traceRecordStore n) := vacuous _ rfl rfl rfl

theorem digestReset (l : Nat) : Statement (.digestReset l) := vacuous _ rfl rfl rfl

theorem getVersion (m : Message) : Statement (.getVersion m) := vacuous _ rfl rfl rfl

theorem getCapabilities (m : Message) : Statement (.getCapabilities m) := vacuous _ rfl rfl rfl

theorem negotiateAlgorithms (m : Message) : Statement (.negotiateAlgorithms m) := vacuous _ rfl rfl rfl

theorem getDigests (m : Message) : Statement (.getDigests m) := vacuous _ rfl rfl rfl

theorem getCertificate (m : Message) : Statement (.getCertificate m) := vacuous _ rfl rfl rfl

theorem challenge (m : Message) : Statement (.challenge m) := vacuous _ rfl rfl rfl

theorem getMeasurements (m : Message) : Statement (.getMeasurements m) := vacuous _ rfl rfl rfl

theorem hostRead (addr : Nat) : Statement (.hostRead addr) := vacuous _ rfl rfl rfl

theorem hostWrite (addr : Nat) (line : BitVec 512) : Statement (.hostWrite addr line) := vacuous _ rfl rfl rfl

theorem hostreq (v : W64) : Statement (.hostreq v) := vacuous _ rfl rfl rfl

theorem launch (rec : Nat) : Statement (.launch rec) := vacuous _ rfl rfl rfl

theorem keyLoad (rec : Nat) : Statement (.keyLoad rec) := vacuous _ rfl rfl rfl

theorem granuleRelease (rec : Nat) : Statement (.granuleRelease rec) := vacuous _ rfl rfl rfl

theorem sensorLatch (readings : List Int) : Statement (.sensorLatch readings) := vacuous _ rfl rfl rfl

theorem thctlWrite (v : W64) : Statement (.thctlWrite v) := vacuous _ rfl rfl rfl

theorem powerMeterUpdate (w : Nat) : Statement (.powerMeterUpdate w) := vacuous _ rfl rfl rfl

theorem xlresWritten (n : Nat) (k : Ctx) (v : W64) : Statement (.xlresWritten n k v) := vacuous _ rfl rfl rfl

theorem ctlJmp : Statement .ctlJmp := ofTrig _ _ _ rfl rfl rfl rfl

theorem ctlJmpr : Statement .ctlJmpr := ofTrig _ _ _ rfl rfl rfl rfl

theorem ctlCall : Statement .ctlCall := ofTrig _ _ _ rfl rfl rfl rfl

theorem ctlRet : Statement .ctlRet := ofTrig _ _ _ rfl rfl rfl rfl

theorem ctlLoop : Statement .ctlLoop := ofTrig _ _ _ rfl rfl rfl rfl

theorem ctlLdim : Statement .ctlLdim := ofTrig _ _ _ rfl rfl rfl rfl

theorem ctlLidx : Statement .ctlLidx := ofTrig _ _ _ rfl rfl rfl rfl

theorem ctlLexit : Statement .ctlLexit := ofTrig _ _ _ rfl rfl rfl rfl

theorem ctlRetire : Statement .ctlRetire := ofTrig _ _ _ rfl rfl rfl rfl

theorem ctlYield : Statement .ctlYield := ofTrig _ _ _ rfl rfl rfl rfl

theorem ctlTrap : Statement .ctlTrap := ofTrig _ _ _ rfl rfl rfl rfl

theorem ctlUret : Statement .ctlUret := ofTrig _ _ _ rfl rfl rfl rfl

theorem ctlWtok : Statement .ctlWtok := ofTrig _ _ _ rfl rfl rfl rfl

theorem ctlWcyc : Statement .ctlWcyc := ofTrig _ _ _ rfl rfl rfl rfl

theorem ctlQadd : Statement .ctlQadd := ofTrig _ _ _ rfl rfl rfl rfl

theorem ctlQread : Statement .ctlQread := ofTrig _ _ _ rfl rfl rfl rfl

theorem ctlWhere : Statement .ctlWhere := ofTrig _ _ _ rfl rfl rfl rfl

theorem ctlHset : Statement .ctlHset := ofTrig _ _ _ rfl rfl rfl rfl

theorem mulS64 : Statement .mulS64 := ofTrig _ _ _ rfl rfl rfl rfl

theorem mulN64 : Statement .mulN64 := ofTrig _ _ _ rfl rfl rfl rfl

theorem madS64 : Statement .madS64 := ofTrig _ _ _ rfl rfl rfl rfl

theorem madN64 : Statement .madN64 := ofTrig _ _ _ rfl rfl rfl rfl

theorem mulS32 : Statement .mulS32 := ofTrig _ _ _ rfl rfl rfl rfl

theorem mulN32 : Statement .mulN32 := ofTrig _ _ _ rfl rfl rfl rfl

theorem mulrS64 : Statement .mulrS64 := ofTrig _ _ _ rfl rfl rfl rfl

theorem aguPstr : Statement .aguPstr := ofTrig _ _ _ rfl rfl rfl rfl

theorem aguPwin : Statement .aguPwin := ofTrig _ _ _ rfl rfl rfl rfl

theorem aguPreg : Statement .aguPreg := ofTrig _ _ _ rfl rfl rfl rfl

theorem aguPget : Statement .aguPget := ofTrig _ _ _ rfl rfl rfl rfl

theorem aguPadv : Statement .aguPadv := ofTrig _ _ _ rfl rfl rfl rfl

theorem aguPpeek : Statement .aguPpeek := ofTrig _ _ _ rfl rfl rfl rfl

theorem aguPcopy : Statement .aguPcopy := ofTrig _ _ _ rfl rfl rfl rfl

theorem aguRchk : Statement .aguRchk := ofTrig _ _ _ rfl rfl rfl rfl

theorem aguRassert : Statement .aguRassert := ofTrig _ _ _ rfl rfl rfl rfl

theorem aguRget : Statement .aguRget := ofTrig _ _ _ rfl rfl rfl rfl

theorem aguLea : Statement .aguLea := ofTrig _ _ _ rfl rfl rfl rfl

theorem vfaBdot : Statement .vfaBdot := ofTrig _ _ _ rfl rfl rfl rfl

theorem vfbAnd : Statement .vfbAnd := ofTrig _ _ _ rfl rfl rfl rfl

theorem vfbOr : Statement .vfbOr := ofTrig _ _ _ rfl rfl rfl rfl

theorem vfbXor : Statement .vfbXor := ofTrig _ _ _ rfl rfl rfl rfl

theorem kpack : Statement .kpack := ofTrig _ _ _ rfl rfl rfl rfl

theorem sbcast : Statement .sbcast := ofTrig _ _ _ rfl rfl rfl rfl

theorem lbcast : Statement .lbcast := ofTrig _ _ _ rfl rfl rfl rfl

theorem perm : Statement .perm := ofTrig _ _ _ rfl rfl rfl rfl

theorem cvt : Statement .cvt := ofTrig _ _ _ rfl rfl rfl rfl

theorem mxpack : Statement .mxpack := ofTrig _ _ _ rfl rfl rfl rfl

theorem mxunpack : Statement .mxunpack := ofTrig _ _ _ rfl rfl rfl rfl

theorem rsumF32 : Statement .rsumF32 := ofTrig _ _ _ rfl rfl rfl rfl

theorem rmaxF32 : Statement .rmaxF32 := ofTrig _ _ _ rfl rfl rfl rfl

theorem rminF32 : Statement .rminF32 := ofTrig _ _ _ rfl rfl rfl rfl

theorem rsumS32 : Statement .rsumS32 := ofTrig _ _ _ rfl rfl rfl rfl

theorem recipF32 : Statement .recipF32 := ofTrig _ _ _ rfl rfl rfl rfl

theorem divF32 : Statement .divF32 := ofTrig _ _ _ rfl rfl rfl rfl

theorem sqrtF32 : Statement .sqrtF32 := ofTrig _ _ _ rfl rfl rfl rfl

theorem rsqrtF32 : Statement .rsqrtF32 := ofTrig _ _ _ rfl rfl rfl rfl

theorem expF32 : Statement .expF32 := ofTrig _ _ _ rfl rfl rfl rfl

theorem exp2F32 : Statement .exp2F32 := ofTrig _ _ _ rfl rfl rfl rfl

theorem logF32 : Statement .logF32 := ofTrig _ _ _ rfl rfl rfl rfl

theorem log2F32 : Statement .log2F32 := ofTrig _ _ _ rfl rfl rfl rfl

theorem tanhF32 : Statement .tanhF32 := ofTrig _ _ _ rfl rfl rfl rfl

theorem sigmoidF32 : Statement .sigmoidF32 := ofTrig _ _ _ rfl rfl rfl rfl

theorem geluF32 : Statement .geluF32 := ofTrig _ _ _ rfl rfl rfl rfl

theorem rsumdF32 : Statement .rsumdF32 := ofTrig _ _ _ rfl rfl rfl rfl

theorem rmeanF32 : Statement .rmeanF32 := ofTrig _ _ _ rfl rfl rfl rfl

theorem rvarF32 : Statement .rvarF32 := ofTrig _ _ _ rfl rfl rfl rfl

theorem smexpF32 : Statement .smexpF32 := ofTrig _ _ _ rfl rfl rfl rfl

theorem smadd : Statement .smadd := ofTrig _ _ _ rfl rfl rfl rfl

theorem smoutF32 : Statement .smoutF32 := ofTrig _ _ _ rfl rfl rfl rfl

theorem fset : Statement .fset := ofTrig _ _ _ rfl rfl rfl rfl

theorem fget : Statement .fget := ofTrig _ _ _ rfl rfl rfl rfl

theorem tcread : Statement .tcread := ofTrig _ _ _ rfl rfl rfl rfl

theorem tcclr : Statement .tcclr := ofTrig _ _ _ rfl rfl rfl rfl

theorem chkrd : Statement .chkrd := ofTrig _ _ _ rfl rfl rfl rfl

theorem chkclr : Statement .chkclr := ofTrig _ _ _ rfl rfl rfl rfl

theorem dur : Statement .dur := ofTrig _ _ _ rfl rfl rfl rfl

theorem mxStat : Statement .mxStat := ofTrig _ _ _ rfl rfl rfl rfl

theorem tsin : Statement .tsin := ofTrig _ _ _ rfl rfl rfl rfl

theorem tsout : Statement .tsout := ofTrig _ _ _ rfl rfl rfl rfl

theorem tscopy : Statement .tscopy := ofTrig _ _ _ rfl rfl rfl rfl

theorem tsfill : Statement .tsfill := ofTrig _ _ _ rfl rfl rfl rfl

theorem scin : Statement .scin := ofTrig _ _ _ rfl rfl rfl rfl

theorem scout : Statement .scout := ofTrig _ _ _ rfl rfl rfl rfl

theorem wbin : Statement .wbin := ofTrig _ _ _ rfl rfl rfl rfl

theorem wbout : Statement .wbout := ofTrig _ _ _ rfl rfl rfl rfl

theorem semTake : Statement .semTake := ofTrig _ _ _ rfl rfl rfl rfl

theorem semPut : Statement .semPut := ofTrig _ _ _ rfl rfl rfl rfl

theorem semLd : Statement .semLd := ofTrig _ _ _ rfl rfl rfl rfl

theorem semSt : Statement .semSt := ofTrig _ _ _ rfl rfl rfl rfl

theorem semAdd : Statement .semAdd := ofTrig _ _ _ rfl rfl rfl rfl

theorem semAnd : Statement .semAnd := ofTrig _ _ _ rfl rfl rfl rfl

theorem semOr : Statement .semOr := ofTrig _ _ _ rfl rfl rfl rfl

theorem semMaxS64 : Statement .semMaxS64 := ofTrig _ _ _ rfl rfl rfl rfl

theorem semMaxN64 : Statement .semMaxN64 := ofTrig _ _ _ rfl rfl rfl rfl

theorem semMinS64 : Statement .semMinS64 := ofTrig _ _ _ rfl rfl rfl rfl

theorem semMinN64 : Statement .semMinN64 := ofTrig _ _ _ rfl rfl rfl rfl

theorem semCas : Statement .semCas := ofTrig _ _ _ rfl rfl rfl rfl

theorem semWadd : Statement .semWadd := ofTrig _ _ _ rfl rfl rfl rfl

theorem semQlen : Statement .semQlen := ofTrig _ _ _ rfl rfl rfl rfl

theorem semSrcrd : Statement .semSrcrd := ofTrig _ _ _ rfl rfl rfl rfl

theorem semSrcdrop : Statement .semSrcdrop := ofTrig _ _ _ rfl rfl rfl rfl

theorem tpend : Statement .tpend := ofTrig _ _ _ rfl rfl rfl rfl

theorem tdone : Statement .tdone := ofTrig _ _ _ rfl rfl rfl rfl

theorem tstat : Statement .tstat := ofTrig _ _ _ rfl rfl rfl rfl

theorem tmap : Statement .tmap := ofTrig _ _ _ rfl rfl rfl rfl

theorem pace : Statement .pace := ofTrig _ _ _ rfl rfl rfl rfl

theorem pacefx : Statement .pacefx := ofTrig _ _ _ rfl rfl rfl rfl

theorem wtime : Statement .wtime := ofTrig _ _ _ rfl rfl rfl rfl

theorem synMstat : Statement .synMstat := ofTrig _ _ _ rfl rfl rfl rfl

theorem xcyc : Statement .xcyc := ofTrig _ _ _ rfl rfl rfl rfl

theorem bstat : Statement .bstat := ofTrig _ _ _ rfl rfl rfl rfl

theorem ceStat : Statement .ceStat := ofTrig _ _ _ rfl rfl rfl rfl

theorem ceProg : Statement .ceProg := ofTrig _ _ _ rfl rfl rfl rfl

theorem ceLast : Statement .ceLast := ofTrig _ _ _ rfl rfl rfl rfl

theorem ceAbort : Statement .ceAbort := ofTrig _ _ _ rfl rfl rfl rfl

theorem nsSend : Statement .nsSend := ofTrig _ _ _ rfl rfl rfl rfl

theorem nsRst : Statement .nsRst := ofTrig _ _ _ rfl rfl rfl rfl

theorem nsRatom : Statement .nsRatom := ofTrig _ _ _ rfl rfl rfl rfl

theorem nsXsend : Statement .nsXsend := ofTrig _ _ _ rfl rfl rfl rfl

theorem nsRecv : Statement .nsRecv := ofTrig _ _ _ rfl rfl rfl rfl

theorem nsPeek : Statement .nsPeek := ofTrig _ _ _ rfl rfl rfl rfl

theorem nsRelease : Statement .nsRelease := ofTrig _ _ _ rfl rfl rfl rfl

theorem nsStat : Statement .nsStat := ofTrig _ _ _ rfl rfl rfl rfl

theorem nsLast : Statement .nsLast := ofTrig _ _ _ rfl rfl rfl rfl

theorem nsSpill : Statement .nsSpill := ofTrig _ _ _ rfl rfl rfl rfl

theorem nsLback : Statement .nsLback := ofTrig _ _ _ rfl rfl rfl rfl

theorem nsReject : Statement .nsReject := ofTrig _ _ _ rfl rfl rfl rfl

theorem nsOvclr : Statement .nsOvclr := ofTrig _ _ _ rfl rfl rfl rfl

theorem csrr : Statement .csrr := ofTrig _ _ _ rfl rfl rfl rfl

theorem csrw : Statement .csrw := ofTrig _ _ _ rfl rfl rfl rfl

theorem xcsrr : Statement .xcsrr := ofTrig _ _ _ rfl rfl rfl rfl

theorem xcsrw : Statement .xcsrw := ofTrig _ _ _ rfl rfl rfl rfl

theorem tctlFreeze : Statement .tctlFreeze := ofTrig _ _ _ rfl rfl rfl rfl

theorem tctlResume : Statement .tctlResume := ofTrig _ _ _ rfl rfl rfl rfl

theorem tctlHalt : Statement .tctlHalt := ofTrig _ _ _ rfl rfl rfl rfl

theorem tctlUnhalt : Statement .tctlUnhalt := ofTrig _ _ _ rfl rfl rfl rfl

theorem tctlSave : Statement .tctlSave := ofTrig _ _ _ rfl rfl rfl rfl

theorem tctlRestore : Statement .tctlRestore := ofTrig _ _ _ rfl rfl rfl rfl

theorem tctlResumeContext : Statement .tctlResumeContext := ofTrig _ _ _ rfl rfl rfl rfl

theorem tctlKillContext : Statement .tctlKillContext := ofTrig _ _ _ rfl rfl rfl rfl

theorem tctlClearContext : Statement .tctlClearContext := ofTrig _ _ _ rfl rfl rfl rfl

theorem tctlRollback : Statement .tctlRollback := ofTrig _ _ _ rfl rfl rfl rfl

theorem pairon : Statement .pairon := ofTrig _ _ _ rfl rfl rfl rfl

theorem pairoff : Statement .pairoff := ofTrig _ _ _ rfl rfl rfl rfl

theorem mwait : Statement .mwait := ofTrig _ _ _ rfl rfl rfl rfl

theorem tlbprobe : Statement .tlbprobe := ofTrig _ _ _ rfl rfl rfl rfl

theorem tlbinvAddress : Statement .tlbinvAddress := ofTrig _ _ _ rfl rfl rfl rfl

theorem tlbinvAsid : Statement .tlbinvAsid := ofTrig _ _ _ rfl rfl rfl rfl

theorem tlbinvGlobal : Statement .tlbinvGlobal := ofTrig _ _ _ rfl rfl rfl rfl

theorem tlbinvAll : Statement .tlbinvAll := ofTrig _ _ _ rfl rfl rfl rfl

theorem gctlOffline : Statement .gctlOffline := ofTrig _ _ _ rfl rfl rfl rfl

theorem gctlOnline : Statement .gctlOnline := ofTrig _ _ _ rfl rfl rfl rfl

theorem gctlConvert : Statement .gctlConvert := ofTrig _ _ _ rfl rfl rfl rfl

theorem gstat : Statement .gstat := ofTrig _ _ _ rfl rfl rfl rfl

theorem ptclr : Statement .ptclr := ofTrig _ _ _ rfl rfl rfl rfl

theorem linkCountSample : Statement .linkCountSample := vacuous _ rfl rfl rfl

theorem deviceReset : Statement .deviceReset := vacuous _ rfl rfl rfl

end Sys2Proof.Laws.RoundTrip
end

