-- ==== Sys2Proof/Laws/State.lean ====
section
/-!
SUPPORT. What each update of the state leaves alone, field by field; tiles, contexts and registers read after they are
written.
-/

namespace Sys2Proof.Machine

@[simp] theorem State.setTile_now (s : State) (n : Nat) (t : Tile) : (s.setTile n t).now = s.now := rfl
@[simp] theorem State.setTile_free (s : State) (n : Nat) (t : Tile) : (s.setTile n t).free = s.free := rfl
@[simp] theorem State.setTile_micro (s : State) (n : Nat) (t : Tile) : (s.setTile n t).micro = s.micro := rfl
@[simp] theorem State.setTile_hand (s : State) (n : Nat) (t : Tile) : (s.setTile n t).hand = s.hand := rfl
@[simp] theorem State.setTile_agenda (s : State) (n : Nat) (t : Tile) : (s.setTile n t).agenda = s.agenda := rfl
@[simp] theorem State.setTile_accepted (s : State) (n : Nat) (t : Tile) : (s.setTile n t).accepted = s.accepted := rfl
@[simp] theorem State.setTile_chains (s : State) (n : Nat) (t : Tile) : (s.setTile n t).chains = s.chains := rfl
@[simp] theorem State.setTile_furlongs (s : State) (n : Nat) (t : Tile) : (s.setTile n t).furlongs = s.furlongs := rfl
@[simp] theorem State.setTile_hbm (s : State) (n : Nat) (t : Tile) : (s.setTile n t).hbm = s.hbm := rfl
@[simp] theorem State.setTile_host (s : State) (n : Nat) (t : Tile) : (s.setTile n t).host = s.host := rfl
@[simp] theorem State.setTile_hbmMark (s : State) (n : Nat) (t : Tile) : (s.setTile n t).hbmMark = s.hbmMark := rfl
@[simp] theorem State.setTile_hostCached (s : State) (n : Nat) (t : Tile) : (s.setTile n t).hostCached = s.hostCached := rfl
@[simp] theorem State.setTile_granules (s : State) (n : Nat) (t : Tile) : (s.setTile n t).granules = s.granules := rfl
@[simp] theorem State.setTile_hub (s : State) (n : Nat) (t : Tile) : (s.setTile n t).hub = s.hub := rfl
@[simp] theorem State.setTile_links (s : State) (n : Nat) (t : Tile) : (s.setTile n t).links = s.links := rfl
@[simp] theorem State.setTile_images (s : State) (n : Nat) (t : Tile) : (s.setTile n t).images = s.images := rfl
@[simp] theorem State.setTile_deviceId (s : State) (n : Nat) (t : Tile) : (s.setTile n t).deviceId = s.deviceId := rfl
@[simp] theorem State.modTile_now (s : State) (n : Nat) (f : Tile → Tile) : (s.modTile n f).now = s.now := rfl
@[simp] theorem State.modTile_free (s : State) (n : Nat) (f : Tile → Tile) : (s.modTile n f).free = s.free := rfl
@[simp] theorem State.modTile_micro (s : State) (n : Nat) (f : Tile → Tile) : (s.modTile n f).micro = s.micro := rfl
@[simp] theorem State.modTile_hand (s : State) (n : Nat) (f : Tile → Tile) : (s.modTile n f).hand = s.hand := rfl
@[simp] theorem State.modTile_agenda (s : State) (n : Nat) (f : Tile → Tile) : (s.modTile n f).agenda = s.agenda := rfl
@[simp] theorem State.modTile_accepted (s : State) (n : Nat) (f : Tile → Tile) : (s.modTile n f).accepted = s.accepted := rfl
@[simp] theorem State.modTile_chains (s : State) (n : Nat) (f : Tile → Tile) : (s.modTile n f).chains = s.chains := rfl
@[simp] theorem State.modTile_furlongs (s : State) (n : Nat) (f : Tile → Tile) : (s.modTile n f).furlongs = s.furlongs := rfl
@[simp] theorem State.modTile_hbm (s : State) (n : Nat) (f : Tile → Tile) : (s.modTile n f).hbm = s.hbm := rfl
@[simp] theorem State.modTile_host (s : State) (n : Nat) (f : Tile → Tile) : (s.modTile n f).host = s.host := rfl
@[simp] theorem State.modTile_hbmMark (s : State) (n : Nat) (f : Tile → Tile) : (s.modTile n f).hbmMark = s.hbmMark := rfl
@[simp] theorem State.modTile_hostCached (s : State) (n : Nat) (f : Tile → Tile) : (s.modTile n f).hostCached = s.hostCached := rfl
@[simp] theorem State.modTile_granules (s : State) (n : Nat) (f : Tile → Tile) : (s.modTile n f).granules = s.granules := rfl
@[simp] theorem State.modTile_hub (s : State) (n : Nat) (f : Tile → Tile) : (s.modTile n f).hub = s.hub := rfl
@[simp] theorem State.modTile_links (s : State) (n : Nat) (f : Tile → Tile) : (s.modTile n f).links = s.links := rfl
@[simp] theorem State.modTile_images (s : State) (n : Nat) (f : Tile → Tile) : (s.modTile n f).images = s.images := rfl
@[simp] theorem State.modTile_deviceId (s : State) (n : Nat) (f : Tile → Tile) : (s.modTile n f).deviceId = s.deviceId := rfl
@[simp] theorem State.modCtx_now (s : State) (n : Nat) (k : Ctx) (f : Context → Context) : (s.modCtx n k f).now = s.now := rfl
@[simp] theorem State.modCtx_free (s : State) (n : Nat) (k : Ctx) (f : Context → Context) : (s.modCtx n k f).free = s.free := rfl
@[simp] theorem State.modCtx_micro (s : State) (n : Nat) (k : Ctx) (f : Context → Context) : (s.modCtx n k f).micro = s.micro := rfl
@[simp] theorem State.modCtx_hand (s : State) (n : Nat) (k : Ctx) (f : Context → Context) : (s.modCtx n k f).hand = s.hand := rfl
@[simp] theorem State.modCtx_agenda (s : State) (n : Nat) (k : Ctx) (f : Context → Context) : (s.modCtx n k f).agenda = s.agenda := rfl
@[simp] theorem State.modCtx_accepted (s : State) (n : Nat) (k : Ctx) (f : Context → Context) : (s.modCtx n k f).accepted = s.accepted := rfl
@[simp] theorem State.modCtx_chains (s : State) (n : Nat) (k : Ctx) (f : Context → Context) : (s.modCtx n k f).chains = s.chains := rfl
@[simp] theorem State.modCtx_furlongs (s : State) (n : Nat) (k : Ctx) (f : Context → Context) : (s.modCtx n k f).furlongs = s.furlongs := rfl
@[simp] theorem State.modCtx_hbm (s : State) (n : Nat) (k : Ctx) (f : Context → Context) : (s.modCtx n k f).hbm = s.hbm := rfl
@[simp] theorem State.modCtx_host (s : State) (n : Nat) (k : Ctx) (f : Context → Context) : (s.modCtx n k f).host = s.host := rfl
@[simp] theorem State.modCtx_hbmMark (s : State) (n : Nat) (k : Ctx) (f : Context → Context) : (s.modCtx n k f).hbmMark = s.hbmMark := rfl
@[simp] theorem State.modCtx_hostCached (s : State) (n : Nat) (k : Ctx) (f : Context → Context) : (s.modCtx n k f).hostCached = s.hostCached := rfl
@[simp] theorem State.modCtx_granules (s : State) (n : Nat) (k : Ctx) (f : Context → Context) : (s.modCtx n k f).granules = s.granules := rfl
@[simp] theorem State.modCtx_hub (s : State) (n : Nat) (k : Ctx) (f : Context → Context) : (s.modCtx n k f).hub = s.hub := rfl
@[simp] theorem State.modCtx_links (s : State) (n : Nat) (k : Ctx) (f : Context → Context) : (s.modCtx n k f).links = s.links := rfl
@[simp] theorem State.modCtx_images (s : State) (n : Nat) (k : Ctx) (f : Context → Context) : (s.modCtx n k f).images = s.images := rfl
@[simp] theorem State.modCtx_deviceId (s : State) (n : Nat) (k : Ctx) (f : Context → Context) : (s.modCtx n k f).deviceId = s.deviceId := rfl
@[simp] theorem State.setChain_now (s : State) (c : Nat) (x : Chain) : (s.setChain c x).now = s.now := rfl
@[simp] theorem State.setChain_free (s : State) (c : Nat) (x : Chain) : (s.setChain c x).free = s.free := rfl
@[simp] theorem State.setChain_micro (s : State) (c : Nat) (x : Chain) : (s.setChain c x).micro = s.micro := rfl
@[simp] theorem State.setChain_hand (s : State) (c : Nat) (x : Chain) : (s.setChain c x).hand = s.hand := rfl
@[simp] theorem State.setChain_agenda (s : State) (c : Nat) (x : Chain) : (s.setChain c x).agenda = s.agenda := rfl
@[simp] theorem State.setChain_accepted (s : State) (c : Nat) (x : Chain) : (s.setChain c x).accepted = s.accepted := rfl
@[simp] theorem State.setChain_tiles (s : State) (c : Nat) (x : Chain) : (s.setChain c x).tiles = s.tiles := rfl
@[simp] theorem State.setChain_furlongs (s : State) (c : Nat) (x : Chain) : (s.setChain c x).furlongs = s.furlongs := rfl
@[simp] theorem State.setChain_hbm (s : State) (c : Nat) (x : Chain) : (s.setChain c x).hbm = s.hbm := rfl
@[simp] theorem State.setChain_host (s : State) (c : Nat) (x : Chain) : (s.setChain c x).host = s.host := rfl
@[simp] theorem State.setChain_hbmMark (s : State) (c : Nat) (x : Chain) : (s.setChain c x).hbmMark = s.hbmMark := rfl
@[simp] theorem State.setChain_hostCached (s : State) (c : Nat) (x : Chain) : (s.setChain c x).hostCached = s.hostCached := rfl
@[simp] theorem State.setChain_granules (s : State) (c : Nat) (x : Chain) : (s.setChain c x).granules = s.granules := rfl
@[simp] theorem State.setChain_hub (s : State) (c : Nat) (x : Chain) : (s.setChain c x).hub = s.hub := rfl
@[simp] theorem State.setChain_links (s : State) (c : Nat) (x : Chain) : (s.setChain c x).links = s.links := rfl
@[simp] theorem State.setChain_images (s : State) (c : Nat) (x : Chain) : (s.setChain c x).images = s.images := rfl
@[simp] theorem State.setChain_deviceId (s : State) (c : Nat) (x : Chain) : (s.setChain c x).deviceId = s.deviceId := rfl
@[simp] theorem State.modChain_now (s : State) (c : Nat) (f : Chain → Chain) : (s.modChain c f).now = s.now := rfl
@[simp] theorem State.modChain_free (s : State) (c : Nat) (f : Chain → Chain) : (s.modChain c f).free = s.free := rfl
@[simp] theorem State.modChain_micro (s : State) (c : Nat) (f : Chain → Chain) : (s.modChain c f).micro = s.micro := rfl
@[simp] theorem State.modChain_hand (s : State) (c : Nat) (f : Chain → Chain) : (s.modChain c f).hand = s.hand := rfl
@[simp] theorem State.modChain_agenda (s : State) (c : Nat) (f : Chain → Chain) : (s.modChain c f).agenda = s.agenda := rfl
@[simp] theorem State.modChain_accepted (s : State) (c : Nat) (f : Chain → Chain) : (s.modChain c f).accepted = s.accepted := rfl
@[simp] theorem State.modChain_tiles (s : State) (c : Nat) (f : Chain → Chain) : (s.modChain c f).tiles = s.tiles := rfl
@[simp] theorem State.modChain_furlongs (s : State) (c : Nat) (f : Chain → Chain) : (s.modChain c f).furlongs = s.furlongs := rfl
@[simp] theorem State.modChain_hbm (s : State) (c : Nat) (f : Chain → Chain) : (s.modChain c f).hbm = s.hbm := rfl
@[simp] theorem State.modChain_host (s : State) (c : Nat) (f : Chain → Chain) : (s.modChain c f).host = s.host := rfl
@[simp] theorem State.modChain_hbmMark (s : State) (c : Nat) (f : Chain → Chain) : (s.modChain c f).hbmMark = s.hbmMark := rfl
@[simp] theorem State.modChain_hostCached (s : State) (c : Nat) (f : Chain → Chain) : (s.modChain c f).hostCached = s.hostCached := rfl
@[simp] theorem State.modChain_granules (s : State) (c : Nat) (f : Chain → Chain) : (s.modChain c f).granules = s.granules := rfl
@[simp] theorem State.modChain_hub (s : State) (c : Nat) (f : Chain → Chain) : (s.modChain c f).hub = s.hub := rfl
@[simp] theorem State.modChain_links (s : State) (c : Nat) (f : Chain → Chain) : (s.modChain c f).links = s.links := rfl
@[simp] theorem State.modChain_images (s : State) (c : Nat) (f : Chain → Chain) : (s.modChain c f).images = s.images := rfl
@[simp] theorem State.modChain_deviceId (s : State) (c : Nat) (f : Chain → Chain) : (s.modChain c f).deviceId = s.deviceId := rfl
@[simp] theorem State.setFurlong_now (s : State) (f : Nat) (x : Furlong) : (s.setFurlong f x).now = s.now := rfl
@[simp] theorem State.setFurlong_free (s : State) (f : Nat) (x : Furlong) : (s.setFurlong f x).free = s.free := rfl
@[simp] theorem State.setFurlong_micro (s : State) (f : Nat) (x : Furlong) : (s.setFurlong f x).micro = s.micro := rfl
@[simp] theorem State.setFurlong_hand (s : State) (f : Nat) (x : Furlong) : (s.setFurlong f x).hand = s.hand := rfl
@[simp] theorem State.setFurlong_agenda (s : State) (f : Nat) (x : Furlong) : (s.setFurlong f x).agenda = s.agenda := rfl
@[simp] theorem State.setFurlong_accepted (s : State) (f : Nat) (x : Furlong) : (s.setFurlong f x).accepted = s.accepted := rfl
@[simp] theorem State.setFurlong_tiles (s : State) (f : Nat) (x : Furlong) : (s.setFurlong f x).tiles = s.tiles := rfl
@[simp] theorem State.setFurlong_chains (s : State) (f : Nat) (x : Furlong) : (s.setFurlong f x).chains = s.chains := rfl
@[simp] theorem State.setFurlong_hbm (s : State) (f : Nat) (x : Furlong) : (s.setFurlong f x).hbm = s.hbm := rfl
@[simp] theorem State.setFurlong_host (s : State) (f : Nat) (x : Furlong) : (s.setFurlong f x).host = s.host := rfl
@[simp] theorem State.setFurlong_hbmMark (s : State) (f : Nat) (x : Furlong) : (s.setFurlong f x).hbmMark = s.hbmMark := rfl
@[simp] theorem State.setFurlong_hostCached (s : State) (f : Nat) (x : Furlong) : (s.setFurlong f x).hostCached = s.hostCached := rfl
@[simp] theorem State.setFurlong_granules (s : State) (f : Nat) (x : Furlong) : (s.setFurlong f x).granules = s.granules := rfl
@[simp] theorem State.setFurlong_hub (s : State) (f : Nat) (x : Furlong) : (s.setFurlong f x).hub = s.hub := rfl
@[simp] theorem State.setFurlong_links (s : State) (f : Nat) (x : Furlong) : (s.setFurlong f x).links = s.links := rfl
@[simp] theorem State.setFurlong_images (s : State) (f : Nat) (x : Furlong) : (s.setFurlong f x).images = s.images := rfl
@[simp] theorem State.setFurlong_deviceId (s : State) (f : Nat) (x : Furlong) : (s.setFurlong f x).deviceId = s.deviceId := rfl
@[simp] theorem State.modFurlong_now (s : State) (n : Nat) (f : Furlong → Furlong) : (s.modFurlong n f).now = s.now := rfl
@[simp] theorem State.modFurlong_free (s : State) (n : Nat) (f : Furlong → Furlong) : (s.modFurlong n f).free = s.free := rfl
@[simp] theorem State.modFurlong_micro (s : State) (n : Nat) (f : Furlong → Furlong) : (s.modFurlong n f).micro = s.micro := rfl
@[simp] theorem State.modFurlong_hand (s : State) (n : Nat) (f : Furlong → Furlong) : (s.modFurlong n f).hand = s.hand := rfl
@[simp] theorem State.modFurlong_agenda (s : State) (n : Nat) (f : Furlong → Furlong) : (s.modFurlong n f).agenda = s.agenda := rfl
@[simp] theorem State.modFurlong_accepted (s : State) (n : Nat) (f : Furlong → Furlong) : (s.modFurlong n f).accepted = s.accepted := rfl
@[simp] theorem State.modFurlong_tiles (s : State) (n : Nat) (f : Furlong → Furlong) : (s.modFurlong n f).tiles = s.tiles := rfl
@[simp] theorem State.modFurlong_chains (s : State) (n : Nat) (f : Furlong → Furlong) : (s.modFurlong n f).chains = s.chains := rfl
@[simp] theorem State.modFurlong_hbm (s : State) (n : Nat) (f : Furlong → Furlong) : (s.modFurlong n f).hbm = s.hbm := rfl
@[simp] theorem State.modFurlong_host (s : State) (n : Nat) (f : Furlong → Furlong) : (s.modFurlong n f).host = s.host := rfl
@[simp] theorem State.modFurlong_hbmMark (s : State) (n : Nat) (f : Furlong → Furlong) : (s.modFurlong n f).hbmMark = s.hbmMark := rfl
@[simp] theorem State.modFurlong_hostCached (s : State) (n : Nat) (f : Furlong → Furlong) : (s.modFurlong n f).hostCached = s.hostCached := rfl
@[simp] theorem State.modFurlong_granules (s : State) (n : Nat) (f : Furlong → Furlong) : (s.modFurlong n f).granules = s.granules := rfl
@[simp] theorem State.modFurlong_hub (s : State) (n : Nat) (f : Furlong → Furlong) : (s.modFurlong n f).hub = s.hub := rfl
@[simp] theorem State.modFurlong_links (s : State) (n : Nat) (f : Furlong → Furlong) : (s.modFurlong n f).links = s.links := rfl
@[simp] theorem State.modFurlong_images (s : State) (n : Nat) (f : Furlong → Furlong) : (s.modFurlong n f).images = s.images := rfl
@[simp] theorem State.modFurlong_deviceId (s : State) (n : Nat) (f : Furlong → Furlong) : (s.modFurlong n f).deviceId = s.deviceId := rfl
@[simp] theorem State.setLink_now (s : State) (l : Nat) (x : LinkEnd) : (s.setLink l x).now = s.now := rfl
@[simp] theorem State.setLink_free (s : State) (l : Nat) (x : LinkEnd) : (s.setLink l x).free = s.free := rfl
@[simp] theorem State.setLink_micro (s : State) (l : Nat) (x : LinkEnd) : (s.setLink l x).micro = s.micro := rfl
@[simp] theorem State.setLink_hand (s : State) (l : Nat) (x : LinkEnd) : (s.setLink l x).hand = s.hand := rfl
@[simp] theorem State.setLink_agenda (s : State) (l : Nat) (x : LinkEnd) : (s.setLink l x).agenda = s.agenda := rfl
@[simp] theorem State.setLink_accepted (s : State) (l : Nat) (x : LinkEnd) : (s.setLink l x).accepted = s.accepted := rfl
@[simp] theorem State.setLink_tiles (s : State) (l : Nat) (x : LinkEnd) : (s.setLink l x).tiles = s.tiles := rfl
@[simp] theorem State.setLink_chains (s : State) (l : Nat) (x : LinkEnd) : (s.setLink l x).chains = s.chains := rfl
@[simp] theorem State.setLink_furlongs (s : State) (l : Nat) (x : LinkEnd) : (s.setLink l x).furlongs = s.furlongs := rfl
@[simp] theorem State.setLink_hbm (s : State) (l : Nat) (x : LinkEnd) : (s.setLink l x).hbm = s.hbm := rfl
@[simp] theorem State.setLink_host (s : State) (l : Nat) (x : LinkEnd) : (s.setLink l x).host = s.host := rfl
@[simp] theorem State.setLink_hbmMark (s : State) (l : Nat) (x : LinkEnd) : (s.setLink l x).hbmMark = s.hbmMark := rfl
@[simp] theorem State.setLink_hostCached (s : State) (l : Nat) (x : LinkEnd) : (s.setLink l x).hostCached = s.hostCached := rfl
@[simp] theorem State.setLink_granules (s : State) (l : Nat) (x : LinkEnd) : (s.setLink l x).granules = s.granules := rfl
@[simp] theorem State.setLink_hub (s : State) (l : Nat) (x : LinkEnd) : (s.setLink l x).hub = s.hub := rfl
@[simp] theorem State.setLink_images (s : State) (l : Nat) (x : LinkEnd) : (s.setLink l x).images = s.images := rfl
@[simp] theorem State.setLink_deviceId (s : State) (l : Nat) (x : LinkEnd) : (s.setLink l x).deviceId = s.deviceId := rfl
@[simp] theorem State.modLink_now (s : State) (l : Nat) (f : LinkEnd → LinkEnd) : (s.modLink l f).now = s.now := rfl
@[simp] theorem State.modLink_free (s : State) (l : Nat) (f : LinkEnd → LinkEnd) : (s.modLink l f).free = s.free := rfl
@[simp] theorem State.modLink_micro (s : State) (l : Nat) (f : LinkEnd → LinkEnd) : (s.modLink l f).micro = s.micro := rfl
@[simp] theorem State.modLink_hand (s : State) (l : Nat) (f : LinkEnd → LinkEnd) : (s.modLink l f).hand = s.hand := rfl
@[simp] theorem State.modLink_agenda (s : State) (l : Nat) (f : LinkEnd → LinkEnd) : (s.modLink l f).agenda = s.agenda := rfl
@[simp] theorem State.modLink_accepted (s : State) (l : Nat) (f : LinkEnd → LinkEnd) : (s.modLink l f).accepted = s.accepted := rfl
@[simp] theorem State.modLink_tiles (s : State) (l : Nat) (f : LinkEnd → LinkEnd) : (s.modLink l f).tiles = s.tiles := rfl
@[simp] theorem State.modLink_chains (s : State) (l : Nat) (f : LinkEnd → LinkEnd) : (s.modLink l f).chains = s.chains := rfl
@[simp] theorem State.modLink_furlongs (s : State) (l : Nat) (f : LinkEnd → LinkEnd) : (s.modLink l f).furlongs = s.furlongs := rfl
@[simp] theorem State.modLink_hbm (s : State) (l : Nat) (f : LinkEnd → LinkEnd) : (s.modLink l f).hbm = s.hbm := rfl
@[simp] theorem State.modLink_host (s : State) (l : Nat) (f : LinkEnd → LinkEnd) : (s.modLink l f).host = s.host := rfl
@[simp] theorem State.modLink_hbmMark (s : State) (l : Nat) (f : LinkEnd → LinkEnd) : (s.modLink l f).hbmMark = s.hbmMark := rfl
@[simp] theorem State.modLink_hostCached (s : State) (l : Nat) (f : LinkEnd → LinkEnd) : (s.modLink l f).hostCached = s.hostCached := rfl
@[simp] theorem State.modLink_granules (s : State) (l : Nat) (f : LinkEnd → LinkEnd) : (s.modLink l f).granules = s.granules := rfl
@[simp] theorem State.modLink_hub (s : State) (l : Nat) (f : LinkEnd → LinkEnd) : (s.modLink l f).hub = s.hub := rfl
@[simp] theorem State.modLink_images (s : State) (l : Nat) (f : LinkEnd → LinkEnd) : (s.modLink l f).images = s.images := rfl
@[simp] theorem State.modLink_deviceId (s : State) (l : Nat) (f : LinkEnd → LinkEnd) : (s.modLink l f).deviceId = s.deviceId := rfl
@[simp] theorem State.modHub_now (s : State) (f : Hub → Hub) : (s.modHub f).now = s.now := rfl
@[simp] theorem State.modHub_free (s : State) (f : Hub → Hub) : (s.modHub f).free = s.free := rfl
@[simp] theorem State.modHub_micro (s : State) (f : Hub → Hub) : (s.modHub f).micro = s.micro := rfl
@[simp] theorem State.modHub_hand (s : State) (f : Hub → Hub) : (s.modHub f).hand = s.hand := rfl
@[simp] theorem State.modHub_agenda (s : State) (f : Hub → Hub) : (s.modHub f).agenda = s.agenda := rfl
@[simp] theorem State.modHub_accepted (s : State) (f : Hub → Hub) : (s.modHub f).accepted = s.accepted := rfl
@[simp] theorem State.modHub_tiles (s : State) (f : Hub → Hub) : (s.modHub f).tiles = s.tiles := rfl
@[simp] theorem State.modHub_chains (s : State) (f : Hub → Hub) : (s.modHub f).chains = s.chains := rfl
@[simp] theorem State.modHub_furlongs (s : State) (f : Hub → Hub) : (s.modHub f).furlongs = s.furlongs := rfl
@[simp] theorem State.modHub_hbm (s : State) (f : Hub → Hub) : (s.modHub f).hbm = s.hbm := rfl
@[simp] theorem State.modHub_host (s : State) (f : Hub → Hub) : (s.modHub f).host = s.host := rfl
@[simp] theorem State.modHub_hbmMark (s : State) (f : Hub → Hub) : (s.modHub f).hbmMark = s.hbmMark := rfl
@[simp] theorem State.modHub_hostCached (s : State) (f : Hub → Hub) : (s.modHub f).hostCached = s.hostCached := rfl
@[simp] theorem State.modHub_granules (s : State) (f : Hub → Hub) : (s.modHub f).granules = s.granules := rfl
@[simp] theorem State.modHub_links (s : State) (f : Hub → Hub) : (s.modHub f).links = s.links := rfl
@[simp] theorem State.modHub_images (s : State) (f : Hub → Hub) : (s.modHub f).images = s.images := rfl
@[simp] theorem State.modHub_deviceId (s : State) (f : Hub → Hub) : (s.modHub f).deviceId = s.deviceId := rfl
@[simp] theorem State.schedule_now (s : State) (c p : Nat) (i : Instr) : (s.schedule c p i).now = s.now := rfl
@[simp] theorem State.schedule_free (s : State) (c p : Nat) (i : Instr) : (s.schedule c p i).free = s.free := rfl
@[simp] theorem State.schedule_micro (s : State) (c p : Nat) (i : Instr) : (s.schedule c p i).micro = s.micro := rfl
@[simp] theorem State.schedule_hand (s : State) (c p : Nat) (i : Instr) : (s.schedule c p i).hand = s.hand := rfl
@[simp] theorem State.schedule_accepted (s : State) (c p : Nat) (i : Instr) : (s.schedule c p i).accepted = s.accepted := rfl
@[simp] theorem State.schedule_tiles (s : State) (c p : Nat) (i : Instr) : (s.schedule c p i).tiles = s.tiles := rfl
@[simp] theorem State.schedule_chains (s : State) (c p : Nat) (i : Instr) : (s.schedule c p i).chains = s.chains := rfl
@[simp] theorem State.schedule_furlongs (s : State) (c p : Nat) (i : Instr) : (s.schedule c p i).furlongs = s.furlongs := rfl
@[simp] theorem State.schedule_hbm (s : State) (c p : Nat) (i : Instr) : (s.schedule c p i).hbm = s.hbm := rfl
@[simp] theorem State.schedule_host (s : State) (c p : Nat) (i : Instr) : (s.schedule c p i).host = s.host := rfl
@[simp] theorem State.schedule_hbmMark (s : State) (c p : Nat) (i : Instr) : (s.schedule c p i).hbmMark = s.hbmMark := rfl
@[simp] theorem State.schedule_hostCached (s : State) (c p : Nat) (i : Instr) : (s.schedule c p i).hostCached = s.hostCached := rfl
@[simp] theorem State.schedule_granules (s : State) (c p : Nat) (i : Instr) : (s.schedule c p i).granules = s.granules := rfl
@[simp] theorem State.schedule_hub (s : State) (c p : Nat) (i : Instr) : (s.schedule c p i).hub = s.hub := rfl
@[simp] theorem State.schedule_links (s : State) (c p : Nat) (i : Instr) : (s.schedule c p i).links = s.links := rfl
@[simp] theorem State.schedule_images (s : State) (c p : Nat) (i : Instr) : (s.schedule c p i).images = s.images := rfl
@[simp] theorem State.schedule_deviceId (s : State) (c p : Nat) (i : Instr) : (s.schedule c p i).deviceId = s.deviceId := rfl
@[simp] theorem State.draw_now (s : State) (n : Nat) : (s.draw n).2.now = s.now := rfl
@[simp] theorem State.draw_micro (s : State) (n : Nat) : (s.draw n).2.micro = s.micro := rfl
@[simp] theorem State.draw_hand (s : State) (n : Nat) : (s.draw n).2.hand = s.hand := rfl
@[simp] theorem State.draw_agenda (s : State) (n : Nat) : (s.draw n).2.agenda = s.agenda := rfl
@[simp] theorem State.draw_accepted (s : State) (n : Nat) : (s.draw n).2.accepted = s.accepted := rfl
@[simp] theorem State.draw_tiles (s : State) (n : Nat) : (s.draw n).2.tiles = s.tiles := rfl
@[simp] theorem State.draw_chains (s : State) (n : Nat) : (s.draw n).2.chains = s.chains := rfl
@[simp] theorem State.draw_furlongs (s : State) (n : Nat) : (s.draw n).2.furlongs = s.furlongs := rfl
@[simp] theorem State.draw_hbm (s : State) (n : Nat) : (s.draw n).2.hbm = s.hbm := rfl
@[simp] theorem State.draw_host (s : State) (n : Nat) : (s.draw n).2.host = s.host := rfl
@[simp] theorem State.draw_hbmMark (s : State) (n : Nat) : (s.draw n).2.hbmMark = s.hbmMark := rfl
@[simp] theorem State.draw_hostCached (s : State) (n : Nat) : (s.draw n).2.hostCached = s.hostCached := rfl
@[simp] theorem State.draw_granules (s : State) (n : Nat) : (s.draw n).2.granules = s.granules := rfl
@[simp] theorem State.draw_hub (s : State) (n : Nat) : (s.draw n).2.hub = s.hub := rfl
@[simp] theorem State.draw_links (s : State) (n : Nat) : (s.draw n).2.links = s.links := rfl
@[simp] theorem State.draw_images (s : State) (n : Nat) : (s.draw n).2.images = s.images := rfl
@[simp] theorem State.draw_deviceId (s : State) (n : Nat) : (s.draw n).2.deviceId = s.deviceId := rfl
@[simp] theorem State.drawBits_now (s : State) : s.drawBits.2.now = s.now := rfl
@[simp] theorem State.drawBits_micro (s : State) : s.drawBits.2.micro = s.micro := rfl
@[simp] theorem State.drawBits_hand (s : State) : s.drawBits.2.hand = s.hand := rfl
@[simp] theorem State.drawBits_agenda (s : State) : s.drawBits.2.agenda = s.agenda := rfl
@[simp] theorem State.drawBits_accepted (s : State) : s.drawBits.2.accepted = s.accepted := rfl
@[simp] theorem State.drawBits_tiles (s : State) : s.drawBits.2.tiles = s.tiles := rfl
@[simp] theorem State.drawBits_chains (s : State) : s.drawBits.2.chains = s.chains := rfl
@[simp] theorem State.drawBits_furlongs (s : State) : s.drawBits.2.furlongs = s.furlongs := rfl
@[simp] theorem State.drawBits_hbm (s : State) : s.drawBits.2.hbm = s.hbm := rfl
@[simp] theorem State.drawBits_host (s : State) : s.drawBits.2.host = s.host := rfl
@[simp] theorem State.drawBits_hbmMark (s : State) : s.drawBits.2.hbmMark = s.hbmMark := rfl
@[simp] theorem State.drawBits_hostCached (s : State) : s.drawBits.2.hostCached = s.hostCached := rfl
@[simp] theorem State.drawBits_granules (s : State) : s.drawBits.2.granules = s.granules := rfl
@[simp] theorem State.drawBits_hub (s : State) : s.drawBits.2.hub = s.hub := rfl
@[simp] theorem State.drawBits_links (s : State) : s.drawBits.2.links = s.links := rfl
@[simp] theorem State.drawBits_images (s : State) : s.drawBits.2.images = s.images := rfl
@[simp] theorem State.drawBits_deviceId (s : State) : s.drawBits.2.deviceId = s.deviceId := rfl
@[simp] theorem State.delay_now (s : State) : s.delay.2.now = s.now := rfl
@[simp] theorem State.delay_micro (s : State) : s.delay.2.micro = s.micro := rfl
@[simp] theorem State.delay_hand (s : State) : s.delay.2.hand = s.hand := rfl
@[simp] theorem State.delay_agenda (s : State) : s.delay.2.agenda = s.agenda := rfl
@[simp] theorem State.delay_accepted (s : State) : s.delay.2.accepted = s.accepted := rfl
@[simp] theorem State.delay_tiles (s : State) : s.delay.2.tiles = s.tiles := rfl
@[simp] theorem State.delay_chains (s : State) : s.delay.2.chains = s.chains := rfl
@[simp] theorem State.delay_furlongs (s : State) : s.delay.2.furlongs = s.furlongs := rfl
@[simp] theorem State.delay_hbm (s : State) : s.delay.2.hbm = s.hbm := rfl
@[simp] theorem State.delay_host (s : State) : s.delay.2.host = s.host := rfl
@[simp] theorem State.delay_hbmMark (s : State) : s.delay.2.hbmMark = s.hbmMark := rfl
@[simp] theorem State.delay_hostCached (s : State) : s.delay.2.hostCached = s.hostCached := rfl
@[simp] theorem State.delay_granules (s : State) : s.delay.2.granules = s.granules := rfl
@[simp] theorem State.delay_hub (s : State) : s.delay.2.hub = s.hub := rfl
@[simp] theorem State.delay_links (s : State) : s.delay.2.links = s.links := rfl
@[simp] theorem State.delay_images (s : State) : s.delay.2.images = s.images := rfl
@[simp] theorem State.delay_deviceId (s : State) : s.delay.2.deviceId = s.deviceId := rfl

/-! ## Tiles and contexts -/

@[simp] theorem State.tile_setTile_same (s : State) (n : Nat) (t : Tile) : (s.setTile n t).tile n = t := by
  simp [State.tile, State.setTile]

theorem State.tile_setTile_other (s : State) (n m : Nat) (t : Tile) (h : m ≠ n) : (s.setTile n t).tile m = s.tile m := by
  simp [State.tile, State.setTile, spFind_spPut_other _ _ _ _ h]

@[simp] theorem State.tile_modTile_same (s : State) (n : Nat) (f : Tile → Tile) : (s.modTile n f).tile n = f (s.tile n) := by
  simp [State.modTile]

theorem State.tile_modTile_other (s : State) (n m : Nat) (f : Tile → Tile) (h : m ≠ n) :
    (s.modTile n f).tile m = s.tile m := State.tile_setTile_other s n m _ h

@[simp] theorem State.tile_modHub (s : State) (n : Nat) (f : Hub → Hub) : (s.modHub f).tile n = s.tile n := rfl
@[simp] theorem State.tile_schedule (s : State) (n c p : Nat) (i : Instr) : (s.schedule c p i).tile n = s.tile n := rfl
@[simp] theorem State.tile_setChain (s : State) (n c : Nat) (x : Chain) : (s.setChain c x).tile n = s.tile n := rfl
@[simp] theorem State.tile_setFurlong (s : State) (n f : Nat) (x : Furlong) : (s.setFurlong f x).tile n = s.tile n := rfl
@[simp] theorem State.tile_setLink (s : State) (n l : Nat) (x : LinkEnd) : (s.setLink l x).tile n = s.tile n := rfl

@[simp] theorem Tile.ctx_setCtx_same (t : Tile) (k : Ctx) (c : Context) : (t.setCtx k c).ctx k = c := by
  cases k <;> rfl

theorem Tile.ctx_setCtx_other (t : Tile) (k j : Ctx) (c : Context) (h : j ≠ k) : (t.setCtx k c).ctx j = t.ctx j := by
  cases k <;> cases j <;> first | rfl | exact absurd rfl h

@[simp] theorem Tile.ctx_modCtx_same (t : Tile) (k : Ctx) (f : Context → Context) : (t.modCtx k f).ctx k = f (t.ctx k) := by
  simp [Tile.modCtx]

theorem Tile.ctx_modCtx_other (t : Tile) (k j : Ctx) (f : Context → Context) (h : j ≠ k) :
    (t.modCtx k f).ctx j = t.ctx j := Tile.ctx_setCtx_other t k j _ h

@[simp] theorem State.ctx_modCtx_same (s : State) (n : Nat) (k : Ctx) (f : Context → Context) :
    (s.modCtx n k f).ctx n k = f (s.ctx n k) := by
  simp [State.ctx, State.modCtx]

/-! ## Registers by number -/

@[simp] theorem Context.cr_setCr_same (c : Context) (num : Nat) (v : W64) : (c.setCr num v).cr num = v := by
  simp [Context.cr, Context.setCr]

theorem Context.cr_setCr_other (c : Context) (num j : Nat) (v : W64) (h : j ≠ num) : (c.setCr num v).cr j = c.cr j := by
  simp only [Context.cr, Context.setCr]
  by_cases hd : ctxRegReset num = v
  · simp only [spSet, hd, if_true]
    exact spGet_spErase_other _ _ _ _ h
  · simp only [spSet, Ne.symm hd, if_false]
    exact spGet_spPut_other _ _ _ _ _ h

@[simp] theorem Tile.rg_setRg_same (t : Tile) (num : Nat) (v : W64) : (t.setRg num v).rg num = v := by
  simp [Tile.rg, Tile.setRg]

theorem Tile.rg_setRg_other (t : Tile) (num j : Nat) (v : W64) (h : j ≠ num) : (t.setRg num v).rg j = t.rg j := by
  simp only [Tile.rg, Tile.setRg, spSet]
  split
  · exact spGet_spErase_other _ _ _ _ h
  · exact spGet_spPut_other _ _ _ _ _ h

/-! ## Ports -/

theorem portKey_inj (so so' : Sock) (po po' : Port) (h : portKey so po = portKey so' po') : so = so' ∧ po = po' := by
  revert h
  cases so <;> cases so' <;> cases po <;> cases po' <;> decide

@[simp] theorem Tile.port_setPort_same (t : Tile) (so : Sock) (po : Port) (v : V1024) : (t.setPort so po v).port so po = v := by
  simp [Tile.port, Tile.setPort]

theorem Tile.port_setPort_other (t : Tile) (so so' : Sock) (po po' : Port) (v : V1024) (h : ¬(so' = so ∧ po' = po)) :
    (t.setPort so po v).port so' po' = t.port so' po' := by
  simp only [Tile.port, Tile.setPort]
  exact spGet_spSet_other _ _ _ _ _ fun e => h (portKey_inj so' so po' po e)

end Sys2Proof.Machine
end

