-- ==== Sys2Proof/Laws/Results.lean ====
section
/-! SUPPORT. Results in flight: what `State.landAt`, `State.land`, `State.result` and `State.schedule` do, once for all
callers. -/

namespace Sys2Proof.Machine

theorem mem_insertAgenda (l : List Agenda) (x a : Agenda) : a ∈ insertAgenda l x ↔ a = x ∨ a ∈ l := by
  induction l with
  | nil => simp [insertAgenda]
  | cons y ys ih =>
    simp only [insertAgenda]
    split
    · simp
    · simp only [List.mem_cons, ih]
      tauto

theorem mem_schedule_self (s : State) (cyc prio : Nat) (i : Instr) :
    ({ cyc := cyc, prio := prio, ins := i } : Agenda) ∈ (s.schedule cyc prio i).agenda :=
  (mem_insertAgenda _ _ _).mpr (.inl rfl)

theorem mem_schedule_of_mem {s : State} {a : Agenda} (cyc prio : Nat) (i : Instr) (h : a ∈ s.agenda) :
    a ∈ (s.schedule cyc prio i).agenda :=
  (mem_insertAgenda _ _ _).mpr (.inr h)

theorem SameRest.refl (s : State) : SameRest s s :=
  ⟨⟨fun _ _ => rfl, fun _ _ => rfl, fun _ _ => rfl, fun _ _ _ => rfl, fun _ _ => rfl, fun _ => rfl⟩,
    ⟨fun _ _ => rfl, fun _ _ => rfl, fun _ _ => rfl, fun _ _ => rfl, fun _ => rfl, fun _ => rfl⟩,
    ⟨fun _ => rfl, fun _ => rfl, fun _ => rfl⟩, ⟨fun _ => rfl, fun _ => rfl⟩,
    ⟨fun _ => rfl, fun _ => rfl, rfl, rfl, fun _ => rfl⟩, ⟨rfl, fun _ h => h⟩⟩

theorem SameRest.trans {s t u : State} (h : SameRest s t) (g : SameRest t u) : SameRest s u :=
  ⟨⟨fun n r => (g.1.1 n r).trans (h.1.1 n r), fun n r => (g.1.2 n r).trans (h.1.2 n r), fun n r => (g.1.3 n r).trans (h.1.3 n r),
      fun n r p => (g.1.4 n r p).trans (h.1.4 n r p), fun n r => (g.1.5 n r).trans (h.1.5 n r), fun n => (g.1.6 n).trans (h.1.6 n)⟩,
    ⟨fun n r => (g.2.1 n r).trans (h.2.1 n r), fun n r => (g.2.2 n r).trans (h.2.2 n r), fun n r => (g.2.3 n r).trans (h.2.3 n r),
      fun n r => (g.2.4 n r).trans (h.2.4 n r), fun r => (g.2.5 r).trans (h.2.5 r), fun r => (g.2.6 r).trans (h.2.6 r)⟩,
    ⟨fun n => (g.3.1 n).trans (h.3.1 n), fun n => (g.3.2 n).trans (h.3.2 n), fun n => (g.3.3 n).trans (h.3.3 n)⟩,
    ⟨fun n => (g.4.1 n).trans (h.4.1 n), fun n => (g.4.2 n).trans (h.4.2 n)⟩,
    ⟨fun n => (g.5.1 n).trans (h.5.1 n), fun n => (g.5.2 n).trans (h.5.2 n), g.5.3.trans h.5.3, g.5.4.trans h.5.4,
      fun n => (g.5.5 n).trans (h.5.5 n)⟩,
    ⟨g.6.1.trans h.6.1, fun a ha => g.6.2 a (h.6.2 a ha)⟩⟩

theorem Unchanged.refl (s : State) : Unchanged s s := ⟨fun _ _ => rfl, SameRest.refl s⟩

theorem Unchanged.trans {s t u : State} (h : Unchanged s t) (g : Unchanged t u) : Unchanged s u :=
  ⟨fun n k => (g.1 n k).trans (h.1 n k), h.2.trans g.2⟩

/-- What `SameRest` asks of one tile. -/
structure TileRest (a b : Tile) : Prop where
  reg : b.reg = a.reg
  latO : b.latO = a.latO
  latP : b.latP = a.latP
  ports : b.ports = a.ports
  code : b.code = a.code
  entries : b.entries = a.entries
  sram : b.sram = a.sram
  sems : b.sems = a.sems
  srcs : b.srcs = a.srcs
  tokens : b.tokens = a.tokens
  eng : b.eng = a.eng
  net : b.net = a.net

theorem TileRest.refl (a : Tile) : TileRest a a := ⟨rfl, rfl, rfl, rfl, rfl, rfl, rfl, rfl, rfl, rfl, rfl, rfl⟩

/-- `SameRest` from tiles that agree and device fields that are the same. -/
theorem rest_of_tiles {s t : State} (h : ∀ m, TileRest (s.tile m) (t.tile m)) (h1 : t.chains = s.chains)
    (h2 : t.furlongs = s.furlongs) (h3 : t.hbm = s.hbm) (h4 : t.host = s.host) (h5 : t.granules = s.granules)
    (h6 : t.hub = s.hub) (h7 : t.links = s.links) (h8 : t.now = s.now) (h9 : ∀ a ∈ s.agenda, a ∈ t.agenda) : SameRest s t := by
  refine ⟨⟨?_, ?_, ?_, ?_, ?_, ?_⟩, ⟨?_, ?_, ?_, ?_, ?_, ?_⟩, ⟨?_, ?_, ?_⟩, ⟨?_, ?_⟩, ⟨?_, ?_, h5, h6, ?_⟩, ⟨h8, h9⟩⟩
  · intro n r; simp only [Tile.rg, (h n).reg]
  · intro n so; simp only [Tile.opo, (h n).latO]
  · intro n so; simp only [Tile.opp, (h n).latP]
  · intro n so po; simp only [Tile.port, (h n).ports]
  · intro n a; rw [(h n).code]
  · intro n; exact (h n).entries
  · intro n a; rw [(h n).sram]
  · intro c a; simp only [State.chain, h1]
  · intro c a; simp only [State.chain, h1]
  · intro f a; simp only [State.furlong, h2]
  · intro a; rw [h3]
  · intro a; rw [h4]
  · intro n; exact (h n).sems
  · intro n; exact (h n).srcs
  · intro n; exact (h n).tokens
  · intro n; exact (h n).eng
  · intro n; exact (h n).net
  · intro c; simp only [State.chain, h1]
  · intro f; simp only [State.furlong, h2]
  · intro l; simp only [State.link, h7]

theorem tile_setTile (s : State) (n m : Nat) (t : Tile) : (s.setTile n t).tile m = if m = n then t else s.tile m := by
  by_cases h : m = n
  · subst h
    simp
  · simp [h, State.tile_setTile_other s n m t h]

theorem setTile_rest (s : State) (n : Nat) (t : Tile) (h : TileRest (s.tile n) t) : SameRest s (s.setTile n t) := by
  refine rest_of_tiles (fun m => ?_) rfl rfl rfl rfl rfl rfl rfl rfl fun a ha => ha
  rw [tile_setTile]
  split
  · rename_i hm
    rw [hm]
    exact h
  · exact TileRest.refl _

/-- A tile replaced by one whose contexts are the same leaves every context as it was. -/
theorem setTile_contexts (s : State) (n : Nat) (t : Tile) (h : ∀ k, t.ctx k = (s.tile n).ctx k) :
    SameContexts s (s.setTile n t) := by
  intro m k
  simp only [State.ctx, tile_setTile]
  split
  · rename_i hm
    rw [hm]
    exact h k
  · rfl

theorem schedule_rest (s : State) (cyc prio : Nat) (i : Instr) : SameRest s (s.schedule cyc prio i) :=
  rest_of_tiles (fun _ => TileRest.refl _) rfl rfl rfl rfl rfl rfl rfl rfl fun _ h => mem_schedule_of_mem _ _ _ h

theorem schedule_unchanged (s : State) (cyc prio : Nat) (i : Instr) : Unchanged s (s.schedule cyc prio i) :=
  ⟨fun _ _ => rfl, schedule_rest s cyc prio i⟩

/-- The landings that are fixed for some ports. -/
def landings (s : State) (n : Nat) (so : Sock) (due : Nat) (vs : List (Port × V1024)) : State :=
  vs.foldl (fun s (p : Port × V1024) => s.schedule due prioLand (.resultLands n so p.1)) s

theorem landings_tiles (s : State) (n : Nat) (so : Sock) (due : Nat) (vs : List (Port × V1024)) :
    (landings s n so due vs).tiles = s.tiles := by
  induction vs generalizing s with
  | nil => rfl
  | cons p vs ih => exact ih _

theorem landings_unchanged (s : State) (n : Nat) (so : Sock) (due : Nat) (vs : List (Port × V1024)) :
    Unchanged s (landings s n so due vs) := by
  induction vs generalizing s with
  | nil => exact Unchanged.refl s
  | cons p vs ih => exact (schedule_unchanged s due prioLand _).trans (ih _)

theorem landings_mem (s : State) (n : Nat) (so : Sock) (due : Nat) (vs : List (Port × V1024)) (p : Port × V1024) (h : p ∈ vs) :
    ({ cyc := due, prio := prioLand, ins := .resultLands n so p.1 } : Agenda) ∈ (landings s n so due vs).agenda := by
  induction vs generalizing s with
  | nil => cases h
  | cons q vs ih =>
    rcases List.mem_cons.mp h with rfl | h
    · exact (landings_unchanged _ n so due vs).rest.time.agenda _ (mem_schedule_self _ _ _ _)
    · exact ih _ h

/-- The flights of results that land together. -/
def flightsOf (u : Tile) (k : Ctx) (so : Sock) (due : Nat) (locked : Bool) (vs : List (Port × V1024)) (flags : Nat) :
    List Flight :=
  vs.mapIdx fun i (p : Port × V1024) =>
    { id := u.nextId + i, so := so, po := p.1, ctx := k, locked := locked, due := some due, val := p.2
      flags := if i = 0 then flags else 0, far := none, ready := none, err := none, errAux := 0#64, errAt := none
      raised := false }

theorem landAt_eq (s : State) (n : Nat) (k : Ctx) (so : Sock) (due : Nat) (locked : Bool) (vs : List (Port × V1024))
    (flags : Nat) :
    s.landAt n k so due locked vs flags
      = landings (s.setTile n { s.tile n with
          flights := (s.tile n).flights ++ flightsOf (s.tile n) k so due locked vs flags
          nextId := (s.tile n).nextId + vs.length }) n so due vs := rfl

theorem landAt_unchanged (s : State) (n : Nat) (k : Ctx) (so : Sock) (due : Nat) (locked : Bool) (vs : List (Port × V1024))
    (flags : Nat) : Unchanged s (s.landAt n k so due locked vs flags) := by
  rw [landAt_eq]
  refine Unchanged.trans ⟨setTile_contexts _ _ _ fun k => ?_, setTile_rest _ _ _ ?_⟩ (landings_unchanged _ _ _ _ _)
  · cases k <;> rfl
  · exact ⟨rfl, rfl, rfl, rfl, rfl, rfl, rfl, rfl, rfl, rfl, rfl, rfl⟩

theorem landAt_flights (s : State) (n : Nat) (k : Ctx) (so : Sock) (due : Nat) (locked : Bool) (vs : List (Port × V1024))
    (flags : Nat) :
    ((s.landAt n k so due locked vs flags).tile n).flights
      = (s.tile n).flights ++ flightsOf (s.tile n) k so due locked vs flags := by
  rw [landAt_eq, State.tile, landings_tiles, ← State.tile, State.tile_setTile_same]

theorem landAt_flights_other (s : State) (n m : Nat) (k : Ctx) (so : Sock) (due : Nat) (locked : Bool)
    (vs : List (Port × V1024)) (flags : Nat) (h : m ≠ n) :
    ((s.landAt n k so due locked vs flags).tile m).flights = (s.tile m).flights := by
  rw [landAt_eq, State.tile, landings_tiles, ← State.tile, State.tile_setTile_other _ _ _ _ h]

theorem draw_tile (s : State) (b n : Nat) : (s.draw b).2.tile n = s.tile n := rfl

theorem draw_unchanged (s : State) (b : Nat) : Unchanged s (s.draw b).2 :=
  ⟨fun _ _ => rfl, rest_of_tiles (fun _ => TileRest.refl _) rfl rfl rfl rfl rfl rfl rfl rfl fun _ h => h⟩

theorem draw_lt (s : State) (b : Nat) (h : 0 < b) : (s.draw b).1 < b := Nat.mod_lt _ h

/-- The open part of a data-locked latency, and the state after it is chosen. -/
def lag (s : State) (lat : Nat) : Nat × State := if 1 < lat then s.draw lat else (0, s)

theorem lag_lt (s : State) (lat : Nat) (h : 0 < lat) : (lag s lat).1 < lat := by
  unfold lag
  split
  · exact draw_lt s lat h
  · exact h

theorem lag_unchanged (s : State) (lat : Nat) : Unchanged s (lag s lat).2 := by
  unfold lag
  split
  · exact draw_unchanged s lat
  · exact Unchanged.refl s

theorem lag_tile (s : State) (lat n : Nat) : (lag s lat).2.tile n = s.tile n := by
  unfold lag
  split <;> rfl

theorem land_free (s : State) (n : Nat) (k : Ctx) (so : Sock) (lat : Nat) (vs : List (Port × V1024)) (flags : Nat)
    (h : (s.tile n).lockedMode so = false) : s.land n k so lat vs flags = s.landAt n k so (s.now + lat) false vs flags := by
  simp [State.land, h]

theorem landSooner_tiles (s : State) (n : Nat) (so : Sock) (f : Flight) (d : Option Nat) :
    (s.landSooner n so f d).tiles = s.tiles := by
  unfold State.landSooner
  split
  · rfl
  · split
    · rfl
    · dsimp only
      split <;> rfl

theorem landSooner_unchanged (s : State) (n : Nat) (so : Sock) (f : Flight) (d : Option Nat) :
    Unchanged s (s.landSooner n so f d) := by
  unfold State.landSooner
  split
  · exact Unchanged.refl s
  · split
    · exact Unchanged.refl s
    · dsimp only
      split
      · exact (schedule_unchanged s _ _ _).trans (schedule_unchanged _ _ _ _)
      · exact schedule_unchanged s _ _ _

theorem landSooner_mem (s : State) (n : Nat) (so : Sock) (f : Flight) (d : Nat) (h : f.due ≠ some d) :
    ({ cyc := d, prio := prioLand, ins := .resultLands n so f.po } : Agenda) ∈ (s.landSooner n so f (some d)).agenda := by
  unfold State.landSooner
  dsimp only
  rw [if_neg h]
  split
  · exact mem_schedule_of_mem _ _ _ (mem_schedule_self _ _ _ _)
  · exact mem_schedule_self _ _ _ _

/-- The landings that come sooner. -/
def sooner (s : State) (n : Nat) (so : Sock) (h : Flight → Option Nat) (l : List Flight) : State :=
  l.foldl (fun s f => s.landSooner n so f (h f)) s

theorem sooner_tiles (s : State) (n : Nat) (so : Sock) (h : Flight → Option Nat) (l : List Flight) :
    (sooner s n so h l).tiles = s.tiles := by
  induction l generalizing s with
  | nil => rfl
  | cons f l ih => exact (ih _).trans (landSooner_tiles _ _ _ _ _)

theorem sooner_unchanged (s : State) (n : Nat) (so : Sock) (h : Flight → Option Nat) (l : List Flight) :
    Unchanged s (sooner s n so h l) := by
  induction l generalizing s with
  | nil => exact Unchanged.refl s
  | cons f l ih => exact (landSooner_unchanged _ _ _ _ _).trans (ih _)

theorem sooner_mem (s : State) (n : Nat) (so : Sock) (h : Flight → Option Nat) (l : List Flight) (f : Flight) (d : Nat)
    (hf : f ∈ l) (hd : h f = some d) (hne : f.due ≠ some d) :
    ({ cyc := d, prio := prioLand, ins := .resultLands n so f.po } : Agenda) ∈ (sooner s n so h l).agenda := by
  induction l generalizing s with
  | nil => cases hf
  | cons g l ih =>
    rcases List.mem_cons.mp hf with rfl | hf
    · refine (sooner_unchanged _ n so h l).rest.time.agenda _ ?_
      show _ ∈ (s.landSooner n so f (h f)).agenda
      rw [hd]
      exact landSooner_mem _ _ _ _ _ hne
    · exact ih _ hf

theorem hasten_eq (s : State) (n : Nat) (so : Sock) (due : Nat) :
    s.hasten n so due = sooner (s.setTile n { s.tile n with
      flights := (s.tile n).flights.map fun f => { f with due := (s.tile n).hastenedDue s.now so due f } }) n so
        ((s.tile n).hastenedDue s.now so due) (s.tile n).flights := rfl

theorem hasten_tile (s : State) (n m : Nat) (so : Sock) (due : Nat) :
    (s.hasten n so due).tile m = if m = n then { s.tile n with
      flights := (s.tile n).flights.map fun f => { f with due := (s.tile n).hastenedDue s.now so due f } } else s.tile m := by
  rw [hasten_eq, State.tile, sooner_tiles, ← State.tile, tile_setTile]

theorem hasten_unchanged (s : State) (n : Nat) (so : Sock) (due : Nat) : Unchanged s (s.hasten n so due) := by
  rw [hasten_eq]
  refine Unchanged.trans ⟨setTile_contexts _ _ _ fun k => ?_, setTile_rest _ _ _ ?_⟩ (sooner_unchanged _ _ _ _ _)
  · cases k <;> rfl
  · exact ⟨rfl, rfl, rfl, rfl, rfl, rfl, rfl, rfl, rfl, rfl, rfl, rfl⟩

theorem count_pos (ds : List Nat) (d : Nat) (h : d ∈ ds) : 0 < ((ds.filter fun e => decide (d ≤ e)).dedup).length := by
  rw [List.length_pos_iff_exists_mem]
  exact ⟨d, by simp [h]⟩

theorem dedup_length_le {l m : List Nat} (h : l ⊆ m) : l.dedup.length ≤ m.dedup.length :=
  ((List.nodup_dedup l).subperm fun _ hx => List.mem_dedup.mpr (h (List.mem_dedup.mp hx))).length_le

theorem count_anti (ds : List Nat) {a b : Nat} (h : a ≤ b) :
    ((ds.filter fun e => decide (b ≤ e)).dedup).length ≤ ((ds.filter fun e => decide (a ≤ e)).dedup).length :=
  dedup_length_le fun x hx => by
    simp only [List.mem_filter, decide_eq_true_eq] at *
    exact ⟨hx.1, by omega⟩

/-- What `hasten` does to the results of its tile. -/
theorem hasten_hastened (s : State) (n : Nat) (so : Sock) (due : Nat) (hd : s.now < due) :
    Hastened s (s.hasten n so due) n so due ((s.tile n).hastenedDue s.now so due) := by
  have hl : ∀ f : Flight, f.so = so → f.locked = true → (s.tile n).hastenedDue s.now so due f = f.due.map fun c =>
      min c (max s.now (hastened (((s.tile n).flights.filter fun g => g.so = so && g.locked).filterMap (·.due)) due c)) := by
    intro f h1 h2
    simp [Tile.hastenedDue, h1, h2]
  refine ⟨fun f _ h => ?_, fun f _ h => ?_, fun f hf h1 h2 c hc => ?_, fun f _ g _ h1 h2 h3 h4 a b a' b' ha hb hab ha' hb' => ?_⟩
  · unfold Tile.hastenedDue
    rcases h with h | h <;> simp [h]
  · unfold Tile.hastenedDue
    simp [h]
  · have hm : c ∈ ((s.tile n).flights.filter fun g => g.so = so && g.locked).filterMap (·.due) := by
      simp only [List.mem_filterMap, List.mem_filter, Bool.and_eq_true, decide_eq_true_eq]
      exact ⟨f, ⟨hf, h1, h2⟩, hc⟩
    have hp := count_pos _ _ hm
    have he := hl f h1 h2
    rw [hc, Option.map_some] at he
    refine ⟨_, he, Nat.min_le_left _ _, ?_, fun hne => ⟨?_, ?_⟩⟩
    · unfold hastened
      omega
    · omega
    · rw [hasten_eq]
      exact sooner_mem _ _ _ _ _ _ _ hf he fun h => hne (by rw [hc] at h; exact (Option.some.inj h).symm)
  · rw [hl f h1 h2, ha, Option.map_some, Option.some.injEq] at ha'
    rw [hl g h3 h4, hb, Option.map_some, Option.some.injEq] at hb'
    have := count_anti (((s.tile n).flights.filter fun g => g.so = so && g.locked).filterMap (·.due)) hab
    unfold hastened at ha' hb'
    omega

/-- The state before a data-locked result joins those in flight. -/
theorem land_locked (s : State) (n : Nat) (k : Ctx) (so : Sock) (lat : Nat) (vs : List (Port × V1024)) (flags : Nat)
    (h : (s.tile n).lockedMode so = true) :
    s.land n k so lat vs flags
      = (((lag s lat).2.hasten n so ((lag s lat).2.lockedDue n so (lag s lat).1 lat))).landAt n k so
        ((lag s lat).2.lockedDue n so (lag s lat).1 lat) true vs flags := by
  simp [State.land, h, lag]

/-- What `land` does: the results are in flight within the bounds of 03 R59 and R60, and all else is unchanged. -/
theorem land_lands (s : State) (so : Sock) (lat : Nat) (vs : List (Port × V1024)) (flags : Nat) (hl : 0 < lat) :
    Lands s (s.land s.hand.tile s.hand.ctx so lat vs flags) so lat vs flags
      ∧ Unchanged s (s.land s.hand.tile s.hand.ctx so lat vs flags) := by
  by_cases hm : (s.tile s.hand.tile).lockedMode so = true
  · rw [land_locked _ _ _ _ _ _ _ hm]
    have hn : (lag s lat).2.now = s.now := (lag_unchanged s lat).rest.time.now
    have hg : s.now < (lag s lat).2.lockedDue s.hand.tile so (lag s lat).1 lat
        ∧ (lag s lat).2.lockedDue s.hand.tile so (lag s lat).1 lat ≤ s.now + lat := by
      unfold State.lockedDue
      rw [hn]
      omega
    have hh := hasten_hastened (lag s lat).2 s.hand.tile so _ (by rw [hn]; exact hg.1)
    refine ⟨⟨_, ((lag s lat).2.tile s.hand.tile).hastenedDue (lag s lat).2.now so
        ((lag s lat).2.lockedDue s.hand.tile so (lag s lat).1 lat), ?_, fun m h => ?_, fun p hp => ?_, ?_,
        fun _ => ⟨hg.1, hg.2, ?_⟩⟩,
      ((lag_unchanged s lat).trans (hasten_unchanged _ _ _ _)).trans (landAt_unchanged _ _ _ _ _ _ _ _)⟩
    · rw [landAt_flights, hasten_tile, if_pos rfl, lag_tile, hm]
      rfl
    · rw [landAt_flights_other _ _ _ _ _ _ _ _ _ h, hasten_tile, if_neg h, lag_tile]
    · exact landings_mem _ _ _ _ _ p hp
    · intro h
      rw [hm] at h
      cases h
    · simp only [Hastened, lag_tile, hn] at hh ⊢
      refine ⟨hh.1, hh.2.1, fun f hf h1 h2 c hc => ?_, hh.2.2.2⟩
      obtain ⟨d, a1, a2, a3, a4⟩ := hh.2.2.1 f hf h1 h2 c hc
      exact ⟨d, a1, a2, a3, fun hne => ⟨(a4 hne).1, (landAt_unchanged _ _ _ _ _ _ _ _).rest.time.agenda _ (a4 hne).2⟩⟩
  · have hf : (s.tile s.hand.tile).lockedMode so = false := by simpa using hm
    rw [land_free _ _ _ _ _ _ _ hf]
    refine ⟨⟨s.now + lat, (·.due), ?_, fun m h => landAt_flights_other _ _ _ _ _ _ _ _ _ h, fun p hp => ?_,
      fun _ => ⟨rfl, fun _ _ => rfl⟩, ?_⟩, landAt_unchanged _ _ _ _ _ _ _ _⟩
    · rw [landAt_flights, hf]
      simp only [List.map_id']
      rfl
    · exact landings_mem _ _ _ _ _ p hp
    · intro h
      rw [hf] at h
      cases h

/-- A result of latency 1. -/
theorem result_lands (s : State) (so : Sock) (v : W64) :
    Lands s (s.result so v) so 1 [(.r, wide v)] 0 ∧ Unchanged s (s.result so v) :=
  land_lands s so 1 [(.r, wide v)] 0 Nat.one_pos

/-- An operation without a failing check that K3 does not run as ballast has its effect. -/
theorem operate_next (s : State) (eff : State → State) (chk : Option Raise) (h : s.discards = false) (hc : chk = none) :
    s.operate chk eff = .next (eff s) := by
  simp [State.operate, h, hc]

end Sys2Proof.Machine
end

