-- ==== Sys2Proof/Laws/Vector.lean ====
section
/-!
SUPPORT. Values packed from elements: reading element j gives what was packed there; the flags of a value are those of its
elements; what the vector sockets do with a value.
-/

namespace Sys2Proof

theorem packNat_lt (w : Nat) (vs : List Nat) : packNat w vs < 2 ^ (w * vs.length) := by
  induction vs with
  | nil => simp [packNat]
  | cons v vs ih =>
    have hv : v % 2 ^ w < 2 ^ w := Nat.mod_lt _ (Nat.two_pow_pos w)
    have h1 : packNat w vs + 1 ≤ 2 ^ (w * vs.length) := ih
    have h2 := Nat.mul_le_mul_right (2 ^ w) h1
    rw [List.length_cons, Nat.mul_succ, Nat.pow_add, packNat]
    rw [Nat.add_mul, Nat.one_mul] at h2
    omega

theorem packNat_div (w j : Nat) (vs : List Nat) : packNat w vs / 2 ^ (w * j) % 2 ^ w = vs.getD j 0 % 2 ^ w := by
  induction vs generalizing j with
  | nil => simp [packNat]
  | cons v vs ih =>
    have hp : 0 < 2 ^ w := Nat.two_pow_pos w
    cases j with
    | zero => simp [packNat, Nat.add_mul_mod_self_right]
    | succ j =>
      have h : packNat w (v :: vs) / 2 ^ w = packNat w vs := by
        rw [packNat, Nat.add_mul_div_right _ _ hp, Nat.div_eq_of_lt (Nat.mod_lt _ hp), Nat.zero_add]
      rw [Nat.mul_succ, Nat.add_comm, Nat.pow_add, ← Nat.div_div_eq_div_mul, h, ih, List.getD_cons_succ]

theorem bits_packV (w j : Nat) (vs : List Nat) (h : w * vs.length ≤ 1024) :
    bits (packV w vs) (w * j) w = vs.getD j 0 % 2 ^ w := by
  have hlt : packNat w vs < 2 ^ 1024 := lt_of_lt_of_le (packNat_lt w vs) (Nat.pow_le_pow_right Nat.two_pos h)
  rw [bits, packV, BitVec.toNat_ofNat, Nat.mod_eq_of_lt hlt, Nat.shiftRight_eq_div_pow, packNat_div]

theorem bits_mapElems (w n j : Nat) (f : Nat → Nat) (h : w * n ≤ 1024) (hj : j < n) :
    bits (mapElems w n f) (w * j) w = f j % 2 ^ w := by
  rw [mapElems, bits_packV w j _ (by simpa using h)]
  simp [hj]

end Sys2Proof

namespace Sys2Proof.Machine

theorem testBit_foldl_or {α : Type} (l : List α) (g : α → Nat) (z b : Nat) :
    (l.foldl (fun a c => a ||| g c) z).testBit b = (z.testBit b || l.any fun c => (g c).testBit b) := by
  induction l generalizing z with
  | nil => simp
  | cons c l ih => rw [List.foldl_cons, ih, Nat.testBit_or, List.any_cons, Bool.or_assoc]

theorem bits_mapCoded (w n j : Nat) (f : Nat → Coded) (h : w * n ≤ 1024) (hj : j < n) :
    bits (mapCoded w n f).1 (w * j) w = (f j).1 % 2 ^ w := by
  rw [mapCoded, bits_packV w j _ (by simpa using h)]
  simp [hj]

theorem flags_mapCoded (w n b : Nat) (f : Nat → Coded) :
    (mapCoded w n f).2.testBit b = (List.range n).any fun j => (f j).2.testBit b := by
  rw [mapCoded, testBit_foldl_or, Nat.zero_testBit, Bool.false_or, List.any_map]
  rfl

/-- What `vecOut` does. -/
theorem vecOut_yields (i : Instr) (s : State) (so : Sock) (lat : Nat) (r : V1024 × Nat) (h : s.discards = false) (hl : 0 < lat)
    (hi : exec i s = s.vecOut so lat r) : Yields i s so lat [(.r, r.1), (.f, BitVec.ofNat 1024 r.2)] r.2 :=
  ⟨_, hi.trans (operate_next _ _ _ h rfl), land_lands s so lat _ _ hl⟩

/-- What `vecOut` does with a value made element by element under the socket's mask. -/
theorem vecOut_elements (i : Instr) (s : State) (so : Sock) (lat w : Nat) (f : Nat → Coded) (h : s.discards = false) (hl : 0 < lat)
    (hw : w * (1024 / w) ≤ 1024)
    (hi : exec i s = s.vecOut so lat
      (mapCoded w (1024 / w) fun j => if excludedElem (s.mask so) w j then (0, 0) else f j)) :
    YieldsElements i s so lat w f := by
  refine ⟨_, _, fun j hj => ?_, fun b => ?_, vecOut_yields i s so lat _ h hl hi⟩
  · rw [bits_mapCoded w _ j _ hw hj, excludedElem, excluded]
    by_cases hm : (s.mask so).testBit (w * j / 32) = true <;> simp [hm]
  · rw [flags_mapCoded, List.any_eq_true]
    constructor
    · rintro ⟨j, hj, hb⟩
      refine ⟨j, List.mem_range.mp hj, ?_⟩
      rw [excludedElem, excluded] at hb
      cases hm : (s.mask so).testBit (w * j / 32) with
      | true => simpa [hm] using hb
      | false => simp [hm] at hb
    · rintro ⟨j, hj, hm, hb⟩
      refine ⟨j, List.mem_range.mpr hj, ?_⟩
      simp only at hm
      rw [excludedElem, excluded, hm]
      simpa using hb

end Sys2Proof.Machine
end

