-- ==== Sys2Proof/Tests/Slice0.lean ====
section
/-!
SUPPORT. The model's own tests: ill-formed terms that WellFormed refuses, words written out from the encodings of the
spec, small single steps whose expected results are the manual's own examples, and states that meet the hypotheses of
the obligations.
-/

namespace Sys2Proof.Tests

set_option Elab.async false

open Sys2Proof Sys2Proof.Machine

/-! ## WellFormed refuses -/

/-- Tiles: 1,728 physical ones and the waymark tile, 0x7FF (01 R12, R18). -/
theorem wf_refuses_tiles :
    (Instr.throttledCycle 1728).wf = false ∧ (Instr.throttledCycle 2046).wf = false ∧ (Instr.throttledCycle 0x7FF).wf = true
      ∧ (Instr.throttledCycle 1727).wf = true ∧ (Instr.transportWord 1728 .k0 (wordOf 0#512)).wf = false := by decide

/-- A word whose header has a reserved bit or a kind other than 0, or that names a socket port its bus does not reach
(02 R43). -/
theorem wf_refuses_words :
    (Instr.transportWord 0 .k0 (wordOf (BitVec.ofNat 512 (1 * 2 ^ 480)))).wf = false
      ∧ (Instr.transportWord 0 .k0 (wordOf (BitVec.ofNat 512 (1 * 2 ^ 508)))).wf = false
      ∧ (Instr.transportWord 0 .k0 (wordOf (BitVec.ofNat 512 (0x02014104 * 2 ^ (448 - 32 * 8))))).wf = false
      ∧ (Instr.transportWord 0 .k0 (wordOf 0#512)).wf = true := by decide +kernel

/-- A result port that its socket does not have (02 R29), an entry past 63, a header that consumes what it produces (02
R33). -/
theorem wf_refuses_fields :
    (Instr.resultLands 0 .tsw .r).wf = false ∧ (Instr.resultLands 0 .alu0 .q).wf = false ∧ (Instr.entryFire 0 64).wf = false
      ∧ (Instr.mxMm { tokp := 5#6, toka := 5#6, tokb := 63#6, tokc := 63#6 }).wf = false
      ∧ (Instr.mxMm { tokp := 63#6, toka := 63#6, tokb := 63#6, tokc := 63#6 }).wf = true := by decide

/-- Groups, link ends, chains, granules, requesters, bank rows and halves that the part does not have. -/
theorem wf_refuses_units :
    (Instr.milestoneRelease { lvl := 0, idx := 192 }).wf = false ∧ (Instr.milestoneRelease { lvl := 2, idx := 4 }).wf = false
      ∧ (Instr.milestoneRelease { lvl := 5, idx := 0 }).wf = false ∧ (Instr.heartbeatSend (.port 32)).wf = false
      ∧ (Instr.linkDown 32).wf = false ∧ (Instr.mxGangStart 192).wf = false ∧ (Instr.granuleDrained 512).wf = false
      ∧ (Instr.sramBankAccess 0 8 0 0).wf = false ∧ (Instr.sramCorrectedRewrite 0 8 0 0).wf = false
      ∧ (Instr.sramCorrectedRewrite 0 0 384 0).wf = false ∧ (Instr.sramCorrectedRewrite 0 0 0 2).wf = false
      ∧ (Instr.truncationTimeout 0 0#2 0#1).wf = false ∧ (Instr.fabricPortTrain 0 256 0 true).wf = false
      ∧ (Instr.fenceW 6).wf = false ∧ (Instr.fenceRw 6).wf = false ∧ (Instr.mwaitWake .k0 3).wf = false
      ∧ (Instr.scrub (2 ^ 33)).wf = false ∧ (Instr.hostRead (2 ^ 52 + 256)).wf = false ∧ (Instr.launch (2 ^ 32)).wf = false
      ∧ (Instr.sensorLatch []).wf = false ∧ (Instr.sensorLatch (List.replicate 44 0)).wf = true := by decide

/-! ## Words written out from the encodings -/

/-- The bits of a word with header h and the slots given (02 R23). -/
def word (h : Nat) (slots : List (Nat × Nat)) : W512 :=
  BitVec.ofNat 512 (h * 2 ^ 480 + (slots.map fun p => p.2 * 2 ^ (448 - 32 * p.1)).sum)

/-- Whether K0 of tile 0 decodes a word, as the moves and headers that these are. -/
def reads (b : W512) (ms : List Move) (hs : List (Nat × Instr)) : Bool :=
  match decodeWord 0 .k0 b with
  | .ok i => decide (i = .transportWord 0 .k0 (wordOf b)) && decide (movesOf .k0 (wordOf b) = ms)
      && hs.all fun h => decide (decodeHeader h.1 (slotOf (wordOf b) h.1) = some h.2)
  | .error _ => false

def mv (slot : Nat) (src : Src) (dst : Dst) : Move :=
  { slot := slot, ctx := .k0, src := src, dst := dst, limm := 0#32, guard := 0, neg := false }

/-- 02, the first encoding example: `s4 -> alu0.o | #12 -> alu0.t.add`. -/
theorem decode_add :
    reads (word 0x00000800 [(0, 0x00224200), (1, 0x02064300)])
      [mv 0 (.reg .s 4) (.opnd .alu0 false), mv 1 (.imm 12#10) (.trig .alu0 false 0)] [] = true := by decide +kernel

/-- 02, the second: a guarded long immediate to s9 beside `mx.mm tok=5 after=1,2`. -/
theorem decode_limm_and_header :
    reads (word 0x00004800 [(0, 0x34008049), (1, 0x00012345), (12, 0x011410BF)])
      [{ slot := 0, ctx := .k0, src := .limm, dst := .reg .s 9, limm := 0x12345#32, guard := 6, neg := true }]
      [(12, .mxMm { tokp := 5#6, toka := 1#6, tokb := 2#6, tokc := 63#6 })] = true := by decide +kernel

/-- Whether each destination field names its operation, with function sel of its operands. -/
def named (sel : Nat) (l : List (Nat × Instr)) : Bool := l.all fun p => decide (decodeTrig (BitVec.ofNat 15 p.1) sel = some p.2)

/-- 03 R70: the guard and lane-mask operations of `alu0` and `alu1`. -/
theorem decode_guards :
    named 0
      [(0x4328, Instr.gpack .a), (0x4528, .gpack .b), (0x4329, .gset .a false), (0x4529, .gset .b false), (0x43A9, .gset .a true),
      (0x45A9, .gset .b true), (0x432A, .kfill .a), (0x452A, .kfill .b), (0x432B, .klow .a), (0x452B, .klow .b),
      (0x432C, .khigh .a), (0x452C, .khigh .b)] = true := by decide +kernel

/-- 05 R106: the operations of `alu0`; those of `alu1` are 0x200 above (R104). -/
theorem decode_alu :
    named 0
      [(0x4300, Instr.aluAdd .a), (0x4301, .aluSub .a false), (0x4381, .aluSub .a true), (0x4302, .aluAddc .a),
      (0x4303, .aluSubb .a false), (0x4383, .aluSubb .a true), (0x4304, .aluAddsS64 .a), (0x4305, .aluAddsN64 .a),
      (0x4306, .aluSubsS64 .a false), (0x4386, .aluSubsS64 .a true), (0x4307, .aluSubsN64 .a false),
      (0x4387, .aluSubsN64 .a true), (0x4308, .aluAnd .a), (0x4309, .aluOr .a), (0x430A, .aluXor .a),
      (0x430B, .aluAndn .a false), (0x438B, .aluAndn .a true), (0x430C, .aluShl .a false), (0x438C, .aluShl .a true),
      (0x430D, .aluShrN64 .a false), (0x438D, .aluShrN64 .a true), (0x430E, .aluShrS64 .a false), (0x438E, .aluShrS64 .a true),
      (0x430F, .aluRol .a false), (0x438F, .aluRol .a true), (0x4310, .aluRor .a false), (0x4390, .aluRor .a true),
      (0x4311, .aluCeq .a), (0x4312, .aluCne .a), (0x4313, .aluCltS64 .a false), (0x4393, .aluCltS64 .a true),
      (0x4314, .aluCltN64 .a false), (0x4394, .aluCltN64 .a true), (0x4315, .aluCleS64 .a false), (0x4395, .aluCleS64 .a true),
      (0x4316, .aluCleN64 .a false), (0x4396, .aluCleN64 .a true), (0x4317, .aluMinS64 .a), (0x4318, .aluMinN64 .a),
      (0x4319, .aluMaxS64 .a), (0x431A, .aluMaxN64 .a), (0x431B, .aluSel .a false), (0x439B, .aluSel .a true),
      (0x431C, .aluAbsS64 .a), (0x431D, .aluPass .a), (0x431E, .aluPopc .a), (0x431F, .aluClz .a), (0x4320, .aluCtz .a),
      (0x4321, .aluBfxS64 .a), (0x4322, .aluBfxN64 .a), (0x4323, .aluBfi .a)] = true := by decide +kernel

/-- 05 R114: the operations of `mul`. -/
theorem decode_mul :
    named 0
      [(0x4700, Instr.mulS64), (0x4701, .mulN64), (0x4702, .madS64), (0x4703, .madN64), (0x4704, .mulS32), (0x4705, .mulN32),
      (0x4706, .divS64 false), (0x4786, .divS64 true), (0x4707, .divN64 false), (0x4787, .divN64 true), (0x4708, .mulrS64)] = true := by decide +kernel

/-- 05 R125: the operations of `agu`. -/
theorem decode_agu :
    named 0
      [(0x4900, Instr.aguPstr), (0x4901, .aguPwin), (0x4902, .aguPreg), (0x4903, .aguPget), (0x4904, .aguPadv),
      (0x4905, .aguPpeek), (0x4906, .aguPcopy), (0x4907, .aguRchk), (0x4908, .aguRassert), (0x4909, .aguRget), (0x490A, .aguLea)] = true := by decide +kernel

/-- 04 R96: the operations of `ctl`. -/
theorem decode_ctl :
    named 0
      [(0x4100, Instr.ctlJmp), (0x4101, .ctlJmpr), (0x4102, .ctlCall), (0x4103, .ctlRet), (0x4104, .ctlLoop), (0x4105, .ctlLdim),
      (0x4106, .ctlLidx), (0x4107, .ctlLexit), (0x4108, .ctlRetire), (0x4109, .ctlYield), (0x410A, .ctlTrap), (0x410B, .ctlUret),
      (0x410C, .ctlWtok), (0x410D, .ctlWcyc), (0x410E, .ctlQadd), (0x410F, .ctlQread), (0x4110, .ctlWhere), (0x4111, .ctlHset)] = true := by decide +kernel

/-- 09 R190, R191: the operations of `ld0`, `ld1`, `st0` and `st1`. -/
theorem decode_memory :
    named 0
      [(0x4B00, Instr.ldN8 .a), (0x4D00, .ldN8 .b), (0x4B01, .ldN16 .a), (0x4D01, .ldN16 .b), (0x4B02, .ldN32 .a),
      (0x4D02, .ldN32 .b), (0x4B03, .ldX64 .a), (0x4D03, .ldX64 .b), (0x4B04, .ldS8 .a), (0x4D04, .ldS8 .b), (0x4B05, .ldS16 .a),
      (0x4D05, .ldS16 .b), (0x4B06, .ldS32 .a), (0x4D06, .ldS32 .b), (0x4B08, .ldB128 .a), (0x4D08, .ldB128 .b),
      (0x4B09, .ldB256 .a), (0x4D09, .ldB256 .b), (0x4B0A, .ldB512 .a), (0x4D0A, .ldB512 .b), (0x4B0B, .ldB1024 .a),
      (0x4D0B, .ldB1024 .b), (0x4B0C, .ldM1024 .a), (0x4D0C, .ldM1024 .b), (0x4B0D, .ldSd32 .a), (0x4D0D, .ldSd32 .b),
      (0x4B10, .ldFl64 .a), (0x4D10, .ldFl64 .b), (0x4B11, .ldFl1024 .a), (0x4D11, .ldFl1024 .b), (0x4F00, .stB8 .a),
      (0x5100, .stB8 .b), (0x4F01, .stB16 .a), (0x5101, .stB16 .b), (0x4F02, .stB32 .a), (0x5102, .stB32 .b),
      (0x4F03, .stB64 .a), (0x5103, .stB64 .b), (0x4F08, .stB128 .a), (0x5108, .stB128 .b), (0x4F09, .stB256 .a),
      (0x5109, .stB256 .b), (0x4F0A, .stB512 .a), (0x510A, .stB512 .b), (0x4F0B, .stB1024 .a), (0x510B, .stB1024 .b),
      (0x4F0C, .stM1024 .a), (0x510C, .stM1024 .b), (0x4F0D, .stSd32 .a), (0x510D, .stSd32 .b)] = true := by decide +kernel

/-- 07 R155: the operations of `vfa`. -/
theorem decode_vfa :
    named 0
      [(0x5300, Instr.vfaAdd .f32), (0x5301, .vfaAdd .bf16), (0x5302, .vfaAdd .f16), (0x5303, .vfaBdot),
      (0x5304, .vfaSub .f32 false), (0x5384, .vfaSub .f32 true), (0x5305, .vfaSub .bf16 false), (0x5385, .vfaSub .bf16 true),
      (0x5306, .vfaSub .f16 false), (0x5386, .vfaSub .f16 true), (0x5308, .vfaMul .f32), (0x5309, .vfaMul .bf16),
      (0x530A, .vfaMul .f16), (0x530C, .vfaFma .f32 false), (0x538C, .vfaFma .f32 true), (0x530D, .vfaFma .bf16 false),
      (0x538D, .vfaFma .bf16 true), (0x530E, .vfaFma .f16 false), (0x538E, .vfaFma .f16 true), (0x5310, .vfaFms .f32 false),
      (0x5390, .vfaFms .f32 true), (0x5311, .vfaFms .bf16 false), (0x5391, .vfaFms .bf16 true), (0x5312, .vfaFms .f16 false),
      (0x5392, .vfaFms .f16 true), (0x5314, .vfaFnma .f32 false), (0x5394, .vfaFnma .f32 true), (0x5315, .vfaFnma .bf16 false),
      (0x5395, .vfaFnma .bf16 true), (0x5316, .vfaFnma .f16 false), (0x5396, .vfaFnma .f16 true), (0x5318, .vfaFnms .f32 false),
      (0x5398, .vfaFnms .f32 true), (0x5319, .vfaFnms .bf16 false), (0x5399, .vfaFnms .bf16 true), (0x531A, .vfaFnms .f16 false),
      (0x539A, .vfaFnms .f16 true), (0x531C, .vfaMin .f32), (0x531D, .vfaMin .bf16), (0x531E, .vfaMin .f16),
      (0x5320, .vfaMax .f32), (0x5321, .vfaMax .bf16), (0x5322, .vfaMax .f16), (0x5324, .vfaCmp .f32 false),
      (0x53A4, .vfaCmp .f32 true), (0x5325, .vfaCmp .bf16 false), (0x53A5, .vfaCmp .bf16 true), (0x5326, .vfaCmp .f16 false),
      (0x53A6, .vfaCmp .f16 true), (0x5328, .vfaClass .f32), (0x5329, .vfaClass .bf16), (0x532A, .vfaClass .f16),
      (0x532C, .vfaScale .f32 false), (0x53AC, .vfaScale .f32 true), (0x532D, .vfaScale .bf16 false),
      (0x53AD, .vfaScale .bf16 true), (0x532E, .vfaScale .f16 false), (0x53AE, .vfaScale .f16 true)] = true := by decide +kernel

/-- 07 R159: the operations of `vfb`. -/
theorem decode_vfb :
    named 0
      [(0x5500, Instr.vfbIadd .n8), (0x5501, .vfbIadd .n16), (0x5502, .vfbIadd .n32), (0x5504, .vfbIsub .n8 false),
      (0x5584, .vfbIsub .n8 true), (0x5505, .vfbIsub .n16 false), (0x5585, .vfbIsub .n16 true), (0x5506, .vfbIsub .n32 false),
      (0x5586, .vfbIsub .n32 true), (0x5508, .vfbImul .n8), (0x5509, .vfbImul .n16), (0x550A, .vfbImul .n32),
      (0x550C, .vfbIadds .n8), (0x550D, .vfbIadds .n16), (0x550E, .vfbIadds .n32), (0x5510, .vfbIminS .n8),
      (0x5511, .vfbIminS .n16), (0x5512, .vfbIminS .n32), (0x5514, .vfbImaxS .n8), (0x5515, .vfbImaxS .n16),
      (0x5516, .vfbImaxS .n32), (0x5518, .vfbIminN .n8), (0x5519, .vfbIminN .n16), (0x551A, .vfbIminN .n32),
      (0x551C, .vfbImaxN .n8), (0x551D, .vfbImaxN .n16), (0x551E, .vfbImaxN .n32), (0x5520, .vfbAnd), (0x5521, .vfbOr),
      (0x5522, .vfbXor), (0x5523, .vfbBsel false), (0x55A3, .vfbBsel true), (0x5524, .vfbShlN32 false),
      (0x55A4, .vfbShlN32 true), (0x5525, .vfbShrN32 false), (0x55A5, .vfbShrN32 true), (0x5526, .vfbShrS32 false),
      (0x55A6, .vfbShrS32 true), (0x5527, .vfbIcmpS32 false), (0x55A7, .vfbIcmpS32 true), (0x5528, .vfbIcmpN32 false),
      (0x55A8, .vfbIcmpN32 true), (0x5529, .kpack), (0x552A, .sbcast), (0x552B, .lbcast), (0x552C, .perm),
      (0x552D, .slideup false), (0x55AD, .slideup true), (0x552E, .slidedn false), (0x55AE, .slidedn true), (0x5530, .cvt),
      (0x5531, .mxpack), (0x5532, .mxunpack), (0x5533, .rsumF32), (0x5534, .rmaxF32), (0x5535, .rminF32), (0x5536, .rsumS32),
      (0x5538, .vfbFmaF32 false), (0x55B8, .vfbFmaF32 true), (0x5539, .vfbFmsF32 false), (0x55B9, .vfbFmsF32 true),
      (0x553A, .vfbFnmaF32 false), (0x55BA, .vfbFnmaF32 true), (0x553B, .vfbFnmsF32 false), (0x55BB, .vfbFnmsF32 true)] = true := by decide +kernel

/-- 08 R170: the operations of `sfu`. -/
theorem decode_sfu :
    named 0
      [(0x5700, Instr.recipF32), (0x5701, .divF32), (0x5702, .sqrtF32), (0x5703, .rsqrtF32), (0x5704, .expF32),
      (0x5705, .exp2F32), (0x5706, .logF32), (0x5707, .log2F32), (0x5708, .tanhF32), (0x5709, .sigmoidF32), (0x570A, .geluF32),
      (0x5710, .rsumdF32), (0x5711, .rmeanF32), (0x5712, .rvarF32), (0x5714, .smexpF32), (0x5715, .smadd), (0x5716, .smoutF32)] = true := by decide +kernel

/-- 10 R226, 11 R247, 13 R290, 14 R313: the operations of `mx`, `tsw`, `ce` and `ns`. -/
theorem decode_engines :
    named 0
      [(0x5900, Instr.fset), (0x5901, .fget), (0x5902, .tcread), (0x5903, .tcclr), (0x5904, .chkrd), (0x5905, .chkclr),
      (0x5906, .dur), (0x5907, .mxStat), (0x5B00, .tsin), (0x5B01, .tsout), (0x5B02, .tscopy), (0x5B03, .tsfill),
      (0x5B04, .scin), (0x5B05, .scout), (0x5B06, .wbin), (0x5B07, .wbout), (0x5D00, .ceStat), (0x5D01, .ceProg),
      (0x5D02, .ceLast), (0x5D03, .ceAbort), (0x5F00, .nsSend), (0x5F01, .nsRst), (0x5F02, .nsRatom), (0x5F03, .nsXsend),
      (0x5F04, .nsRecv), (0x5F05, .nsPeek), (0x5F06, .nsRelease), (0x5F07, .nsStat), (0x5F08, .nsLast), (0x5F09, .nsSpill),
      (0x5F0A, .nsLback), (0x5F0B, .nsReject), (0x5F0C, .nsOvclr)] = true := by decide +kernel

/-- 12 R258, R273, 15 R343: the operations of `sem` and `syn`. -/
theorem decode_sync :
    named 0
      [(0x6100, Instr.semTake), (0x6101, .semPut), (0x6102, .semLd), (0x6103, .semSt), (0x6104, .semAdd), (0x6105, .semAnd),
      (0x6106, .semOr), (0x6107, .semMaxS64), (0x6108, .semMaxN64), (0x6109, .semMinS64), (0x610A, .semMinN64),
      (0x610B, .semCas), (0x610C, .semWadd), (0x610D, .semQlen), (0x610E, .semSrcrd), (0x610F, .semSrcdrop), (0x6300, .tpend),
      (0x6301, .tdone), (0x6302, .tstat), (0x6303, .tmap), (0x6304, .pace), (0x6305, .pacefx), (0x6306, .wtime),
      (0x6307, .synMstat), (0x6308, .xcyc), (0x6309, .bstat)] = true := by decide +kernel

/-- 18 R404, 17 R395, 16 R356: the operations of `sys` that their opcode names. -/
theorem decode_sys :
    named 0
      [(0x6500, Instr.csrr), (0x6501, .csrw), (0x6502, .xcsrr), (0x6503, .xcsrw), (0x6505, .pairon), (0x6506, .pairoff),
      (0x6507, .mwait), (0x6508, .tlbprobe), (0x650B, .gstat), (0x650C, .ptclr), (0x6510, .fenceW 0), (0x6511, .fenceW 1),
      (0x6512, .fenceW 2), (0x6513, .fenceW 3), (0x6514, .fenceW 4), (0x6515, .fenceW 5), (0x6518, .fenceRw 0),
      (0x6519, .fenceRw 1), (0x651A, .fenceRw 2), (0x651B, .fenceRw 3), (0x651C, .fenceRw 4), (0x651D, .fenceRw 5)] = true := by decide +kernel

/-- 05 R104: the destination fields of `alu1` are those of `alu0` plus 0x200. -/
theorem decode_alu1 :
    named 0 [(0x4500, Instr.aluAdd .b), (0x4581, .aluSub .b true), (0x4523, .aluBfi .b)] = true := by decide +kernel

/-- 18 R418, 17 R398, R400: the functions of `tctl`, the kinds of `tlbinv` and the operations of `gctl` that the
operands name. -/
theorem decode_functions :
    (List.range 10).map (decodeTrig 0x6504#15 ·) = [some .tctlFreeze, some .tctlResume, some .tctlHalt, some .tctlUnhalt, some .tctlSave,
        some .tctlRestore, some .tctlResumeContext, some .tctlKillContext, some .tctlClearContext, some .tctlRollback]
      ∧ (List.range 4).map (decodeTrig 0x6509#15 ·) = [some .tlbinvAddress, some .tlbinvAsid, some .tlbinvGlobal, some .tlbinvAll]
      ∧ (List.range 3).map (decodeTrig 0x650A#15 ·) = [some .gctlOffline, some .gctlOnline, some .gctlConvert] := by decide +kernel

/-! ### Words of the manual's examples -/

/-- 04, words 18 and 20 of the loop-nest example; word 20 closes the body. -/
theorem decode_loop :
    reads (word 0x00000800 [(0, 0x02014104)]) [mv 0 (.imm 2#10) (.trig .ctl false 0x04)] [] = true
      ∧ reads (word 0x00001800 [(0, 0x01000042)]) [mv 0 (.port .ctl .r) (.reg .s 2)] [] = true
      ∧ (wordOf (word 0x00001800 [])).loopend = 1#1 ∧ (wordOf (word 0x00000800 [])).mergeok = 1#1 := by decide +kernel

/-- 05, the pointer advance: `#1 -> agu.o | #2 -> agu.t.padv`; the multiword addition's third word. -/
theorem decode_scalar :
    reads (word 0x00000800 [(0, 0x0200C800), (1, 0x02014904)])
        [mv 0 (.imm 1#10) (.opnd .agu false), mv 1 (.imm 2#10) (.trig .agu false 0x04)] [] = true
      ∧ reads (word 0x00000800 [(1, 0x01094280), (2, 0x0020C200), (3, 0x0021C302)])
        [mv 1 (.port .alu0 .f) (.opnd .alu0 true), mv 2 (.reg .s 1) (.opnd .alu0 false), mv 3 (.reg .s 3) (.trig .alu0 false 0x02)] []
        = true := by decide +kernel

/-- 08, the soft-maximum word; 09 and 13, loads of eight bytes. -/
theorem decode_wide :
    reads (word 0x00000800 [(0, 0x0205C10D), (4, 0x02105680), (5, 0x0040D714)])
        [mv 0 (.imm 11#10) (.trig .ctl false 0x0D), mv 4 (.imm 32#10) (.opnd .sfu true), mv 5 (.reg .v 1) (.trig .sfu false 0x14)] []
        = true
      ∧ reads (word 0x00000800 [(9, 0x0022CD03)]) [mv 9 (.reg .s 5) (.trig .ld1 false 0x03)] [] = true
      ∧ reads (word 0x00000800 [(0, 0x01280042), (1, 0x0202410D), (8, 0x0020CB03)])
        [mv 0 (.port .ld0 .r) (.reg .s 2), mv 1 (.imm 4#10) (.trig .ctl false 0x0D), mv 8 (.reg .s 1) (.trig .ld0 false 0x03)] []
        = true := by decide +kernel

/-- 10, the words of cycles 2000 and 2002: `fset` with a long immediate, and `mx.mm tok=4`. -/
theorem decode_matrix :
    reads (word 0x00004800 [(0, 0x0000D900), (1, 0x00000373), (2, 0x023200E0), (3, 0x026400E2)])
        [{ slot := 0, ctx := .k0, src := .limm, dst := .trig .mx false 0x00, limm := 0x373#32, guard := 0, neg := false },
          mv 2 (.imm 100#10) (.reg .m 0), mv 3 (.imm 200#10) (.reg .m 2)] [] = true
      ∧ reads (word 0x00004800 [(0, 0x000080E3), (1, 0x0000040F), (12, 0x0113FFFF)])
        [{ slot := 0, ctx := .k0, src := .limm, dst := .reg .m 3, limm := 0x40F#32, guard := 0, neg := false }]
        [(12, .mxMm { tokp := 4#6, toka := 63#6, tokb := 63#6, tokc := 63#6 })] = true := by decide +kernel

/-- 11 `tsin`; 12 a take and its results; 13 `ce.copy tok=7`. -/
theorem decode_engine_words :
    reads (word 0x00000800 [(0, 0x0020DA00), (1, 0x00215A80), (2, 0x0021DB00)])
        [mv 0 (.reg .s 1) (.opnd .tsw false), mv 1 (.reg .s 2) (.opnd .tsw true), mv 2 (.reg .s 3) (.trig .tsw false 0x00)] [] = true
      ∧ reads (word 0x00000800 [(0, 0x0202E000), (1, 0x00006100)])
        [mv 0 (.imm 5#10) (.opnd .sem false), mv 1 .nil (.trig .sem false 0x00)] [] = true
      ∧ reads (word 0x00000800 [(0, 0x01800041), (1, 0x018100A2)])
        [mv 0 (.port .sem .r) (.reg .s 1), mv 1 (.port .sem .f) (.reg .g 2)] [] = true
      ∧ reads (word 0x00000800 [(13, 0x011FFFFF)]) []
        [(13, .ceCopy { tokp := 7#6, toka := 63#6, tokb := 63#6, tokc := 63#6 })] = true := by decide +kernel

/-- 14 an urgent message; 15 a transfer of the exchange plane and `wtime`; 16 a fence; 17 a TLB probe. -/
theorem decode_network :
    reads (word 0x00000800 [(0, 0x00245E00), (1, 0x0024DF00), (6, 0x0081DE80)])
        [mv 0 (.reg .s 8) (.opnd .ns false), mv 1 (.reg .s 9) (.trig .ns false 0x00), mv 6 (.win 3) (.opnd .ns true)] [] = true
      ∧ reads (word 0x00000800 [(0, 0x01085E00), (1, 0x0024DF03), (6, 0x01285E80)])
        [mv 0 (.port .alu0 .r) (.opnd .ns false), mv 1 (.reg .s 9) (.trig .ns false 0x03), mv 6 (.port .ld0 .r) (.opnd .ns true)] []
        = true
      ∧ reads (word 0x00000800 [(0, 0x00226306)]) [mv 0 (.reg .s 4) (.trig .syn false 0x06)] [] = true
      ∧ reads (word 0x00000800 [(0, 0x0000651D)]) [mv 0 .nil (.trig .sys false 0x1D)] [] = true
      ∧ reads (word 0x00000800 [(0, 0x02006400), (1, 0x00226508)])
        [mv 0 (.imm 0#10) (.opnd .sys false), mv 1 (.reg .s 4) (.trig .sys false 0x08)] [] = true := by decide +kernel

/-- Headers of the slots 12, 13 and 14 with no consumed token (10 R210, 13 R278, 15 R346), and one that names no
command. -/
theorem decode_headers :
    let h : Hdr := { tokp := 63#6, toka := 63#6, tokb := 63#6, tokc := 63#6 }
    (List.range 7).map (fun i => decodeHeader 12 (BitVec.ofNat 32 ((i + 1) * 2 ^ 24 + 0xFFFFFF)))
        = [some (.mxMm h), some (.mxGang h), some (.mxSeq h), some (.mxGseq h), some (.mxTadd h), some (.mxDrain h), some (.mxTcsave h)]
      ∧ (List.range 5).map (fun i => decodeHeader 13 (BitVec.ofNat 32 ((i + 1) * 2 ^ 24 + 0xFFFFFF)))
        = [some (.ceCopy h), some (.ceXcopy h), some (.ceFill h), some (.cePlace h), some (.ceCode h)]
      ∧ (List.range 4).map (fun i => decodeHeader 14 (BitVec.ofNat 32 ((i + 1) * 2 ^ 24 + 0xFFFFFF)))
        = [some (.synTimer h), some (.synDelay h), some (.synGbar h), some (.synJoin h)]
      ∧ decodeHeader 12 0x08FFFFFF#32 = none ∧ decodeHeader 14 0x05FFFFFF#32 = none := by decide +kernel

/-- 14 R293: the control flits. -/
theorem decode_controls :
    decodeControl 3 (BitVec.ofNat 256 (5 * 2 ^ 240 + 2 * 2 ^ 234)) = some (.idle 3 5#8 2#6)
      ∧ decodeControl 3 (BitVec.ofNat 256 (1 * 2 ^ 248 + 0x7F * 2 ^ 240)) = some (.ack 3 0x7F#8 0#6)
      ∧ decodeControl 3 (BitVec.ofNat 256 (2 * 2 ^ 248 + 0x80 * 2 ^ 240)) = some (.nak 3 0x80#8 0#6)
      ∧ decodeControl 3 (BitVec.ofNat 256 (3 * 2 ^ 248)) = none ∧ decodeControl 3 1#256 = none := by decide +kernel

/-- 02 R43: the details of the checks, each in a word of K0: a reserved header bit, an extension kind, a reserved kind,
a long immediate with no consumer below it, a guard past 24, a reserved identifier, an unassigned opcode of `alu0`, an
opcode field outside a port, a bus that does not reach the port, a header that consumes its own token. -/
theorem word_checks :
    [(0x00000001, []), (0x80000000, []), (0x10000000, []), (0x00002000, []), (0x00000800, [(0, 0xC8000040)]),
        (0x00000800, [(0, 0x00180040)]), (0x00000800, [(0, 0x00004324)]), (0x00000800, [(0, 0x00004201)]),
        (0x00000800, [(8, 0x00004300)]), (0x00000800, [(12, 0x01145FFF)])].map
      (fun p => (wordCheck .k0 (wordOf (word p.1 p.2))).map fun e => (e.slot, e.detail))
    = [some (15, 0x01), some (15, 0x02), some (15, 0x03), some (0, 0x04), some (0, 0x05), some (0, 0x06), some (0, 0x09), some (0, 0x09),
        some (8, 0x0B), some (12, 0x0C)] := by decide +kernel

/-! ## Single steps -/

/-- Tile 0 in cycle 1000: context k triggers with value v in slot 2; the rest of the tile is as f leaves it after reset. -/
def at' (k : Ctx) (v : Nat) (f : Tile → Tile) : State :=
  { State.reset.setTile 0 (f (Tile.reset 0)) with now := 1000, hand := { tile := 0, ctx := k, slot := 2, tv := BitVec.ofNat 1024 v } }

/-- The operand latches of a socket. -/
def latches (so : Sock) (o p : Nat) (t : Tile) : Tile :=
  { t with latO := spSet 0#1024 t.latO (sockNum so) (BitVec.ofNat 1024 o), latP := spSet 0#1024 t.latP (sockNum so) (BitVec.ofNat 1024 p) }

/-- K0 with latches o and p of a socket, and the trigger value v. -/
def op (so : Sock) (o p v : Nat) : State := at' .k0 v (latches so o p)

/-- What a step puts in flight in tile 0: ports, cycles and values. -/
def flying (i : Instr) (s : State) : List (Port × Option Nat × Nat) :=
  match exec i s with
  | .next t => (t.tile 0).flights.map fun f => (f.po, f.due, f.val.toNat)
  | _ => []

/-- Whether a step answers a next state of which p holds. -/
def ends (i : Instr) (s : State) (p : State → Bool) : Bool :=
  match exec i s with
  | .next t => p t
  | _ => false

/-- Cause, slot and detail of the trap that a step takes in context k of tile 0 (18 R412). -/
def trapOf (i : Instr) (s : State) (k : Ctx) : Option (Nat × Nat × Nat) :=
  match exec i s with
  | .next t =>
    let r := (t.ctx 0 k).cr 0x075
    if bits r 63 1 = 1 then some (bits r 54 6, bits r 50 4, bits r 32 16) else none
  | _ => none

/-- 05, a 128-bit addition: low words, and high words with the carry. -/
theorem test_add_chain :
    flying (.aluAdd .a) (op .alu0 0xFFFFFFFFFFFFFFFF 0 1) = [(.r, some 1001, 0), (.f, some 1001, 0x5)]
      ∧ flying (.aluAddc .a) (op .alu0 1 0x5 2) = [(.r, some 1001, 4), (.f, some 1001, 0)] := by decide +kernel

/-- 05 R107: 0 - 1 borrows; in the x form the roles of the operands change. -/
theorem test_sub_borrow :
    flying (.aluSub .b false) (op .alu1 0 0 1) = [(.r, some 1001, 2 ^ 64 - 1), (.f, some 1001, 0x9)]
      ∧ flying (.aluSub .b true) (op .alu1 0 0 1) = [(.r, some 1001, 1), (.f, some 1001, 0)] := by decide +kernel

/-- 05 R108, R109: saturation; `#-1 -> alu0.t.shl` gives 0; an arithmetic shift by 64 gives the sign. -/
theorem test_alu_shifts :
    flying (.aluAddsS64 .a) (op .alu0 (2 ^ 63 - 1) 0 1) = [(.r, some 1001, 2 ^ 63 - 1), (.f, some 1001, 0x10)]
      ∧ flying (.aluShl .a false) (op .alu0 1 0 (2 ^ 64 - 1)) = [(.r, some 1001, 0)]
      ∧ flying (.aluShrS64 .a false) (op .alu0 (2 ^ 63) 0 64) = [(.r, some 1001, 2 ^ 64 - 1)] := by decide +kernel

/-- 05 R111, R112: the absolute value of the most negative number; counts of zero; the sign extension of the manual's
example. -/
theorem test_alu_corners :
    flying (.aluAbsS64 .a) (op .alu0 0 0 (2 ^ 63)) = [(.r, some 1001, 2 ^ 63 - 1)]
      ∧ flying (.aluClz .a) (op .alu0 0 0 0) = [(.r, some 1001, 64)] ∧ flying (.aluCtz .a) (op .alu0 0 0 0) = [(.r, some 1001, 64)]
      ∧ flying (.aluBfxS64 .a) (op .alu0 0x80000001 0 0x800) = [(.r, some 1001, 0xFFFFFFFF80000001)] := by decide +kernel

/-- 03 R73, R74: 32 where no lane is set. -/
theorem test_lanes :
    flying (.klow .a) (op .alu0 0 0 0) = [(.r, some 1001, 32)] ∧ flying (.khigh .a) (op .alu0 0 0 0x80000001) = [(.r, some 1001, 31)]
      ∧ flying (.kfill .a) (op .alu0 0 0 40) = [(.r, some 1001, 2 ^ 32 - 1)] := by decide +kernel

/-- 05 R116, R117: the corners of a divide; the manual's scaled products, 5.25 and -17.5. -/
theorem test_mul :
    flying (.divS64 false) (op .mul (2 ^ 63) 0 (2 ^ 64 - 1)) = [(.r, some 1034, 2 ^ 63), (.q, some 1034, 0)]
      ∧ flying (.divS64 false) (op .mul 7 0 0) = [(.r, some 1034, 2 ^ 64 - 1), (.q, some 1034, 7)]
      ∧ flying .mulrS64 (op .mul 7 2 3) = [(.r, some 1004, 5), (.q, some 1004, 0)]
      ∧ flying .mulrS64 (op .mul 7 2 (2 ^ 64 - 10)) = [(.r, some 1004, 0xFFFFFFFFFFFFFFEE), (.q, some 1004, 0)] := by decide +kernel

/-- 05, a pointer walk: `padv` of the pointer at 0x1080, stride 64, in the window of 192 bytes at 0x1000, and `ppeek`
one step back from 0x1000. -/
theorem test_pointer_walk :
    let r : Regs :=
      { Regs.reset with addr := [(2, 0x1080#32)], stride := [(2, 64#20)], wbase := [(2, 0x1000#32)], wlen := [(2, 192#20)] }
    flying .aguPadv (at' .k0 2 fun t => (latches .agu 1 0 t).modCtx .k0 fun c => { c with regs := r }) = [(.r, some 1001, 0x1080)]
      ∧ r.advanced 2 1 = 0x1000
      ∧ flying .aguPpeek (at' .k0 2 fun t => (latches .agu (2 ^ 64 - 1) 0 t).modCtx .k0 fun c =>
          { c with regs := { r with addr := [(2, 0x1000#32)] } }) = [(.r, some 1001, 0x1080)] := by decide +kernel

/-- 07, one lane sum: the fused step in lanes 0 and 1, and the canonical sum with NX. -/
theorem test_lane_sum :
    let ones : Nat := (List.range 32).foldl (fun a i => a + 0x3F800000 * 2 ^ (32 * i)) 0
    flying (.vfaFma .f32 false) (op .vfa 0x4B7FFFFF ones ones) = [(.r, some 1004, ones - 0x3F800000 + 0x4B800000), (.f, some 1004, 0)]
      ∧ flying .rsumF32 (op .vfb 0 0 (ones - 0x3F800000 + 0x4B800000)) = [(.r, some 1006, 0x4B80000F), (.f, some 1006, 0x1)] := by
  decide +kernel

/-- 07 R165, the packing example: 10.0, 2.5 and -0.7 into `.e2m1`. -/
theorem test_mxpack :
    (flying .mxpack (op .vfb 0 0x7 (0x41200000 + 0x40200000 * 2 ^ 32 + 0xBF333333 * 2 ^ 64))
      = [(.r, some 1004, 0x926), (.q, some 1004, 0x80), (.f, some 1004, 0x3)]) := by decide +kernel

/-- 08, a soft maximum: the row record, and 1/4 in the four lanes; exact cases of `exp2` and `log2`. -/
theorem test_soft_maximum :
    let row : Nat := (List.range 28).foldl (fun a i => a + 0xFF800000 * 2 ^ (32 * (i + 4))) 0
    let record : Nat := 0x00800000 + 0x8001 * 2 ^ 32 + 0x2 * 2 ^ 96
    flying .smexpF32 (op .sfu 0 32 row) = [(.r, some 1012, record), (.f, some 1012, 0)]
      ∧ flying .smoutF32 (op .sfu record 0 row)
        = [(.r, some 1010, (List.range 4).foldl (fun a i => a + 0x3E800000 * 2 ^ (32 * i)) 0), (.f, some 1010, 0)]
      ∧ ((flying .exp2F32 (op .sfu 0 0 0xC0400000)).map fun x => x.2.2 % 2 ^ 32) = [0x3E000000, 0]
      ∧ ((flying .log2F32 (op .sfu 0 0 0x41000000)).map fun x => x.2.2 % 2 ^ 32).head? = some 0x40400000 := by decide +kernel

/-- 09, a store overtaking a load: the load of cycle 1000 reaches bank 5, row 4 in 1004 and lands in 1007. -/
theorem test_load_cycles :
    ends (.ldX64 .b) (at' .k2 0x1280 id) (fun t =>
        (t.tile 0).accesses.map (fun x => (x.last, x.rows.map fun r => (r.cyc, r.bank, r.row))) = [(1004, [(1004, 5, 4)])]) = true
      ∧ flying (.ldX64 .b) (at' .k2 0x1280 id) = [(.r, some 1007, 0)] := by decide +kernel

/-- The same, the store of cycle 1001: it performs in 1002. -/
theorem test_store_cycles :
    ends (.stB64 .b) { at' .k2 0xAAAABBBBCCCCDDDD (latches .st1 0x1280 0) with now := 1001 } (fun t =>
        (t.tile 0).accesses.map (fun x => (x.last, x.data.toNat)) = [(1002, 0xAAAABBBBCCCCDDDD)]) = true := by decide +kernel

/-- 09 R193: a byte past the class traps SRAMACC with detail 0x1 in the slot of its trigger, a misaligned one with 0x2. -/
theorem test_sram_traps :
    trapOf (.ldX64 .a) (op .ld0 0 0 0x60000) .k0 = some (0x08, 2, 0x1) ∧ trapOf (.ldN32 .a) (op .ld0 0 0 0x1002) .k0 = some (0x08, 2, 0x2)
      := by decide +kernel

/-- 18, a repeated superstep: the trap record of the uncorrectable load. -/
theorem test_trap_record :
    trapRecord (raiseAt .uncorr 15 0x1) false false 0x1A7 0x1A7 = 0x867C000101A701A7#64 := by decide +kernel

/-- 04 R97: a jump, a call that pushes the address after its word, and a fifth call, CTLFAULT 0x3. -/
theorem test_transfers :
    ends .ctlJmp (at' .k2 77 id) (fun t => (t.ctx 0 .k2).next = some 77) = true
      ∧ ends .ctlCall (at' .k2 77 fun t => t.modCtx .k2 fun c => { c with pc := 9 }) (fun t => (t.ctx 0 .k2).rstack = [10]) = true
      ∧ trapOf .ctlCall (at' .k2 77 fun t => t.modCtx .k2 fun c => { c with rstack := [1, 2, 3, 4] }) .k2 = some (0x03, 2, 0x3) := by
  decide +kernel

/-- 04 R98: the six passes of a nest of 3 and 2, dimension 0 counting fastest. -/
theorem test_nest :
    let x : Nest := { Nest.reset with active := true, start := 19, last := 20, dims := 2, cnt := [(0, 3), (1, 2)] }
    let rec' (n : Nat) (y : Nest) : List (Nat × Nat) := (List.range n).foldl (fun (a : List (Nat × Nat) × Nest) _ =>
      (a.1 ++ [(spGet 0 a.2.idx 0, spGet 0 a.2.idx 1)], a.2.passEnd.1)) ([], y) |>.1
    rec' 6 x = [(0, 0), (1, 0), (2, 0), (0, 1), (1, 1), (2, 1)] := by decide +kernel

/-- 12 R258, R260: a take of the full word 5 answers at once with its value and empties it; a put of the empty word
fills it. -/
theorem test_semaphores :
    let full : Tile → Tile := fun t =>
      latches .sem 5 0 { t with sems := [(5, { SemWord.reset with val := 0x2A#64, full := true })] }
    ends .semTake (at' .k0 0 full) (fun t => decide ((t.tile 0).sem 5 = { SemWord.reset with val := 0x2A#64 })
        && decide (((t.tile 0).flights.map fun f => (f.po, f.ready, f.val.toNat)) = [(.r, some 1002, 0x2A), (.f, some 1002, 0x3)])) = true
      ∧ ends .semPut (op .sem 5 0 0x2A) (fun t => decide ((t.tile 0).sem 5 = { SemWord.reset with val := 0x2A#64, full := true })) = true
      := by decide +kernel

/-- 12 R272: `tpend` of a pending token traps TOKDUP with detail 0x1. -/
theorem test_tokens :
    ends .tpend (at' .k1 9 id) (fun t => (t.tile 0).tokPending 9) = true
      ∧ trapOf .tpend (at' .k1 9 fun t => { t with tokens := [(9, { owner := 1, ctx := .k0 })] }) .k1 = some (0x0F, 2, 0x1) := by
  decide +kernel

/-- 15, `wtime`: with pace time 5,000,000, a wait until 5,000,100 gives 0x64 and holds; one until 4,999,990 gives bit 63
and 10 and holds nothing; the pace time of all three cycles that it may read is the same here. -/
theorem test_wtime :
    let pace : State → State := fun s =>
      { s with hub := { s.hub with paceNs := 5000000#64, paceOld := [(5000000#64, 0#32), (5000000#64, 0#32)] } }
    [0, 1, 2].map ((pace State.reset).paceAgo · |>.1) = [5000000#64, 5000000#64, 5000000#64] := by decide +kernel

/-- 21, a throttle and its release: the three latches of league 1's hottest sensor, with lvl1 = 2. -/
theorem test_throttle :
    let latch (zone : Nat) (_r : Int) : State :=
      { State.reset with now := 2 ^ 14, hub := { State.reset.hub with reg := [(0x0EB, 0x20#64)], zones := if zone = 0 then [] else [(1, zone)] } }
    let go (zone : Nat) (r : Int) : Bool × Nat × Nat :=
      match exec (.sensorLatch ((List.range 44).map fun i => if 8 ≤ i ∧ i < 16 then r else 0)) (latch zone r) with
      | .next t => (true, t.zone 1, (t.hubRg 0x0EC).toNat)
      | _ => (false, 0, 0)
    go 0 0x06D0 = (true, 2, 0x06D0004000000010) ∧ (go 2 0x0690).2.1 = 2 ∧ go 2 0x0670 = (true, 1, 0x0670002000000008) := by decide +kernel

/-- 02, the first encoding example run as the first word after reset: the sum of s4, 0 at reset, and 12 is in flight. -/
theorem test_step :
    (match step (State.reset.withFetchWord 512 (word 0x00000800 [(0, 0x00224200), (1, 0x02064300)]).toNat) with
      | .next t => decide (((t.tile 0).flights.map fun f => (f.po, f.due, f.val.toNat)) = [(.r, some 1, 12), (.f, some 1, 0)])
          && decide ((t.ctx 0 .k0).pc = 1)
      | _ => false) = true := by decide +kernel

/-! ## States that meet the hypotheses of the obligations -/

/-- K3 runs the ballast program of tile 0 and holds the hand. -/
def ballasting : State := at' .k3 0 fun t => { t.setRg 0x023 (w64 (2 ^ 32)) with ballast := true }

/-- Operations of K0 to K3 outside ballast do not discard their results; a ballast program does. -/
theorem hyp_operations :
    (at' .k0 0 id).discards = false ∧ (at' .k1 0 id).discards = false ∧ (at' .k2 0 id).discards = false
      ∧ (at' .k3 0 id).discards = false ∧ ballasting.discards = true := by decide +kernel

/-- AluSaturates, MultipliesAndDivides: a clamped and an exact sum; each corner of a division and what is none. -/
theorem hyp_divide :
    (op .mul 5 0 0).tv = 0#64 ∧ ((op .mul (2 ^ 63) 0 (2 ^ 64 - 1)).opo .mul = 0x8000000000000000#64
      ∧ (op .mul (2 ^ 63) 0 (2 ^ 64 - 1)).tv = BitVec.allOnes 64) ∧ (op .mul 5 0 1).tv ≠ 0#64
      ∧ ((op .mul 5 0 0).discards || (op .mul (2 ^ 63) 0 (2 ^ 64 - 1)).discards || (op .mul 5 0 1).discards) = false := by decide +kernel

/-- The tiles: the first, the last, and the waymark tile. -/
theorem hyp_tiles : isTile 0 = true ∧ isTile 1727 = true ∧ isTile waymark = true ∧ isTile 1728 = false := by decide

/-- Converts, BlocksAndReductions: a descriptor of legal types and parts, one with a part too many, and one of no type;
the stochastic mode. -/
theorem hyp_descriptors :
    (elemTyOf 0).isSome = true ∧ elemTyOf 15 = none ∧ cvtOk 0#1024 = true ∧ cvtOk (BitVec.ofNat 1024 (4 * 2 ^ 12)) = false
      ∧ cvtOk 15#1024 = false ∧ mxpackOk 15#1024 = false := by decide +kernel

/-- K0 of tile 0 about to issue a word whose only move reads s4 into s5. -/
def moving : State := State.reset.setTile 0 (Tile.reset 0)

/-- MovesActTogether. -/
theorem hyp_moves :
    let w := wordOf (word 0 [(0, (moveBits 0 false (.reg .s 4) (.reg .s 5)).toNat)])
    let u := moving.tile 0
    (wordCheck .k0 w).isNone = true ∧ u.performed .k0 w = [mv 0 (.reg .s 4) (.reg .s 5)] ∧ u.ballastFail .k0 w = none
      ∧ u.merged 0 .k0 w = none ∧ u.captures = [] ∧ (moving.ctx 0 .k0).pair = none ∧ headersOf w = [] := by decide +kernel

/-- A word whose slot 0 names a socket port that its bus does not reach, one that follows the end of the code store, one
that ballast may not use (WordsRefused). -/
theorem hyp_refused :
    let far := State.reset.setTile 0 ((Tile.reset 0).modCtx .k0 fun c => { c with pc := 2048 })
    let jumps := wordOf (word 0 [(0, (moveBits 0 false (.imm 1#10) (.trig .ctl false 0)).toNat)])
    2047 < (far.ctx 0 .k0).pc ∧ (wordCheck .k0 (wordOf (word 0 [(8, 0x02014104)]))).isSome = true ∧ (moving.ctx 0 .k0).pc ≤ 2047
      ∧ wordCheck .k3 jumps = none ∧ (ballasting.tile 0).ballastFail .k3 jumps = some 0 := by decide +kernel

/-- A stochastic conversion of a ballast word, with a descriptor that it accepts. -/
theorem hyp_ballast_draw :
    let s := at' .k3 0 fun t => { (t.modCtx .k3 fun c => c.setCr 0x028 (w64 0)).setRg 0x023 (w64 (2 ^ 32)) with
      ballast := true, privP := [(sockNum .vfb, BitVec.ofNat 1024 (4 * 2 ^ 8))] }
    s.discards = true ∧ cvtOk (s.descP .vfb) = true ∧ s.fp.resolve (dRm (s.descP .vfb)) = 4 := by decide +kernel

/-- The hub's trap queue with room for one entry and with none (TakingATrap). -/
theorem hyp_trap_queue :
    (List.replicate 1023 0#64).length < 1024 ∧ ¬(List.replicate 1024 0#64).length < 1024 := by decide +kernel

/-- Transfers: a routine's jump one word forward and a K2 jump backward, to the edges of the code store; past it, and
backwards in a routine. -/
theorem hyp_jumps :
    let s (k : Ctx) (pc v : Nat) := at' k v fun t => t.modCtx k fun c => { c with pc := pc }
    ((s .k0 2046 2047).tv.toNat ≤ 2047 ∧ (s .k0 2046 2047).hc.pc < (s .k0 2046 2047).tv.toNat ∧ (s .k0 2046 2047).discards = false)
      ∧ ((s .k2 5 0).tv.toNat ≤ 2047 ∧ isRoutine .k2 = false ∧ (s .k2 5 0).discards = false)
      ∧ 2047 < (s .k0 0 2048).tv.toNat
      ∧ (isRoutine .k0 = true ∧ (s .k0 7 7).tv.toNat ≤ 2047 ∧ (s .k0 7 7).tv.toNat ≤ (s .k0 7 7).hc.pc)
      ∧ ((s .k2 5 (2 ^ 64 - 5)).hc.pc : Int) + (s .k2 5 (2 ^ 64 - 5)).tv.toInt = (0 : Nat)
      ∧ ((s .k2 5 (2 ^ 64 - 6)).hc.pc : Int) + (s .k2 5 (2 ^ 64 - 6)).tv.toInt < 0
      ∧ (2047 : Int) < ((s .k2 5 2043).hc.pc : Int) + (s .k2 5 2043).tv.toInt
      ∧ (0 ≤ ((s .k0 5 0).hc.pc : Int) + (s .k0 5 0).tv.toInt ∧ (s .k0 5 0).tv.toInt ≤ 0) := by decide +kernel

/-- Calls: with three addresses on the stack and with four, of the routine's entry, in a nest, in a handler; returns,
with one and none. -/
theorem hyp_calls :
    let s (k : Ctx) (v : Nat) (f : Context → Context) := at' k v fun t => t.modCtx k f
    let free (x : State) : Bool := !x.hc.nest.active && x.hc.saved.isNone && decide (x.tv.toNat ≤ 2047)
        && !(isRoutine x.hand.ctx && decide (x.tv.toNat = x.hc.entryPc))
    let nest : Nest := { Nest.reset with active := true }
    let saved : Saved := { pc := 0, guards := [], nest := Nest.reset, holds := [] }
    (free (s .k0 9 fun c => { c with rstack := [1, 2, 3] }) = true ∧ free (s .k0 9 fun c => { c with rstack := [1, 2, 3, 4] }) = true)
      ∧ (isRoutine .k0 = true ∧ (s .k0 0 id).tv.toNat = (s .k0 0 id).hc.entryPc)
      ∧ (s .k2 9 fun c => { c with nest := nest }).hc.nest.active = true
      ∧ (s .k2 9 fun c => { c with saved := some saved }).hc.saved.isSome = true
      ∧ (s .k2 0 fun c => { c with rstack := [2047] }).hc.rstack = [2047] ∧ (s .k2 0 id).hc.rstack = []
      ∧ (s .k0 0 fun c => { c with saved := some saved }).hc.saved = some saved
      ∧ ((s .k0 0 fun c => { c with saved := some saved }).tile 0).captures = [] := by decide +kernel

/-- LoopNests: a body of the one word after `loop`, closed by its end bit; a nest that goes on, one in its last pass,
one that is left. -/
theorem hyp_loop :
    let s := at' .k0 1 fun t => { t with code := [(1, word (2 ^ 12) [])] }
    let x (i : Nat) (e : Bool) : Nest :=
      { Nest.reset with active := true, start := 1, last := 1, dims := 1, exit := e, cnt := [(0, 3)], idx := if i = 0 then [] else [(0, i)] }
    (1 ≤ s.tv.toNat ∧ s.tv.toNat ≤ 6 ∧ s.hc.nest.active = false ∧ s.hc.saved = none ∧ s.hc.pc < 1 ∧ 1 ≤ s.hc.pc + 64
        ∧ (spGet 0#512 s.ht.code 1).getLsbD 492 = true)
      ∧ (at' .k0 0 (latches .ctl 5 0)).opo .ctl = 5#64
      ∧ (∀ d < 1, spGet 0 (x 0 false).idx d < spGet 0 (x 0 false).cnt d)
      ∧ (x 0 false).exit = false ∧ 1 + 1 ≤ 3 ∧ spGet 0 (x 2 false).idx 0 + 1 = 3 ∧ (x 0 true).exit = true := by decide +kernel

/-- QueuesAndHandlers: an entry of a list of one entry. -/
theorem hyp_lists :
    (at' .k0 0 id).ht.listFirst ≤ 0 ∧ 0 ≤ (at' .k0 0 id).ht.listLast ∧ isRoutine .k1 = true := by decide +kernel

/-- PointerOperations: the first and the last pointer and count of uses. -/
theorem hyp_pointers : isRoutine .k0 = true ∧ isRoutine .k2 = false ∧ (0 < 8 ∧ 7 < 8) ∧ (0 < 32 ∧ 31 < 32) := by decide

/-- RegionOperations: region 2 of 0x1000 to 0x13FF, declared by bit 5; a range that ends at its last byte and one past
it; one not declared. -/
theorem hyp_regions :
    let s (v lo n : Nat) : State := at' .k0 v fun t => ((latches .agu lo n t).setRg 0x042 (w64 (0x1000 + 0x400 * 2 ^ 32))).modCtx .k0
      fun c => { c with entry := some 0 }
    let inside (x : State) : Bool :=
      let lo := (x.opo .agu).toNat % 2 ^ 32
      let hi := lo + max ((x.opp .agu).toNat % 2 ^ 32) 1 - 1
      decide ((x.ht.rg 0x042).toNat % 2 ^ 32 ≤ lo ∧ hi < (x.ht.rg 0x042).toNat % 2 ^ 32 + (x.ht.rg 0x042).toNat / 2 ^ 32)
    (s 0x22 0x13FF 1).tv.getLsbD 5 = true ∧ inside (s 0x22 0x13FF 1) = true ∧ inside (s 0x22 0x13FF 2) = false
      ∧ (s 2 0 1).tv.getLsbD 5 = false ∧ isRoutine .k0 = true ∧ (s 2 0 1).hc.entry = some 0
      ∧ ((s 2 0 1).ht.rg 0x100).getLsbD 2 = false := by decide +kernel

/-- LoadsAndStoresStart: a load of the last byte of class P by K2, a store of a full row, the masked and the strided
form with one lane. -/
theorem hyp_accesses :
    let lane := 2 ^ 32
    let free (s : State) : Bool := !s.discards
    ((at' .k2 0x5FFFF id).checkAccess (.plain 1) false 0x5FFFF 0#64 none).isNone = true
      ∧ ((at' .k2 0 (latches .st0 0x5FF80 0)).checkAccess (.plain 128) true 0x5FF80 0#64 none).isNone = true
      ∧ ((at' .k2 0 id).checkAccess .masked false 0x80 (w64 lane) none).isNone = true
      ∧ ((at' .k2 0 id).checkAccess .strided true 0x84 (w64 lane) none).isNone = true ∧ free (at' .k2 0x5FFFF id) = true := by
  decide +kernel

/-- A local access of tile 0 with one row of 8 bytes, a load or a store. -/
def fetching (store : Bool) : State :=
  let r : RowTouch := { cyc := 1000, bank := 0, row := 0, bytes := (List.range 8).map fun i => (i, i) }
  let x : Access :=
    { id := 7, q := 0, ctx := .k0, issued := 999, store := store, sext := 0, data := 0#1024, rows := [r], last := 1000 }
  at' .k0 0 fun t => { t with accesses := [x], nextId := 8 }

/-- RowsAreAccessed. -/
theorem hyp_rows :
    let has (s : State) (store : Bool) : Bool :=
      ((s.tile 0).accesses.find? (fun y => decide (y.id = 7))).any fun x =>
        decide (x.q = 0) && x.store == store && x.rows.length == 1 && decide (x.data = 0#1024) && (s.tile 0).marks.isEmpty
    has (fetching true) true = true ∧ has (fetching false) false = true := by decide +kernel

/-- RowsAreAccessed: a load of two rows, each byte in a place of its own. -/
theorem hyp_many_rows :
    let r (b o : Nat) : RowTouch := { cyc := 1000 + b, bank := b, row := 0, bytes := (List.range 4).map fun i => (128 * b + i, o + i) }
    let x : Access :=
      { id := 7, q := 0, ctx := .k0, issued := 999, store := false, sext := 0, data := 0#1024, rows := [r 0 124, r 1 0], last := 1001 }
    let s := at' .k0 0 fun t => { t with accesses := [x], nextId := 8 }
    (s.tile 0).accesses.find? (fun y => decide (y.id = 7)) = some x ∧ (s.tile 0).marks = []
      ∧ (∀ y ∈ x.rows, ∀ z ∈ x.rows, ∀ p ∈ y.bytes, ∀ o ∈ z.bytes, p.2 < 128 ∧ (p.2 = o.2 → p = o)) := by decide +kernel

/-- AccessTests: each test at the first address that fails it, in class P, D and U. -/
theorem hyp_access_tests :
    let c (n : Nat) : State := at' .k2 0 fun t => t.setRg 0x030 (w64 n)
    (c 0).ht.cls = 0 ∧ (c 1).ht.cls = 1 ∧ (c 2).ht.cls = 2 ∧ 0x5FFFF < 0x60000 + 1 - 1
      ∧ (0x5FFFE + 2 - 1 ≤ 0x5FFFF ∧ 0x5FFFD % 2 ≠ 0 ∧ 0x5FFFD + 2 - 1 ≤ 0x5FFFF)
      ∧ (0x60000 + 32 - 1 ≤ 0x6BFFF ∧ 0x60000 % 32 = 0) ∧ (0x6000E + 1 - 1 ≤ 0x6BFFF ∧ 14 ≤ (0x6000E + 1 - 1) % 16) := by decide +kernel

/-- FarLoads, AccessTests: the last line of the slice, one past it, a misaligned one. -/
theorem hyp_far :
    let s (v : Nat) := at' .k0 v id
    ((s 0x7FFF80).discards = false ∧ (s 0x7FFF80).hand.tile ≠ waymark ∧ (s 0x7FFF80).tv.toNat < 0x800000 ∧ (s 0x7FFF80).tv.toNat % 128 = 0)
      ∧ 0x800000 ≤ (s 0x800000).tv.toNat ∧ (s 4).tv.toNat % 8 ≠ 0 := by decide +kernel

/-- Tile 0 with a result of alu0 due now, or a far load. -/
def landing (far : Bool) : State :=
  let f : Flight :=
    { id := 3, so := if far then .ld0 else .alu0, po := .r, ctx := .k0, locked := far, due := some 1000, val := 5#1024
      flags := 0, far := if far then some (0, 8) else none, ready := none, err := none, errAux := 0#64, errAt := none
      raised := false }
  at' .k0 0 fun t => { t with flights := [f], nextId := 4 }

/-- ResultsLand, with a result of a unit and with a far load. -/
theorem hyp_landing :
    ((landing false).tile 0).flights.length = 1
      ∧ ((landing false).tile 0).flights.all (fun f => f.so = .alu0 && f.po = .r && f.due = some (landing false).now && f.err.isNone) = true
      ∧ ((landing true).tile 0).flights.all (fun f => f.so = .ld0 && f.po = .r && f.due = some (landing true).now && f.err.isNone
        && f.far.isSome) = true ∧ ((landing true).furlong (furlongOf 0)).mark = []
      ∧ ((landing false).tile 0).captures = [] ∧ ((landing true).tile 0).captures = [] := by decide +kernel

/-- SramMaintenance: a corrected mark, and a lost one not yet logged; a class that may be rewritten, with a legal class
and class 3; one that may not while K0 runs. -/
theorem hyp_sram :
    let s := at' .k0 0 fun t => { t with marks := [(unitKey 7 383 1, .corrected)] }
    spFind (s.tile 0).marks (unitKey 7 383 1) = some .corrected ∧ s.canRewrite 0 = true ∧ (2#64 : W64).toNat % 4 ≠ 3
      ∧ (State.reset.tile 0).marks = [] ∧ ((at' .k0 0 fun t => { t with marks := [(3, .lost)] }).tile 0).marks = [(3, .lost)]
      ∧ ((State.reset.tile 0).rg 0x031).getLsbD 63 = false
      ∧ (3#64 : W64).toNat % 4 = 3 ∧ (at' .k0 0 fun t => t.modCtx .k0 fun c => { c with run := .ready }).canRewrite 0 = false := by
  decide +kernel

/-- SchedulerEvents: K3 in its program; two interrupts of which the first is not enabled; two causes due. -/
theorem hyp_scheduler :
    let x (n : Nat) : Intr := { src := n, tok := 63, status := 2 ^ 32 - 1 }
    let due : Due := { at' := 9, urgent := false, what := raiseAt .uncorr 15 1 }
    let s := at' .k0 0 fun t => { (t.modCtx .k0 fun c => { c with irqs := [x 1, x 2], ien := 2#2, dues := [due, { due with at' := 8 }] }) with
      ballast := true }
    (isTile 0 = true ∧ (s.tile 0).ballast = true ∧ (s.tile 0).k3.run ≠ .trapped)
      ∧ ((s.ctx 0 .k0).saved = none ∧ (s.ctx 0 .k0).pc < 2 ^ 11 ∧ (s.ctx 0 .k0).irqs = [x 1] ++ x 2 :: [] ∧ x 1 ≠ x 2
        ∧ (s.ctx 0 .k0).ien.getLsbD (2 - 1) = true ∧ (s.ctx 0 .k0).ien.getLsbD (1 - 1) = false)
      ∧ (s.ctx 0 .k0).dues ≠ [] := by decide +kernel

/-- RoutinesFireAndRetire: K0 idle; K0 busy and K1 idle; a routine of entry 63 retiring; K0 ready with its watchdog run
out. -/
theorem hyp_routines :
    let busy := at' .k0 0 fun t => t.modCtx .k0 fun c => { c with run := .ready }
    let leaving := at' .k1 0 fun t => t.modCtx .k1 fun c => { c with run := .retiring, entry := some 63 }
    (63 < 64 ∧ ((at' .k0 0 id).tile 0).k0.run = .idle ∧ ((at' .k0 0 id).tile 0).k1.coupled = false)
      ∧ ((busy.tile 0).k0.run ≠ .idle ∧ (busy.tile 0).k1.run = .idle ∧ (busy.tile 0).k0.coupled = false)
      ∧ ((leaving.ctx 0 .k1).run = .retiring ∧ (leaving.ctx 0 .k1).entry = some 63 ∧ (leaving.tile 0).entries = [])
      ∧ (busy.ctx 0 .k0).run = .ready := by decide +kernel

/-- A header that names no token. -/
def bare : Hdr := { tokp := 63#6, toka := 63#6, tokb := 63#6, tokc := 63#6 }

/-- MatrixHeaders: with its token pending and done, the engine full and free, the form valid and not, a chain withdrawn,
the waymark tile. -/
theorem hyp_headers :
    let h : Hdr := { tokp := 5#6, toka := 63#6, tokb := 63#6, tokc := 63#6 }
    let s := at' .k0 0 id
    let cmd := s.mxForm 6 h 0
    let held := at' .k0 0 fun t => { t with eng := { t.eng with mx := some cmd } }
    let none' := s.setChain 0 { Chain.reset with word := w64 (2 ^ 63 + 0x76543210) }
    h.tokp.toNat ≠ 63 ∧ (s.tile 0).tokPending 5 = false
      ∧ ((at' .k0 0 fun t => { t with tokens := [(5, { owner := 2, ctx := .k0 })] }).tile 0).tokPending 5 = true
      ∧ 0 < 1728 ∧ (s.chain (chainOf 0)).word.getLsbD 63 = false ∧ s.slotOfTile 0 = some 0
      ∧ (held.tile 0).eng.mx.isSome = true ∧ (s.tile 0).eng.mx = none
      ∧ (s.mxForm 1 h 0).valid (s.chain 0) = false ∧ cmd.valid (s.chain 0) = true ∧ s.slotOfTile 8 = none
      ∧ (none'.chain 0).word.getLsbD 63 = true ∧ 1728 ≤ waymark := by decide +kernel

/-- MatrixSocket: tile 0 holds slot 0 of chain 0. -/
theorem hyp_mx : (at' .k0 0 id).slotOfTile 0 = some 0 ∧ ((at' .k0 0 id).chain 0).rp < 8 := by decide +kernel

/-- A command in the engine of tile 0. -/
def waiting (kind : Nat) (granted : Option Nat) : State :=
  let s := at' .k0 0 id
  at' .k0 0 fun t => { t with eng := { t.eng with mx := some { (s.mxForm kind bare 0) with granted := granted } } }

/-- A chain that has met the commands of its members. -/
def joined (xs : List MxCmd) : State := (at' .k0 0 id).setChain 0 { Chain.reset with arrivals := xs.map fun x => (x, 998) }

/-- MatrixStarts: a command of each sort; a computed duration equal to the declared one and not; two members with the
same staging and with different ones. -/
theorem hyp_starts :
    let x (k : Nat) := (waiting k none).mxForm k bare 0
    ((waiting 5 none).tile 0).eng.mx = some (x 5) ∧ (x 5).tile = 0 ∧ chainOf 0 = 0 ∧ (x 5).granted = none
      ∧ (x 5).kind ∉ [2, 4, 7] ∧ ((waiting 5 none).chain 0).granted ≠ (waiting 5 none).now + 1
      ∧ ((waiting 2 none).tile 0).eng.mx = some (x 2) ∧ ((waiting 7 none).tile 0).eng.mx = some (x 7)
      ∧ ((waiting 1 (some 1001)).tile 0).eng.mx = some { x 1 with granted := some 1001 } := by decide +kernel

theorem hyp_gang :
    let x := (at' .k0 0 id).mxForm 2 bare 0
    let y : MxCmd := { x with tile := 1, slot := 1 }
    let ms := ((joined [x, y]).chain 0).arrivals.map (·.1)
    ms = [x, y] ∧ (ms.map (·.slot)).Pairwise (· < ·) ∧ ms.all (fun z => chainOf z.tile = 0) = true ∧ (ms.map (·.tile)).Nodup
      ∧ x.shared = y.shared ∧ x.shared ≠ ({ y with st := [1#64] } : MxCmd).shared := by decide +kernel

/-- The durations that MatrixStarts compares: a tile addition as long as it declares, and one that declares a cycle
more. -/
theorem hyp_durations :
    let s := at' .k0 0 id
    let x (d : Nat) : MxCmd := { s.mxForm 5 bare 0 with st := [0#64, 0#64, 0#64, 0#64, w64 d, 0#64] }
    let length (y : MxCmd) : Nat := planLength y ((s.chain 0).plan [y] 1000)
    let d := length (x 0)
    length (x d) = (x d).declared ∧ length (x (d + 1)) ≠ (x (d + 1)).declared := by decide +kernel

/-- A run of one member on chain 0: a tile addition, or a product with one pass. -/
def running (kind : Nat) : State :=
  let x := (at' .k0 0 id).mxForm kind bare 0
  let p : Pass :=
    { start := 990, row0 := 0, rows := 1, blk0 := 0, blks := 1, nbk := 0, wt := 0, cmax := 4, checked := false, write := true
      rep := false, pnum := 1 }
  let r : MxRun :=
    { id := 4, members := [x], start := 980, total := 60, passes := [p], arows := [], crows := [], flags := [], diffs := [], scaleseq := false
      wfmt := false, errs := [] }
  (at' .k0 0 id).setChain 0 { Chain.reset with runs := [r], nextId := 5 }

/-- MatrixRows, MatrixCompletes: a run of a tile addition, and one of a product with a pass; no marks. -/
theorem hyp_runs :
    let has (k : Nat) (mul : Bool) : Bool := ((running k).run? 0 4).any fun r =>
      r.members.length == 1 && r.members.all (fun x => x.isMul == mul && !x.isGang) && (r.passes[0]?).any (fun a => !a.rep)
    has 5 false = true ∧ has 1 true = true ∧ ((running 1).chain 0).tsMark = [] ∧ ((running 1).chain 0).wbMark = []
      ∧ (0 + 32 ≤ 256 ∧ 224 + 32 ≤ 256) := by decide +kernel

/-- Chain 0 with its nine tiles halted. -/
def stopped : State := (List.range 9).foldl (fun s n => s.setRg n 0x077 (w64 (2 ^ 61))) State.reset

/-- MatrixCompletes: a counter save under way; chain words that may be written (two positions exchanged) and may not. -/
theorem hyp_completes :
    let x := (at' .k0 0 id).mxForm 7 bare 0
    let s := at' .k0 0 fun t => { t with eng := { t.eng with tcsave := some (1002, x) } }
    (s.tile 0).eng.tcsave = some (1002, x) ∧ (s.tile 0).busy = false ∧ 191 < 192
      ∧ stopped.chainWordOk 0 0x86543210#64 = true ∧ stopped.chainWordOk 0 0x76543211#64 = false
      ∧ State.reset.chainWordOk 0 0x86543210#64 = false := by decide +kernel

/-- A `tsw` command in the engine of tile 0. -/
def copying (k : Nat) : State :=
  let x : Tsw :=
    { op := k, ctx := .k0, slot := 2, firing := 0, opo := w64 63, opp := 0#64, tv := 0#64, issued := 990, started := some 995, left := 1
      buf := [], side := 0#288, err := none, errAux := 0#64, errAt := none }
  at' .k0 0 fun t => { t with eng := { t.eng with tsw := some x } }

/-- TileStoreCopies: operations that pass their tests, and an operation that fails; the command in its engine. -/
theorem hyp_tsw :
    let s (o p v : Nat) := at' .k0 v (latches .tsw o p)
    ((s 63 0 0).checkTsw 3).isNone = true ∧ ((s 5 0 0).checkTsw 3).isNone = true
      ∧ (List.range 8).all (fun k => ((copying k).tile 0).eng.tsw.any fun x => x.op = k && x.err.isNone) = true
      ∧ 0 < (copying 0).now ∧ 0 < 1728 ∧ ((copying 0).tile 0).busy = false ∧ ((copying 0).tile 0).marks = []
      ∧ ((copying 1).chain 0).tsMark = [] ∧ ((copying 0).tile 0).eng.tcsave = none := by decide +kernel

/-- What a `tsw` operation has just been triggered with. -/
def tswOf (o p v k : Nat) : Tsw :=
  { op := k, ctx := .k0, slot := 2, firing := 0, opo := w64 o, opp := w64 p, tv := BitVec.ofNat 64 v, issued := 1000, started := none
    left := 0, buf := [], side := 0#288, err := none, errAux := 0#64, errAt := none }

/-- TileStoreCopies, the refused ones: a range past the last row by one, a weight range past the buffer by one. -/
theorem hyp_tsw_refused :
    let x := tswOf (63 + 2 ^ 12) 4095 0 3
    let y := tswOf (63 + 2 ^ 12) 0x1FFFC0 0 6
    (x.badBits = false ∧ x.op < 6 ∧ 4096 < x.row + x.count ∧ (at' .k0 0 id).tswFail x = some 0x2)
      ∧ (y.badBits = false ∧ 6 ≤ y.op ∧ 0x200000 < y.waddr + 64 * y.count) ∧ (at' .k0 0 id).tswFail (tswOf 63 4095 0 3) = none
      := by decide +kernel

/-- SemaphoreOperations: a full word, an empty one, one with a taker of an earlier trigger, one with 15 and one with 16
takers, one in error; the last word of the file; values that meet a compare-and-swap and do not. -/
theorem hyp_semaphores :
    let o (id : Nat) : SemOp := { id := id, ctx := .k0, op := 0, addr := 5#64, opp := 0#64, tv := 0#64 }
    let s (x : SemWord) : State := at' .k0 0 fun t => latches .sem 511 0 { t with sems := [(511, x)], nextId := 40 }
    let w := SemWord.reset
    let many (n : Nat) : List SemOp := (List.range n).map fun i => o (2 * i)
    ((s w).opo .sem).toNat < 2 ^ 15 ∧ ((s w).opo .sem).toNat % 2 ^ 14 < 2 ^ 9
      ∧ ((s { w with full := true }).ht.sem 511).full = true ∧ ((s w).ht.sem 511).bad = false ∧ ((s w).ht.sem 511).takers = []
      ∧ (((s { w with takers := [o 3] }).ht.sem 511).takers = o 3 :: [] ∧ 3 + 1 < (s w).ht.nextId)
      ∧ ((s { w with takers := many 15 }).ht.sem 511).takers.length < 16 ∧ 16 ≤ ((s { w with takers := many 16 }).ht.sem 511).takers.length
      ∧ ((s { w with bad := true }).ht.sem 511).bad = true
      ∧ (((s w).ht.sem 511).val = (s w).opp .sem ∧ ((s { w with val := 1#64 }).ht.sem 511).val ≠ (s w).opp .sem)
      ∧ ((s w).opp .sem).getLsbD 0 = false ∧ ((at' .k0 0 (latches .sem 5 1)).opp .sem).getLsbD 0 = true := by decide +kernel

/-- A packet of a type, to a tile, at an address. -/
def pkt (ptype dtile addr : Nat) : Packet :=
  { ptype := BitVec.ofNat 4 ptype, cls := 1#2, vc := 0#1, npay := 1#3, ddev := 0#20, dtile := BitVec.ofNat 11 dtile, sdev := 0#20
    stile := 0#11, nbm := 7#7, tag := 9#8, reason := 0#7, seq := 1#16, aop := 1#4, addr := BitVec.ofNat 32 addr, payload := 0#1024 }

/-- RemoteSemaphores: a group of 8 that ends with the file, a local address, a remote one, a remote one past the last
tile. -/
theorem hyp_remote :
    let s (a : Nat) := at' .k0 0 (latches .sem a 0)
    (1 ≤ 3 ∧ 504 < 2 ^ 9 ∧ 504 % 2 ^ 3 = 0 ∧ 7 < 2 ^ 3 ∧ ((s (504 + 3 * 2 ^ 9 + 7 * 2 ^ 11)).opo .sem).toNat = 504 + 3 * 2 ^ 9 + 7 * 2 ^ 11)
      ∧ ((s 5).opo .sem).toNat < 2 ^ 9 ∧ ((s (2 ^ 63 + 511)).opo .sem).getLsbD 63 = true
      ∧ ((s (2 ^ 63 + 1536 * 2 ^ 32 + 5)).opo .sem).toNat / 2 ^ 32 % 2 ^ 11 = 1536
      ∧ ((s (2 ^ 63 + 1535 * 2 ^ 32 + 5)).opo .sem).toNat / 2 ^ 32 % 2 ^ 11 ≤ 1535 := by decide +kernel

/-- A release form under way, requests at the target of a known and of an unknown source, an answer awaited. -/
theorem hyp_remote_steps :
    let o : SemOp := { id := 4, ctx := .k0, op := 1, addr := 5#64, opp := 0#64, tv := 7#64 }
    let e (q : Nat) : SrcEntry := { src := Machine.srcOf (pkt 4 0 5), lseq := BitVec.ofNat 16 q, r := 0#64, status := 0#64, awaiting := false }
    let y : Awaited := { id := 4, pkt := pkt 4 0 5, ctx := .k0, firing := 0, tok := 63, irq := false, issued := 990 }
    let s := at' .k0 0 fun t => { t with
      delayed := [(o, { stores := [], tsw := none, remote := [] })], srcs := [(3, e 0)], remoteQ := [pkt 4 0 5]
      net := { t.net with awaited := [y] } }
    (s.tile 0).delayed.find? (fun d => decide (d.1.id = 4)) = some (o, { stores := [], tsw := none, remote := [] })
      ∧ o.remote = false ∧ ((s.tile 0).sem o.word).full = false ∧ s.refuses 0 = none
      ∧ (s.tile 0).srcs.find? (fun x => decide (x.2.src = Machine.srcOf (pkt 4 0 5))) = some (3, e 0) ∧ (pkt 4 0 5).seq = (e 0).lseq + 1#16
      ∧ (pkt 4 0 5).seq ≠ (e 1).lseq + 1#16 ∧ (s.tile 0).remoteQ = pkt 4 0 5 :: [] ∧ (pkt 4 0 5).aop = 1#4
      ∧ ((s.tile 0).awaits (pkt 6 0 5) 4).isSome = true := by decide +kernel

theorem hyp_sources :
    let e (i : Nat) : SrcEntry := { src := BitVec.ofNat 31 (100 + i), lseq := 0#16, r := 0#64, status := 0#64, awaiting := false }
    let t (n : Nat) := (List.range n).map fun i => (i, e i)
    (t 63).find? (fun x => decide (x.2.src = Machine.srcOf (pkt 4 0 5))) = none ∧ spFind (t 63) 63 = none
      ∧ (∀ j < 63, spFind (t 63) j ≠ none) ∧ ∀ i < 64, spFind (t 64) i ≠ none := by decide +kernel

/-- TokensAndTime: token 63 of a program, of an engine, and done; a time at pace time and one after it; an exchange
phase and none. -/
theorem hyp_tokens :
    let s (o : Nat) := at' .k0 63 fun t => { t with tokens := [(63, { owner := o, ctx := .k0 })] }
    let x := at' .k0 0 fun t => { (t.setRg 0x051 (w64 (4 * 2 ^ 40))) with seqr := { t.seqr with xstart := some 990 } }
    ((s 1).tile 0).tokPending ((s 1).tv.toNat % 64) = true ∧ ((at' .k0 63 id).tile 0).tokPending 63 = false
      ∧ spFind ((s 2).tile 0).tokens 63 = some { owner := 2, ctx := .k0 } ∧ spFind ((s 1).tile 0).tokens 63 = some { owner := 1, ctx := .k0 }
      ∧ (at' .k0 0 id).tv.toNat ≤ ((at' .k0 0 id).paceAgo 2).1.toNat ∧ ((at' .k0 1 id).paceAgo 0).1.toNat < (at' .k0 1 id).tv.toNat
      ∧ (x.tile 0).seqr.xstart = some 990 ∧ bits ((x.tile 0).rg 0x051) 40 3 = 4 ∧ bits (((s 1).tile 0).rg 0x051) 40 3 ≠ 4 := by
  decide +kernel

/-- SynchronisationEngine: a tag of 16 bits and one of 17, seven commands and eight, a barrier pending, a tile apart, a
command held. -/
theorem hyp_syn :
    let c (n : Nat) : SynCmd :=
      { id := n, kind := 3, h := bare, ctx := .k0, firing := 0, o := 0#64, issued := 990, arrived := none, doneAt := none, lag := 0 }
    let s (n : Nat) := at' .k0 0 fun t => { t with eng := { t.eng with syn := (List.range n).map c, barPending := some 5#16 } }
    ((at' .k0 0 (latches .syn (2 ^ 16 - 1) 0)).opo .syn).toNat < 2 ^ 16 ∧ 2 ^ 16 ≤ ((at' .k0 0 (latches .syn (2 ^ 16) 0)).opo .syn).toNat
      ∧ ((s 7).tile 0).eng.syn.length < 8 ∧ 8 ≤ ((s 8).tile 0).eng.syn.length ∧ ((s 1).tile 0).eng.barPending.isSome = true
      ∧ ((s 8).tile 0).eng.syn.find? (fun y => decide (y.id = 7)) = some (c 7)
      ∧ ((at' .k0 0 id).slotOfTile 0).isSome = true ∧ ((at' .k0 0 id).chain 0).word.getLsbD 63 = false := by decide +kernel

/-- A copy command in the engine of tile 0: 8-byte elements, from space sp to space dp. -/
def copy (kind sp dp : Nat) : Copy :=
  { (at' .k0 0 id).ceForm kind bare with image := [0#64, 0#64, w64 (3 * 2 ^ 12 + sp + dp * 2 ^ 4)] ++ List.replicate 11 0#64, started := some 990 }

def copies (xs : List Copy) : State := at' .k0 0 fun t => { t with eng := { t.eng with copies := xs } }

/-- CopyCommands: a header that passes its tests and one whose element size is past 2^12; four commands of which one
executes and one waits. -/
theorem hyp_copies :
    let s (c2 : Nat) := at' .k0 0 fun t => t.modCtx .k0 fun c => { c with regs := { c.regs with c := [(1, 128#64), (2, w64 c2)] } }
    let f (c2 : Nat) := (s c2).ceFail 0 ((s c2).ceForm 1 bare)
    f (3 * 2 ^ 12) = none ∧ f (13 * 2 ^ 12) = some 0x1 ∧ ((copies [copy 1 0 0, { copy 1 0 0 with started := none }]).tile 0).eng.copies.any
      (fun x => decide (x.ctx = .k0) && x.started.isNone) = true := by decide +kernel

/-- CopyRuns: copies between tile SRAM, the tile store, the slice and the weight buffer, a fill, a placement in the
slice and of code; one at its end, one that met a fault, one aborted. -/
theorem hyp_copy_runs :
    let at0 (x : Copy) : Bool := decide (((copies [x]).tile 0).eng.copies.head? = some x) && decide (x.image.length = 14)
        && decide (x.bufBad = []) && decide (x.h.tokp.toNat < 64) && ((copies [x]).tile 0).busy == false
    at0 (copy 1 0 0) = true ∧ (copy 1 0 0).exact = true ∧ (copy 1 1 0).exact = false ∧ (copy 1 0 3).dsp = 3 ∧ (copy 1 0 4).dsp = 4
      ∧ (copy 4 0 1).dsp = 1 ∧ (copy 5 0 5).dsp = 5 ∧ at0 (copy 3 0 0) = true ∧ at0 { copy 1 0 0 with aborted := true } = true
      ∧ at0 { copy 1 0 0 with fault := some (2, raiseAt .region 15 1) } = true ∧ unitsOf 0 ((copy 1 0 0).sa 0).toNat (copy 1 0 0).size = [(0, 8)]
      ∧ 0 < (copies []).now := by decide +kernel

/-- NetworkOperations: a send of 64 bytes, one with a reserved bit, one of a routine outside a free phase, a transfer
outside the exchange. -/
theorem hyp_sends :
    let s (k : Ctx) (o v : Nat) := at' k v (latches .ns o 0)
    let cmd := 63 + 63 * 2 ^ 21
    ((s .k2 0 cmd).checkSend 0).isNone = true ∧ (s .k2 0 (cmd + 2 ^ 28)).nsFail ((s .k2 0 (cmd + 2 ^ 28)).nsForm 0) = some 0x1
      ∧ (isRoutine .k0 = true ∧ ((s .k0 0 cmd).ht.rg 0x022).getLsbD 16 = false ∧ ((s .k0 0 cmd).nsForm 0).badFields = false
        ∧ ((s .k0 0 cmd).opo .ns).toNat / 2 ^ 32 % 2 ^ 11 ≤ 1535)
      ∧ (bits ((s .k0 0 cmd).ht.rg 0x051) 40 3 ≠ 4 ∧ ((s .k0 0 cmd).nsForm 3).badFields = false)
      ∧ ((s .k2 (2 ^ 63 + 5) (63 + 15 * 2 ^ 21 + 4 * 2 ^ 9)).checkSend 2).isNone = true := by decide +kernel

/-- The arrival that K2 serves. -/
def arrival : Arrival := { record := 0x80#64, payload := 5#512 }

/-- Tile 0's inbox with n slots full, held or not. -/
def inboxed (n : Nat) (held : Bool) : State :=
  at' .k2 0x5FFC0 fun t => { t with net := { t.net with
    full := (List.range n).map (fun i => (i, true)), queue := (List.range n), overflow := held
    held := if held then some (900, arrival, pkt 1 0 0) else none } }

theorem hyp_inbox :
    let a (s : State) : Nat := s.tv.toNat % 2 ^ 32
    ((inboxed 32 true).tile 0).net.held = some (900, arrival, pkt 1 0 0) ∧ ((inboxed 32 true).tile 0).net.waiting = []
      ∧ (a (inboxed 0 false) % 64 = 0 ∧ a (inboxed 0 false) < 0x60000) ∧ ((inboxed 32 false).tile 0).net.free = none
      ∧ ((inboxed 31 false).tile 0).net.free = some 31 ∧ ((inboxed 0 false).tile 0).net.held = none
      ∧ ((inboxed 32 false).tile 0).net.queue.length ≤ 32 ∧ ((inboxed 32 false).tile 0).net.out.length ≤ 8
      ∧ a (at' .k2 1 id) % 64 ≠ 0 := by decide +kernel

/-- PacketsArrive: a packet to leave in each plane, messages for a free slot, an overflow and a held one; a store inside
its window and outside; a transfer due and late; an acknowledgement. -/
theorem hyp_packets :
    let y : Outgoing :=
      { id := 4, pkt := pkt 1 1 0, ctx := .k0, firing := 0, tok := 63, irq := false, rel := none, issued := 990, leaves := some 1000 }
    let z : Awaited := { id := 5, pkt := pkt 3 0 0x100, ctx := .k0, firing := 0, tok := 63, irq := false, issued := 990 }
    let s (v : W64) := at' .k0 0 fun t => { (t.setRg 0x039 v) with
      net := { t.net with out := [y, { y with pkt := pkt 8 1 0 }], xin := [(1000, 990, pkt 8 0 0)], awaited := [z] } }
    (s 0#64).injHead 0 1#2 = some y ∧ ((s 0#64).injHead 0 0#2).isSome = true ∧ ((s 0#64).destTile 1).isSome = true ∧ (s 0#64).refuses 0 = none
      ∧ ((s (w64 (0x108 * 2 ^ 32))).tile 0).storeOk (pkt 3 0 0x100) = true
      ∧ ((s (w64 (0x107 * 2 ^ 32))).tile 0).storeOk (pkt 3 0 0x100) = false
      ∧ ((s 0#64).tile 0).net.xin = (1000, 990, pkt 8 0 0) :: [] ∧ ((s 0#64).tile 0).net.portFree ≤ (s 0#64).now
      ∧ ((s 0#64).tile 0).awaits { pkt 7 0 0x100 with reason := 0#7 } 3 = some z := by decide +kernel

theorem hyp_parts :
    (rowsOfPacket (pkt 3 0 0x7C))[0]? = some (0, 4) ∧ (rowsOfPacket (pkt 3 0 0x7C))[1]? = some (4, 4)
      ∧ (rowsOfPacket (pkt 3 0 0x7C)).length = 1 + 1 ∧ (moving).fiveTaken 0 = false
      ∧ (moving.modTile 0 fun t => t.setRg 0x030 4#64).fiveTaken 0 = true
      ∧ (pkt 3 0 0x5FFF8).addr.toNat + (pkt 3 0 0x5FFF8).nbm.toNat < 0x60000 := by decide +kernel

/-- A data flit of the class of reads, sealed. -/
def flit (pair head tail cancel seq : Nat) (data : Nat) : Flit :=
  sealFlit { data := BitVec.ofNat 256 data, ovh := BitVec.ofNat 32 (pair * 2 ^ 5 + 2 ^ 6 + head * 2 ^ 4 + tail * 2 ^ 3 + cancel * 2 ^ 2) } seq

/-- A port that is up. -/
def port (f : LinkEnd → LinkEnd) : State := State.reset.setLink 31 (f { LinkEnd.reset with up := true })

/-- FabricPorts: the flits that an input distinguishes. -/
theorem hyp_flits :
    let whole (f : Flit) : Bool := decide (bits f.ovh 16 16 = flitCrc f ∧ bits f.ovh 0 2 = 0)
    let r : Reasm := { head := BitVec.ofNat 256 (10 * 2 ^ 252 + 2 ^ 246), valid := true, out := none, flits := [], lastAt := 9 }
    let x := (port fun x => { x with inp := [(0, r)] }).link 31
    31 < 32 ∧ x.up = true ∧ (State.reset.link 31).up = false ∧ whole (flit 0 0 0 0 0 5) = true
      ∧ whole { (flit 0 0 0 0 0 5) with data := 4#256 } = false
      ∧ (Fovh.fcls (flit 0 0 0 0 0 5) ≠ 0 ∧ Fovh.lseq (flit 0 0 0 0 0 5) = x.nextRx ∧ Fovh.lseq (flit 0 0 0 0 1 5) ≠ x.nextRx)
      ∧ (Fovh.head (flit 0 0 0 0 0 5) = false ∧ Fovh.tail (flit 0 0 0 0 0 5) = false ∧ spFind x.inp (Fovh.pair (flit 0 0 0 0 0 5)) = some r
        ∧ spFind x.inp (Fovh.pair (flit 1 0 0 0 0 5)) = none)
      ∧ (Fovh.head (flit 0 1 0 0 0 5) = true ∧ Fovh.tail (flit 0 1 0 0 0 5) = false)
      ∧ (Fovh.tail (flit 0 0 1 0 0 5) = true ∧ Fovh.cancel (flit 0 0 1 0 0 5) = false ∧ r.head.toNat / 2 ^ 252 = 10
        ∧ r.head.toNat / 2 ^ 246 % 8 = 1) := by decide +kernel

/-- The flits that an output distinguishes: a control flit owed, one to be sent again, 64 unacknowledged, one of each
class, none. -/
theorem hyp_outputs :
    let p (c : Nat) : Sending := Sending.whole { pkt 10 0 0 with cls := BitVec.ofNat 2 c }
    let x := (port fun x => { x with outq := [p 1, p 2, p 3] }).link 31
    let y (n c : Nat) := (port fun x => { x with outq := [p c, p 1], wu := n, wb := n }).link 31
    (x.eligible 1 && x.eligible 2 && x.eligible 3) = true ∧ (y 6 2).eligible 2 = true ∧ 6 ≤ (y 6 2).wu ∧ 29 ≤ (y 29 3).wb
      ∧ ([1, 2, 3].all fun c => !((port id).link 31).eligible c) = true ∧ (List.replicate 64 (flit 0 0 0 0 0 0)).length = 64
      ∧ ((port fun x => { x with ctl := [0#256] }).link 31).ctl = [0#256] ∧ x.begun 3 0 = false := by decide +kernel

/-- Truncations of a packet that is valid and one that is not; a port that is down, one with a packet waiting, lanes of
each width. -/
theorem hyp_ports :
    let r (v : Bool) : Reasm := { head := 0#256, valid := v, out := none, flits := [], lastAt := 9 }
    (3#2 : BitVec 2) ≠ 0#2 ∧ spFind ((port fun x => { x with inp := [(5, r true)] }).link 31).inp (2 * (3 - 1) + 1) = some (r true)
      ∧ spFind ((port fun x => { x with inp := [(5, r false)] }).link 31).inp 5 = some (r false)
      ∧ ((port id).link 31).sent = [] ∧ ((port fun x => { x with outq := [Sending.whole (pkt 10 0 0)] }).link 31).outq = [Sending.whole (pkt 10 0 0)]
      ∧ (∀ j < 8, (0xFF).testBit (0 + j) = true) ∧ (∀ j < 4, (0x3C).testBit (2 + j) = true) ∧ (∀ j < 2, (0x81 + 0x40).testBit (6 + j) = true)
      ∧ ∀ i < 7, ¬((0x55).testBit i = true ∧ (0x55).testBit (i + 1) = true) := by decide +kernel

/-- Tile 0 in a phase, with a sequencer word. -/
def phased (p ctl : Nat) : State := State.reset.setTile 0 (((Tile.reset 0).setRg 0x051 (w64 (p * 2 ^ 40))).setRg 0x050 (w64 ctl))

/-- Milestones: a member of its group, running and stopped, at its start, between its phases and after its exchange. -/
theorem hyp_milestones :
    let run := 2 ^ 31 + 2 ^ 30
    let u (p ctl : Nat) := (phased p ctl).tile 0
    (u 1 run).stepRun = true ∧ (u 1 run).phase = 1 ∧ (u 1 (2 ^ 30)).stepRun = false ∧ (u 3 run).phase = 3 ∧ (u 5 run).phase = 5
      ∧ (u 5 run).stepCur = (u 5 run).stepLast ∧ (u 5 (run + 2 ^ 8)).stepCur ≠ (u 5 (run + 2 ^ 8)).stepLast
      ∧ (u 5 (run + 2 ^ 13)).stepWrap = true ∧ ((phased 1 run).membersOf { lvl := 0, idx := 0 }) = [0]
      ∧ ((phased 1 run).membersOf { lvl := 0, idx := 0 }).Nodup ∧ ((phased 1 (run + 4 * 2 ^ 32)).membersOf theDomain) = [0]
      ∧ ((phased 6 (run + 4 * 2 ^ 32)).tile 0).phase = 6
      ∧ ((phased 1 run).setMile theDomain (Mile.new 3)).mile theDomain = some (Mile.new 3) := by decide +kernel

/-- SequencerAndHeartbeats: a write of a member that runs with other fields and with the same ones, of one that is
stopped; pace time locked and not; one period short of the bound. -/
theorem hyp_sequencer :
    let run := 2 ^ 31 + 2 ^ 30
    let v (x : Nat) : W64 := w64 x
    let u := (phased 1 run).tile 0
    let beats := State.reset.modHub fun h => { h with beats := [(7, { missed := 3, got := false, halted := false })] }
    u.stepRun = true ∧ (v 1).toNat % 32 ≠ u.stepCur ∧ (v (2 ^ 30)).toNat % 32 = u.stepCur ∧ (v (2 ^ 30)).getLsbD 30 = u.stepMember
      ∧ ((phased 0 0).tile 0).stepRun = false ∧ ((phased 0 0).tile 0).phase = 0 ∧ (u.rg 0x050).toNat / 2 ^ 14 % 2 ^ 16 = 0
      ∧ (State.reset.hubRg 0x053).getLsbD 63 = false ∧ ((State.reset.setHubRg 0x053 (w64 (2 ^ 63))).hubRg 0x053).getLsbD 63 = true
      ∧ (beats.beatOf 7).missed + 1 = (State.reset.hubRg 0x07B).toNat / 2 ^ 8 % 16 ∧ (beats.tile 7).dead = false
      ∧ (State.reset.beatOf 7).missed + 1 ≠ (State.reset.hubRg 0x07B).toNat / 2 ^ 8 % 16
      ∧ ((port fun x => { x with missed := 3 }).link 31).missed + 1 = (State.reset.hubRg 0x07B).toNat / 2 ^ 8 % 16 := by decide +kernel

/-- A context of the tile with system privilege. -/
def systemic (n v : Nat) (f : Tile → Tile) : State :=
  let s := at' .k0 v fun t => f (t.modCtx .k0 fun c => c.setCr 0x074 1#64)
  if n = 0 then s else { s.setTile n (s.tile 0) with hand := { s.hand with tile := n } }

/-- ControlRegisters: numbers outside, unassigned, of a context, a tile and the hub; with and without privilege; a write
that its register refuses. -/
theorem hyp_registers :
    2 ^ 12 ≤ (at' .k0 4096 id).tv.toNat ∧ isAssigned 0x7FF = false ∧ isAssigned 0x020 = true ∧ isHubNum 0x020 = false
      ∧ isAssigned 0x07E = true ∧ isHubNum 0x07E = true ∧ isCtxNum 0x028 = true ∧ isTileNum 0x022 = true ∧ isHubNum 0x0EB = true
      ∧ (at' .k0 0 id).hc.isSys = false ∧ (systemic 0 0 id).hc.isSys = true ∧ readOnly 0x075 = false ∧ isAssigned 0x023 = true
      ∧ State.reset.refusesWrite { tile := 0, ctx := .k0, num := 0x030 } 3#64 = true
      ∧ State.reset.refusesWrite { tile := 0, ctx := .k0, num := 0x030 } 2#64 = false := by decide +kernel

/-- `xcsrr` and `tctl`: operand words with a reserved bit, of a tile past the last, of the last tile and the waymark
tile. -/
theorem hyp_targets :
    let m (o : Nat) : Nat := o / 2 ^ 32 % 2 ^ 11
    let bad (o : Nat) : Bool := decide (o / 2 ^ 47 ≠ 0 ∨ o / 2 ^ 43 % 4 ≠ 0 ∨ o / 2 ^ 12 % 2 ^ 20 ≠ 0)
    bad (2 ^ 47) = true ∧ bad (2 ^ 12) = true ∧ bad (1727 * 2 ^ 32 + 0x022) = false ∧ m (1728 * 2 ^ 32) = 1728 ∧ m (2046 * 2 ^ 32) = 2046
      ∧ m (1727 * 2 ^ 32) < 1728 ∧ m (2047 * 2 ^ 32) = 2047 ∧ isAssigned (0x022 % 2 ^ 12) = true := by decide

/-- An access of tile 0 to the hub, or to another tile. -/
def access (fn : Nat) (opo tv : Nat) : SysAccess :=
  { id := 9, fn := fn, tile := 0, ctx := .k0, opo := w64 opo, opp := 0#64, tv := w64 tv, xid := Context.reset.xid, acted := false }

def asking (x : SysAccess) (f : Tile → Tile) : State :=
  at' .k0 0 f |>.modHub fun h => { h with accesses := [x] }

theorem hyp_accesses_of_the_hub :
    (asking (access 0 0x07E 0) id).hub.accesses.find? (fun y => decide (y.fn ≤ 1 ∧ y.tile = 0 ∧ y.id = 9) && y.ctx = .k0)
        = some (access 0 0x07E 0)
      ∧ (asking (access 0 0x07E 0) id).hub.accesses.find? (fun y => y.fn = (if false then 2 else 0) && y.tile = 0 && y.ctx = .k0 && !y.acted
        && bits y.opo 0 12 = 0x07E) = some (access 0 0x07E 0)
      ∧ (asking (access 4 0 2) id).hub.accesses.find? (fun y => decide (2 ≤ y.fn ∧ y.id = 9)) = some (access 4 0 2)
      ∧ tgtTile (access 4 0 2).opo < 1728 ∧ isHubNum ((access 0 0x0EB 0).opo.toNat % 2 ^ 12) = true := by decide +kernel

/-- Fences: an earlier store of the context that still performs; nothing to wait for. -/
theorem hyp_fences : (fetching true).discards = false ∧ ((fetching true).tile 0).accesses.any (fun x => x.store && decide (x.issued < 1000 ∧ 1000 ≤ x.last))
    = true ∧ ((at' .k0 0 id).tile 0).accesses = [] ∧ 5 ≤ 5 := by decide +kernel

/-- TileControl: a tile frozen, quiet, halted, dead; an address that an image may have; contexts in each state; a chain
that is frozen and quiet. -/
theorem hyp_tile_states :
    let u (b : Nat) := (Tile.reset 0).setRg 0x077 (w64 (b * 2 ^ 60))
    let k (r : Run) := (at' .k0 0 fun t => t.modCtx .k0 fun c => { c with run := r }).ctx 0 .k0
    let all := (List.range 9).foldl (fun s n => s.setRg n 0x077 (w64 (12 * 2 ^ 60))) State.reset
    (u 8).frozen = true ∧ (u 4).quiet = true ∧ (u 2).halted = true ∧ (u 1).dead = true ∧ (u 8).dead = false ∧ (u 8).quiet = false
      ∧ (u 0).halted = false ∧ (k .trapped).run = .trapped ∧ (k .ready).run = .ready ∧ (k .idle).run = .idle ∧ (k .retiring).run = .retiring
      ∧ ((List.range 9).all fun m => (all.tile m).frozen && (all.tile m).quiet) = true ∧ (all.tile (all.slotTile 0 0)).cairn = none := by
  decide +kernel

/-- An image of tile 0 at an address where one may stand; the tile frozen, quiet and halted. -/
theorem hyp_image :
    let s := (at' .k0 0 fun t => t.setRg 0x077 (w64 (14 * 2 ^ 60)))
    let im : Image := { slot := s.slotOrLast 0, tile := Tile.reset 0, key := 0, material := spGet 0#512 s.hub.keys 0, usable := true, laid := [] }
    s.imageAddrOk 0x10000 = true ∧ s.imageAddrOk 0x10001 = false ∧ im.slot.isSome = true
      ∧ spFind ({ s with images := [(1, im)] } : State).images (0x10000 / 0x10000) = some im
      ∧ spFind s.images 1 = none ∧ s.tripped 0 = false ∧ (s.tile 0).marks = [] := by decide +kernel

/-- MonitorsTranslationsGranules: lines of the waymark tile, with an alert and without; numbers at the ends of their
ranges; a granule in each state; a corrected line and a lost one. -/
theorem hyp_monitors :
    let w (o : Nat) := { (at' .k0 0 id) with hand := { (at' .k0 0 id).hand with tile := waymark }, tiles := [(waymark, latches .sys o 0 (Tile.reset waymark))] }
    let g (n : Nat) := ({ State.reset with granules := [(511, { st := n, cls := 0, drainAt := 0 })] } : State).granule 511
    (w 64).hand.tile = waymark ∧ ((w 64).opo .sys).toNat % 2 ^ 52 = 64 ∧ (w 64).backed 64 = true ∧ ((w 65).opo .sys).toNat % 64 ≠ 0
      ∧ (w 64).hubRg 0x0ED = 0#64 ∧ (w 64).hub.trapq = [] ∧ (g 0).st = 0 ∧ (g 1).st = 1 ∧ (g 2).st = 2 ∧ (g 3).st = 3
      ∧ (at' .k0 0 (latches .sys 511 0)).opo .sys = 511#64 ∧ (systemic 0 63 id).hc.isSys = true ∧ (systemic 0 63 id).tv.toNat < 2 ^ 6
      ∧ spFind ({ State.reset with hbmMark := [(5, .corrected)] } : State).hbmMark 5 = some .corrected
      ∧ spFind ({ State.reset with hbmMark := [(5, .lost)] } : State).hbmMark 5 = some .lost ∧ (State.reset.granule (5 / 2 ^ 24)).cls = 0
      ∧ (State.reset.hubRg 0x067).getLsbD 63 = false := by decide +kernel

/-- A monitor to be woken; a shootdown on its way. -/
theorem hyp_wakes :
    let m : Monitor := { line := 1, limit := none, armed := 990 }
    spFind (State.reset.modHub fun h => { h with monitors := [(0, m)] }).hub.monitors (ctxNum .k0) = some m
      ∧ (asking (access 5 0x40 0) id).hub.accesses.find? (fun y => decide (2 ≤ y.fn ∧ y.id = 9)) = some (access 5 0x40 0)
      ∧ (access 5 0x40 0).opo.toNat % 8 < 4 ∧ (access 5 0x40 0).opo.toNat / 16 % 8 = 4 := by decide +kernel

/-- The checkpoint of a pair. -/
def checkpoint : Checkpoint :=
  { regs := Regs.reset, pc := 0, rstack := [], nest := Nest.reset, pend := [], wdog := none, latO := [], latP := [], tagO := [], ports := [] }

/-- Half of a coupled pair, with fingerprint f. -/
def half (partner f : Nat) (retried : Bool) : Pair :=
  { partner := partner, coupled := true, asked := false, leaving := false, words := 4, print := w64 f, undo := [], save := checkpoint
    closed := some 999, retried := retried, commitOk := true, opened := true, again := false }

/-- K0 of tiles 0 and 1 coupled. -/
def paired (f g : Nat) (retried : Bool) : State :=
  let c (p : Pair) (t : Tile) : Tile := t.modCtx .k0 fun c => { c with pair := some p, run := .ready, entry := some 0 }
  ((at' .k0 0 (c (half 1 f retried))).setTile 1 (c (half 0 g retried) (Tile.reset 1)))

/-- PairedMode: equal fingerprints, a first difference, a second. -/
theorem hyp_pairs :
    (paired 5 5 false).partnerOf 0 .k0 = some (half 1 5 false, 1, half 0 5 false) ∧ (half 1 5 false).print = (half 0 5 false).print
      ∧ (paired 5 6 false).partnerOf 0 .k0 = some (half 1 5 false, 1, half 0 6 false) ∧ (half 1 5 false).print ≠ (half 0 6 false).print
      ∧ (half 1 5 false).retried = false ∧ (paired 5 6 true).partnerOf 0 .k0 = some (half 1 5 true, 1, half 0 6 true)
      ∧ ((paired 5 5 false).ctx 0 .k0).entry.isSome = true ∧ ((paired 5 5 false).ctx 0 .k0).saved = none := by decide +kernel

/-- DebugAndTrace: a transition on a counted event, an encoder with a record, a trace area that stores and none, a
sample skipped. -/
theorem hyp_debug :
    let u := { (Tile.reset 0).setRg 0x080 3#64 with dbgCount := [(0, 1), (4, 1)], encoder := [⟨5#128, 2#2⟩] }
    let v := u.setRg 0x081 1#64
    (v.dbgEn && v.dbgArm) = true ∧ v.transits = true ∧ v.encoder = ⟨5#128, 2#2⟩ :: [] ∧ v.encLost = 0 ∧ State.reset.traceAreaOk (2 ^ 20) (2 ^ 20) = true
      ∧ State.reset.traceAreaOk 0 0 = false ∧ State.reset.backed (2 ^ 20) = true ∧ v.confidential = false
      ∧ (State.reset.hubRg 0x090).toNat / 2 ^ 56 * 2 ^ 20 = 0 := by decide +kernel

/-- HostAndLaunch: a line that stands and one past HBM; records of each type at the head of a queue of one record, and a
key slot in its range. -/
theorem hyp_launch :
    let cells (l : List (Nat × Byte)) (s : State) : State := { s with host := l }
    let s (type : Byte) := cells [(0x1000, 1#8), (0x1100, type), (0x1128, 63#8)] (State.reset.setHubRg 0x0F4 0x1000#64)
    let num (t : State) (a n : Nat) : Nat := ofLe (memBytes t.host a n)
    let at0 (t : State) (type : Nat) : Bool := decide (num t 0x1040 4 = 0 ∧ num t 0x1000 4 ≠ 0 ∧ num t 0x1100 1 = type)
    at0 (s 1#8) 1 = true ∧ at0 (s 2#8) 2 = true ∧ at0 (s 3#8) 3 = true ∧ num (s 2#8) 0x1128 1 = 63 ∧ ((s 2#8).hubRg 0x066).getLsbD 63 = false
      ∧ (State.reset.backed 0 && State.reset.online 0) = true ∧ (State.reset.backed (2 ^ 39 - 64) || !State.reset.online 0) = false
      ∧ 2 ^ 39 - 64 < 2 ^ 39 ∧ (State.reset.hubRg 0x0F4).toNat / 2 ^ 12 % 2 ^ 40 * 2 ^ 12 = 0 := by decide +kernel

/-- A launch whose image is refused, for its first four bytes. -/
theorem hyp_load :
    let b := memBytes State.reset.hbm 0 64
    leAt b 0 4 ≠ 0x31495458 ∧ State.reset.loadFails b 0 1#64 = some 1 := by decide +kernel

/-- HeatPowerAttestation: the hottest of a group of sensors; a meter that is off and one that is on; the responder at
each point of its order. -/
theorem hyp_heat :
    let at' (n : Nat) : Int := ((List.replicate 44 (1600 : Int))[n]?).getD 0
    let on := w64 (2 ^ 63 + 5)
    let m : Message := { param1 := 0#8, param2 := 3#8, body := [] }
    (∃ i < 8, (1600 : Int) = at' (0 + i)) ∧ (∀ i < 8, at' (0 + i) ≤ 1600) ∧ (State.reset.hubRg 0x0EF).toNat / 2 ^ 63 = 0
      ∧ ((State.reset.setHubRg 0x0EF on).hubRg 0x0EF).toNat / 2 ^ 63 = 1 ∧ State.reset.hub.spdm.versioned = false
      ∧ m.param1.toNat % 16 = 0 ∧ m.param2.toNat ≤ 3 ∧ 3 < ({ m with param2 := 4#8 } : Message).param2.toNat
      ∧ 2 ≤ (State.reset.modHub fun h => { h with zones := [(3, 2)] }).zone (1727 / 432) ∧ State.reset.zone 4 < 2
      ∧ (State.reset.hubRg (0x0E0 + 43 / 4)).toNat / 2 ^ (16 * (43 % 4)) % 2 ^ 16 ≠ 0x8000 := by decide +kernel

/-- StepRunsTheDecoded: tile 0 at the issue stage with K0 holding the primary slot, ready, at a word of zeros; a step
that is picked. -/
def issuing : State :=
  { State.reset.setTile 0 { (Tile.reset 0).modCtx .k0 fun c => { c with run := .ready } with primary := some .k0 } with
    micro := { stage := 5, todo := [0] } }

theorem hyp_step :
    let u := issuing.tile 0
    issuing.micro = { stage := 5, todo := 0 :: [] } ∧ u.displaces issuing.now = none ∧ u.issuer issuing.now = some .k0
      ∧ u.throttled issuing.now = false ∧ (issuing.ctx 0 .k0).dues = [] ∧ (issuing.ctx 0 .k0).takeable.isNone = true ∧ (issuing.ctx 0 .k0).pc ≤ 2047 := by
  decide +kernel

theorem hyp_step_decodes :
    (match decodeWord 0 .k0 (spGet 0#512 (issuing.tile 0).code 0) with
      | .ok i => decide (i = .transportWord 0 .k0 (wordOf 0#512))
      | .error _ => false) = true
      ∧ (match issuing.pick with | (_, some _) => true | _ => false) = true
      ∧ (match State.reset.pick with | (_, none) => true | _ => false) = true
      ∧ (decodeTableWord 512 0).isSome = true := by decide +kernel

/-- DecodeAndEncodeAgree: a legal word; a guard, a source and a destination at the ends of their ranges. -/
theorem hyp_encode :
    (Instr.transportWord 1727 .k3 (wordOf 0#512)).wf = true ∧ 31 < 32 ∧ Src.ok (.imm 0x3FF#10) = true ∧ Dst.ok (.reg .v 31) = true
      ∧ (encodeTrig (.fenceRw 5)).isSome = true ∧ (encodeHeader (.mxMm bare)).isSome = true ∧ (encodeControl (.nak 31 0#8 0#6)).isSome = true := by
  decide +kernel

/-- EveryStepKeepsTheInvariant: the state after reset meets it, and steps. -/
theorem hyp_invariant : State.reset.Inv ∧ ∃ t, step State.reset = .next t := by
  refine ⟨⟨by decide, by decide, by decide, by decide⟩, ?_⟩
  have h : (match step State.reset with | .next _ => true | _ => false) = true := by decide +kernel
  revert h
  cases step State.reset <;> simp

/-! ## More states for the obligations: number formats, traps, results -/

/-- Converts: a subnormal that is flushed, one of a type that is not, a least code of each sign of an integer. -/
theorem hyp_values :
    (∃ v, Finite (.fin true 1 (-149)) true v ∧ 0 < v ∧ v < 2 ^ (formatRow .f32).2.2.2) ∧ formatFlushes .f32 = true
      ∧ formatFlushes .e4m3 = false ∧ formatInf .e5m2 = true ∧ (15 : Nat) < 2 ^ (formatRow .e2m1).1 ∧ (2 : Nat) ^ (8 - 1) ≤ 128 ∧ 128 < 2 ^ 8 := by
  refine ⟨⟨_, ⟨1, -149, rfl, rfl⟩, ?_, ?_⟩, rfl, rfl, rfl, by decide, by decide, by decide⟩ <;> norm_num [formatRow]

/-- An operation on the float lanes of o, p and tv, each given from lane 0 on. -/
def lanes (so : Sock) (o p v : List Nat) : State :=
  let pack (l : List Nat) : Nat := l.foldr (fun x y => x + 2 ^ 32 * y) 0
  op so (pack o) (pack p) (pack v)

def laneOf (v : V1024) (j : Nat) : Ex := (decodeF .f32 (bits v (32 * j) 32)).flush .f32 false

/-- SpecialFunctions, BlocksAndReductions: a lane of each class, live and not, a count of 0 and one that is not, and the
records of rows without lanes, with NaN, with infinities and past every number. -/
theorem hyp_functions :
    let s := lanes .sfu [1, 0, 2] [0, 32] [0x7FC00000, 0x7F800000, 0xFF800000, 0, 0x80000000, 0x3F800000, 0xBF800000, 0x7F7FFFFF]
    let lane (j : Nat) : Ex := laneOf s.hand.tv j
    s.discards = false ∧ s.fp.ftz = false ∧ lane 0 = .nan ∧ lane 1 = .inf false ∧ lane 2 = .inf true ∧ lane 3 = .fin false 0 (-149) ∧ lane 4 = .fin true 0 (-149)
      ∧ lane 5 = .fin false (2 ^ 23) (-23) ∧ lane 6 = .fin true (2 ^ 23) (-23) ∧ (s.mask .sfu).testBit 31 = true
      ∧ ((at' .k0 0 fun t => t.modCtx .k0 fun c => c.setCr 0x02C (w64 (2 ^ 11))).mask .sfu).testBit 31 = false
      ∧ bits (s.ht.opp .sfu) 0 32 = 0 ∧ bits ((lanes .sfu [] [33] []).ht.opp .sfu) 0 6 = 33 ∧ bits (s.ht.opo .sfu) 64 32 = 2
      ∧ ((lanes .sfu [0, 0, 0, 7] [] []).ht.opo .sfu).getLsbD 98 = true ∧ ((lanes .sfu [0, 0, 0, 7] [] []).ht.opo .sfu).getLsbD 97 = true := by
  decide +kernel

/-- Tile 0 with a result of K0 in flight, captured or not, free-running or data-locked, and a taker of id 4 that waits. -/
def holding (locked : Bool) (by' : Option Capturer) : State :=
  let f : Flight :=
    { id := 5, so := .alu0, po := .r, ctx := .k0, locked := locked, due := some 1003, val := 5#1024, flags := 0, far := none, ready := none
      err := none, errAux := 0#64, errAt := none, raised := false }
  let o : SemOp := { id := 4, ctx := .k0, op := 0, addr := 5#64, opp := 0#64, tv := 0#64 }
  at' .k0 0 fun t => { t with
    flights := [f, { f with id := 8 }, { f with id := 9, ctx := .k1 }], sems := [(5, { SemWord.reset with takers := [o] })], nextId := 10
    captures := by'.toList.map fun w => { by' := w, d := 1, fl := f } }

/-- TakingATrap: results of this context and of another, one that a withdrawn take brings, captures of each event. -/
theorem hyp_traps :
    let u := (holding false none).tile 0
    u.flights.map (fun f => (f.ctx, f.id)) = [(.k0, 5), (.k0, 8), (.k1, 9)] ∧ (u.sem 5).takers.map (fun o => (o.ctx, o.id)) = [(.k0, 4)]
      ∧ u.flights.all (fun f => f.due = some 1003) = true
      ∧ [Capturer.freeze, .trap .k0, .handler .k1].all (fun w => ((holding true (some w)).tile 0).captures.all fun x => decide (x.by' = w)) = true := by
  decide +kernel

/-- AccessTests: an access of K2 that passes each test, at the last address of class P and of class U. -/
theorem hyp_accesses_pass :
    let c (n : Nat) : State := at' .k2 0 fun t => t.setRg 0x030 (w64 n)
    isRoutine (c 0).hand.ctx = false ∧ (c 0).ht.cls = 0 ∧ 0x5FF80 + 128 - 1 ≤ 0x5FFFF ∧ 0x5FF80 % 128 = 0 ∧ (c 2).ht.cls = 2
      ∧ 0x6BFF0 + 16 - 1 ≤ 0x6BFFF ∧ 0x6BFF0 % 16 = 0 ∧ (c 1).ht.cls = 1 ∧ (0x6000D + 1 - 1) % 16 < 14 := by decide +kernel

/-- Tile 0 with two results of alu0 due now, and staging-slice lines that are marked. -/
def colliding (a b : Bool) (far : Option (Nat × Nat)) (marks : Sparse Bool) : State :=
  let f : Flight :=
    { id := 3, so := .alu0, po := .r, ctx := .k0, locked := a, due := some 1000, val := 5#1024, flags := 1, far := far, ready := none
      err := none, errAux := 0#64, errAt := none, raised := false }
  (at' .k0 0 fun t => { t with flights := if far.isSome then [f] else [f, { f with id := 4, ctx := .k1, locked := b }], nextId := 5 }).setFurlong
    (furlongOf 0) { Furlong.reset with mark := marks }

/-- ResultsLand: two data-locked results, two of which the later is free-running, a far load of two lines of which the
second is marked. -/
theorem hyp_collisions :
    let fs (s : State) := (s.tile 0).flights.filter fun f => decide (f.so = .alu0 ∧ f.po = .r ∧ f.due = some s.now)
    let far := colliding true true (some (0x40, 128)) [(2, true)]
    (fs (colliding true true none [])).map (fun f => (f.id, f.locked)) = [(3, true), (4, true)]
      ∧ (fs (colliding true false none [])).map (fun f => (f.id, f.locked)) = [(3, true), (4, false)]
      ∧ (fs far).map (fun f => (f.locked, f.far, f.err)) = [(true, some (0x40, 128), none)] ∧ ((far.tile 0).captures = [])
      ∧ (spGet false (far.furlong (furlongOf 0)).mark 2 = true ∧ 0x40 / 64 ≤ 2 ∧ 2 ≤ (0x40 + 128 - 1) / 64 ∧ 2 < 2 ^ 17)
      ∧ (∀ i < 2, spGet false (far.furlong (furlongOf 0)).mark i = false) := by decide +kernel

/-- ResultsLand: a replayed free-running result has landed where a later one, or an earlier one, is due; a far load over
two marked lines. -/
theorem hyp_landed :
    let u := colliding true true none []
    let s (id : Nat) := u.modTile 0 fun t => { t with
      landed := ((t.flights.drop 1).map fun f => (4#64, { f with id := id, locked := false })), flights := t.flights.take 1 }
    let old (s : State) := (((s.tile 0).landed.filter fun p => decide (p.2.due = some s.now)).filter fun p =>
      decide (p.2.so = .alu0 ∧ p.2.po = .r)).map (·.2)
    let fs (s : State) := (s.tile 0).flights.filter fun f => decide (f.so = .alu0 ∧ f.po = .r ∧ f.due = some s.now)
    let far := colliding true true (some (0x40, 128)) [(1, true), (2, true)]
    ((old (s 2)).map (fun f => (f.id, f.locked)) = [(2, false)] ∧ (fs (s 2)).map (·.id) = [3])
      ∧ ((old (s 4)).map (fun f => (f.id, f.locked)) = [(4, false)] ∧ (fs (s 4)).map (·.id) = [3])
      ∧ (old far = [] ∧ (List.range 3).map (spGet false (far.furlong (furlongOf 0)).mark) = [false, true, true]) := by decide +kernel

/-- SramMaintenance: a write whose test has been passed, a lost mark met while the rewrite runs. -/
theorem hyp_rewrites :
    let s := { (at' .k0 0 fun t => { t.setRg 0x030 (w64 6) with marks := [(unitKey 7 383 1, .lost)] }) with accepted := [.sramcfgWrite 0 2#64] }
    .sramcfgWrite 0 2#64 ∈ s.accepted ∧ (s.tile 0).busy = true ∧ spFind (s.tile 0).marks (unitKey 7 383 1) = some .lost
      ∧ .sramcfgWrite 0 2#64 ∉ State.reset.accepted
      ∧ (7 < 8 ∧ 383 < 384 ∧ 1 < 2 ∧ (unitKey 7 383 1, Mark.lost) ∈ (s.tile 0).marks) := by decide +kernel

/-- MatrixStarts: a grant that has started in this cycle with the interval still to come, seven arrivals of a gang. -/
theorem hyp_queued :
    let s := (waiting 5 none).modChain 0 fun ch => { ch with granted := 1001, ivEnd := 1040 }
    let x := (at' .k0 0 id).mxForm 2 bare 0
    (s.chain 0).granted = s.now + 1 ∧ s.now < (s.chain 0).ivEnd ∧ (s.tile 0).eng.mx.isSome = true
      ∧ ((joined (List.replicate 7 x)).chain 0).arrivals.length = 7 ∧ ((waiting 2 none).tile 0).eng.mx.any (fun x => x.kind = 2) = true := by
  decide +kernel

/-- MatrixStarts: a grant of a frozen tile that has come to its start, and a complete gang of which a member is frozen. -/
theorem hyp_frozen_starts :
    let froze (s : State) := s.modTile 0 fun t => t.setRg 0x077 (w64 (2 ^ 63))
    let x := (at' .k0 0 id).mxForm 1 bare 0
    let r : MxRun :=
      { id := 4, members := [{ x with granted := some 1000 }], start := 1000, total := 60, passes := [], arows := [], crows := [], flags := []
        diffs := [], scaleseq := false, wfmt := false, errs := [] }
    let s := (froze (waiting 1 (some 1000))).modChain 0 fun ch => { ch with runs := [r] }
    let y : MxCmd := { x with kind := 2, tile := 1, slot := 1 }
    let g := froze (joined [{ x with kind := 2 }, y])
    ((s.tile 0).frozen = true ∧ (s.tile 0).eng.mx = some { x with granted := some 1000 }
      ∧ (s.chain 0).runs.find? (fun r => decide (s.now ≤ r.start ∧ r.start = 1000) && r.members.any fun z => decide (z.tile = 0)) = some r)
      ∧ ((g.chain 0).arrivals.map (·.1) = [{ x with kind := 2 }, y] ∧ (g.tile 0).frozen = true ∧ (g.tile 1).frozen = false) := by
  decide +kernel

/-- A run of two members of a gang, tiles 0 and 1, under acc, in a pass of two rows. -/
def ganging : State :=
  let x := (at' .k0 0 id).mxForm 2 bare 0
  let p : Pass :=
    { start := 990, row0 := 0, rows := 2, blk0 := 0, blks := 1, nbk := 0, wt := 0, cmax := 4, checked := false, write := true
      rep := false, pnum := 1 }
  let r : MxRun :=
    { id := 4, members := [{ x with fmt := w64 (2 ^ 13) }, { x with fmt := w64 (2 ^ 13), tile := 1, slot := 7 }], start := 980, total := 60, passes := [p], arows := []
      crows := [], flags := [], diffs := [(0, 1#64)], scaleseq := true, wfmt := true, errs := [] }
  ((at' .k0 0 fun t => t.modCtx .k0 fun c => { c with run := .ready, firing := x.firing }).setChain 0 { Chain.reset with runs := [r], nextId := 5 })

/-- MatrixRows, MatrixCompletes: members apart, with rows to come and old accumulators unread, as the errors of a run
have them. -/
theorem hyp_gang_runs :
    ((ganging.run? 0 4).any fun r => decide ((r.members.map (·.tile)).Nodup ∧ (r.members.map (·.slot)).Nodup)
        && r.members.all (fun x => x.slot < 8 && x.acc) && r.crows.isEmpty && (r.passes[0]?).any (fun a => decide (0 + 1 < a.rows))
        && !r.diffs.isEmpty && r.scaleseq && r.wfmt && r.members.all (fun x => (ganging.ctx x.tile x.ctx).runs x.firing || x.tile = 1)) = true
      ∧ (ganging.chain 0).wbOld = [] := by decide +kernel

/-- MatrixCompletes: a counter save held by a class rewrite, a run that starts later, a chain word whose test has been
passed. -/
theorem hyp_chain_updates :
    let x := (at' .k0 0 id).mxForm 7 bare 0
    let busy := at' .k0 0 fun t => { t.setRg 0x030 (w64 6) with eng := { t.eng with tcsave := some (1000, x) } }
    let s := { State.reset with accepted := [.chainWordWrite 191 5#64] }
    ((busy.tile 0).busy = true ∧ (busy.tile 0).eng.tcsave = some (1000, x)) ∧ .chainWordWrite 191 5#64 ∈ s.accepted
      ∧ .chainWordWrite 0 5#64 ∉ State.reset.accepted ∧ State.reset.chainWordOk 0 5#64 = false
      ∧ ((running 1).run? 0 4).any (fun r => decide (r.start < (running 1).now)) = true := by decide +kernel

/-- TileStoreCopies: a class rewrite that puts bank accesses off, and a command of a firing that runs, with an error. -/
theorem hyp_tsw_errors :
    let s := at' .k0 0 fun t => { t.setRg 0x030 (w64 6) with
      k0 := { t.k0 with run := .ready }, eng := { t.eng with tsw := some { tswOf 63 0 0 7 with err := some .uncorr } } }
    (s.tile 0).busy = true ∧ (s.tile 0).eng.tsw = some { tswOf 63 0 0 7 with err := some .uncorr }
      ∧ (s.ctx 0 .k0).runs 0 = true ∧ UnitKind.read ≠ .chain := by decide +kernel

/-- RemoteSemaphores: a release form of a context whose store has still to perform, and of one that has nothing to wait
for. -/
theorem hyp_releases :
    let s := (fetching true).modTile 0 (latches .sem (2 ^ 63 + 2 ^ 15 + 5) 0)
    let local' := (fetching true).modTile 0 (latches .sem (2 ^ 15 + 5) 0)
    let due (s : State) : Bool := (s.tile 0).accesses.any fun y => y.store && decide (y.q < 4 ∧ y.ctx = .k0 ∧ y.issued < s.now ∧ s.now ≤ y.last)
    ((s.opo .sem).getLsbD 63 = true ∧ (s.opo .sem).getLsbD 15 = true ∧ (s.opo .sem).toNat / 2 ^ 32 % 2 ^ 11 ≤ 1535 ∧ due s = true)
      ∧ ((local'.opo .sem).toNat < 2 ^ 16 ∧ (local'.opo .sem).toNat % 2 ^ 14 < 2 ^ 9 ∧ (local'.opo .sem).getLsbD 15 = true ∧ due local' = true)
      ∧ due (at' .k0 0 id) = false ∧ ((at' .k0 0 id).tile 0).net.awaited = [] ∧ ((at' .k0 0 id).tile 0).net.answered = []
      ∧ ((at' .k0 0 id).tile 0).semActed ≠ (at' .k0 0 id).now + 1 := by decide +kernel

/-- RemoteSemaphores, PacketsArrive: a tile that refuses packets, one at whose input a packet of the same class and VC
waits, and one that has let such a packet go. -/
theorem hyp_entering :
    let halted := at' .k0 0 fun t => t.setRg 0x077 (w64 (2 ^ 61))
    let behind := at' .k0 0 fun t => { t with net := { t.net with waiting := [pkt 1 0 0] } }
    (halted.refuses 0).isSome = true ∧ (State.reset.refuses 0).isSome = false ∧ ¬Enters behind 0 (pkt 4 0 5)
      ∧ ¬Enters (at' .k0 0 fun t => { t with net := { t.net with passing := [pkt 3 0 5] } }) 0 (pkt 4 0 5)
      ∧ Enters (at' .k0 0 id) 0 (pkt 4 0 5) ∧ Enters (behind.modTile 0 fun t => { t with net := { t.net with passing := [pkt 4 0 5] } }) 0 (pkt 4 0 5) := by
  unfold Enters
  decide +kernel

/-- CopyRuns: copies to and from virtual memory with pages at hand and without, a line that the host may cache, tile
SRAM in a class rewrite, the units of each space, and a completion interrupt that its context takes. -/
theorem hyp_copy_pages :
    let pg (v p : Nat) : XPage := { asid := 0, glob := false, vpage := v, size := 4096, pa := p, key := 1 }
    let x := { copy 1 2 2 with sx := [pg 0 (2 ^ 51)], dx := [pg 0 0x1000] }
    let s := { copies [x] with hostCached := [(0x40, true)] }
    let busy := (copies [copy 1 0 0]).modTile 0 fun t => t.setRg 0x030 (w64 6)
    (LaidOut s ∧ x.ssp = 2 ∧ x.dsp = 2 ∧ x.olds = [] ∧ x.bufBad = [] ∧ (copy 1 2 2).dx = [])
      ∧ (x.sx.find? (fun p => decide (p.vpage = 0 / 4096)) = some (pg 0 (2 ^ 51)) ∧ (pg 0 (2 ^ 51)).pa % 4096 = 0)
      ∧ (unitsOf 2 0 8)[0]? = some (0, 8) ∧ spGet false s.hostCached (0x1000 / 64) = true ∧ spGet false s.hostCached (0x2000 / 64) = false
      ∧ (busy.tile 0).busy = true ∧ [0, 1, 2, 3, 4, 5, 6, 7].all (fun d => (copy 1 1 d).dsp = d) = true
      ∧ ((copies []).ctx 0 .k0).irqs.length < 8 ∧ isRoutine .k0 = true := by
  unfold LaidOut
  decide +kernel

/-- CopyRuns: writes on their way to the slice, to a page and to a code store, the last of an element among them; a
command at a stop point, aborted, with a fault, and at its end; a fill, whose element begins without a read. -/
theorem hyp_copy_writes :
    let pg : XPage := { asid := 0, glob := false, vpage := 0, size := 4096, pa := 0x1000, key := 1 }
    let w (p : Option XPage) : OutWrite := { e := 0, j := 0, addr := 8, page := p, bytes := List.replicate 8 7#8, bad := false }
    let x (kind d : Nat) (p : Option XPage) : Copy := { copy kind 0 d with outs := [w p], done := 1 }
    let found (y : Copy) : Bool := decide ((y.outs.find? fun o => decide (o.e = 0 ∧ o.j = 0)) = y.outs.head?) && y.outs.length = 1
    let full := { copy 1 0 1 with done := 512 }
    ([(1, 1), (1, 2), (1, 5), (4, 1)].all fun q => found (x q.1 q.2 (some pg)) && (x q.1 q.2 none).dsp = q.2) = true
      ∧ (8 % 64 + (w none).bytes.length ≤ 64 ∧ 8 % 8 + (w none).bytes.length ≤ 8 ∧ pg.pa % 4096 = 0)
      ∧ (full.size = 8 ∧ full.progress < full.done ∧ full.done * full.size % 4096 = 0 ∧ full.done ≠ full.total ∧ full.fault.isNone = true)
      ∧ ((copy 1 0 1).exact = false ∧ (copy 3 0 1).hasSrc = false ∧ (copy 1 0 1).hasSrc = true ∧ (copy 3 0 1).dsp = 1) := by
  decide +kernel

/-- PacketsArrive: a message where none is held yet and where one is, a return to this tile, a hold that has lasted
4,096 cycles, and a transfer that is not the next to be taken. -/
theorem hyp_holds :
    let s := { (inboxed 32 true) with now := 900 + 4096 }
    let free := (inboxed 32 true).modTile 0 fun t => { t with net := { t.net with held := none } }
    let svc := (inboxed 32 false).modTile 0 fun t => t.setRg 0x038 1#64
    let x := at' .k0 0 fun t => { t with net := { t.net with xin := [(1000, 990, pkt 8 0 0)] } }
    ((s.tile 0).net.held = some (900, arrival, pkt 1 0 0) ∧ 900 + 4096 = s.now ∧ (s.tile 0).net.spillAt = [])
      ∧ ((free.tile 0).net.overflow = true ∧ (free.tile 0).net.held = none ∧ (pkt 1 0 0).ptype = 1#4 ∧ (pkt 2 0 0).ptype ≠ 1#4)
      ∧ ((svc.tile 0).net.overflow = false ∧ (svc.tile 0).net.free = none ∧ ((svc.tile 0).rg 0x038).getLsbD 0 = true
        ∧ (((inboxed 32 false).tile 0).rg 0x038).getLsbD 0 = false)
      ∧ ((pkt 2 0 0).ddev.toNat = svc.deviceId ∧ svc.destTile (pkt 2 0 0).dtile.toNat = some 0)
      ∧ ((x.tile 0).net.xin.find? (fun y => decide (y.2.1 ≤ x.now)) = some (1000, 990, pkt 8 0 0) ∧ pkt 8 0 4 ≠ pkt 8 0 0)
      ∧ ({ pkt 4 0 5 with sdev := 1#20 } : Packet).sdev.toNat ≠ State.reset.deviceId := by decide +kernel

/-- FabricPorts: a packet of port 31 that goes on through port 30, waiting there and under way; flits to be sent again
of a stopped pair and of one that is not; a recovery packet begun whose next flit has not come; what a dead port
holds. -/
theorem hyp_forwarding :
    let c (more : Bool) (left : List Flit) : Sending := { pkt := pkt 4 0 5, left := left, src := some (31, 0), more := more }
    let r : Reasm := { head := 0#256, valid := true, out := some 30, flits := [], lastAt := 9 }
    let s := ((port fun x => { x with inp := [(0, r)] }).setLink 30
      { LinkEnd.reset with up := true, outq := [c true []], cur := [(2, c true [])], stopTx := 1#6, resend := [flit 0 1 0 0 0 0, flit 1 1 0 0 0 0] })
    let y := s.link 30
    let w := (port fun x => { x with cur := [(4, { c true [] with pkt := { pkt 9 0 0 with cls := 3#2 } })] }).link 31
    spFind (s.link 31).inp 0 = some r ∧ c true [] ∈ y.outq ∧ (c true []).src = some (31, 0) ∧ spFind y.cur 2 = some (c true [])
      ∧ bitOf y.stopTx (Fovh.pair (flit 0 1 0 0 0 0)) = true ∧ bitOf y.stopTx (Fovh.pair (flit 1 1 0 0 0 0)) = false
      ∧ (w.begun 3 0 = true ∧ w.eligible 3 = false)
      ∧ (let z := { LinkEnd.reset with cur := [(0, c false [flit 0 0 1 0 0 0])], outq := [c false [flit 1 1 0 0 0 0]] }
        z.begun 1 0 = true ∧ z.begun 1 1 = false ∧ bitOf z.stopTx 0 = false ∧ z.eligible 1 = true) ∧ y.outq = [c true []] ∧ y.sent = [] ∧ y.inp = []
      ∧ (c false [flit 0 1 0 0 0 0]).left = flit 0 1 0 0 0 0 :: [] := by decide +kernel

/-- Milestones, SequencerAndHeartbeats: a milestone of the domain with a child that has reported, a domain that has
failed, and an accepted write. -/
theorem hyp_domain :
    let s := (phased 6 (2 ^ 31 + 2 ^ 30 + 4 * 2 ^ 32)).setMile theDomain { Mile.new 3 with children := [(5, 1, 1)] }
    (s.mile theDomain).any (fun m => decide (m.children = [(5, 1, 1)])) = true ∧ State.reset.mile theDomain = none
      ∧ (s.membersOf theDomain).all (fun n => (s.tile n).phase = 6) = true ∧ (s.membersOf theDomain).Nodup ∧ s.membersOf theDomain ≠ []
      ∧ (State.reset.tile 0).silent = false ∧ ((at' .k0 0 fun t => { t with silent := true }).tile 0).silent = true
      ∧ State.reset.membersOf theDomain = [] ∧ .stepctlWrite 0 5#64 ∈ ({ s with accepted := [.stepctlWrite 0 5#64] } : State).accepted := by
  decide +kernel

/-- ControlRegisters: accesses of each function on their way, to a register that refuses and to a dead tile. -/
theorem hyp_remote_registers :
    let s (fn opo opp : Nat) (f : Tile → Tile) : State := asking { access fn opo 0 with opp := w64 opp } f
    let found (s : State) (fn : Nat) : Bool := (s.hub.accesses.find? (fun y => decide (2 ≤ y.fn ∧ y.id = 9))).any fun x => x.fn = fn && x.tile = 0
    found (s 2 0x07E 0 id) 2 = true ∧ found (s 3 0x030 3 id) 3 = true ∧ (s 3 0x030 3 id).refusesWrite (tgtReg 0x030#64) 3#64 = true
      ∧ (s 3 0x030 2 id).refusesWrite (tgtReg 0x030#64) 2#64 = false ∧ ((s 2 0x022 0 fun t => t.setRg 0x077 (w64 (2 ^ 60))).tile 0).dead = true
      ∧ ((asking (access 1 0x057 5) id).hub.accesses.find? (fun y => decide (y.fn ≤ 1 ∧ y.tile = 0 ∧ y.id = 9) && y.ctx = .k0)).any
        (fun x => decide (x.fn = 1)) = true := by decide +kernel

/-- TileControl: captures that wait for their value, by the freeze and by a trap; local accesses under way; a mark that
is lost; a zone that trips; a trapped context that was ending; a cairn of a slot that can be rolled back. -/
theorem hyp_waits :
    let frozen (f : Tile → Tile) : State := asking (access 4 0 4) fun t => f (t.setRg 0x077 (w64 (12 * 2 ^ 60)))
    let cap (w : Capturer) (t : Tile) : Tile := { t with
      captures := (((holding true (some w)).tile 0).captures).map fun x => { x with fl := { x.fl with due := none } } }
    let cairn : Cairn := { sram := [(3, List.replicate 256 7#8)], sems := [], srcs := [], srcsLogged := false, toks := [], tsLines := []
                           sides := [], wbLines := [], fmts := [], laid := [], used := 0 }
    let waits (s : State) (w : Capturer) : Bool := (s.tile 0).captures.any fun y => decide (y.by' = w) && y.fl.locked && y.fl.due.isNone
    waits (frozen (cap .freeze)) .freeze = true ∧ waits (frozen (cap (.trap .k0))) (.trap .k0) = true
      ∧ ((frozen fun t => { t with accesses := ((fetching true).tile 0).accesses }).tile 0).accesses.any (fun y => decide (1000 ≤ y.last)) = true
      ∧ ((frozen fun t => t.setRg 0x030 4#64).tile 0).busy = true
      ∧ ((frozen fun t => { t with marks := [(3, .corrected)] }).tile 0).marks.any (fun p => p.2 = .corrected) = true
      ∧ ({ State.reset with hbmMark := [(0x10000 / 64 + 1, .lost)] } : State).hbmMark.any (fun p => decide (p.2 = .lost
        ∧ 0x10000 ≤ 64 * p.1 ∧ 64 * p.1 < 0x10000 + 0xA0000)) = true
      ∧ ((frozen fun t => { t with marks := [(3, .lost)] }).tile 0).marks.any (fun p => p.2 = .lost) = true
      ∧ (State.reset.modHub fun h => { h with zones := [(4, 4)] }).tripped 0 = true
      ∧ (((frozen id).modCtx 0 .k0 fun c => { c with run := .trapped, ending := true }).ctx 0 .k0).ending = true
      ∧ (((frozen fun t => { t with cairn := some cairn }).tile 0).cairn.isSome = true ∧ cairn.sram.all (fun p => p.2.length = 256) = true
        ∧ (((frozen id).tile 0).rg 0x079).getLsbD 62 = false) := by decide +kernel

/-- MonitorsTranslationsGranules: an element in hand under a selected entry and in a draining granule; a probe on its
way. -/
theorem hyp_in_hand :
    let pg : XPage := { asid := 7, glob := false, vpage := 5, size := 0, pa := 3 * 2 ^ 30, key := 0 }
    let s := copies [{ copy 1 2 0 with sx := [pg] }]
    s.tiles.any (fun u => u.2.eng.copies.any fun y => y.sx.contains pg) = true ∧ pg.pa / 2 ^ 30 = 3
      ∧ (0x5123 : Nat) % 2 ^ 57 / (4096 * 4 ^ pg.size) = pg.vpage * 4096 / (4096 * 4 ^ pg.size)
      ∧ ((asking (access 6 1 0x5000) id).hub.accesses.find? (fun y => decide (2 ≤ y.fn ∧ y.id = 9))) = some (access 6 1 0x5000)
      ∧ LaidOut (asking (access 6 1 0x5000) id) ∧ State.reset.tiles = [] := by
  unfold LaidOut
  decide +kernel

/-- PairedMode: a context that may pair and is not yet paired, a pair's intervals with logged stores; DebugAndTrace: a
record that is lost. -/
theorem hyp_pairing :
    let s := at' .k0 0 fun t => t.modCtx .k0 fun c => { c with entry := some 0 }
    let p : Pair := { half 1 5 false with undo := [(2 * (0x1234 / 128) + 1, 9#1024)] }
    let u := { (Tile.reset 0).setRg 0x080 9#64 with encLost := 3, encoder := [⟨5#128, 2#2⟩] }
    (s.hc.entry.isSome = true ∧ s.hc.saved = none ∧ s.hc.pair = none ∧ s.slotOfTile 0 = some 0)
      ∧ p.undo.all (fun w => w.1 = 2 * (0x1234 / 128) + 1) = true
      ∧ (u.encLost ≠ 0 ∧ (u.rg 0x080).getLsbD 0 = true ∧ (u.rg 0x080).getLsbD 3 = true ∧ u.confidential = false ∧ u.encoder.tail.length < 64) := by
  decide +kernel

/-- The cells of a string of bytes. -/
def cells (a : Nat) (b : List Byte) : List Host.Cell := (b.mapIdx fun i v => (a + i, v)).filter fun c => c.2 ≠ 0#8

/-- The least image: a header, and one section of one code word for every tile of one chain. -/
def image (magic : Nat) : List Byte :=
  leBytes 4 magic ++ leBytes 2 0x1728 ++ [1#8, 2#8] ++ leBytes 2 1 ++ leBytes 2 1 ++ leBytes 4 0 ++ leBytes 8 64 ++ leBytes 8 0 ++ leBytes 8 160
    ++ List.replicate 24 0#8 ++ [1#8, 0#8] ++ leBytes 2 0xFFFF ++ leBytes 4 0 ++ leBytes 8 96 ++ leBytes 8 64 ++ leBytes 8 0 ++ leBytes 64 5

/-- HostAndLaunch: a launch that loads its image, one whose tiles are too weak, one with an error in it, one from a
granule that drains, and one in the cycle in which that begins. -/
theorem hyp_launches :
    let s := { State.reset with hbm := cells 0 (image 0x31495458) }
    let b := memBytes s.hbm 0 (max 64 (ofLe (memBytes s.hbm 32 8)))
    let lost := { s with hbmMark := [(1, .lost)] }
    let strict := { s with tiles := [(0, (Tile.reset 0).setRg 0x030 2#64)] }
    let draining := { s with granules := [(0, { st := 1, cls := 0, drainAt := 5 })] }
    let reading (s : State) : Bool := s.readable 0 64 && (imageParts b).all fun x => s.readable (0 + x.1) x.2
    (reading s = true ∧ draining.readable 0 64 = false ∧ headerFails b = none ∧ reading { draining with now := 5 } = true) ∧
    s.loadFails b 191 0#64 = none ∧ s.tooWeak 0 (chainsUsed b) (leAt b 7 1) = false ∧ s.imageErrors 0 b = []
      ∧ (lost.imageErrors 0 b).any (fun p => p.2 = .lost) = true ∧ strict.tooWeak 0 (chainsUsed b) 1 = true
      ∧ ((imageSections b).map fun x => (x.kind, x.tile, x.size)) = [(1, 0xFFFF, 64)] ∧ imageRelocs b = []
      ∧ (9 * 191 ≤ s.physical (8 * 191) ∧ s.physical (8 * 191) < 9 * 192) ∧ ∀ p < 8, s.physical (8 * 191 + p) = s.physical (8 * 191) → p = 0 := by
  decide +kernel

/-- HostAndLaunch, HeatPowerAttestation: an address of the host past the decoder, an uncorrectable line; the cycles of a
latch and of a meter. -/
theorem hyp_platform :
    State.reset.hub.hdmBase + 2 ^ 39 ≤ 2 ^ 51 ∧ 2 ^ 51 ≤ 2 ^ 52 - 1 ∧ State.reset.hub.hdmBase + 2 ^ 39 ≤ 2 ^ 52 ∧ State.reset.unlaid 0 = false
      ∧ spFind ({ State.reset with hbmMark := [(0, .lost)] } : State).hbmMark 0 = some .lost ∧ (State.reset.granule 0).cls ≠ 2
      ∧ (2 ^ 14 % 2 ^ 14 = 0 ∧ 2 ^ 14 ≠ 0) ∧ (2 ^ 16 - 1 + 1) % 2 ^ 16 = 0 ∧ (State.reset.tiles.map Prod.fst).Pairwise (· < ·)
      ∧ ((State.reset.ctx 0 .k0).cr 0x074).getLsbD 14 = false := by decide +kernel

end Sys2Proof.Tests
end

section
/-!
PROOFS (20 R456, 03 R51, R58, 18 R402). The machine right after reset: what a context of it is, and the registers that its
field maps leave at 0.
-/

namespace Sys2Proof.Machine

/-- Reset sets one control register of the waymark tile's contexts, the privilege in `ctxcfg` (18 R402). -/
theorem ctx_reset (n : Nat) (k : Ctx) :
    State.reset.ctx n k = { Context.reset with creg := if n = waymark then [(0x074, 1#64)] else [] } := by
  have h : State.reset.ctx n k = if n = waymark then { Context.reset with creg := [(0x074, 1#64)] } else Context.reset := by
    cases k <;> rfl
  rw [h]
  split <;> rfl

theorem cr_ctx_reset (n : Nat) (k : Ctx) (r : Nat) :
    (State.reset.ctx n k).cr r = if n = waymark ∧ r = 0x074 then 1#64 else ctxRegReset r := by
  rw [ctx_reset]
  by_cases hn : n = waymark <;> simp [Context.cr, hn, spGet]

theorem ctxRegReset_eq_zero (r : Nat) (h : r ∉ [0x061, 0x062, 0x063]) : ctxRegReset r = 0#64 := by
  unfold ctxRegReset
  split <;> simp_all

theorem cr_ctx_reset_of_ne (n : Nat) (k : Ctx) (r : Nat) (h : r ≠ 0x074) : (State.reset.ctx n k).cr r = ctxRegReset r := by
  simp [cr_ctx_reset, h]

theorem cr_ctx_reset_eq_zero (n : Nat) (k : Ctx) (r : Nat) (h : r ∉ [0x061, 0x062, 0x063, 0x074]) :
    (State.reset.ctx n k).cr r = 0#64 := by
  simp only [List.mem_cons, List.not_mem_nil, or_false, not_or] at h
  obtain ⟨h1, h2, h3, h4⟩ := h
  rw [cr_ctx_reset_of_ne n k r h4, ctxRegReset_eq_zero r (by simp [h1, h2, h3])]

theorem ctxcfg_ctx_reset (n : Nat) (k : Ctx) : (State.reset.ctx n k).cr 0x074 = if n = waymark then 1#64 else 0#64 := by
  simp [cr_ctx_reset, ctxRegReset]

theorem tileRegReset_eq_zero (r : Nat) (h : r ≠ 0x020) : tileRegReset r = 0#64 := by
  unfold tileRegReset
  split <;> simp_all

theorem hubRegReset_eq_zero (r : Nat) (h : r ∉ [0x053, 0x054, 0x057, 0x064, 0x07B, 0x090, 0x0EF]) :
    hubRegReset r = 0#64 := by
  unfold hubRegReset
  split <;> simp_all

/-- A context of the waymark tile has system privilege after reset, and no other has. -/
theorem isSys_ctx_reset (n : Nat) (k : Ctx) : (State.reset.ctx n k).isSys = decide (n = waymark) := by
  have hs : (State.reset.ctx n k).saved = none := by rw [ctx_reset]; rfl
  have one : bitOf 1#64 0 = true := by decide
  have zero : bitOf 0#64 0 = false := by decide
  rw [Context.isSys, Context.sysField, ctxcfg_ctx_reset, hs]
  by_cases hn : n = waymark
  · simp [hn, one]
  · simp [hn, zero]

theorem toNat_spGet_nil (w i : Nat) : (spGet 0#w [] i).toNat = 0 := BitVec.toNat_zero

theorem read_ctx_reset (n : Nat) (k : Ctx) (f : RegFile) (i : Nat) : (State.reset.ctx n k).regs.read f i = 0 := by
  have hregs : (State.reset.ctx n k).regs = Regs.reset := by rw [ctx_reset]; rfl
  rw [hregs]
  cases f <;> simp only [Regs.read, Regs.reset, toNat_spGet_nil]

/-- Settles O58. After reset nothing is listed, so every clause reads the default of a field map; the contexts alone differ
between tiles, by the `ctxcfg` of the waymark tile. -/
theorem resetState : Obligations.ResetState := by
  unfold Obligations.ResetState
  refine ⟨fun n k => ?_, fun n => ?_, fun c => ?_, fun f => ⟨rfl, rfl, rfl, rfl⟩, rfl, rfl, rfl, rfl, rfl, fun a => rfl,
    fun c => ⟨rfl, rfl, fun j => rfl⟩, fun g => rfl, fun l => ⟨rfl, rfl, rfl⟩, rfl, rfl, rfl, rfl, rfl, by decide, rfl, rfl,
    rfl, rfl, rfl, hubRegReset_eq_zero, rfl, rfl, rfl, rfl, rfl⟩
  · have hne (r : Nat) (h : r ≠ 0x074) := cr_ctx_reset_of_ne n k r h
    refine ⟨?_, ?_, ?_, ?_, ?_, isSys_ctx_reset n k, hne _ (by decide), hne _ (by decide), hne _ (by decide), hne _ (by decide),
      hne _ (by decide), cr_ctx_reset_eq_zero n k, ctxcfg_ctx_reset n k, ?_, ?_, ?_, read_ctx_reset n k, ?_, ?_, ?_, ?_⟩
      <;> rw [ctx_reset] <;> rfl
  · exact ⟨rfl, rfl, rfl, rfl, rfl, rfl, rfl, rfl, tileRegReset_eq_zero, rfl, rfl, rfl, fun a => rfl, fun a => rfl,
      fun so => ⟨rfl, rfl⟩, rfl, rfl, rfl, rfl, rfl, rfl, rfl, fun i => rfl, fun i => rfl, fun i => rfl⟩
  · exact ⟨rfl, rfl, rfl, rfl, rfl, rfl, rfl, rfl, rfl, rfl⟩

end Sys2Proof.Machine
end

section
/-!
PROOFS (10 R220, 20 R453). The write of a counter save notes the end of its command on the tile that issued the command,
which `MatrixCompletes` does not tie to the tile whose engine holds the save.
-/

namespace Sys2Proof.Machine

@[simp] theorem State.tile_tokenDoneAt (s : State) (n k cyc m : Nat) : (s.tokenDoneAt n k cyc).tile m = s.tile m := by
  unfold State.tokenDoneAt
  split <;> rfl

/-- The end of a command is noted on its own tile (20 R453). -/
theorem State.tile_mxEnds (s : State) (x : MxCmd) :
    (s.mxEnds x).tile x.tile = (s.tile x.tile).event 0x07 x.ctx 0 (2 + x.h.tokp.toNat * 2 ^ 4) :=
  State.tile_modTile_same _ _ _

/-- A tile whose debug module runs, and that is not confidential, keeps an event of the cycle. -/
theorem Tile.event_ne (t : Tile) (code : Nat) (k : Ctx) (word data : Nat) (hint : BitVec 2)
    (hrun : bitOf (t.rg 0x080) 0 = true) (hconf : t.confidential = false) : t.event code k word data hint ≠ t := by
  intro h
  have hlen := congrArg (fun u : Tile => u.events.length) h
  simp [Tile.event, hrun, hconf] at hlen

/-- The write of a counter save touches, besides the tile that holds it, the tile that issued its command. -/
theorem execMxTcsaveWrite_other_tiles (s : State) (n w : Nat) (x : MxCmd) (hx : (s.tile n).eng.tcsave = some (w, x))
    (hb : (s.tile n).busy = false) :
    ∃ t, execMxTcsaveWrite n s = .next t ∧ ∀ m, m ≠ n → t.tile m = (s.mxEnds x).tile m := by
  refine ⟨_, by simp only [execMxTcsaveWrite, hx, hb]; rfl, fun m hm => ?_⟩
  rw [State.tile_tokenDoneAt, State.tile_modTile_other _ _ _ _ hm]

/-- A counter save in the engine of a tile that did not issue it changes the issuing tile, where that tile is traced. -/
theorem execMxTcsaveWrite_changes_issuer (s t : State) (n w : Nat) (x : MxCmd)
    (hx : (s.tile n).eng.tcsave = some (w, x)) (hb : (s.tile n).busy = false) (hn : x.tile ≠ n)
    (hrun : bitOf ((s.tile x.tile).rg 0x080) 0 = true) (hconf : (s.tile x.tile).confidential = false)
    (ht : execMxTcsaveWrite n s = .next t) : t.tile x.tile ≠ s.tile x.tile := by
  obtain ⟨u, hu, hother⟩ := execMxTcsaveWrite_other_tiles s n w x hx hb
  cases hu.symm.trans ht
  rw [hother _ hn, State.tile_mxEnds]
  exact Tile.event_ne _ _ _ _ _ _ hrun hconf

/-- A counter save that tile 9 has issued. -/
def saveOfTile9 : MxCmd :=
  { kind := 7, h := { tokp := 63#6, toka := 63#6, tokb := 63#6, tokc := 63#6 }, tile := 9, slot := 0, ctx := .k0, firing := 0
    fmt := 0x233#64, fpmode := 0#64, st := [], tiles := [], issued := 0, arrived := 0, granted := none, errs := [] }

/-- Tile 9 with its debug module running and that save in its engine. -/
def tracedSaver : Tile :=
  { (Tile.reset 9).setRg 0x080 1#64 with eng := { Engines.reset with tcsave := some (0, saveOfTile9) } }

/-- The image of tile 9 has been restored on tile 0, which holds the same slot of another chain (18 R421): both engines
hold the save of tile 9. -/
def saverRestoredElsewhere : State :=
  { State.reset with tiles := [(0, (Tile.reset 0).restored tracedSaver), (9, tracedSaver)] }

/-- Refutes O34: its clause on counter saves says that the write changes no other tile, but asks nowhere that the tile which
holds the save is the one that issued it. After a restore on another tile it is not, and the write on tile 0 notes an event on
tile 9. -/
theorem not_matrixCompletes : ¬ Obligations.MatrixCompletes := by
  unfold Obligations.MatrixCompletes
  intro h
  have hsave : (saverRestoredElsewhere.tile 0).eng.tcsave = some (0, saveOfTile9) := rfl
  have hbusy : (saverRestoredElsewhere.tile 0).busy = false := by decide
  obtain ⟨-, hsaves, -⟩ := h saverRestoredElsewhere 0
  obtain ⟨t, ht, -, -, -, -, hother, -⟩ := (hsaves 0 0 saveOfTile9 rfl hsave).1 hbusy
  exact execMxTcsaveWrite_changes_issuer _ t 0 0 saveOfTile9 hsave hbusy (by decide) (by decide) (by decide) ht
    (hother 9 (by decide))

end Sys2Proof.Machine
end

section
/-!
PROOFS (02 R23 to R33, R41, 14 R293). The bits of a word, of a move and of every other written form read back as the fields
they were made from.
-/

namespace Sys2Proof.Laws.RoundTrip

/-- Every instruction, by its own law. -/
theorem statement_of_instr (i : Instr) : Statement i :=
  i.casesOn (motive := Statement)
    transportWord throttledCycle displacement resultLands entryFire routineRetired watchdog waitunsatList ballastStart
    interruptEntry aluAdd aluSub aluAddc aluSubb aluAddsS64 aluAddsN64 aluSubsS64 aluSubsN64 aluAnd aluOr aluXor aluAndn
    aluShl aluShrN64 aluShrS64 aluRol aluRor aluCeq aluCne aluCltS64 aluCltN64 aluCleS64 aluCleN64 aluMinS64 aluMinN64
    aluMaxS64 aluMaxN64 aluSel aluAbsS64 aluPass aluPopc aluClz aluCtz aluBfxS64 aluBfxN64 aluBfi gpack gset kfill klow
    khigh divS64 divN64 vfaAdd vfaSub vfaMul vfaFma vfaFms vfaFnma vfaFnms vfaMin vfaMax vfaCmp vfaClass vfaScale vfbIadd
    vfbIsub vfbImul vfbIadds vfbIminS vfbImaxS vfbIminN vfbImaxN vfbBsel vfbShlN32 vfbShrN32 vfbShrS32 vfbIcmpS32
    vfbIcmpN32 slideup slidedn vfbFmaF32 vfbFmsF32 vfbFnmaF32 vfbFnmsF32 ldN8 ldN16 ldN32 ldX64 ldS8 ldS16 ldS32 ldB128
    ldB256 ldB512 ldB1024 ldM1024 ldSd32 ldFl64 ldFl1024 stB8 stB16 stB32 stB64 stB128 stB256 stB512 stB1024 stM1024
    stSd32 sramBankAccess sramCorrectedRewrite sramcfgWrite classRewriteEnd mxMm mxGang mxSeq mxGseq mxTadd mxDrain
    mxTcsave mxCommandStart mxGangStart mxPassRowAccess mxCommandComplete mxDrainDone mxTcsaveWrite tswStart tswUnitAccess
    tswComplete semReleaseAct semRemoteArrival semRemoteAct semReplyArrival synTimer synDelay synGbar synJoin
    synCommandDone ceCopy ceXcopy ceFill cePlace ceCode ceCommandStart ceElementMove ceCommandComplete ceSuspend
    packetInject exchangeDelivery messageDelivery k2Wake heldArrivalTimeout remoteStoreWrite storeAcknowledgement
    flitReceive idle ack nak outputFlitSelect truncationTimeout linkDown linkDead fabricPortTrain milestoneArrive
    milestoneRelease milestoneArrivePacket milestoneReleasePacket milestoneFailPacket domainStart milestoneTimeout
    stepctlWrite paceadj heartbeatSend heartbeatReceive heartbeatMiss fenceW fenceRw fenceComplete csrresWritten
    registerWrite hubRegisterAccessDone chainWordWrite svcaddrWrite mxcheckWrite tileQuiet pairIntervalClose pairCompare
    mwaitWake tlbinvComplete granuleDrained conversionEnd scrub trapTake trapq debugTransition debugStop traceRecordStore
    digestReset getVersion getCapabilities negotiateAlgorithms getDigests getCertificate challenge getMeasurements
    hostRead hostWrite hostreq launch keyLoad granuleRelease sensorLatch thctlWrite powerMeterUpdate xlresWritten ctlJmp
    ctlJmpr ctlCall ctlRet ctlLoop ctlLdim ctlLidx ctlLexit ctlRetire ctlYield ctlTrap ctlUret ctlWtok ctlWcyc ctlQadd
    ctlQread ctlWhere ctlHset mulS64 mulN64 madS64 madN64 mulS32 mulN32 mulrS64 aguPstr aguPwin aguPreg aguPget aguPadv
    aguPpeek aguPcopy aguRchk aguRassert aguRget aguLea vfaBdot vfbAnd vfbOr vfbXor kpack sbcast lbcast perm cvt mxpack
    mxunpack rsumF32 rmaxF32 rminF32 rsumS32 recipF32 divF32 sqrtF32 rsqrtF32 expF32 exp2F32 logF32 log2F32 tanhF32
    sigmoidF32 geluF32 rsumdF32 rmeanF32 rvarF32 smexpF32 smadd smoutF32 fset fget tcread tcclr chkrd chkclr dur mxStat
    tsin tsout tscopy tsfill scin scout wbin wbout semTake semPut semLd semSt semAdd semAnd semOr semMaxS64 semMaxN64
    semMinS64 semMinN64 semCas semWadd semQlen semSrcrd semSrcdrop tpend tdone tstat tmap pace pacefx wtime synMstat xcyc
    bstat ceStat ceProg ceLast ceAbort nsSend nsRst nsRatom nsXsend nsRecv nsPeek nsRelease nsStat nsLast nsSpill nsLback
    nsReject nsOvclr csrr csrw xcsrr xcsrw tctlFreeze tctlResume tctlHalt tctlUnhalt tctlSave tctlRestore
    tctlResumeContext tctlKillContext tctlClearContext tctlRollback pairon pairoff mwait tlbprobe tlbinvAddress tlbinvAsid
    tlbinvGlobal tlbinvAll gctlOffline gctlOnline gctlConvert gstat ptclr linkCountSample deviceReset

end Sys2Proof.Laws.RoundTrip

namespace Sys2Proof

open Machine

/-! ## Words (02 R23, R24) -/
theorem packNat_concat (w v : Nat) (vs : List Nat) :
    packNat w (vs ++ [v]) = packNat w vs + v % 2 ^ w * 2 ^ (w * vs.length) := by
  induction vs with
  | nil => simp [packNat]
  | cons x xs ih =>
    simp only [List.cons_append, packNat, ih, List.length_cons, Nat.mul_succ, pow_add]
    ring

/-- A number's elements of w bits, packed again, are its low bits. -/
theorem packNat_bits {m : Nat} (b : BitVec m) (w n : Nat) :
    packNat w ((List.range n).map fun j => bits b (w * j) w) = b.toNat % 2 ^ (w * n) := by
  induction n with
  | zero => simp [packNat, Nat.mod_one]
  | succ n ih =>
    rw [List.range_succ, List.map_append, List.map_singleton, packNat_concat, ih, List.length_map, List.length_range,
      Nat.mul_succ, pow_add, Nat.mod_mul, bits, Nat.mod_mod, Nat.shiftRight_eq_div_pow, Nat.mul_comm (2 ^ (w * n))]

/-- The slots of a word as numbers, the last one first, as they stand in its bits from the lowest up. -/
def slotNats (w : Word) : List Nat := w.slots.toList.reverse.map BitVec.toNat

theorem length_slotNats (w : Word) : (slotNats w).length = 15 := by simp [slotNats]

theorem getD_slotNats (w : Word) (i : Nat) (hi : i < 15) : (slotNats w).getD (14 - i) 0 = w.slots[i].toNat := by
  have hlast : 14 - (14 - i) = i := by omega
  rw [slotNats, List.map_reverse, List.getD_eq_getElem?_getD, List.getElem?_reverse (by simp; omega)]
  simp [hlast, hi]

theorem headerBits_lt (w : Word) : headerBits w < 2 ^ 32 := by
  simp only [headerBits]
  omega

theorem toNat_bitsOfWord (w : Word) : (bitsOfWord w).toNat = packNat 32 (slotNats w) + headerBits w * 2 ^ 480 := by
  have hslots := packNat_lt 32 (slotNats w)
  have hheader := headerBits_lt w
  rw [length_slotNats] at hslots
  rw [bitsOfWord, BitVec.toNat_ofNat]
  exact Nat.mod_eq_of_lt (by simp only [slotNats] at *; omega)

theorem bits_bitsOfWord_slot (w : Word) (i : Nat) (hi : i < 15) : bits (bitsOfWord w) (448 - 32 * i) 32 = w.slots[i].toNat := by
  have hplace : 448 - 32 * i = 32 * (14 - i) := by omega
  have hrest : headerBits w * 2 ^ 480 = 2 ^ (32 * (14 - i)) * (2 ^ 32 * (headerBits w * 2 ^ (32 * i))) := by
    have hpow : 2 ^ 480 = 2 ^ (32 * (14 - i)) * 2 ^ 32 * 2 ^ (32 * i) := by
      rw [← pow_add, ← pow_add]
      congr 1
      omega
    rw [hpow]
    ring
  rw [bits, toNat_bitsOfWord, Nat.shiftRight_eq_div_pow, hplace, hrest, Nat.add_mul_div_left _ _ (by positivity),
    Nat.add_mul_mod_self_left, packNat_div, getD_slotNats w i hi, Nat.mod_eq_of_lt w.slots[i].isLt]

theorem bits_bitsOfWord_header (w : Word) (lo n : Nat) : bits (bitsOfWord w) (480 + lo) n = headerBits w / 2 ^ lo % 2 ^ n := by
  have hslots := packNat_lt 32 (slotNats w)
  rw [length_slotNats] at hslots
  rw [bits, toNat_bitsOfWord, Nat.shiftRight_eq_div_pow, pow_add, ← Nat.div_div_eq_div_mul, Nat.add_mul_div_right _ _ (by positivity),
    Nat.div_eq_of_lt hslots, Nat.zero_add]

theorem headerBits_fields (w : Word) :
    headerBits w % 2 ^ 9 = w.rsv.toNat ∧ headerBits w / 2 ^ 9 % 2 ^ 2 = w.hint.toNat
      ∧ headerBits w / 2 ^ 11 % 2 ^ 1 = w.mergeok.toNat ∧ headerBits w / 2 ^ 12 % 2 ^ 1 = w.loopend.toNat
      ∧ headerBits w / 2 ^ 13 % 2 ^ 15 = w.limmask.toNat ∧ headerBits w / 2 ^ 28 % 2 ^ 4 = w.kind.toNat := by
  simp only [headerBits]
  omega

/-- 02 R23, R24: the fields read from the bits of a word are its fields. -/
theorem wordOf_bitsOfWord (w : Word) : wordOf (bitsOfWord w) = w := by
  obtain ⟨hrsv, hhint, hmerge, hloop, hlimm, hkind⟩ := headerBits_fields w
  have hslots : (Vector.ofFn fun i : Fin 15 => BitVec.ofNat 32 (bits (bitsOfWord w) (448 - 32 * i.val) 32)) = w.slots := by
    ext i hi : 1
    rw [Vector.getElem_ofFn, bits_bitsOfWord_slot w i hi, BitVec.ofNat_toNat, BitVec.setWidth_eq]
  rw [wordOf, hslots, bits_bitsOfWord_header w 28, bits_bitsOfWord_header w 13, bits_bitsOfWord_header w 12,
    bits_bitsOfWord_header w 11, bits_bitsOfWord_header w 9, bits_bitsOfWord_header w 0, pow_zero, Nat.div_one, hrsv, hhint, hmerge,
    hloop, hlimm, hkind]
  simp

theorem slotNats_wordOf (b : W512) : packNat 32 (slotNats (wordOf b)) = b.toNat % 2 ^ 480 := by
  have hlist : slotNats (wordOf b) = (List.range 15).map fun j => bits b (32 * j) 32 := by
    refine List.ext_getElem (by simp [slotNats]) fun i hi _ => ?_
    have hi' : i < 15 := by simpa [length_slotNats] using hi
    have hplace : 448 - 32 * (14 - i) = 32 * i := by omega
    simp [slotNats, wordOf, hplace, bits]
  rw [hlist, packNat_bits]

theorem headerBits_wordOf (b : W512) : headerBits (wordOf b) = b.toNat / 2 ^ 480 := by
  have hb := b.isLt
  simp only [headerBits, wordOf, bits, BitVec.toNat_ofNat, Nat.shiftRight_eq_div_pow]
  omega

/-- 02 R23, R24: the bits made from the fields of a word are its bits. -/
theorem bitsOfWord_wordOf (b : W512) : bitsOfWord (wordOf b) = b := by
  apply BitVec.eq_of_toNat_eq
  rw [toNat_bitsOfWord, slotNats_wordOf, headerBits_wordOf]
  omega

/-- A well-formed word passes the checks of 02 R43. -/
theorem wordCheck_of_wf (n : Nat) (k : Ctx) (w : Word) (h : (Instr.transportWord n k w).wf = true) : wordCheck k w = none := by
  obtain ⟨-, hcheck⟩ := Bool.and_eq_true_iff.mp h
  exact Option.isNone_iff_eq_none.mp hcheck

theorem decodeWord_bitsOfWord (n : Nat) (k : Ctx) (w : Word) (h : wordCheck k w = none) :
    decodeWord n k (bitsOfWord w) = .ok (.transportWord n k w) := by
  rw [decodeWord, wordOf_bitsOfWord, h]

/-! ## Moves (02 R26, R28, R29) -/

theorem sockNum_le (so : Sock) : sockNum so ≤ 18 := by cases so <;> decide

theorem sockOf_sockNum (so : Sock) : sockOf (sockNum so) = some so := by cases so <;> rfl

theorem regIdent_lt (f : RegFile) (n : Nat) (h : n < regCount f) : regIdent f n < 2 ^ 8 := by
  cases f <;> simp only [regIdent, regCount] at * <;> omega

theorem srcIdent_regIdent (f : RegFile) (n : Nat) (h : n < regCount f) : srcIdent (regIdent f n) = some (.reg f n) := by
  revert n
  cases f <;> decide

theorem dstIdent_regIdent (f : RegFile) (n : Nat) (h : n < regCount f) : dstIdent (regIdent f n) = some (.reg f n) := by
  rw [dstIdent, srcIdent_regIdent f n h]

theorem srcIdent_win (n : Nat) (h : n < 32) : srcIdent (0x100 + n) = some (.win n) := by
  revert n
  decide

theorem portIdent_lt (so : Sock) (po : Port) : portIdent so po < 2 ^ 10 := by cases so <;> cases po <;> decide

theorem srcIdent_portIdent (so : Sock) (po : Port) (h : hasPort so po = true) :
    srcIdent (portIdent so po) = some (.port so po) := by
  revert h
  cases so <;> cases po <;> decide

/-- The source field as `srcOf` reads it: the immediate bit over ten bits of identifier or immediate. -/
theorem srcOf_srcBits (x : Src) (h : x.ok = true) :
    srcBits x < 2 ^ 11
      ∧ (if srcBits x / 2 ^ 10 % 2 = 1 then some (.imm (BitVec.ofNat 10 (srcBits x % 2 ^ 10))) else srcIdent (srcBits x % 2 ^ 10))
        = some x := by
  have ident (n : Nat) (hn : n < 2 ^ 10) (hx : srcIdent n = some x) :
      n < 2 ^ 11 ∧ (if n / 2 ^ 10 % 2 = 1 then some (.imm (BitVec.ofNat 10 (n % 2 ^ 10))) else srcIdent (n % 2 ^ 10)) = some x := by
    rw [if_neg (by omega), Nat.mod_eq_of_lt hn]
    exact ⟨by omega, hx⟩
  cases x with
  | nil => exact ident 0 (by decide) rfl
  | limm => exact ident 1 (by decide) rfl
  | imm v =>
    have hv := v.isLt
    have hbits : srcBits (.imm v) = 2 ^ 10 + v.toNat := rfl
    have hlow : srcBits (.imm v) % 2 ^ 10 = v.toNat := by omega
    rw [if_pos (by omega), hlow, BitVec.ofNat_toNat, BitVec.setWidth_eq]
    exact ⟨by omega, rfl⟩
  | reg f n =>
    have hn : n < regCount f := of_decide_eq_true h
    exact ident _ ((regIdent_lt f n hn).trans (by decide)) (srcIdent_regIdent f n hn)
  | win n =>
    have hn : n < 32 := of_decide_eq_true h
    exact ident (0x100 + n) (by omega) (srcIdent_win n hn)
  | port so po => exact ident _ (portIdent_lt so po) (srcIdent_portIdent so po h)

theorem dstField_lt (y : Dst) (h : y.ok = true) : dstField y < 2 ^ 15 := by
  cases y with
  | nil => decide
  | reg f n => exact (regIdent_lt f n (of_decide_eq_true h)).trans (by decide)
  | opnd so isP =>
    have hso := sockNum_le so
    simp only [dstField]
    split <;> omega
  | trig so x opc =>
    have hso := sockNum_le so
    have hopc : opc < 128 := of_decide_eq_true h
    simp only [dstField]
    split <;> omega

/-- The fields of a move's 32 bits (02 R26). -/
theorem bits_moveBits (guard : Nat) (neg : Bool) (x : Src) (y : Dst) (hg : guard < 32) (hx : srcBits x < 2 ^ 11)
    (hy : dstField y < 2 ^ 15) :
    let r := moveBits guard neg x y
    (bits r 27 5 = guard ∧ bits r 26 1 = b2n neg) ∧ (bits r 25 1 = srcBits x / 2 ^ 10 % 2 ∧ bits r 15 10 = srcBits x % 2 ^ 10)
      ∧ bits r 14 1 = dstField y / 2 ^ 14 % 2 ∧ bits r 9 5 = dstField y / 2 ^ 9 % 2 ^ 5 ∧ bits r 7 2 = dstField y / 2 ^ 7 % 2 ^ 2
      ∧ bits r 0 7 = dstField y % 2 ^ 7 ∧ bits r 0 10 = dstField y % 2 ^ 10 := by
  have hneg : (if neg then 2 ^ 26 else 0) = b2n neg * 2 ^ 26 := by cases neg <;> rfl
  have hb : b2n neg < 2 := by cases neg <;> decide
  have hr : (moveBits guard neg x y).toNat = dstField y + 2 ^ 15 * (srcBits x + b2n neg * 2 ^ 11 + guard * 2 ^ 12) := by
    rw [moveBits, hneg, BitVec.toNat_ofNat]
    omega
  simp only [bits, hr, Nat.shiftRight_eq_div_pow]
  omega

/-- The subfields of a port destination (02 R26). -/
theorem portField (so : Sock) (kind opc : Nat) (hk : kind < 4) (ho : opc < 128) :
    let d := 0x4000 + sockNum so * 512 + kind * 128 + opc
    d / 2 ^ 14 % 2 = 1 ∧ d / 2 ^ 9 % 2 ^ 5 = sockNum so ∧ d / 2 ^ 7 % 2 ^ 2 = kind ∧ d % 2 ^ 7 = opc := by
  have hso := sockNum_le so
  dsimp only
  omega

section Moves

variable {guard : Nat} {neg : Bool} {x : Src} {y : Dst} (hg : guard < 32) (hx : x.ok = true) (hy : y.ok = true)

include hg hx hy

theorem srcOf_moveBits : srcOf (moveBits guard neg x y) = some x := by
  obtain ⟨hlt, hsrc⟩ := srcOf_srcBits x hx
  obtain ⟨-, ⟨himm, hfield⟩, -⟩ := bits_moveBits guard neg x y hg hlt (dstField_lt y hy)
  rw [srcOf, bitOf, himm, hfield]
  simpa using hsrc

theorem dstOf_moveBits : dstOf (moveBits guard neg x y) = y := by
  obtain ⟨-, -, hport, hsock, hkind, hopc, hident⟩ := bits_moveBits guard neg x y hg (srcOf_srcBits x hx).1 (dstField_lt y hy)
  rw [dstOf, bitOf, hport, hsock, hkind, hopc, hident]
  cases y with
  | nil => rfl
  | reg f n =>
    have hn : n < regCount f := of_decide_eq_true hy
    have hlt := regIdent_lt f n hn
    have hfield : dstField (.reg f n) = regIdent f n := rfl
    have hzero : regIdent f n / 2 ^ 14 % 2 = 0 := by omega
    have hlow : regIdent f n % 2 ^ 10 = regIdent f n := by omega
    rw [hfield, hzero, hlow, dstIdent_regIdent f n hn]
    rfl
  | opnd so isP =>
    obtain ⟨h14, h9, h7, h0⟩ := portField so (b2n isP) 0 (by cases isP <;> decide) (by decide)
    have hfield : dstField (.opnd so isP) = 0x4000 + sockNum so * 512 + b2n isP * 128 + 0 := by cases isP <;> rfl
    rw [hfield, h14, h9, h7, h0, sockOf_sockNum]
    cases isP <;> rfl
  | trig so x opc =>
    obtain ⟨h14, h9, h7, h0⟩ := portField so (2 + b2n x) opc (by cases x <;> decide) (of_decide_eq_true hy)
    have hfield : dstField (.trig so x opc) = 0x4000 + sockNum so * 512 + (2 + b2n x) * 128 + opc := by cases x <;> rfl
    rw [hfield, h14, h9, h7, h0, sockOf_sockNum]
    cases x <;> rfl

end Moves


/-- Settles O57: the two readings of a word are inverse to each other, every other form by the law of its instruction, and
the fields of a move by the places they are packed at. -/
theorem decodeAndEncodeAgree : Obligations.DecodeAndEncodeAgree := by
  unfold Obligations.DecodeAndEncodeAgree
  refine ⟨bitsOfWord_wordOf, wordOf_bitsOfWord, fun n k w h => ?_, Laws.RoundTrip.statement_of_instr,
    fun guard neg x y hg hx hy => ?_⟩
  · exact ⟨bitsOfWord w, rfl, decodeWord_bitsOfWord n k w (wordCheck_of_wf n k w h)⟩
  · obtain ⟨⟨hguard, hneg⟩, -⟩ := bits_moveBits guard neg x y hg (srcOf_srcBits x hx).1 (dstField_lt y hy)
    refine ⟨srcOf_moveBits hg hx hy, dstOf_moveBits hg hx hy, hguard, ?_⟩
    rw [bitOf, hneg]
    cases neg <;> rfl

end Sys2Proof
end

section
/-!
PROOFS (02 R43, 18 R411, 04 R88, R95). What is taken in place of a word that cannot issue, and the ballast operations, all of
which go through `State.operate` but the two conversions that draw.
-/

namespace Sys2Proof.Machine

/-! ## In place of a word -/

theorem exec_transportWord_past_end (s : State) (n : Nat) (k : Ctx) (w : Word) (hn : isTile n = true)
    (hpc : 2047 < (s.ctx n k).pc) : exec (.transportWord n k w) s = .next (s.takeTrap n k (raiseAt .ctlfault 15 0xB)) := by
  have hpc' : 2047 < ((s.tile n).ctx k).pc := hpc
  change execTransportWord n k w s = _
  simp [execTransportWord, hn, hpc']

section InStore

variable {s : State} {n : Nat} {k : Ctx} {w : Word} (hn : isTile n = true) (hpc : (s.ctx n k).pc ≤ 2047)

include hn hpc

theorem exec_transportWord_illegal {e : Illegal} (he : wordCheck k w = some e) :
    exec (.transportWord n k w) s = .next (s.takeTrap n k (raiseAt .illword e.slot e.detail)) := by
  have hpc' : ((s.tile n).ctx k).pc ≤ 2047 := hpc
  change execTransportWord n k w s = _
  simp [execTransportWord, hn, hpc'.not_gt, he]

theorem exec_transportWord_not_ballast (hw : wordCheck k w = none) {j : Nat} (hj : (s.tile n).ballastFail k w = some j) :
    exec (.transportWord n k w) s = .next (s.takeTrap n k (raiseAt .ctlfault j 0xA)) := by
  have hpc' : ((s.tile n).ctx k).pc ≤ 2047 := hpc
  change execTransportWord n k w s = _
  simp [execTransportWord, hn, hpc'.not_gt, hw, hj]

theorem exec_transportWord_issues (hw : wordCheck k w = none) (hb : (s.tile n).ballastFail k w = none)
    (hp : (s.tile n).leavesPair k w = false) :
    exec (.transportWord n k w) s = .next (s.issue n k ({ k := k, w := w } :: ((s.tile n).merged s.now k w).toList)) := by
  have hpc' : ((s.tile n).ctx k).pc ≤ 2047 := hpc
  change execTransportWord n k w s = _
  simp [execTransportWord, hn, hpc'.not_gt, hw, hb, hp]

end InStore

/-! ## Operations of a ballast word -/

/-- The first test of `State.operate`: an operation of a ballast word leaves the state as it is, whatever its check and its
effect. -/
theorem next_of_discards {s : State} {o : Out} (h : s.discards = true) : (if s.discards then .next s else o) = .next s :=
  if_pos h

/-- What a conversion of a ballast word leaves: it counts its draw where its descriptor is accepted (07 R168). -/
def State.afterDraw (s : State) (ok : Bool) : State :=
  if ok = true ∧ s.fp.resolve (dRm (s.descP .vfb)) = 4 then
    s.modCtx s.hand.tile s.hand.ctx fun c => c.setCr 0x02B (c.cr 0x02B + 1#64) else s

theorem operateDraw_of_discards {s : State} (ok : Bool) (eff : State → State) (h : s.discards = true) :
    s.operateDraw ok eff = .next (s.afterDraw ok) := by
  cases ok <;> simp [State.operateDraw, h, State.countDraw, State.afterDraw]

theorem exec_cvt_of_discards {s : State} (h : s.discards = true) :
    exec .cvt s = .next (s.afterDraw (cvtOk (s.descP .vfb))) := by
  change execCvt s = _
  unfold execCvt
  exact operateDraw_of_discards _ _ h

theorem exec_mxpack_of_discards {s : State} (h : s.discards = true) :
    exec .mxpack s = .next (s.afterDraw (mxpackOk (s.descP .vfb))) := by
  change execMxpack s = _
  unfold execMxpack
  extract_lets d
  obtain ⟨v, sc, fl⟩ := vMxpack s.fp (s.mask .vfb) s.seed s.ctr (s.ht.opo .vfb) d s.hand.tv
  exact operateDraw_of_discards _ _ h

/-- Settles O14: each refusal is a branch of the word's own step, and each operation that ballast may use unfolds to an
`operate`, whose first test drops it, or, of the two conversions, to an `operateDraw`. -/
theorem wordsRefused : Obligations.WordsRefused := by
  unfold Obligations.WordsRefused
  refine ⟨fun s n k w hn => ⟨exec_transportWord_past_end s n k w hn, fun hpc e he => exec_transportWord_illegal hn hpc he,
    fun hpc hw j hj => exec_transportWord_not_ballast hn hpc hw hj⟩, fun s u x f w h => ⟨fun i hi => ?_, ?_⟩⟩
  · revert i
    simp only [List.forall_mem_cons, List.not_mem_nil, false_implies, implies_true, and_true]
    and_intros <;> exact next_of_discards h
  · simp only [List.forall_mem_cons, List.not_mem_nil, false_implies, implies_true, and_true]
    exact ⟨exec_cvt_of_discards h, exec_mxpack_of_discards h⟩

end Sys2Proof.Machine
end

section
/-!
PROOFS (02 R26, R28, R33, 04 R85, R94). Words written out from the encodings, and the issue stage, which runs what it decodes.
-/

namespace Sys2Proof.Machine

/-- Settles O56: each form is decoded as it is written, by evaluation. -/
theorem wordsDecode : Obligations.WordsDecode := by
  unfold Obligations.WordsDecode
  refine ⟨?_, ?_, ?_, ?_, ?_, ?_, ?_, ?_⟩ <;> decide +kernel

/-! ## A step is what `pick` finds -/

theorem step_of_pick_none {s s' : State} (h : s.pick = (s', none)) : step s = .next s' := by
  simp only [step, h]

/-- A step that has somewhere to go, or a reason other than a lost record to stop, is what `exec` makes of it. -/
theorem step_of_pick_some {s s' : State} {i : Instr} (h : s.pick = (s', some i)) (hi : exec i s' ≠ .fault .noSuchStep) :
    step s = exec i s' := by
  simp only [step, h]

/-- A word names no record, so it is never dropped for the want of one. -/
theorem exec_transportWord_ne_noSuchStep (s : State) (n : Nat) (k : Ctx) (w : Word) :
    exec (.transportWord n k w) s ≠ .fault .noSuchStep := by
  change execTransportWord n k w s ≠ _
  unfold execTransportWord
  extract_lets u
  repeat' split
  all_goals simp

/-! ## The issue stage -/

theorem decodeWord_ok {n : Nat} {k : Ctx} {b : W512} {i : Instr} (h : decodeWord n k b = .ok i) :
    wordCheck k (wordOf b) = none ∧ i = .transportWord n k (wordOf b) := by
  unfold decodeWord at h
  split at h
  · cases h
  · cases h
    exact ⟨‹_›, rfl⟩

theorem nextWord_of_store {u : Tile} {k : Ctx} (hpc : (u.ctx k).pc ≤ 2047)
    (hnest : (u.ctx k).nest.active = false ∨ (u.ctx k).nest.filled = false) :
    u.nextWord k = some (wordOf (spGet 0#512 u.code (u.ctx k).pc)) := by
  obtain h | h := hnest <;> simp [Tile.nextWord, Tile.fetch, hpc.not_gt, h]

/-- What a context does in its turn with no cause due, no interrupt and no pair: its word. -/
theorem turn_eq_word {s : State} {n : Nat} {k : Ctx} {w : Word} (hdues : (s.ctx n k).dues = []) (hirq : (s.ctx n k).takeable = none)
    (hpair : (s.ctx n k).pair = none) (hw : (s.tile n).nextWord k = some w) : s.turn n k = .transportWord n k w := by
  simp only [State.ctx] at hdues hirq hpair
  simp [State.turn, hdues, hirq, hw, Tile.closesFor, hpair]

theorem leaveUnit_of_micro {s : State} {stage u : Nat} {rest : List Nat} (h : s.micro = { stage := stage, todo := u :: rest }) :
    s.leaveUnit = { s with micro := { stage := stage, todo := rest } } := by
  simp [State.leaveUnit, h]

/-- The issue stage asks the context that issues, where none displaces it and the cycle is not throttled, for its turn. -/
theorem pick_issue {s : State} {n : Nat} {k : Ctx} {rest : List Nat} (hmicro : s.micro = { stage := 5, todo := n :: rest })
    (hn : n < 4096) (hdispl : (s.tile n).displaces s.now = none) (hissuer : (s.tile n).issuer s.now = some k)
    (hthr : (s.tile n).throttled s.now = false) : s.pick = (s.leaveUnit, some (s.leaveUnit.turn n k)) := by
  have hmod : n % 4096 = n := Nat.mod_eq_of_lt hn
  have htile : s.leaveUnit.tile n = s.tile n := rfl
  have hnow : s.leaveUnit.now = s.now := rfl
  simp only [State.pick, State.stageIssue, hmicro, hmod, htile, hnow, if_pos hn, hdispl, hissuer, hthr, Bool.false_eq_true,
    if_false]

/-- 02 R23, 04 R85, R94: the issue stage runs the instruction that the bits at the context's address decode to. -/
theorem step_issue {s : State} {n : Nat} {k : Ctx} {rest : List Nat} {i : Instr}
    (hmicro : s.micro = { stage := 5, todo := n :: rest })
    (hn : n < 4096) (hdispl : (s.tile n).displaces s.now = none) (hissuer : (s.tile n).issuer s.now = some k)
    (hthr : (s.tile n).throttled s.now = false) (hdues : (s.ctx n k).dues = []) (hirq : (s.ctx n k).takeable = none)
    (hpair : (s.ctx n k).pair = none) (hpc : (s.ctx n k).pc ≤ 2047)
    (hnest : (s.ctx n k).nest.active = false ∨ (s.ctx n k).nest.filled = false)
    (hi : decodeWord n k (spGet 0#512 (s.tile n).code (s.ctx n k).pc) = .ok i) :
    step s = exec i { s with micro := { stage := 5, todo := rest } } := by
  obtain ⟨-, rfl⟩ := decodeWord_ok hi
  have hpick := pick_issue hmicro hn hdispl hissuer hthr
  rw [turn_eq_word (s := s.leaveUnit) hdues hirq hpair (nextWord_of_store hpc hnest), leaveUnit_of_micro hmicro] at hpick
  exact step_of_pick_some hpick (exec_transportWord_ne_noSuchStep _ _ _ _)

/-! ## A word placed for the next fetch -/

/-- What a tile has on its way that could hold a word: results, accesses, a divide, packets, a `tsw` operation, fences. -/
structure Tile.Clear (t : Tile) (now : Nat) (k : Ctx) : Prop where
  flights : t.flights = []
  accesses : t.accesses = []
  mulFree : t.mulFree ≤ now
  out : t.net.out = []
  tsw : t.eng.tsw = none
  fences : (t.ctx k).fences = []

theorem Tile.Clear.occupied {t : Tile} {now : Nat} {k : Ctx} (h : t.Clear now k) (so : Sock) (opc : Nat) :
    t.occupied now so opc = false := by
  cases so <;>
    simp [Tile.occupied, Tile.farPending, Tile.loadPending, Tile.twoPending, h.flights, h.accesses, h.mulFree, h.out, h.tsw]

theorem Tile.Clear.readsPending {t : Tile} {now : Nat} {k : Ctx} (h : t.Clear now k) (m : Move) : t.readsPending m = false := by
  unfold Tile.readsPending
  split <;> simp [Tile.pending, h.flights]

/-- No word is held where nothing is on its way. -/
theorem Tile.Clear.wordHeld {t : Tile} {now : Nat} {k : Ctx} (h : t.Clear now k) (w : Word) : t.wordHeld now k w = false := by
  have hfence : (t.ctx k).fencedW = false := by simp [Context.fencedW, h.fences]
  simp only [Tile.wordHeld, Bool.or_eq_false_iff, List.any_eq_false]
  refine ⟨fun m _ => by simp [h.readsPending m], fun m _ => ?_⟩
  split <;> simp [h.occupied, hfence]

theorem Tile.Clear.nextHeld {t : Tile} {now : Nat} {k : Ctx} (h : t.Clear now k) : t.nextHeld now k = false := by
  unfold Tile.nextHeld
  split
  · rfl
  · rw [h.wordHeld, Bool.and_false]

/-- Tile 0 of the machine after reset with a word placed for the next fetch. -/
def fetchTile (b : W512) : Tile := (State.reset.withWord b).tile 0

theorem fetchTile_idle (b : W512) (k : Ctx) (hk : k ≠ .k0) : ((fetchTile b).ctx k).run = .idle := by
  cases k with
  | k0 => exact absurd rfl hk
  | k1 => rfl
  | k2 => rfl
  | k3 => rfl

theorem fetchTile_clear (b : W512) : (fetchTile b).Clear 0 .k0 := ⟨rfl, rfl, Nat.le_refl 0, rfl, rfl, rfl⟩

theorem fetchTile_ready (b : W512) : (fetchTile b).ready 0 .k0 = true := by
  have hreg (r : Nat) : (fetchTile b).rg r = tileRegReset r := rfl
  have hrun : ((fetchTile b).ctx .k0).run = .ready := rfl
  have hstart : ((fetchTile b).ctx .k0).wstart = 0 := rfl
  have hresume : (fetchTile b).resumeAt = none := rfl
  have hlive : (fetchTile b).live 0 = true := by
    simp only [Tile.live, Tile.frozen, Tile.busy, hreg, hresume]
    decide
  have hawake : (fetchTile b).awake 0 .k0 = true := by simp [Tile.awake, hrun, hstart, hlive]
  have hholds : ((fetchTile b).ctx .k0).holds = [] := rfl
  have hcaptured : (fetchTile b).comesBack 0 .k0 = true := rfl
  simp [Tile.ready, Tile.waiting, hawake, hholds, hcaptured, (fetchTile_clear b).fences, (fetchTile_clear b).nextHeld]

theorem fetchTile_issuer (b : W512) : (fetchTile b).issuer 0 = some .k0 := by
  have hprimary : (fetchTile b).primary = some .k0 := rfl
  simp [Tile.issuer, hprimary, fetchTile_ready]

theorem fetchTile_displaces (b : W512) : (fetchTile b).displaces 0 = none := by
  have hprimary : (fetchTile b).primary = some .k0 := rfl
  have hcount (k : Ctx) : (fetchTile b).displaceable 0 k = false := by
    by_cases hk : k = .k0
    · simp [Tile.displaceable, hk, hprimary]
    · simp [Tile.displaceable, Tile.mayHold, Tile.ready, Tile.awake, fetchTile_idle b k hk]
  simp [Tile.displaces, hprimary, hcount]

theorem ofNat_toNat_mod {n : Nat} (b : BitVec n) : BitVec.ofNat n (b.toNat % 2 ^ n) = b := by
  rw [Nat.mod_eq_of_lt b.isLt, BitVec.ofNat_toNat, BitVec.setWidth_eq]

theorem decodeWord_of_decodeTableWord {b : W512} {i : Instr} (h : decodeTableWord 512 b.toNat = some i) :
    decodeWord 0 .k0 b = .ok i := by
  rw [decodeTableWord, ofNat_toNat_mod] at h
  split at h
  · cases h
    assumption
  · cases h

/-- Settles O55: in the issue stage by what `pick` finds there, elsewhere by the definition of `step`; a word placed for the
next fetch is one that nothing holds. -/
theorem stepRunsTheDecoded : Obligations.StepRunsTheDecoded := by
  unfold Obligations.StepRunsTheDecoded
  refine ⟨fun s n k rest i => step_issue, fun s s' i t hpick hi => ?_, fun s s' => step_of_pick_none, fun b i hi => ?_⟩
  · rw [step_of_pick_some hpick (by simp [hi]), hi]
  · have hs : State.reset.withFetchWord 512 b.toNat = State.reset.withWord b := by
      rw [State.withFetchWord, ofNat_toNat_mod]
    have hcode : spGet 0#512 (fetchTile b).code 0 = b := spGet_spSet_same _ _ _ _
    rw [hs]
    refine step_issue (n := 0) (k := .k0) rfl (by decide) (fetchTile_displaces b) (fetchTile_issuer b) rfl rfl rfl rfl
      (Nat.zero_le _) (.inl rfl) ?_
    exact (congrArg (decodeWord 0 .k0) hcode).trans (decodeWord_of_decodeTableWord hi)

end Sys2Proof.Machine
end

section
/-!
PROOFS (02 R34, 03 R63). A word of moves between registers: what it starts, what it writes, and what its end leaves.
-/

namespace Sys2Proof.Machine

/-! ## The moves of one word, in slot order -/

theorem find?_eq_index (l : List Nat) (i : Nat) : l.find? (fun j => decide (j = i)) = if i ∈ l then some i else none := by
  induction l with
  | nil => rfl
  | cons a l ih =>
    by_cases ha : a = i
    · simp [ha]
    · simp [ha, ih, Ne.symm ha]

/-- Whether slot i of a word holds a move that context k performs with its guards. -/
def Tile.performs (t : Tile) (k : Ctx) (w : Word) (i : Nat) : Bool :=
  (moveOf k w i).performed (t.ctx k).regs && (!isLimm w i && slotOf w i ≠ 0#32)

theorem performed_eq_map (t : Tile) (k : Ctx) (w : Word) :
    t.performed k w = ((List.range 12).filter (t.performs k w)).map (moveOf k w) := by
  rw [Tile.performed, movesOf, List.filter_map, List.filter_filter]
  rfl

theorem find?_performed (t : Tile) (k : Ctx) (w : Word) (i : Nat) (hi : i < 12) :
    (t.performed k w).find? (fun m => m.slot = i) = if t.performs k w i then some (moveOf k w i) else none := by
  have hslot : (fun j => decide ((moveOf k w j).slot = i)) = fun j => decide (j = i) := rfl
  rw [performed_eq_map, List.find?_map, Function.comp_def, hslot, find?_eq_index]
  by_cases hp : t.performs k w i <;> simp [hp, hi]

/-- The merge of a single word leaves its moves as they are. -/
theorem wordMoves_single (t : Tile) (k : Ctx) (w : Word) : t.wordMoves [{ k := k, w := w }] = t.performed k w := by
  have hmap : (t.performed k w) = (List.range 12).filterMap fun i => if t.performs k w i then some (moveOf k w i) else none := by
    rw [performed_eq_map, ← List.filterMap_eq_map, List.filterMap_filter]
    rfl
  simp only [Tile.wordMoves, List.flatMap_cons, List.flatMap_nil, List.append_nil]
  rw [List.filterMap_congr fun i hi => find?_performed t k w i (List.mem_range.mp hi), ← hmap]

theorem performed_sorted (t : Tile) (k : Ctx) (w : Word) : (t.performed k w).Pairwise fun a b => a.slot < b.slot := by
  rw [performed_eq_map, List.pairwise_map]
  exact List.pairwise_lt_range.filter _

theorem ctx_of_mem_performed {t : Tile} {k : Ctx} {w : Word} {m : Move} (h : m ∈ t.performed k w) : m.ctx = k := by
  rw [performed_eq_map] at h
  obtain ⟨i, -, rfl⟩ := List.mem_map.mp h
  rfl

/-! ## The last move to a register (03 R63) -/

theorem sameDst_reg {a b : Move} {f : RegFile} {i : Nat} (h : sameDst a b = true) (ha : a.dst = .reg f i) :
    b.dst = .reg f i := by
  unfold sameDst at h
  rw [ha] at h
  split at h <;> simp_all

/-- Of moves in slot order, the last one to a register takes effect, and no other to it does. -/
theorem find?_effective (t : Tile) (ms : List Move) (hs : ms.Pairwise fun a b => a.slot < b.slot) (f : RegFile) (i : Nat) :
    (t.effective ms).reverse.find? (fun m => m.dst = .reg f i) = ms.reverse.find? (fun m => m.dst = .reg f i) := by
  rw [Tile.effective, ← List.filter_reverse, List.find?_filter]
  cases hfind : ms.reverse.find? (fun m => m.dst = .reg f i) with
  | none =>
    rw [List.find?_eq_none] at hfind ⊢
    intro m hm
    simp [hfind m hm]
  | some m =>
    obtain ⟨hm, as, bs, hl, has⟩ := List.find?_eq_some_iff_append.mp hfind
    have hwins : ms.any (fun b => t.beats b m) = false := by
      rw [List.any_eq_false]
      intro b hb hbeats
      obtain ⟨⟨hsame, hslot⟩, -⟩ : (sameDst m b = true ∧ m.slot < b.slot) ∧ t.inBallast m.ctx = t.inBallast b.ctx := by
        simpa [Tile.beats] using hbeats
      have hdst : b.dst = .reg f i := sameDst_reg hsame (by simpa using hm)
      have hlater := (List.pairwise_reverse.mpr hs)
      rw [hl] at hlater
      have hb' : b ∈ as ++ m :: bs := hl ▸ List.mem_reverse.mpr hb
      obtain hb' | rfl | hb' : b ∈ as ∨ b = m ∨ b ∈ bs := by simpa using hb'
      · simpa [hdst] using has b hb'
      · exact hslot.false
      · have := List.rel_of_pairwise_cons (List.pairwise_append.mp hlater).2.1 hb'
        omega
    exact List.find?_eq_some_iff_append.mpr ⟨by simp [hwins, hm], as, bs, hl, fun a ha => by simp [has a ha]⟩

/-- What a move leaves in the registers of its context: t is the tile that it reads. -/
def Regs.take (t : Tile) (r : Regs) (m : Move) : Regs :=
  match m.dst with
  | .reg f i => r.write f i (t.readSrc m).toNat
  | _ => r

theorem read_write_same (r q : Regs) (f : RegFile) (i v : Nat) : (r.write f i v).read f i = (q.write f i v).read f i := by
  cases f <;> simp only [Regs.write, Regs.read, Regs.setAddr, spGet_spSet_same]

theorem read_write_other (r : Regs) (f f' : RegFile) (i i' v : Nat) (h : ¬(f' = f ∧ i' = i)) :
    (r.write f i v).read f' i' = r.read f' i' := by
  have hi : f' = f → i' ≠ i := fun hf hi => h ⟨hf, hi⟩
  cases f <;> cases f' <;> simp_all [Regs.write, Regs.read, Regs.setAddr, spGet_spSet_other]

theorem read_take_other (t : Tile) (r : Regs) (m : Move) (f : RegFile) (i : Nat) (h : m.dst ≠ .reg f i) :
    (r.take t m).read f i = r.read f i := by
  unfold Regs.take
  split
  · rename_i f' i' hm
    exact read_write_other _ _ _ _ _ _ fun ⟨hf, hi⟩ => h (by rw [hm, hf, hi])
  · rfl

theorem read_foldl_take (t : Tile) (es : List Move) (r : Regs) (f : RegFile) (i : Nat) :
    (es.foldl (Regs.take t) r).read f i = match es.reverse.find? (fun m => m.dst = .reg f i) with
      | some m => (r.write f i (t.readSrc m).toNat).read f i
      | none => r.read f i := by
  induction es using List.reverseRecOn with
  | nil => rfl
  | append_singleton es m ih =>
    rw [List.foldl_append, List.foldl_cons, List.foldl_nil, List.reverse_append, List.reverse_singleton, List.singleton_append,
      List.find?_cons]
    by_cases hm : m.dst = .reg f i
    · simp only [hm, decide_true, Regs.take]
      exact read_write_same _ _ _ _ _
    · simp only [hm, decide_false]
      rw [← ih]
      exact read_take_other _ _ _ _ _ hm

/-! ## What the word leaves of its tile -/

/-- From a to b a tile keeps its memory, latches, ports, tokens and engines, and every context but k. -/
structure Tile.Beside (k : Ctx) (a b : Tile) : Prop where
  latO : b.latO = a.latO
  latP : b.latP = a.latP
  ports : b.ports = a.ports
  sram : b.sram = a.sram
  sems : b.sems = a.sems
  srcs : b.srcs = a.srcs
  tokens : b.tokens = a.tokens
  eng : b.eng = a.eng
  net : b.net = a.net
  others : ∀ j, j ≠ k → b.ctx j = a.ctx j

/-- The same, and where context k stands. -/
structure Tile.Kept (k : Ctx) (a b : Tile) : Prop extends Tile.Beside k a b where
  pc : (b.ctx k).pc = (a.ctx k).pc
  run : (b.ctx k).run = (a.ctx k).run
  next : (b.ctx k).next = (a.ctx k).next
  nest : (b.ctx k).nest = (a.ctx k).nest

/-- The same, and the registers of context k. -/
structure Tile.Noted (k : Ctx) (a b : Tile) : Prop extends Tile.Kept k a b where
  regs : (b.ctx k).regs = (a.ctx k).regs

section Frames

variable {k : Ctx} {a b c : Tile}

theorem Tile.Beside.trans (h : Tile.Beside k a b) (g : Tile.Beside k b c) : Tile.Beside k a c :=
  ⟨g.latO.trans h.latO, g.latP.trans h.latP, g.ports.trans h.ports, g.sram.trans h.sram, g.sems.trans h.sems,
    g.srcs.trans h.srcs, g.tokens.trans h.tokens, g.eng.trans h.eng, g.net.trans h.net,
    fun j hj => (g.others j hj).trans (h.others j hj)⟩

theorem Tile.Kept.trans (h : Tile.Kept k a b) (g : Tile.Kept k b c) : Tile.Kept k a c :=
  ⟨h.toBeside.trans g.toBeside, g.pc.trans h.pc, g.run.trans h.run, g.next.trans h.next, g.nest.trans h.nest⟩

theorem Tile.Noted.trans (h : Tile.Noted k a b) (g : Tile.Noted k b c) : Tile.Noted k a c :=
  ⟨h.toKept.trans g.toKept, g.regs.trans h.regs⟩

theorem Tile.Noted.refl (k : Ctx) (a : Tile) : Tile.Noted k a a :=
  ⟨⟨⟨rfl, rfl, rfl, rfl, rfl, rfl, rfl, rfl, rfl, fun _ _ => rfl⟩, rfl, rfl, rfl, rfl⟩, rfl⟩

end Frames

theorem Tile.beside_modCtx (t : Tile) (k : Ctx) (f : Context → Context) : Tile.Beside k t (t.modCtx k f) := by
  refine ⟨?_, ?_, ?_, ?_, ?_, ?_, ?_, ?_, ?_, fun j hj => Tile.ctx_modCtx_other t k j f hj⟩ <;> cases k <;> rfl

theorem Tile.kept_modCtx (t : Tile) (k : Ctx) (f : Context → Context) (hpc : (f (t.ctx k)).pc = (t.ctx k).pc)
    (hrun : (f (t.ctx k)).run = (t.ctx k).run) (hnext : (f (t.ctx k)).next = (t.ctx k).next)
    (hnest : (f (t.ctx k)).nest = (t.ctx k).nest) : Tile.Kept k t (t.modCtx k f) := by
  refine ⟨t.beside_modCtx k f, ?_, ?_, ?_, ?_⟩ <;> rw [Tile.ctx_modCtx_same] <;> assumption

theorem Tile.noted_modCtx (t : Tile) (k : Ctx) (f : Context → Context) (hpc : (f (t.ctx k)).pc = (t.ctx k).pc)
    (hrun : (f (t.ctx k)).run = (t.ctx k).run) (hnext : (f (t.ctx k)).next = (t.ctx k).next)
    (hnest : (f (t.ctx k)).nest = (t.ctx k).nest) (hregs : (f (t.ctx k)).regs = (t.ctx k).regs) :
    Tile.Noted k t (t.modCtx k f) :=
  ⟨t.kept_modCtx k f hpc hrun hnext hnest, by rw [Tile.ctx_modCtx_same, hregs]⟩

/-- Records of the debug module, counts of its comparators and control registers of the tile. -/
theorem Tile.noted_of_eq (k : Ctx) (events : List TraceRec) (dbgCount : Sparse Nat) (reg : Sparse W64)
    (ptrUpd : List (Ctx × Nat × Nat)) (t : Tile) :
    Tile.Noted k t { t with events := events, dbgCount := dbgCount, reg := reg, ptrUpd := ptrUpd } :=
  have hctx (j : Ctx) : ({ t with events := events, dbgCount := dbgCount, reg := reg, ptrUpd := ptrUpd } : Tile).ctx j = t.ctx j := by
    cases j <;> rfl
  ⟨⟨⟨rfl, rfl, rfl, rfl, rfl, rfl, rfl, rfl, rfl, fun j _ => hctx j⟩, congrArg _ (hctx k),
    congrArg _ (hctx k), congrArg _ (hctx k), congrArg _ (hctx k)⟩, congrArg _ (hctx k)⟩

theorem Tile.noted_event (k : Ctx) (t : Tile) (code : Nat) (j : Ctx) (word data : Nat) (hint : BitVec 2) :
    Tile.Noted k t (t.event code j word data hint) := by
  unfold Tile.event
  split
  · exact Tile.noted_of_eq k _ t.dbgCount t.reg t.ptrUpd t
  · exact Tile.Noted.refl k t

theorem Tile.noted_matched (k : Ctx) (t : Tile) (i : Nat) : Tile.Noted k t (t.matched i) :=
  Tile.noted_of_eq k t.events _ t.reg t.ptrUpd t

theorem Tile.noted_setRg (k : Ctx) (t : Tile) (num : Nat) (v : W64) : Tile.Noted k t (t.setRg num v) :=
  Tile.noted_of_eq k t.events t.dbgCount _ t.ptrUpd t

theorem Tile.noted_watch (k : Ctx) (t : Tile) (j : Ctx) (word ident value : Nat) (hint : BitVec 2) :
    Tile.Noted k t (t.watch j word ident value hint) := by
  unfold Tile.watch
  extract_lets sel mask v
  split
  · exact (t.noted_matched k 1).trans (Tile.noted_event k _ _ _ _ _ _)
  · exact Tile.Noted.refl k t

theorem Tile.noted_watchWord (k : Ctx) (t : Tile) (j : Ctx) (addr : Nat) : Tile.Noted k t (t.watchWord j addr) := by
  unfold Tile.watchWord
  split
  · exact Tile.Noted.refl k t
  · extract_lets c u
    have hu : Tile.Noted k t u := by
      unfold u
      split
      · exact t.noted_event k _ _ _ _ _
      · exact Tile.Noted.refl k t
    split
    · exact hu.trans (u.noted_matched k 0)
    · exact hu

theorem Tile.noted_countWord (k : Ctx) (t : Tile) (now : Nat) : Tile.Noted k t (t.countWord now k) := by
  unfold Tile.countWord
  extract_lets c u
  split
  · exact Tile.Noted.refl k t
  · have hu : Tile.Noted k t u := by
      unfold u
      split
      · split
        · exact t.noted_setRg k _ _
        · exact Tile.Noted.refl k t
      · exact Tile.Noted.refl k t
    exact hu.trans (u.noted_modCtx k _ rfl rfl rfl rfl rfl)

theorem Tile.noted_foldl {α : Type} (k : Ctx) (f : Tile → α → Tile) (l : List α)
    (h : ∀ t, ∀ x ∈ l, Tile.Noted k t (f t x)) (t : Tile) : Tile.Noted k t (l.foldl f t) := by
  induction l generalizing t with
  | nil => exact Tile.Noted.refl k t
  | cons x l ih => exact (h t x List.mem_cons_self).trans (ih (fun t y hy => h t y (List.mem_cons_of_mem x hy)) _)

theorem Tile.noted_noteCollision (k : Ctx) (t : Tile) (x : Collision) (h : ∀ j ∈ x.ks, j = k) :
    Tile.Noted k t (t.noteCollision x) := by
  refine Tile.noted_foldl k _ allCtx (fun t j _ => ?_) t
  split
  · rename_i hj
    obtain rfl := h j (List.contains_iff_mem.mp hj)
    exact t.noted_modCtx j _ rfl rfl rfl rfl rfl
  · exact Tile.Noted.refl k t

theorem ctx_of_mem_collision {t : Tile} {k : Ctx} {ms : List Move} {m : Move} {x : Collision} (hms : ∀ m ∈ ms, m.ctx = k)
    (hm : m.ctx = k) (hx : t.collision ms m = some x) : ∀ j ∈ x.ks, j = k := by
  unfold Tile.collision at hx
  extract_lets lost at hx
  split at hx
  · cases hx
  · cases hx
    intro j hj
    obtain rfl | hj := List.mem_cons.mp hj
    · exact hm
    · obtain ⟨a, ha, rfl⟩ := List.mem_map.mp hj
      exact hms a (List.mem_of_mem_filter ha)

theorem Tile.noted_noteCollisions (k : Ctx) (u : Tile) (now : Nat) (ms es : List Move) (hms : ∀ m ∈ ms, m.ctx = k)
    (hes : ∀ m ∈ es, m.ctx = k) (t : Tile) : Tile.Noted k t (u.noteCollisions now ms es t) := by
  unfold Tile.noteCollisions
  refine (Tile.noted_foldl k _ _ (fun t x hx => ?_) t).trans (Tile.noted_foldl k _ _ (fun t m hm => ?_) _)
  · obtain ⟨m, hm, hx⟩ := List.mem_filterMap.mp hx
    exact t.noted_noteCollision k x (ctx_of_mem_collision hms (hes m hm) hx)
  · split
    · refine (Tile.noted_of_eq k t.events t.dbgCount t.reg _ t).trans (Tile.noted_noteCollision k _ _ fun j hj => ?_)
      rw [List.mem_singleton.mp hj, hes m hm]
    · exact Tile.Noted.refl k t

theorem Tile.noted_fillLoop (t : Tile) (x : Issuing) (h : (t.ctx x.k).nest.active = false) : Tile.Noted x.k t (t.fillLoop x) := by
  refine t.noted_modCtx x.k _ rfl rfl rfl ?_ rfl
  simp [Nest.fill, h]

theorem Tile.kept_writeReg {k : Ctx} (u t : Tile) (m : Move) (h : m.ctx = k) :
    Tile.Kept k t (u.writeReg t m) ∧ ((u.writeReg t m).ctx k).regs = Regs.take u (t.ctx k).regs m := by
  subst h
  cases hdst : m.dst with
  | reg f i =>
    have hwatch := Tile.noted_watch m.ctx (t.modCtx m.ctx fun c => { c with regs := c.regs.write f i (u.readSrc m).toNat }) m.ctx
    simp only [Tile.writeReg, Regs.take, hdst]
    refine ⟨(t.kept_modCtx m.ctx _ rfl rfl rfl rfl).trans (hwatch _ _ _ _).toKept, ?_⟩
    rw [(hwatch _ _ _ _).regs, Tile.ctx_modCtx_same]
  | nil => simpa only [Tile.writeReg, Regs.take, hdst] using ⟨(Tile.Noted.refl m.ctx t).toKept, trivial⟩
  | opnd so isP => simpa only [Tile.writeReg, Regs.take, hdst] using ⟨(Tile.Noted.refl m.ctx t).toKept, trivial⟩
  | trig so x opc => simpa only [Tile.writeReg, Regs.take, hdst] using ⟨(Tile.Noted.refl m.ctx t).toKept, trivial⟩

theorem Tile.kept_foldl_writeReg {k : Ctx} (u : Tile) (es : List Move) (h : ∀ m ∈ es, m.ctx = k) (t : Tile) :
    Tile.Kept k t (es.foldl u.writeReg t)
      ∧ ((es.foldl u.writeReg t).ctx k).regs = es.foldl (Regs.take u) (t.ctx k).regs := by
  induction es generalizing t with
  | nil => exact ⟨(Tile.Noted.refl k t).toKept, rfl⟩
  | cons m es ih =>
    obtain ⟨hkept, hregs⟩ := u.kept_writeReg t m (h m List.mem_cons_self)
    obtain ⟨hkept', hregs'⟩ := ih (fun m hm => h m (List.mem_cons_of_mem _ hm)) (u.writeReg t m)
    exact ⟨hkept.trans hkept', by rw [List.foldl_cons, List.foldl_cons, hregs', hregs]⟩

/-! ## What the word starts, and its end -/

/-- Moves between registers trigger nothing. -/
def NoTriggers (es : List Move) : Prop := ∀ m ∈ es, m.dst = .nil ∨ ∃ f i, m.dst = .reg f i

theorem NoTriggers.ne_trig {es : List Move} (h : NoTriggers es) {m : Move} (hm : m ∈ es) (so : Sock) (x : Bool) (opc : Nat) :
    m.dst ≠ .trig so x opc := by
  obtain hd | ⟨f, i, hd⟩ := h m hm <;> simp [hd]

theorem NoTriggers.startsOf {es : List Move} (h : NoTriggers es) (u : Tile) (s : State) (n : Nat) : u.startsOf s n es = [] := by
  refine List.filterMap_eq_nil_iff.mpr fun m hm => ?_
  obtain hd | ⟨f, i, hd⟩ := h m hm <;> simp [hd]

theorem NoTriggers.busyTriggers {es : List Move} (h : NoTriggers es) (u : Tile) (now : Nat) : u.busyTriggers now es = [] := by
  refine List.filterMap_eq_nil_iff.mpr fun m hm => ?_
  obtain hd | ⟨f, i, hd⟩ := h m hm <;> simp [hd]

theorem NoTriggers.latch {es : List Move} (h : NoTriggers es) (u t : Tile) : es.foldl u.latch t = t := by
  induction es generalizing t with
  | nil => rfl
  | cons m es ih =>
    have hlatch : u.latch t m = t := by
      obtain hd | ⟨f, i, hd⟩ := h m List.mem_cons_self <;> simp [Tile.latch, hd]
    rw [List.foldl_cons, hlatch, ih fun m hm => h m (List.mem_cons_of_mem _ hm)]

theorem NoTriggers.pointerUse {es : List Move} (h : NoTriggers es) {m : Move} (hm : m ∈ es) : m.pointerUse = none := by
  unfold Move.pointerUse
  obtain hd | ⟨f, i, hd⟩ := h m hm <;> rw [hd] <;> split <;> rfl

theorem NoTriggers.usePointers {es : List Move} (h : NoTriggers es) (s : State) (n : Nat) : s.usePointers n es = s := by
  have hnone (k : Ctx) (p : Nat) : es.filter (fun m => m.ctx = k && m.pointerUse = some p) = [] := by
    refine List.filter_eq_nil_iff.mpr fun m hm => ?_
    simp [h.pointerUse hm]
  simp only [State.usePointers, hnone, List.length_nil]
  simp [State.usePointer, allCtx]

theorem NoTriggers.trapStart {es : List Move} (h : NoTriggers es) (u : Tile) (k : Ctx) : u.trapStart es k = none := by
  have hfind : es.find? (fun m => m.ctx = k && m.dst = .trig .ctl false 0x0A) = none :=
    List.find?_eq_none.mpr fun m hm => by simp [h.ne_trig hm]
  rw [Tile.trapStart, hfind, Option.map_none]

theorem NoTriggers.endWord {es : List Move} (h : NoTriggers es) (u : Tile) (s : State) (n : Nat) (x : Issuing) :
    ∃ note : Tile → Tile, (∀ t, Tile.Noted x.k t (note t))
      ∧ State.endWord n u es s x = (s.modTile n note).modCtx n x.k Context.advance := by
  unfold State.endWord
  dsimp only
  rw [h.trapStart]
  refine ⟨_, fun t => ?_, rfl⟩
  have hcount := (t.noted_watchWord x.k x.k (u.ctx x.k).pc).trans (Tile.noted_countWord x.k _ s.now)
  split
  · exact (hcount.trans (Tile.noted_event _ _ _ _ _ _ _)).trans (Tile.noted_modCtx _ _ _ rfl rfl rfl rfl rfl)
  · exact hcount.trans (Tile.noted_modCtx _ _ _ rfl rfl rfl rfl rfl)

/-! ## The word -/

theorem comeBack_of_captures_nil {s : State} {n : Nat} (k : Ctx) (h : (s.tile n).captures = []) : s.comeBack n k = s := by
  simp [State.comeBack, h]

theorem headersStart_of_headersOf_nil {k : Ctx} {w : Word} (h : headersOf w = []) : headersStart { k := k, w := w } = [] := by
  simp [headersStart, h]

/-- What starts nothing fails no check of 18 R411. -/
theorem failings_of_noTriggers (p : Prepared) (n : Nat) (k : Ctx) (hes : NoTriggers p.es) (hops : p.ops = []) (hheads : p.heads = []) :
    p.failings n k = [] := by
  have hfirst : NoTriggers (primaryFirst k (·.ctx) p.es) := by
    intro m hm
    obtain hm | hm := List.mem_append.mp hm <;> exact hes m (List.mem_of_mem_filter hm)
  simp only [Prepared.failings, hfirst.busyTriggers, hops, hheads]
  simp [primaryFirst, State.raises, State.dups]

section Word

variable {s : State} {n : Nat} {k : Ctx} {w : Word} (hcap : (s.tile n).captures = []) (hhead : headersOf w = [])
  (hms : NoTriggers ((s.tile n).performed k w))

include hcap hhead hms

/-- A word of moves between registers starts nothing, and sets no latch. -/
theorem prepare_regMoves :
    let u := s.tile n
    let ms := u.performed k w
    s.prepare n [{ k := k, w := w }]
      = { t0 := u, s2 := s.setTile n u, ms := ms, es := u.effective ms, ops := [], heads := [] } := by
  have hes : NoTriggers ((s.tile n).effective ((s.tile n).performed k w)) := fun m hm => hms m (List.mem_of_mem_filter hm)
  have hops : NoTriggers (((s.tile n).effective ((s.tile n).performed k w)).filter fun m =>
      !(s.tile n).released ((s.tile n).effective ((s.tile n).performed k w)) m) := fun m hm => hes m (List.mem_of_mem_filter hm)
  have hheads : (([{ k := k, w := w }] : List Issuing).filter fun x => !((s.tile n).ctx x.k).repeats).flatMap headersStart = [] := by
    refine List.flatMap_eq_nil_iff.mpr fun x hx => ?_
    obtain rfl := List.mem_singleton.mp (List.mem_of_mem_filter hx)
    exact headersStart_of_headersOf_nil hhead
  simp only [State.prepare, List.foldl_cons, List.foldl_nil, comeBack_of_captures_nil k hcap, wordMoves_single, hes.latch, hheads,
    hops.startsOf]

theorem issue_regMoves :
    let u := s.tile n
    let es := u.effective (u.performed k w)
    ∃ note : Tile → Tile, (∀ t, Tile.Noted k t (note t))
      ∧ s.issue n k [{ k := k, w := w }]
        = ((((s.setTile n u).modTile n fun t => t.fillLoop { k := k, w := w }).modTile n fun t =>
            u.noteCollisions s.now (u.performed k w) es (es.foldl u.writeReg t)).modTile n note).modCtx n k Context.advance := by
  intro u es
  have hes : NoTriggers es := fun m hm => hms m (List.mem_of_mem_filter hm)
  have hprep : s.prepare n [{ k := k, w := w }]
      = { t0 := u, s2 := s.setTile n u, ms := u.performed k w, es := es, ops := [], heads := [] } := prepare_regMoves hcap hhead hms
  obtain ⟨note, hnote, hend⟩ := hes.endWord u (((s.setTile n u).modTile n fun t => t.fillLoop { k := k, w := w }).modTile n fun t =>
    u.noteCollisions s.now (u.performed k w) es (es.foldl u.writeReg t)) n { k := k, w := w }
  refine ⟨note, hnote, ?_⟩
  have hfail : (s.prepare n [{ k := k, w := w }]).failings n k = [] :=
    failings_of_noTriggers _ n k (by rw [hprep]; exact hes) (by rw [hprep]) (by rw [hprep])
  rw [← hend]
  simp only [State.issue, hfail]
  simp only [hprep, tokensFirst, List.filter_nil, List.append_nil, List.foldl_nil, List.foldl_cons, hes.usePointers]

/-- What the issue of such a word does: only its tile changes, in which the moves that take effect are taken by the
registers of its context, and that context goes on. -/
theorem issue_regMoves_tile (hnest : (s.ctx n k).nest.active = false) :
    let u := s.tile n
    let t := s.issue n k [{ k := k, w := w }]
    t = { s with tiles := t.tiles } ∧ (∀ m, m ≠ n → t.tile m = s.tile m)
      ∧ ∃ v, t.tile n = v.modCtx k Context.advance ∧ Tile.Kept k u v
        ∧ (v.ctx k).regs = (u.effective (u.performed k w)).foldl (Regs.take u) (u.ctx k).regs := by
  intro u t
  obtain ⟨note, hnote, hissue⟩ := issue_regMoves hcap hhead hms
  have hctx : ∀ m ∈ u.performed k w, m.ctx = k := fun m hm => ctx_of_mem_performed hm
  have hctx' : ∀ m ∈ u.effective (u.performed k w), m.ctx = k := fun m hm => hctx m (List.mem_of_mem_filter hm)
  have hfill := u.noted_fillLoop { k := k, w := w } hnest
  obtain ⟨hwrite, hregs⟩ := u.kept_foldl_writeReg _ hctx' (u.fillLoop { k := k, w := w })
  have hcoll := u.noted_noteCollisions k s.now _ _ hctx hctx'
    ((u.effective (u.performed k w)).foldl u.writeReg (u.fillLoop { k := k, w := w }))
  refine ⟨?_, fun m hm => ?_, _, ?_, (hfill.toKept.trans hwrite).trans (hcoll.trans (hnote _)).toKept, ?_⟩
  · simp only [t, hissue]
    rfl
  · simp only [t, hissue, State.modCtx, State.tile_modTile_other _ _ _ _ hm, State.tile_setTile_other _ _ _ _ hm]
  · simp only [t, u, hissue, State.modCtx, State.tile_modTile_same, State.tile_setTile_same]
  · rw [(hcoll.trans (hnote _)).regs, hregs, hfill.regs]

end Word

theorem advance_of_no_transfer {c : Context} (hnext : c.next = none) (hnest : c.nest.active = false) :
    c.advance = { c with pc := c.pc + 1 } := by
  simp [Context.advance, hnext, hnest]

theorem leavesPair_of_no_pair {t : Tile} {k : Ctx} (w : Word) (h : (t.ctx k).pair = none) : t.leavesPair k w = false := by
  simp [Tile.leavesPair, h]

/-- What holds of the changed tile and of its old contents holds of every tile, where no other changed. -/
theorem forall_tile_eq {α : Type} {s t : State} {n : Nat} (g : Tile → α) (hn : g (t.tile n) = g (s.tile n))
    (hm : ∀ m, m ≠ n → t.tile m = s.tile m) (m : Nat) : g (t.tile m) = g (s.tile m) := by
  by_cases h : m = n
  · rw [h, hn]
  · rw [hm m h]

/-- Settles O13: of the moves to a register the last in slot order takes effect, every source is read from the tile as it
stood, and what else the issue of the word notes lies outside the frames. -/
theorem movesActTogether : Obligations.MovesActTogether := by
  intro s n k w hn u c ms hpc hcheck hballast hmerged hcap hpair hnext hnest hhead hms
  have hexec : exec (.transportWord n k w) s = .next (s.issue n k [{ k := k, w := w }]) := by
    rw [exec_transportWord_issues hn hpc (Option.isNone_iff_eq_none.mp hcheck) hballast (leavesPair_of_no_pair w hpair), hmerged]
    rfl
  obtain ⟨htiles, hother, v, htile, hkept, hregs⟩ := issue_regMoves_tile hcap hhead hms hnest
  refine ⟨_, hexec, ?_⟩
  generalize s.issue n k [{ k := k, w := w }] = t at *
  have hadvance : t.ctx n k = { v.ctx k with pc := (v.ctx k).pc + 1 } := by
    rw [State.ctx, htile, Tile.ctx_modCtx_same, advance_of_no_transfer (hkept.next.trans hnext) (by rw [hkept.nest]; exact hnest)]
  have hbeside : Tile.Beside k (s.tile n) (t.tile n) := htile ▸ hkept.toBeside.trans (v.beside_modCtx k Context.advance)
  have hall {α : Type} (g : Tile → α) (hg : g (t.tile n) = g (s.tile n)) (m : Nat) : g (t.tile m) = g (s.tile m) :=
    forall_tile_eq g hg hother m
  refine ⟨fun f i => ?_, ?_, ?_, fun m j hmj => ?_, ?_, ?_, ?_, ?_, fun m so => ⟨?_, ?_⟩, fun m so po => ?_⟩
  · rw [hadvance, hregs, read_foldl_take, find?_effective u _ (performed_sorted u k w)]
    rfl
  · rw [hadvance, hkept.pc]
    rfl
  · rw [hadvance, hkept.run]
    rfl
  · by_cases hm : m = n
    · subst hm
      exact hbeside.others j (hmj.resolve_left (· rfl))
    · rw [State.ctx, hother m hm, State.ctx]
  · exact ⟨fun m a => congrArg (memGet · a) (hall Tile.sram hbeside.sram m), by rw [htiles]; exact fun _ _ => rfl,
      by rw [htiles]; exact fun _ _ => rfl, by rw [htiles]; exact fun _ _ => rfl, by rw [htiles]; exact fun _ => rfl,
      by rw [htiles]; exact fun _ => rfl⟩
  · exact ⟨hall Tile.sems hbeside.sems, hall Tile.srcs hbeside.srcs, hall Tile.tokens hbeside.tokens⟩
  · exact ⟨hall Tile.eng hbeside.eng, hall Tile.net hbeside.net⟩
  · rw [htiles]
    exact ⟨fun _ => rfl, fun _ => rfl, rfl, rfl, fun _ => rfl⟩
  · exact congrArg (spGet 0#1024 · (sockNum so)) (hall Tile.latO hbeside.latO m)
  · exact congrArg (spGet 0#1024 · (sockNum so)) (hall Tile.latP hbeside.latP m)
  · exact congrArg (spGet 0#1024 · (portKey so po)) (hall Tile.ports hbeside.ports m)

end Sys2Proof.Machine
end

section
/-!
PROOFS (03 R70 to R74). Guards and lane masks bit by bit, the operations that land them, and the update that changes guards
at the start of the next cycle.
-/

namespace Sys2Proof.Machine

/-! ## Bits of numbers -/

theorem getLsbD_w64 (n : Nat) {i : Nat} (hi : i < 64) : (w64 n).getLsbD i = n.testBit i := by
  rw [w64, BitVec.getLsbD_ofNat, decide_eq_true hi, Bool.true_and]

theorem toNat_w64_of_lt {n : Nat} (h : n < 2 ^ 64) : (w64 n).toNat = n := by
  rw [w64, BitVec.toNat_ofNat, Nat.mod_eq_of_lt h]

theorem testBit_bits {n : Nat} (x : BitVec n) (lo w i : Nat) :
    (bits x lo w).testBit i = (decide (i < w) && x.getLsbD (lo + i)) := by
  rw [bits, Nat.testBit_mod_two_pow, Nat.testBit_shiftRight, BitVec.testBit_toNat]

theorem bits_lt {n : Nat} (x : BitVec n) (lo w : Nat) : bits x lo w < 2 ^ w := Nat.mod_lt _ (Nat.two_pow_pos w)

theorem bitOf_eq_getLsbD {n : Nat} (x : BitVec n) (i : Nat) : bitOf x i = x.getLsbD i := by
  rw [bitOf, bits, Nat.shiftRight_eq_div_pow, pow_one, BitVec.getLsbD, Nat.testBit_eq_decide_div_mod_eq]
  rfl

theorem ofNat_bits_one {n : Nat} (x : BitVec n) (i : Nat) : BitVec.ofNat 1 (bits x i 1) = BitVec.ofBool (x.getLsbD i) := by
  refine BitVec.eq_of_getLsbD_eq fun j hj => ?_
  obtain rfl : j = 0 := by omega
  rw [BitVec.getLsbD_ofNat, testBit_bits]
  simp

theorem testBit_packNat_one (vs : List Nat) (i : Nat) : (packNat 1 vs).testBit i = decide (vs.getD i 0 % 2 = 1) := by
  have hdiv := packNat_div 1 i vs
  rw [one_mul, pow_one] at hdiv
  rw [Nat.testBit_eq_decide_div_mod_eq, hdiv]

theorem bit_mod_two (b : BitVec 1) : decide (b.toNat % 2 = 1) = decide (b = 1#1) := by
  revert b
  decide

/-! ## The guards of a context, and the lanes of a mask -/

theorem guardVis_eq (k : Ctx) : guardVis k = if k = .k0 ∨ k = .k1 then 24 else 8 := by
  cases k <;> rfl

theorem guardVis_le (k : Ctx) : guardVis k ≤ 24 := by
  cases k <;> decide

theorem testBit_guardPack (k : Ctx) (r : Regs) (i : Nat) :
    (guardPack k r).testBit i = (decide (i < guardVis k) && decide (spGet 0#1 r.g i = 1#1)) := by
  rw [guardPack, testBit_packNat_one]
  by_cases hi : i < guardVis k
  · simp [hi, bit_mod_two]
  · simp [hi]

theorem testBit_lanesBelow (n i : Nat) : (lanesBelow n).testBit i = (decide (i < 32) && decide (i < n)) := by
  rw [lanesBelow, Nat.testBit_two_pow_sub_one]
  by_cases hn : i < n <;> by_cases hi : i < 32 <;> simp [hn, hi]

/-- The lowest set bit of a number below bit w, or w. -/
theorem lowestBit_spec (w v : Nat) :
    (∀ i < lowestBit w v, v.testBit i = false)
      ∧ (lowestBit w v < w ∧ v.testBit (lowestBit w v) = true ∨ lowestBit w v = w) := by
  unfold lowestBit
  cases hfind : (List.range w).find? fun i => v.testBit i with
  | none => simpa using hfind
  | some j =>
    rw [List.find?_range_eq_some] at hfind
    obtain ⟨hj, hmem, hlow⟩ := hfind
    exact ⟨fun i hi => by simpa using hlow i hi, .inl ⟨List.mem_range.mp hmem, hj⟩⟩

/-- The highest set bit of a number below bit w, or w where none is set. -/
theorem highestBit_spec (w v : Nat) :
    (∀ i < w, highestBit w v < i → v.testBit i = false)
      ∧ (highestBit w v < w ∧ v.testBit (highestBit w v) = true ∨ highestBit w v = w ∧ ∀ i < w, v.testBit i = false) := by
  unfold highestBit
  cases hfind : (List.range w).reverse.find? fun i => v.testBit i with
  | none =>
    have hnone : ∀ i < w, v.testBit i = false := by simpa using hfind
    exact ⟨fun i hi _ => hnone i hi, .inr ⟨rfl, hnone⟩⟩
  | some j =>
    have hmem : j < w := by simpa using List.mem_of_find?_eq_some hfind
    obtain ⟨hj, as, bs, hl, has⟩ := List.find?_eq_some_iff_append.mp hfind
    have hfalling := List.pairwise_reverse.mpr (List.pairwise_lt_range (n := w))
    rw [hl] at hfalling
    refine ⟨fun i hi hji => ?_, .inl ⟨hmem, hj⟩⟩
    rw [Option.getD_some] at hji
    have hi' : i ∈ as ++ j :: bs := by rw [← hl]; simpa using hi
    obtain hi' | hi' := List.mem_append.mp hi'
    · simpa using has i hi'
    · obtain rfl | hi' := List.mem_cons.mp hi'
      · omega
      · have := List.rel_of_pairwise_cons (List.pairwise_append.mp hfalling).2.1 hi'
        omega

/-! ## The operations -/

theorem aluR_yields {i : Instr} {s : State} {u : Twin} {v : W64} (h : s.discards = false) (hi : exec i s = s.aluR u v) :
    Yields64 i s (aluSock u) 1 v :=
  ⟨_, hi.trans (operate_next _ _ _ h rfl), result_lands s (aluSock u) v⟩

theorem gpack_yields (s : State) (u : Twin) (h : s.discards = false) :
    ∃ r : W64, (∀ i < 64, r.getLsbD i
        = (decide (i < guardVis s.hand.ctx) && decide (spGet 0#1 s.hc.regs.g i = 1#1) && s.tv.getLsbD i))
      ∧ Yields64 (.gpack u) s (aluSock u) 1 r := by
  refine ⟨_, fun i hi => ?_, aluR_yields h rfl⟩
  rw [getLsbD_w64 _ hi, Nat.testBit_and, testBit_guardPack, testBit_bits, Nat.zero_add]
  have := guardVis_le s.hand.ctx
  by_cases hvis : i < guardVis s.hand.ctx
  · simp [hvis, show i < 24 by omega]
  · simp [hvis]

theorem kfill_yields (s : State) (u : Twin) (h : s.discards = false) :
    ∃ r : W64, (∀ i < 64, r.getLsbD i = (decide (i < 32) && decide (i < s.tv.toNat))) ∧ Yields64 (.kfill u) s (aluSock u) 1 r :=
  ⟨_, fun i hi => by rw [getLsbD_w64 _ hi, testBit_lanesBelow, uv], aluR_yields h rfl⟩

theorem klow_yields (s : State) (u : Twin) (h : s.discards = false) :
    ∃ r : W64, (∀ i < r.toNat, s.tv.getLsbD i = false) ∧ (r.toNat < 32 ∧ s.tv.getLsbD r.toNat = true ∨ r = 32#64)
      ∧ Yields64 (.klow u) s (aluSock u) 1 r := by
  obtain ⟨hbelow, hat⟩ := lowestBit_spec 32 (bits s.tv 0 32)
  have hle : lowestBit 32 (bits s.tv 0 32) ≤ 32 := by omega
  refine ⟨w64 (lowestBit 32 (bits s.tv 0 32)), ?_, ?_, aluR_yields h rfl⟩ <;> rw [toNat_w64_of_lt (by omega)]
  · intro i hi
    simpa [testBit_bits, show i < 32 by omega] using hbelow i hi
  · refine hat.imp (fun ⟨hlt, hset⟩ => ⟨hlt, ?_⟩) fun heq => by rw [heq]; rfl
    simpa [testBit_bits, hlt] using hset

theorem khigh_yields (s : State) (u : Twin) (h : s.discards = false) :
    ∃ r : W64, (∀ i < 32, r.toNat < i → s.tv.getLsbD i = false)
      ∧ (r.toNat < 32 ∧ s.tv.getLsbD r.toNat = true ∨ r = 32#64 ∧ s.tv.toNat % 2 ^ 32 = 0)
      ∧ Yields64 (.khigh u) s (aluSock u) 1 r := by
  obtain ⟨habove, hat⟩ := highestBit_spec 32 (bits s.tv 0 32)
  have hle : highestBit 32 (bits s.tv 0 32) ≤ 32 := by omega
  refine ⟨w64 (highestBit 32 (bits s.tv 0 32)), ?_, ?_, aluR_yields h rfl⟩ <;> rw [toNat_w64_of_lt (by omega)]
  · intro i hi hlow
    simpa [testBit_bits, hi] using habove i hi hlow
  · refine hat.imp (fun ⟨hlt, hset⟩ => ⟨hlt, ?_⟩) fun ⟨heq, hnone⟩ => ⟨by rw [heq]; rfl, ?_⟩
    · simpa [testBit_bits, hlt] using hset
    · refine Nat.eq_of_testBit_eq fun i => ?_
      rw [Nat.zero_testBit, Nat.testBit_mod_two_pow, BitVec.testBit_toNat]
      by_cases hi : i < 32
      · simpa [testBit_bits, hi] using hnone i hi
      · simp [hi]

/-! ## `gset`, and its update -/

theorem Lands.schedule {s t : State} {so : Sock} {lat flags : Nat} {vs : List (Port × V1024)} (h : Lands s t so lat vs flags)
    (cyc prio : Nat) (i : Instr) : Lands s (t.schedule cyc prio i) so lat vs flags := by
  obtain ⟨due, cycles, hflights, hother, hfixed, hfree, hlocked⟩ := h
  refine ⟨due, cycles, hflights, hother, fun p hp => mem_schedule_of_mem _ _ _ (hfixed p hp), hfree, fun hm => ?_⟩
  obtain ⟨hafter, hbound, hstay, hopen, hmove, horder⟩ := hlocked hm
  refine ⟨hafter, hbound, hstay, hopen, fun f hf hso hl c hc => ?_, horder⟩
  obtain ⟨d, hd, hdc, hdue, hfix⟩ := hmove f hf hso hl c hc
  exact ⟨d, hd, hdc, hdue, fun hne => ⟨(hfix hne).1, mem_schedule_of_mem _ _ _ (hfix hne).2⟩⟩

/-- A mask and values packed for an update of guards. -/
theorem getLsbD_guardWord (mask val : W64) {count i : Nat} (hcount : count ≤ 24) (hi : i < 24) :
    let v := w64 (bits mask 0 count + bits val 0 24 * 2 ^ 24)
    v.getLsbD i = (decide (i < count) && mask.getLsbD i) ∧ v.getLsbD (24 + i) = val.getLsbD i := by
  have hlow : bits mask 0 count < 2 ^ 24 := lt_of_lt_of_le (bits_lt _ _ _) (Nat.pow_le_pow_right Nat.two_pos hcount)
  have hword : bits mask 0 count + bits val 0 24 * 2 ^ 24 = 2 ^ 24 * bits val 0 24 + bits mask 0 count := by ring
  constructor <;> rw [getLsbD_w64 _ (by omega), hword, Nat.testBit_two_pow_mul_add _ hlow]
  · simp [hi, testBit_bits]
  · simp [hi, testBit_bits]

theorem exec_gset (s : State) (u : Twin) (x : Bool) :
    exec (.gset u x) s = s.operate none fun t =>
      (t.result (aluSock u) (w64 (guardPack t.hand.ctx t.hc.regs))).later t.hand.tile t.hand.ctx updGuards
        (w64 (bits (if x then s.tv else s.opo (aluSock u)) 0 (guardVis t.hand.ctx)
          + bits (if x then s.opo (aluSock u) else s.tv) 0 24 * 2 ^ 24)) := by
  cases x <;> rfl

theorem gset_lands (s : State) (u : Twin) (x : Bool) (h : s.discards = false) :
    let mask := if x then s.tv else s.opo (aluSock u)
    let val := if x then s.opo (aluSock u) else s.tv
    ∃ (t : State) (r v : W64), exec (.gset u x) s = .next t ∧ Lands s t (aluSock u) 1 [(.r, wide r)] 0 ∧ Unchanged s t
      ∧ (∀ i < 64, r.getLsbD i = (decide (i < guardVis s.hand.ctx) && decide (spGet 0#1 s.hc.regs.g i = 1#1)))
      ∧ (∀ i < 24, v.getLsbD i = (decide (i < guardVis s.hand.ctx) && mask.getLsbD i) ∧ v.getLsbD (24 + i) = val.getLsbD i)
      ∧ NextCycle s t s.hand.tile s.hand.ctx updGuards v := by
  intro mask val
  obtain ⟨hlands, hunchanged⟩ := result_lands s (aluSock u) (w64 (guardPack s.hand.ctx s.hc.regs))
  refine ⟨_, _, _, (exec_gset s u x).trans (operate_next s _ none h rfl), hlands.schedule _ _ _,
    hunchanged.trans (schedule_unchanged _ _ _ _), fun i hi => ?_,
    fun i hi => getLsbD_guardWord mask val (guardVis_le _) hi, ?_⟩
  · rw [getLsbD_w64 _ hi, testBit_guardPack]
  · rw [NextCycle, ← hunchanged.rest.time.now]
    exact mem_schedule_self _ _ _ _

/-- From a to b a tile changes guards of context k, and notes of its pointers, alone. -/
structure Tile.Guarded (k : Ctx) (a b : Tile) : Prop where
  guards : ∃ g, b.ctx k = { a.ctx k with regs := { (a.ctx k).regs with g := g } }
  others : ∀ j, j ≠ k → b.ctx j = a.ctx j
  rest : TileRest a b

theorem Tile.Guarded.refl (k : Ctx) (a : Tile) : Tile.Guarded k a a := ⟨⟨_, rfl⟩, fun _ _ => rfl, TileRest.refl a⟩

theorem TileRest.trans {a b c : Tile} (h : TileRest a b) (g : TileRest b c) : TileRest a c :=
  ⟨g.reg.trans h.reg, g.latO.trans h.latO, g.latP.trans h.latP, g.ports.trans h.ports, g.code.trans h.code,
    g.entries.trans h.entries, g.sram.trans h.sram, g.sems.trans h.sems, g.srcs.trans h.srcs, g.tokens.trans h.tokens,
    g.eng.trans h.eng, g.net.trans h.net⟩

theorem Tile.Guarded.trans {k : Ctx} {a b c : Tile} (h : Tile.Guarded k a b) (g : Tile.Guarded k b c) : Tile.Guarded k a c := by
  obtain ⟨x, hx⟩ := h.guards
  obtain ⟨y, hy⟩ := g.guards
  exact ⟨⟨y, by rw [hy, hx]⟩, fun j hj => (g.others j hj).trans (h.others j hj), h.rest.trans g.rest⟩

theorem Tile.tileRest_modCtx (t : Tile) (k : Ctx) (f : Context → Context) : TileRest t (t.modCtx k f) := by
  cases k <;> exact ⟨rfl, rfl, rfl, rfl, rfl, rfl, rfl, rfl, rfl, rfl, rfl, rfl⟩

@[simp] theorem Tile.ctx_noteUpdate (t : Tile) (now : Nat) (k : Ctx) (ident : Nat) (j : Ctx) :
    (t.noteUpdate now k ident).ctx j = t.ctx j := by
  cases j <;> rfl

theorem Tile.tileRest_noteUpdate (t : Tile) (now : Nat) (k : Ctx) (ident : Nat) : TileRest t (t.noteUpdate now k ident) :=
  ⟨rfl, rfl, rfl, rfl, rfl, rfl, rfl, rfl, rfl, rfl, rfl, rfl⟩

/-- One guard takes its value. -/
theorem Tile.guarded_writeGuard (t : Tile) (now : Nat) (k : Ctx) (i v ident : Nat) :
    Tile.Guarded k t ((t.modCtx k fun c => { c with regs := c.regs.write .g i v }).noteUpdate now k ident) :=
  ⟨⟨spSet 0#1 (t.ctx k).regs.g i (BitVec.ofNat 1 v), by rw [Tile.ctx_noteUpdate, Tile.ctx_modCtx_same]; rfl⟩,
    fun j hj => by rw [Tile.ctx_noteUpdate, Tile.ctx_modCtx_other _ _ _ _ hj],
    (t.tileRest_modCtx k _).trans (Tile.tileRest_noteUpdate _ _ _ _)⟩

theorem Tile.guard_writeGuard (t : Tile) (now : Nat) (k : Ctx) (i v ident j : Nat) :
    spGet 0#1 (((t.modCtx k fun c => { c with regs := c.regs.write .g i v }).noteUpdate now k ident).ctx k).regs.g j
      = if j = i then BitVec.ofNat 1 v else spGet 0#1 (t.ctx k).regs.g j := by
  rw [Tile.ctx_noteUpdate, Tile.ctx_modCtx_same]
  split
  · next h => exact h ▸ spGet_spSet_same _ _ _ _
  · next h => exact spGet_spSet_other _ _ _ _ _ h

/-- The guards below m that an update has reached. -/
def Tile.guardsTo (t : Tile) (now : Nat) (k : Ctx) (v : W64) (m : Nat) : Tile :=
  (List.range m).foldl (fun t i =>
    if bitOf v i then
      (t.modCtx k fun c => { c with regs := c.regs.write .g i (bits v (24 + i) 1) }).noteUpdate now k (regIdent .g i)
    else t) t

theorem Tile.guardUpdate_eq (t : Tile) (now : Nat) (k : Ctx) (v : W64) : t.guardUpdate now k v = t.guardsTo now k v 24 := rfl

theorem Tile.guardsTo_succ (t : Tile) (now : Nat) (k : Ctx) (v : W64) (m : Nat) :
    t.guardsTo now k v (m + 1) = if v.getLsbD m then
      ((t.guardsTo now k v m).modCtx k fun c => { c with regs := c.regs.write .g m (bits v (24 + m) 1) }).noteUpdate now k (regIdent .g m)
    else t.guardsTo now k v m := by
  rw [← bitOf_eq_getLsbD]
  simp only [Tile.guardsTo, List.range_succ, List.foldl_append, List.foldl_cons, List.foldl_nil]

theorem Tile.guarded_guardsTo (t : Tile) (now : Nat) (k : Ctx) (v : W64) (m : Nat) : Tile.Guarded k t (t.guardsTo now k v m) := by
  induction m with
  | zero => exact Tile.Guarded.refl k t
  | succ m ih =>
    rw [Tile.guardsTo_succ]
    split
    · exact ih.trans (Tile.guarded_writeGuard _ _ _ _ _ _)
    · exact ih

theorem Tile.guard_guardsTo (t : Tile) (now : Nat) (k : Ctx) (v : W64) (m i : Nat) :
    spGet 0#1 ((t.guardsTo now k v m).ctx k).regs.g i
      = if i < m ∧ v.getLsbD i = true then BitVec.ofBool (v.getLsbD (24 + i)) else spGet 0#1 (t.ctx k).regs.g i := by
  induction m with
  | zero => simp [Tile.guardsTo]
  | succ m ih =>
    rw [Tile.guardsTo_succ]
    by_cases hm : v.getLsbD m = true
    · rw [if_pos hm, Tile.guard_writeGuard, ih, ofNat_bits_one]
      by_cases hi : i = m
      · simp [hi, hm]
      · simp [hi, show i < m + 1 ↔ i < m by omega]
    · rw [if_neg hm, ih]
      by_cases hi : i = m
      · simp [hi, hm]
      · simp [show i < m + 1 ↔ i < m by omega]

theorem exec_updGuards (s : State) (n : Nat) (k : Ctx) (v : W64) (hn : isTile n = true) :
    exec (.registerWrite { tile := n, ctx := k, num := updGuards } v) s = .next (s.modTile n fun t => t.guardUpdate s.now k v) := by
  have hexec : exec (.registerWrite { tile := n, ctx := k, num := updGuards } v) s
      = execRegisterWrite { tile := n, ctx := k, num := updGuards } v s := rfl
  rw [hexec, execRegisterWrite]
  simp only [hn]
  rfl

theorem modTile_otherContexts (s : State) (n : Nat) (k : Ctx) (f : Tile → Tile)
    (h : ∀ j, j ≠ k → (f (s.tile n)).ctx j = (s.tile n).ctx j) : SameOtherContexts s (s.modTile n f) n k := by
  intro m j hmj
  by_cases hm : m = n
  · subst hm
    rw [State.ctx, State.tile_modTile_same]
    exact h j (hmj.resolve_left (· rfl))
  · rw [State.ctx, State.tile_modTile_other _ _ _ _ hm, State.ctx]

/-- The update of the guards: each guard under its mask takes its value, and nothing else of the state changes. -/
theorem updGuards_changes_guards (s : State) (n : Nat) (k : Ctx) (v : W64) (hn : isTile n = true) :
    ∃ t, exec (.registerWrite { tile := n, ctx := k, num := updGuards } v) s = .next t
      ∧ t.ctx n k = { s.ctx n k with regs := { (s.ctx n k).regs with g := (t.ctx n k).regs.g } }
      ∧ (∀ i, spGet 0#1 (t.ctx n k).regs.g i
          = if i < 24 ∧ v.getLsbD i = true then BitVec.ofBool (v.getLsbD (24 + i)) else spGet 0#1 (s.ctx n k).regs.g i)
      ∧ SameOtherContexts s t n k ∧ SameRest s t := by
  have hguarded := (s.tile n).guarded_guardsTo s.now k v 24
  obtain ⟨g, hg⟩ := hguarded.guards
  refine ⟨_, exec_updGuards s n k v hn, ?_, fun i => ?_, modTile_otherContexts s n k _ hguarded.others,
    setTile_rest s n _ hguarded.rest⟩
  · simp only [State.ctx, State.tile_modTile_same, Tile.guardUpdate_eq, hg]
  · simp only [State.ctx, State.tile_modTile_same, Tile.guardUpdate_eq, Tile.guard_guardsTo]

/-- Settles O5: every result is read bit by bit, and the update is one guard after another. -/
theorem guardsAndLaneMasks : Obligations.GuardsAndLaneMasks := by
  unfold Obligations.GuardsAndLaneMasks
  simp only [← guardVis_eq]
  exact ⟨fun s u h => ⟨gpack_yields s u h, kfill_yields s u h, klow_yields s u h, khigh_yields s u h⟩, gset_lands,
    updGuards_changes_guards⟩

end Sys2Proof.Machine
end

section
/-!
PROOFS (03 R68, 12 R255, 18 R410). A trap fixes the landings of the `sem` results that it leaves in flight, and moves with
each what has the next id, which `TakingATrap` does not say is the `.f` of the same operation.
-/

namespace Sys2Proof.Machine

/-- A `sem` result of K1 that may land from cycle 5 on. -/
def semResult : Flight :=
  { id := 0, so := .sem, po := .r, ctx := .k1, locked := true, due := none, val := 0#1024, flags := 0, far := none
    ready := some 5, err := none, errAux := 0#64, errAt := none, raised := false }

/-- A result of `alu0` of K1 that lands in cycle 9, under the id that the `.f` of that operation would have. -/
def aluResult : Flight :=
  { id := 1, so := .alu0, po := .r, ctx := .k1, locked := false, due := some 9, val := 0#1024, flags := 0, far := none
    ready := none, err := none, errAux := 0#64, errAt := none, raised := false }

/-- Tile 0 after reset with both in flight. -/
def sharedId : State := State.reset.setTile 0 { Tile.reset 0 with flights := [semResult, aluResult], nextId := 2 }

/-- No context waits for a semaphore there, so that a trap withdraws nothing. -/
theorem sharedId_withdraws_nothing (k : Ctx) (id : Nat) :
    ¬∃ p ∈ (sharedId.tile 0).sems, ∃ o ∈ p.2.takers, o.ctx = k ∧ o.id = id := by
  rintro ⟨p, hp, -⟩
  exact List.not_mem_nil hp

/-- A trap of K0 gives both results of K1 the cycle in which the `sem` result lands. -/
theorem takeTrapAt_moves_aluResult :
    ((sharedId.takeTrapAt 0 .k0 (raiseAt .usertrap 0 0) 0 0 0).tile 0).flights
      = [{ semResult with due := some 5 }, { aluResult with due := some 5 }] := by decide +kernel

/-- Refutes O15: its clause on the results of other contexts leaves those of `sem` out, but asks nowhere that the ids in
flight tell apart a result of `sem` and one of another socket. -/
theorem not_takingATrap : ¬ Obligations.TakingATrap := by
  unfold Obligations.TakingATrap
  rintro ⟨htake, -⟩
  obtain ⟨-, -, -, -, -, -, hstays, -⟩ := htake sharedId 0 .k0 (raiseAt .usertrap 0 0) 0 0 0 false
  have hmem := hstays aluResult (by decide +kernel) (by decide) (by decide) (sharedId_withdraws_nothing _ _)
    fun ⟨i, _, hi⟩ => sharedId_withdraws_nothing _ i hi
  rw [takeTrapAt_moves_aluResult] at hmem
  simp [aluResult, semResult] at hmem

end Sys2Proof.Machine
end

section
/-!
PROOFS (09 R194, R196). A far load of no bytes at the start of a line: the model reads that line, `ResultsLand` none.
-/

namespace Sys2Proof.Machine

/-- A far load of K0 of no bytes from offset 64 of the slice, due in cycle 0. -/
def emptyFarLoad : Flight :=
  { id := 0, so := .ld0, po := .r, ctx := .k0, locked := true, due := some 0, val := 0#1024, flags := 0, far := some (64, 0)
    ready := none, err := none, errAux := 0#64, errAt := none, raised := false }

/-- Tile 0 after reset with that load in flight, and an uncorrectable error in line 1 of its slice. -/
def markedLine : State :=
  { State.reset with
    tiles := [(0, { Tile.reset 0 with flights := [emptyFarLoad] })]
    furlongs := [(0, { Furlong.reset with mark := [(1, true)] })] }

/-- The lines between the first and the last byte of the load: none, for it has no last byte. -/
theorem emptyFarLoad_unmarked {o b l : Nat} (hfar : emptyFarLoad.far = some (o, b)) (hlo : o / 64 ≤ l)
    (hhi : l ≤ (o + b - 1) / 64) : spGet false (markedLine.furlong (furlongOf 0)).mark l = false := by
  cases hfar
  omega

/-- Whether a step leaves a context with a cause due. -/
def leavesDue (n : Nat) (k : Ctx) (o : Out) : Bool :=
  match o with
  | .next t => !(t.ctx n k).dues.isEmpty
  | _ => false

theorem emptyFarLoad_leavesDue : leavesDue 0 .k0 (exec (.resultLands 0 .ld0 .r) markedLine) = true := by decide +kernel

/-- Refutes O26: its lines of a far load run from that of the first byte to that of the last, of which a load of no bytes at
the start of a line has none, while the model counts the line it starts in. No load has 0 bytes, but the statement takes any
state. -/
theorem not_resultsLand : ¬ Obligations.ResultsLand := by
  unfold Obligations.ResultsLand
  intro h
  obtain ⟨hlocked, -⟩ := h markedLine 0 .ld0 .r fun x hx => absurd hx List.not_mem_nil
  have hlands := hlocked ?_ fun g hg => absurd hg List.not_mem_nil
  · obtain ⟨t, ⟨hexec, -, -, -, hctx, -⟩, -⟩ := hlands
    obtain ⟨-, hdues, -⟩ := hctx .k0
    have hnone : (t.ctx 0 .k0).dues = [] := hdues.trans (by decide +kernel)
    have hdue := emptyFarLoad_leavesDue
    rw [hexec] at hdue
    simp [leavesDue, hnone] at hdue
  · intro f hf
    obtain rfl : f = emptyFarLoad := List.mem_singleton.mp (List.mem_of_mem_filter hf)
    exact ⟨fun o b hfar l => emptyFarLoad_unmarked hfar, rfl⟩

end Sys2Proof.Machine
end

section
/-!
PROOFS (10 R213, 18 R416). A queued grant that a frozen tile loses lets the grants behind it start sooner, which the engines
of their tiles hold; `TileControl` says that no other tile's engines change.
-/

namespace Sys2Proof.Machine

/-- A tile addition of 8 rows, 16 cycles long, that tile n of chain 0 holds unstarted. -/
def rowsAdded (n : Nat) : MxCmd :=
  { kind := 5, h := { tokp := 63#6, toka := 63#6, tokb := 63#6, tokc := 63#6 }, tile := n, slot := n, ctx := .k0, firing := 0
    fmt := 0x233#64, fpmode := 0#64, st := [0#64, 0#64, 0#64, 7#64, 16#64, 0#64], tiles := [], issued := 0, arrived := 0
    granted := none, errs := [] }

/-- Tiles 0, 1 and 2 hold such a command each. -/
def threeAdditions : State :=
  { State.reset with
    tiles := [0, 1, 2].map fun n => (n, { Tile.reset n with eng := { Engines.reset with mx := some (rowsAdded n) } }) }

/-- They have been granted in one cycle, that of tile 0 at once, those of tiles 1 and 2 behind it, and the chain freezes. -/
def grantsQueued : State := ([0, 1, 2].foldl (fun s n => s.soloGrant (rowsAdded n)) threeAdditions).freezeChain 0 .preempt

/-- The cycle fixed for the start of a tile's queued grant. -/
def State.grantOf (s : State) (m : Nat) : Option Nat := (s.tile m).eng.mx.bind (·.granted)

/-- The grant of a tile after a step. -/
def grantAfter (m : Nat) (o : Out) : Option Nat :=
  match o with
  | .next t => t.grantOf m
  | _ => none

/-- Tile 1 is to become quiet, and when it does, the command of tile 2 starts when that of tile 1 would have. -/
theorem tileQuiet_moves_grant_behind :
    grantsQueued.becomesQuiet 1 = true ∧ grantsQueued.grantOf 1 = some 16 ∧ grantsQueued.grantOf 2 = some 32
      ∧ grantAfter 2 (exec (.tileQuiet 1) grantsQueued) = some 16 := by decide +kernel

/-- Refutes O49: its clause on a tile that becomes quiet says that the engines of no other tile change. Where the tile loses a
queued grant, the grant behind it moves up in the engine of another (10 R213, log entry 55). -/
theorem not_tileControl : ¬ Obligations.TileControl := by
  unfold Obligations.TileControl
  rintro ⟨-, -, hquiet⟩
  obtain ⟨t, hexec, -, -, -, -, -, -, hother, -⟩ := hquiet grantsQueued 1 (.inl (by decide))
  obtain ⟨-, -, hbefore, hafter⟩ := tileQuiet_moves_grant_behind
  have hsame : t.grantOf 2 = grantsQueued.grantOf 2 := by rw [State.grantOf, hother 2 (by decide), State.grantOf]
  rw [hexec] at hafter
  exact absurd (hafter.symm.trans (hsame.trans hbefore)) (by decide)

end Sys2Proof.Machine
end

section
/-!
PROOFS (04 R93 to R97). Operations that change one context, as a layer of their own; then the transfers: where they send their
context, and the test that refuses each.
-/

namespace Sys2Proof.Machine

/-! ## Steps that change one context -/

/-- From s to t, only context k of tile n may change, of all that the frames speak of. -/
structure OnlyCtx (s t : State) (n : Nat) (k : Ctx) : Prop where
  others : SameOtherContexts s t n k
  rest : SameRest s t

theorem OnlyCtx.trans {s t u : State} {n : Nat} {k : Ctx} (h : OnlyCtx s t n k) (g : OnlyCtx t u n k) : OnlyCtx s u n k :=
  ⟨fun m j hmj => (g.others m j hmj).trans (h.others m j hmj), h.rest.trans g.rest⟩

theorem Unchanged.onlyCtx {s t : State} (h : Unchanged s t) (n : Nat) (k : Ctx) : OnlyCtx s t n k :=
  ⟨fun m j _ => h.contexts m j, h.rest⟩

theorem onlyCtx_modTile (s : State) (n : Nat) (k : Ctx) (f : Tile → Tile)
    (hctx : ∀ j, j ≠ k → (f (s.tile n)).ctx j = (s.tile n).ctx j) (hrest : TileRest (s.tile n) (f (s.tile n))) :
    OnlyCtx s (s.modTile n f) n k :=
  ⟨modTile_otherContexts s n k f hctx, setTile_rest s n _ hrest⟩

theorem onlyCtx_modCtx (s : State) (n : Nat) (k : Ctx) (f : Context → Context) : OnlyCtx s (s.modCtx n k f) n k :=
  onlyCtx_modTile s n k _ (fun _ hj => Tile.ctx_modCtx_other _ _ _ _ hj) (Tile.tileRest_modCtx _ _ _)

theorem onlyCtx_goto (s : State) (a : Nat) : OnlyCtx s (s.goto a) s.hand.tile s.hand.ctx := onlyCtx_modCtx _ _ _ _

@[simp] theorem State.ctx_goto (s : State) (a : Nat) :
    (s.goto a).ctx s.hand.tile s.hand.ctx = { s.ctx s.hand.tile s.hand.ctx with next := some a } := State.ctx_modCtx_same _ _ _ _

/-- Step i makes d of the context in hand and changes nothing else. -/
def Makes (i : Instr) (s : State) (d : Context) : Prop :=
  ∃ t, exec i s = .next t ∧ t.ctx s.hand.tile s.hand.ctx = d ∧ SameOtherContexts s t s.hand.tile s.hand.ctx ∧ SameRest s t

/-- An operation without a failing check makes of its context what its effect does. -/
theorem makes_of_operate {i : Instr} {s : State} {chk : Option Raise} {eff : State → State} {d : Context}
    (hi : exec i s = s.operate chk eff) (h : s.discards = false) (hchk : chk = none)
    (hctx : (eff s).ctx s.hand.tile s.hand.ctx = d) (honly : OnlyCtx s (eff s) s.hand.tile s.hand.ctx) : Makes i s d :=
  ⟨_, hi.trans (operate_next s eff chk h hchk), hctx, honly.others, honly.rest⟩

/-- The effect that rewrites the context in hand and sends it to an address. -/
theorem onlyCtx_modCtx_goto (s : State) (f : Context → Context) (a : Nat) :
    OnlyCtx s ((s.modCtx s.hand.tile s.hand.ctx f).goto a) s.hand.tile s.hand.ctx :=
  (onlyCtx_modCtx s _ _ f).trans (onlyCtx_goto (s.modCtx s.hand.tile s.hand.ctx f) a)

theorem ctx_modCtx_goto (s : State) (f : Context → Context) (a : Nat) :
    ((s.modCtx s.hand.tile s.hand.ctx f).goto a).ctx s.hand.tile s.hand.ctx = { f s.hc with next := some a } :=
  (State.ctx_goto (s.modCtx s.hand.tile s.hand.ctx f) a).trans (by simp only [State.modCtx_hand, State.ctx_modCtx_same]; rfl)

/-- Step i takes a CTLFAULT with a detail at its word. -/
def Faults (i : Instr) (s : State) (d : Nat) : Prop :=
  exec i s = .next (s.takeTrap s.hand.tile s.hand.ctx (raiseAt .ctlfault s.hand.slot d))

theorem faults_of_operate {i : Instr} {s : State} {chk : Option Raise} {eff : State → State} {d : Nat}
    (hi : exec i s = s.operate chk eff) (h : s.discards = false) (hchk : chk = s.ctlFault d) : Faults i s d := by
  simp [Faults, hi, hchk, State.operate, h, State.ctlFault, State.raise]

/-! ## Jumps -/

theorem exec_ctlJmp (s : State) : exec .ctlJmp s = s.operate (s.checkJump false) (State.doJump · false) := rfl

theorem exec_ctlJmpr (s : State) : exec .ctlJmpr s = s.operate (s.checkJump true) (State.doJump · true) := rfl

theorem jumpDest_jmp (s : State) : s.jumpDest false = (s.tv.toNat : Int) := rfl

theorem jumpDest_jmpr (s : State) : s.jumpDest true = (s.hc.pc : Int) + s.tv.toInt := rfl

section Jump

variable {s : State} {rel : Bool}

theorem checkJump_inside {a : Nat} (ha : s.jumpDest rel = a) (hin : a ≤ 2047)
    (hforward : isRoutine s.hand.ctx = true → s.hc.pc < a) : s.checkJump rel = none := by
  have hback : ¬(isRoutine s.hand.ctx = true ∧ (a : Int) ≤ s.hc.pc) := fun ⟨hr, hle⟩ => by
    have := hforward hr
    omega
  have hrange : ¬((2047 : Int) < a ∨ (a : Int) < 0) := by omega
  simp only [State.checkJump, ha, gt_iff_lt, Bool.or_eq_true, decide_eq_true_eq, Bool.and_eq_true, if_neg hrange, if_neg hback]

theorem checkJump_outside (ha : s.jumpDest rel < 0 ∨ 2047 < s.jumpDest rel) : s.checkJump rel = s.ctlFault 0x1 := by
  simp only [State.checkJump, gt_iff_lt, Bool.or_eq_true, decide_eq_true_eq, if_pos ha.symm]

theorem checkJump_backward (hlo : 0 ≤ s.jumpDest rel) (hhi : s.jumpDest rel ≤ 2047) (hr : isRoutine s.hand.ctx = true)
    (hback : s.jumpDest rel ≤ s.hc.pc) : s.checkJump rel = s.ctlFault 0x2 := by
  have hrange : ¬(2047 < s.jumpDest rel ∨ s.jumpDest rel < 0) := by omega
  simp only [State.checkJump, gt_iff_lt, Bool.or_eq_true, decide_eq_true_eq, Bool.and_eq_true, if_neg hrange, if_pos (And.intro hr hback)]

theorem leave_eq (x : Nest) (a : Nat) :
    x.leave a = if x.active = true ∧ (x.last < a ∨ a < x.start) then { x with active := false } else x := by
  simp only [Nest.leave, gt_iff_lt, Bool.and_eq_true, Bool.or_eq_true, decide_eq_true_eq]

theorem makes_jump {i : Instr} {a : Nat} (hi : exec i s = s.operate (s.checkJump rel) (State.doJump · rel))
    (h : s.discards = false) (ha : s.jumpDest rel = a) (hin : a ≤ 2047)
    (hforward : isRoutine s.hand.ctx = true → s.hc.pc < a) :
    Makes i s { s.hc with next := some a, nest := s.hc.nest.leave a } := by
  refine makes_of_operate hi h (checkJump_inside ha hin hforward) ?_ (onlyCtx_modCtx_goto s _ _)
  rw [State.doJump, ctx_modCtx_goto, ha, Int.toNat_natCast]

end Jump

/-! ## Calls and returns -/

theorem exec_ctlCall (s : State) : exec .ctlCall s = s.operate s.checkCall fun s =>
    (s.modCtx s.hand.tile s.hand.ctx fun c => { c with rstack := (c.pc + 1) :: c.rstack }).goto s.tv.toNat := rfl

theorem exec_ctlRet (s : State) : exec .ctlRet s = s.operate s.checkRet fun s =>
    match s.hc.rstack with
    | [] => s
    | a :: rest => (s.modCtx s.hand.tile s.hand.ctx fun c => { c with rstack := rest }).goto a := rfl

section Call

variable {s : State} (hin : s.tv.toNat ≤ 2047)

theorem checkCall_outside (hout : 2047 < s.tv.toNat) : s.checkCall = s.ctlFault 0x1 := if_pos hout

include hin

theorem checkCall_entry (hr : isRoutine s.hand.ctx = true) (he : s.tv.toNat = s.hc.entryPc) : s.checkCall = s.ctlFault 0x2 := by
  simp only [State.checkCall, gt_iff_lt, hin.not_gt, if_false, Bool.and_eq_true, decide_eq_true_eq, if_pos (And.intro hr he)]

/-- Past its first two tests a call is refused by the first of the other three that fails. -/
theorem checkCall_elsewhere (he : ¬(isRoutine s.hand.ctx = true ∧ s.tv.toNat = s.hc.entryPc)) :
    s.checkCall = if s.hc.nest.active then s.ctlFault 0x7 else if s.hc.saved.isSome then s.ctlFault 0x8
      else if 4 ≤ s.hc.rstack.length then s.ctlFault 0x3 else none := by
  simp only [State.checkCall, gt_iff_lt, hin.not_gt, if_false, Bool.and_eq_true, decide_eq_true_eq, if_neg he, ge_iff_le]

end Call

theorem makes_call {s : State} (h : s.discards = false) (hin : s.tv.toNat ≤ 2047)
    (he : ¬(isRoutine s.hand.ctx = true ∧ s.tv.toNat = s.hc.entryPc)) (hnest : s.hc.nest.active = false) (hsaved : s.hc.saved = none)
    (hstack : s.hc.rstack.length < 4) :
    Makes .ctlCall s { s.hc with next := some s.tv.toNat, rstack := (s.hc.pc + 1) :: s.hc.rstack } := by
  refine makes_of_operate (exec_ctlCall s) h ?_ (ctx_modCtx_goto s _ _) (onlyCtx_modCtx_goto s _ _)
  simp [checkCall_elsewhere hin he, hnest, hsaved, hstack]

theorem makes_ret {s : State} (h : s.discards = false) {a : Nat} {l : List Nat} (hstack : s.hc.rstack = a :: l) (hin : a ≤ 2047)
    (hnest : s.hc.nest.active = false) : Makes .ctlRet s { s.hc with next := some a, rstack := l } := by
  have hchk : s.checkRet = none := by simp [State.checkRet, hnest, hstack, hin.not_gt]
  refine makes_of_operate (exec_ctlRet s) h hchk ?_ ?_ <;> simp only [hstack]
  · exact ctx_modCtx_goto s _ _
  · exact onlyCtx_modCtx_goto s _ _

/-- Settles O16: each transfer is its check, of which a lemma for each outcome says when it is the one, and its effect on its
context. -/
theorem transfers : Obligations.Transfers := by
  unfold Obligations.Transfers
  simp only [← leave_eq]
  refine ⟨fun s h => ⟨fun hin hf => makes_jump (exec_ctlJmp s) h (jumpDest_jmp s) hin hf,
      fun a ha hin hf => makes_jump (exec_ctlJmpr s) h ha hin hf, makes_call h, fun a l hstack hin hnest => makes_ret h hstack hin hnest⟩,
    fun s h => ?_⟩
  have jmp {d : Nat} := faults_of_operate (d := d) (exec_ctlJmp s) h
  have jmpr {d : Nat} := faults_of_operate (d := d) (exec_ctlJmpr s) h
  have call {d : Nat} := faults_of_operate (d := d) (exec_ctlCall s) h
  have ret {d : Nat} := faults_of_operate (d := d) (exec_ctlRet s) h
  have hdest := jumpDest_jmp s
  have hrel := jumpDest_jmpr s
  refine ⟨fun hout => ⟨jmp (checkJump_outside (by omega)), call (checkCall_outside hout)⟩,
    fun hout => jmpr (checkJump_outside hout),
    fun hin hr hback => jmp (checkJump_backward (by omega) (by omega) hr (by omega)),
    fun hlo hhi hr hback => jmpr (checkJump_backward hlo hhi hr (by omega)),
    fun hin hr he => call (checkCall_entry hin hr he), fun hin he hnest => call ?_, fun hin he hnest hsaved => call ?_,
    fun hin he hnest hsaved hstack => call ?_, fun hnest => ret ?_, fun hnest hstack => ret ?_⟩
  · rw [checkCall_elsewhere hin he, if_pos hnest]
  · rw [checkCall_elsewhere hin he]
    simp [hnest, hsaved]
  · rw [checkCall_elsewhere hin he]
    simp [hnest, hsaved, hstack]
  · simp only [State.checkRet, hnest, if_true]
  · simp [State.checkRet, hnest, hstack]

end Sys2Proof.Machine
end

section
/-!
PROOFS (04 R98). Loop nests: the indices as digits of one number in a mixed radix, to which each pass adds 1, and the operations
that arm a nest and end it.
-/

namespace Sys2Proof.Machine

/-! ## Numbers in a mixed radix -/

/-- The weight of digit d, where digit e counts to cnt e. -/
def digitWeight (cnt : Nat → Nat) (d : Nat) : Nat := ((List.range d).map cnt).prod

/-- The number of the lowest m digits. -/
def digitsValue (cnt idx : Nat → Nat) (m : Nat) : Nat := ((List.range m).map fun d => idx d * digitWeight cnt d).sum

theorem digitWeight_succ (cnt : Nat → Nat) (d : Nat) : digitWeight cnt (d + 1) = digitWeight cnt d * cnt d :=
  List.prod_range_succ cnt d

theorem digitsValue_succ (cnt idx : Nat → Nat) (m : Nat) :
    digitsValue cnt idx (m + 1) = digitsValue cnt idx m + idx m * digitWeight cnt m :=
  List.sum_range_succ _ m

theorem digitsValue_of_zero {cnt idx : Nat → Nat} {m : Nat} (h : ∀ e < m, idx e = 0) : digitsValue cnt idx m = 0 := by
  induction m with
  | zero => rfl
  | succ m ih => rw [digitsValue_succ, ih fun e he => h e (by omega), h m (by omega), Nat.zero_mul]

/-- With every digit at its last value the number is the last one. -/
theorem digitsValue_of_last {cnt idx : Nat → Nat} {m : Nat} (h : ∀ d < m, idx d + 1 = cnt d) :
    digitsValue cnt idx m + 1 = digitWeight cnt m := by
  induction m with
  | zero => rfl
  | succ m ih =>
    have hlow := ih fun d hd => h d (by omega)
    rw [digitsValue_succ, digitWeight_succ, ← h m (by omega), ← hlow]
    ring

theorem digitsValue_lt {cnt idx : Nat → Nat} {m : Nat} (h : ∀ d < m, idx d < cnt d) : digitsValue cnt idx m < digitWeight cnt m := by
  induction m with
  | zero => exact Nat.one_pos
  | succ m ih =>
    have hlow := ih fun d hd => h d (by omega)
    calc digitsValue cnt idx (m + 1) = digitsValue cnt idx m + idx m * digitWeight cnt m := digitsValue_succ _ _ _
      _ < digitWeight cnt m + idx m * digitWeight cnt m := by omega
      _ = digitWeight cnt m * (idx m + 1) := by ring
      _ ≤ digitWeight cnt m * cnt m := Nat.mul_le_mul_left _ (h m (by omega))
      _ = digitWeight cnt (m + 1) := (digitWeight_succ _ _).symm

/-- The digits after 1 is added with a carry into digit d. -/
def Carries (idx idx' : Nat → Nat) (d : Nat) : Prop := ∀ e, idx' e = if e < d then 0 else if e = d then idx d + 1 else idx e

/-- A carry into digit d over digits at their last values adds 1 to the number. -/
theorem digitsValue_carry {cnt idx idx' : Nat → Nat} {d m : Nat} (hd : d < m) (hlast : ∀ e < d, idx e + 1 = cnt e)
    (hcarry : Carries idx idx' d) : digitsValue cnt idx' m = digitsValue cnt idx m + 1 := by
  induction m, hd using Nat.le_induction with
  | base =>
    have hlow := digitsValue_of_last hlast
    have hzero : digitsValue cnt idx' d = 0 := digitsValue_of_zero fun e he => by simp [hcarry e, he]
    have hdigit : idx' d = idx d + 1 := by simp [hcarry d]
    rw [digitsValue_succ, digitsValue_succ, hzero, hdigit, ← hlow]
    ring
  | succ m hm ih =>
    have hsame : idx' m = idx m := by simp [hcarry m, show ¬m < d by omega, show m ≠ d by omega]
    rw [digitsValue_succ, digitsValue_succ, ih, hsame]
    omega

/-- A carry into a digit that is not at its last value keeps every digit within its count. -/
theorem Carries.lt {cnt idx idx' : Nat → Nat} {d m : Nat} (hcarry : Carries idx idx' d) (hbound : ∀ e < m, idx e < cnt e)
    (hd : idx d + 1 ≠ cnt d) : ∀ e < m, idx' e < cnt e := by
  intro e he
  have := hbound e he
  rw [hcarry e]
  split
  · omega
  · split
    · next h => subst h; omega
    · exact this

/-! ## The end of a pass -/

theorem spGet_foldl_spErase (m : Sparse Nat) (d e : Nat) :
    spGet 0 ((List.range d).foldl spErase m) e = if e < d then 0 else spGet 0 m e := by
  induction d with
  | zero => rfl
  | succ d ih =>
    rw [List.range_succ, List.foldl_append, List.foldl_cons, List.foldl_nil]
    by_cases he : e = d
    · simp [he]
    · rw [spGet_spErase_other _ _ _ _ he, ih]
      simp [show e < d + 1 ↔ e < d by omega]

/-- A nest that has ended, and the address that issues after it. -/
def Nest.ended (x : Nest) : Nest × Nat := ({ x with active := false }, x.last + 1)

/-- A nest at the start of its next pass, with 1 added to index d and those below it back at 0. -/
def Nest.again (x : Nest) (d : Nat) : Nest × Nat :=
  ({ x with idx := spPut ((List.range d).foldl spErase x.idx) d (spGet 0 x.idx d + 1) }, x.start)

theorem carries_again (x : Nest) (d : Nat) : Carries (spGet 0 x.idx) (spGet 0 (x.again d).1.idx) d := by
  intro e
  simp only [Nest.again]
  by_cases he : e = d
  · simp [he]
  · rw [spGet_spPut_other _ _ _ _ _ he, spGet_foldl_spErase, if_neg he]

/-- The digits of a nest's indices are at their last values, and it ends; or the first that is not takes the carry, and it
goes on unless `lexit` was issued. -/
theorem passEnd_cases (x : Nest) :
    (∀ d < x.dims, spGet 0 x.idx d + 1 = spGet 0 x.cnt d) ∧ x.passEnd = x.ended
      ∨ ∃ d < x.dims, spGet 0 x.idx d + 1 ≠ spGet 0 x.cnt d ∧ (∀ e < d, spGet 0 x.idx e + 1 = spGet 0 x.cnt e)
        ∧ x.passEnd = if x.exit then x.ended else x.again d := by
  unfold Nest.passEnd
  cases hfind : (List.range x.dims).find? fun d => spGet 0 x.idx d + 1 ≠ spGet 0 x.cnt d with
  | none => exact .inl ⟨by simpa using hfind, rfl⟩
  | some d =>
    obtain ⟨hd, hmem, hlast⟩ := List.find?_range_eq_some.mp hfind
    exact .inr ⟨d, List.mem_range.mp hmem, by simpa using hd, by simpa using hlast, rfl⟩

/-- The indices of a nest as one number whose lowest digit is dimension 0. -/
def Nest.place (x : Nest) : Nat := digitsValue (spGet 0 x.cnt) (spGet 0 x.idx) x.dims

theorem passEnd_next {x : Nest} (hactive : x.active = true) (hbound : ∀ d < x.dims, spGet 0 x.idx d < spGet 0 x.cnt d)
    (hexit : x.exit = false) (hplace : x.place + 1 < digitWeight (spGet 0 x.cnt) x.dims) :
    let y := x.passEnd.1
    y.active = true ∧ x.passEnd.2 = x.start
      ∧ digitsValue (spGet 0 x.cnt) (spGet 0 y.idx) x.dims = x.place + 1 ∧ ∀ d < x.dims, spGet 0 y.idx d < spGet 0 x.cnt d := by
  obtain ⟨hlast, -⟩ | ⟨d, hd, hne, hlow, hend⟩ := passEnd_cases x
  · exact absurd (digitsValue_of_last hlast) hplace.ne
  · rw [hexit, if_neg Bool.false_ne_true] at hend
    rw [hend]
    exact ⟨hactive, rfl, digitsValue_carry hd hlow (carries_again x d), (carries_again x d).lt hbound hne⟩

theorem passEnd_last {x : Nest} (hbound : ∀ d < x.dims, spGet 0 x.idx d < spGet 0 x.cnt d)
    (hlast : x.exit = true ∨ x.place + 1 = digitWeight (spGet 0 x.cnt) x.dims) : x.passEnd = x.ended := by
  obtain ⟨-, hend⟩ | ⟨d, hd, hne, hlow, hend⟩ := passEnd_cases x
  · exact hend
  · rw [hend, if_pos]
    refine hlast.resolve_right fun hplace => ?_
    have hlt := digitsValue_lt ((carries_again x d).lt hbound hne)
    rw [digitsValue_carry hd hlow (carries_again x d)] at hlt
    exact hlt.ne hplace

/-! ## Arming -/

theorem spGet_map_pair (f : Nat → Nat) (l : List Nat) (d : Nat) (hd : d ∈ l) : spGet 0 (l.map fun e => (e, f e)) d = f d := by
  induction l with
  | nil => cases hd
  | cons e l ih =>
    rw [List.map_cons, spGet]
    split
    · next h => rw [h]
    · next h => exact ih ((List.mem_cons.mp hd).resolve_left h)

/-- The body after a word ends with the first word that closes one, within 64 words. -/
theorem bodyEnd_eq {t : Tile} {a e : Nat} (hlo : a < e) (hhi : e ≤ a + 64) (hstore : e ≤ 2047)
    (hends : (spGet 0#512 t.code e).getLsbD 492 = true) (hfirst : ∀ b, a < b → b < e → (spGet 0#512 t.code b).getLsbD 492 = false) :
    t.bodyEnd a = some e := by
  have he : a + 1 + (e - a - 1) = e := by omega
  have hfind : (List.range 64).find? ((fun i => decide (i ≤ 2047) && bitOf (spGet 0#512 t.code i) 492) ∘ fun i => a + 1 + i)
      = some (e - a - 1) := by
    refine List.find?_range_eq_some.mpr ⟨?_, List.mem_range.mpr (by omega), fun i hi => ?_⟩
    · simp [he, hstore, bitOf_eq_getLsbD, hends]
    · have hopen := hfirst (a + 1 + i) (by omega) (by omega)
      simp only [Function.comp_apply, bitOf_eq_getLsbD, hopen, Bool.and_false, Bool.not_false]
  rw [Tile.bodyEnd, List.find?_map, hfind, Option.map_some, he]

/-- The nest of some dimensions that a context arms over the words from the next one to e. -/
def Context.armed (c : Context) (e dims : Nat) : Nest :=
  let counts := (List.range dims).map fun d => (d, c.pendCount d)
  { active := !counts.any fun p => p.2 = 0, start := c.pc + 1, last := e, dims := dims, exit := false, filled := false, cnt := counts
    idx := [], buf := [] }

theorem armed_active_iff (c : Context) (e dims : Nat) : (c.armed e dims).active = true ↔ ∀ d < dims, spGet 1 c.pend d ≠ 0 := by
  simp [Context.armed, Context.pendCount]

theorem armed_cnt (c : Context) (e dims d : Nat) (hd : d < dims) : spGet 0 (c.armed e dims).cnt d = spGet 1 c.pend d :=
  spGet_map_pair c.pendCount _ d (List.mem_range.mpr hd)

theorem exec_ctlLoop (s : State) : exec .ctlLoop s = s.operate s.checkLoop fun s =>
    let x := s.hc.armed ((s.ht.bodyEnd s.hc.pc).getD s.hc.pc) s.tv.toNat
    (s.modCtx s.hand.tile s.hand.ctx fun c => { c with nest := x }).goto (if !x.active then x.last + 1 else s.hc.pc + 1) := by
  simp only [Context.armed, Bool.not_not]
  rfl

section Loop

variable {s : State} (h : s.discards = false)

include h

theorem makes_loop {e : Nat} (hlo : 1 ≤ s.tv.toNat) (hhi : s.tv.toNat ≤ 6) (hnest : s.hc.nest.active = false)
    (hsaved : s.hc.saved = none) (hend : s.ht.bodyEnd s.hc.pc = some e) :
    let x := s.hc.armed e s.tv.toNat
    Makes .ctlLoop s { s.hc with nest := x, next := some (if x.active then s.hc.pc + 1 else e + 1) } := by
  intro x
  have hchk : s.checkLoop = none := by
    simp [State.checkLoop, hlo.not_gt, hhi.not_gt, hnest, hsaved, hend]
  refine makes_of_operate (exec_ctlLoop s) h hchk ?_ (onlyCtx_modCtx_goto s _ _)
  simp only [hend, Option.getD_some, ctx_modCtx_goto]
  by_cases hx : (s.hc.armed e s.tv.toNat).active = true
  · rw [hx]
    rfl
  · rw [Bool.not_eq_true] at hx
    rw [hx]
    rfl

theorem makes_ldim (hd : (s.opo .ctl).toNat ≤ 5) :
    Makes .ctlLdim s { s.hc with pend := spSet 1 s.hc.pend (s.opo .ctl).toNat (s.tv.toNat % 2 ^ 32) } :=
  makes_of_operate (chk := if (s.opo .ctl).toNat > 5 then s.ctlFault 0x5 else none)
    (eff := fun s => s.modCtx s.hand.tile s.hand.ctx fun c => { c with pend := spSet 1 c.pend (s.opo .ctl).toNat (bits s.tv 0 32) })
    rfl h (if_neg hd.not_gt) (State.ctx_modCtx_same _ _ _ _) (onlyCtx_modCtx _ _ _ _)

theorem makes_lexit :
    Makes .ctlLexit s { s.hc with nest := if s.hc.nest.active then { s.hc.nest with exit := true } else s.hc.nest } := by
  refine makes_of_operate (chk := none) (eff := fun s => s.modCtx s.hand.tile s.hand.ctx fun c =>
    if c.nest.active then { c with nest := { c.nest with exit := true } } else c) rfl h rfl ?_ (onlyCtx_modCtx _ _ _ _)
  rw [State.ctx_modCtx_same]
  change (if s.hc.nest.active then _ else s.hc) = _
  split <;> rfl

/-- What an operation with one 64-bit result in one cycle does. -/
theorem yields64_of_operate {i : Instr} {chk : Option Raise} {eff : State → State} {so : Sock} {v : W64}
    (hi : exec i s = s.operate chk eff) (hchk : chk = none) (heff : eff s = s.result so v) : Yields64 i s so 1 v :=
  ⟨_, hi.trans (operate_next s eff chk h hchk), heff ▸ result_lands s so v⟩

theorem lidx_yields : Yields64 .ctlLidx s .ctl 1
    (w64 (if s.hc.nest.active ∧ s.tv.toNat < s.hc.nest.dims then spGet 0 s.hc.nest.idx s.tv.toNat else 0)) := by
  refine yields64_of_operate h (chk := none) (eff := fun s => s.result .ctl
    (w64 (if s.hc.nest.active && s.tv.toNat < s.hc.nest.dims then spGet 0 s.hc.nest.idx s.tv.toNat else 0))) rfl rfl ?_
  simp only [Bool.and_eq_true, decide_eq_true_eq]

end Loop

/-- Settles O17: arming is the body's end, found among the next 64 words, and the counts; the end of a pass is a carry into the
lowest digit that is not at its last value. -/
theorem loopNests : Obligations.LoopNests := by
  unfold Obligations.LoopNests
  refine ⟨fun s h => ⟨makes_ldim h, fun e hlo hhi hnest hsaved he he' hstore hends hfirst => ?_, lidx_yields h, makes_lexit h⟩,
    fun x hactive hbound => ⟨passEnd_next hactive hbound, fun hlast => ?_⟩⟩
  · exact ⟨s.hc.armed e s.tv.toNat, armed_active_iff _ _ _, rfl, rfl, rfl, rfl, rfl, armed_cnt _ _ _, fun d => rfl,
      makes_loop h hlo hhi hnest hsaved (bodyEnd_eq he he' hstore hends hfirst)⟩
  · rw [passEnd_last hbound hlast]
    exact ⟨rfl, rfl⟩

end Sys2Proof.Machine
end

section
/-!
PROOFS (04 R81, R84, R88, R90, R99, R100). The operations that end, hold or restore their context. A far reference passes the
primary slot and leaves every context as it is.
-/

namespace Sys2Proof.Machine

/-! ## The primary slot passes -/

theorem Tile.primary_leaveSlot (t : Tile) (k : Ctx) : (t.leaveSlot k).primary = if t.primary = some k then none else t.primary := by
  unfold Tile.leaveSlot
  split <;> rfl

theorem Tile.primary_leaveSlot_ne (t : Tile) (k : Ctx) : (t.leaveSlot k).primary ≠ some k := by
  rw [Tile.primary_leaveSlot]
  split
  · simp
  · assumption

@[simp] theorem Tile.primary_modCtx (t : Tile) (k : Ctx) (f : Context → Context) : (t.modCtx k f).primary = t.primary := by
  cases k <;> rfl

@[simp] theorem Tile.ctx_leaveSlot (t : Tile) (k j : Ctx) : (t.leaveSlot k).ctx j = t.ctx j := by
  unfold Tile.leaveSlot
  split
  · cases j <;> rfl
  · rfl

theorem Tile.tileRest_leaveSlot (t : Tile) (k : Ctx) : TileRest t (t.leaveSlot k) := by
  unfold Tile.leaveSlot
  split
  · exact ⟨rfl, rfl, rfl, rfl, rfl, rfl, rfl, rfl, rfl, rfl, rfl, rfl⟩
  · exact TileRest.refl t

theorem onlyCtx_farRef (s : State) (n : Nat) (k : Ctx) : OnlyCtx s (s.farRef n k) n k :=
  onlyCtx_modTile s n k _ (fun j _ => Tile.ctx_leaveSlot _ _ j) (Tile.tileRest_leaveSlot _ _)

@[simp] theorem State.ctx_farRef (s : State) (n : Nat) (k : Ctx) : (s.farRef n k).ctx n k = s.ctx n k := by
  rw [State.farRef, State.ctx, State.tile_modTile_same, Tile.ctx_leaveSlot]
  rfl

theorem State.primary_farRef (s : State) (n : Nat) (k : Ctx) :
    ((s.farRef n k).tile n).primary = if (s.tile n).primary = some k then none else (s.tile n).primary := by
  rw [State.farRef, State.tile_modTile_same, Tile.primary_leaveSlot]

theorem State.primary_modCtx (s : State) (n : Nat) (k : Ctx) (f : Context → Context) :
    ((s.modCtx n k f).tile n).primary = (s.tile n).primary := by
  rw [State.modCtx, State.tile_modTile_same, Tile.primary_modCtx]

theorem State.primary_goto (s : State) (a : Nat) : ((s.goto a).tile s.hand.tile).primary = (s.tile s.hand.tile).primary :=
  State.primary_modCtx s _ _ _

theorem onlyCtx_hold (s : State) (n : Nat) (k : Ctx) (x : Hold) : OnlyCtx s (s.hold n k x) n k :=
  (onlyCtx_modCtx s n k _).trans (onlyCtx_farRef _ n k)

theorem State.ctx_hold (s : State) (n : Nat) (k : Ctx) (x : Hold) :
    (s.hold n k x).ctx n k = { s.ctx n k with holds := (s.ctx n k).holds ++ [x] } := by
  rw [State.hold, State.ctx_farRef, State.ctx_modCtx_same]

theorem State.primary_hold (s : State) (n : Nat) (k : Ctx) (x : Hold) :
    ((s.hold n k x).tile n).primary = if (s.tile n).primary = some k then none else (s.tile n).primary := by
  rw [State.hold, State.primary_farRef, State.primary_modCtx]

/-! ## The operations -/

/-- Step i makes d of the context in hand, which gives up the primary slot where `gives` says so, and changes nothing else. -/
def MakesWithSlot (i : Instr) (s : State) (d : Context) (gives : Bool) : Prop :=
  let n := s.hand.tile
  let k := s.hand.ctx
  ∃ t, exec i s = .next t ∧ t.ctx n k = d ∧ SameOtherContexts s t n k ∧ SameRest s t
    ∧ (t.tile n).primary = if gives && (s.tile n).primary = some k then none else (s.tile n).primary

section Control

variable {s : State} (h : s.discards = false)

include h

theorem makesWithSlot_of_operate {i : Instr} {chk : Option Raise} {eff : State → State} {d : Context} {gives : Bool}
    (hi : exec i s = s.operate chk eff) (hchk : chk = none) (hctx : (eff s).ctx s.hand.tile s.hand.ctx = d)
    (honly : OnlyCtx s (eff s) s.hand.tile s.hand.ctx)
    (hslot : ((eff s).tile s.hand.tile).primary
      = if gives && (s.tile s.hand.tile).primary = some s.hand.ctx then none else (s.tile s.hand.tile).primary) :
    MakesWithSlot i s d gives :=
  ⟨_, hi.trans (operate_next s eff chk h hchk), hctx, honly.others, honly.rest, hslot⟩

theorem makes_yield : MakesWithSlot .ctlYield s s.hc true :=
  makesWithSlot_of_operate h (chk := none) (eff := fun s => s.farRef s.hand.tile s.hand.ctx) rfl rfl (State.ctx_farRef _ _ _)
    (onlyCtx_farRef _ _ _) (by simpa using State.primary_farRef s s.hand.tile s.hand.ctx)

/-- An operation that holds its context. -/
theorem makes_hold {i : Instr} {x : State → Hold}
    (hi : exec i s = s.operate none fun s => s.hold s.hand.tile s.hand.ctx (x s)) :
    MakesWithSlot i s { s.hc with holds := s.hc.holds ++ [x s] } true :=
  makesWithSlot_of_operate h hi rfl (State.ctx_hold _ _ _ _) (onlyCtx_hold _ _ _ _)
    (by simpa using State.primary_hold s s.hand.tile s.hand.ctx (x s))

theorem exec_ctlTrap_next : exec .ctlTrap s = .next (s.takeTrapAt s.hand.tile s.hand.ctx
    (raiseAt .usertrap s.hand.slot (s.tv.toNat % 2 ^ 16)) s.hc.pc (s.hc.next.getD (s.hc.pc + 1)) s.now) :=
  operate_next s (fun s => s.takeTrapAt s.hand.tile s.hand.ctx (s.raise .usertrap (bits s.tv 0 16)) s.hc.pc
    (s.hc.next.getD (s.hc.pc + 1)) s.now) none h rfl

end Control

/-! ## Return from a handler -/

/-- With no error among the captured results of its handler, the return raises no cause. -/
theorem raiseCaptured_of_no_errors {s : State} {n : Nat} (who : Capturer) (h : ∀ x ∈ (s.tile n).captures, x.fl.err = none) :
    s.raiseCaptured n who = s := by
  have hnone : (s.tile n).captures.filter (fun c => decide (c.by' = who) && c.fl.err.isSome) = [] :=
    List.filter_eq_nil_iff.mpr fun x hx => by simp [h x hx]
  rw [State.raiseCaptured, hnone, List.foldl_nil]

@[simp] theorem Tile.captures_modCtx (t : Tile) (k : Ctx) (f : Context → Context) : (t.modCtx k f).captures = t.captures := by
  cases k <;> rfl

/-- What a return from a handler restores of what its entry saved. -/
def Context.restored (c : Context) (v : Saved) : Context :=
  { c with regs := { c.regs with g := v.guards }, nest := v.nest, holds := v.holds, saved := none }

theorem exec_ctlUret (s : State) : exec .ctlUret s
    = s.operate (if !isRoutine s.hand.ctx || s.hc.saved.isNone then s.ctlFault 0x8 else none) fun s =>
      match s.hc.saved with
      | none => s
      | some v => ((s.modCtx s.hand.tile s.hand.ctx (Context.restored · v)).raiseCaptured s.hand.tile (.handler s.hand.ctx)).goto v.pc :=
  rfl

theorem makes_uret {s : State} (h : s.discards = false) {v : Saved} (hr : isRoutine s.hand.ctx = true) (hsaved : s.hc.saved = some v)
    (hclean : ∀ x ∈ (s.tile s.hand.tile).captures, x.fl.err = none) :
    MakesWithSlot .ctlUret s { s.hc.restored v with next := some v.pc } false := by
  have hraise : (s.modCtx s.hand.tile s.hand.ctx (Context.restored · v)).raiseCaptured s.hand.tile (.handler s.hand.ctx)
      = s.modCtx s.hand.tile s.hand.ctx (Context.restored · v) :=
    raiseCaptured_of_no_errors _ (by simpa only [State.modCtx, State.tile_modTile_same, Tile.captures_modCtx] using hclean)
  refine makesWithSlot_of_operate h (exec_ctlUret s) (by simp [hr, hsaved]) ?_ ?_ ?_ <;> simp only [hsaved, hraise]
  · exact ctx_modCtx_goto s _ _
  · exact onlyCtx_modCtx_goto s _ _
  · exact (State.primary_goto _ _).trans (State.primary_modCtx s _ _ _)

/-! ## Retiring -/

/-- The entry of a routine that retires is marked so; a service program has none. -/
def State.entryRetires (s : State) (n : Nat) (k : Ctx) (e : Option Nat) : State :=
  match e with
  | some e =>
    if isRoutine k then s.modTile n fun t => { t with entries := spPut t.entries e { (spGet Entry.reset t.entries e) with st := 2 } }
    else s
  | none => s

theorem exec_ctlRetire {s : State} (hsaved : s.hc.saved = none) : exec .ctlRetire s
    = .next (((s.modCtx s.hand.tile s.hand.ctx fun c => c.retire s.hand.ctx).farRef s.hand.tile s.hand.ctx).entryRetires
      s.hand.tile s.hand.ctx s.hc.entry) := by
  have hentry : ((s.modCtx s.hand.tile s.hand.ctx fun c => c.retire s.hand.ctx).farRef s.hand.tile s.hand.ctx).hc.entry = s.hc.entry := by
    change (((s.modCtx s.hand.tile s.hand.ctx fun c => c.retire s.hand.ctx).farRef s.hand.tile s.hand.ctx).ctx
      s.hand.tile s.hand.ctx).entry = _
    rw [State.ctx_farRef, State.ctx_modCtx_same]
    rfl
  change execCtlRetire s = _
  simp only [execCtlRetire, hsaved, Option.isSome_none, Bool.false_eq_true, if_false, hentry]
  rfl

/-! ## Steps inside one tile -/

/-- From s to t, of all the state only tile n may change. -/
structure OnlyTile (s t : State) (n : Nat) : Prop where
  rest : t = { s with tiles := t.tiles }
  others : ∀ m, m ≠ n → t.tile m = s.tile m

theorem OnlyTile.refl (s : State) (n : Nat) : OnlyTile s s n := ⟨rfl, fun _ _ => rfl⟩

theorem OnlyTile.trans {s t u : State} {n : Nat} (h : OnlyTile s t n) (g : OnlyTile t u n) : OnlyTile s u n :=
  ⟨g.rest.trans (by rw [h.rest]), fun m hm => (g.others m hm).trans (h.others m hm)⟩

theorem onlyTile_setTile (s : State) (n : Nat) (x : Tile) : OnlyTile s (s.setTile n x) n :=
  ⟨rfl, fun m hm => State.tile_setTile_other s n m x hm⟩

theorem onlyTile_modTile (s : State) (n : Nat) (f : Tile → Tile) : OnlyTile s (s.modTile n f) n := onlyTile_setTile s n _

theorem SameDevice.of_onlyTile {s t : State} {n : Nat} (h : OnlyTile s t n) : SameDevice s t := by
  rw [h.rest]
  exact ⟨fun _ => rfl, fun _ => rfl, rfl, rfl, fun _ => rfl⟩

theorem SameTime.of_onlyTile {s t : State} {n : Nat} (h : OnlyTile s t n) : SameTime s t := by
  rw [h.rest]
  exact ⟨rfl, fun _ ha => ha⟩

section Frames

variable {s t : State} {n : Nat} {k : Ctx} (h : OnlyTile s t n) (hn : Tile.Beside k (s.tile n) (t.tile n))

include h hn

theorem SameOtherContexts.of_beside : SameOtherContexts s t n k := by
  intro m j hmj
  by_cases hm : m = n
  · subst hm
    exact hn.others j (hmj.resolve_left (· rfl))
  · rw [State.ctx, h.others m hm, State.ctx]

theorem SameMemory.of_beside : SameMemory s t := by
  refine ⟨fun m a => congrArg (memGet · a) (forall_tile_eq Tile.sram hn.sram h.others m), ?_, ?_, ?_, ?_, ?_⟩ <;> rw [h.rest]
  · exact fun _ _ => rfl
  · exact fun _ _ => rfl
  · exact fun _ _ => rfl
  · exact fun _ => rfl
  · exact fun _ => rfl

theorem SameSync.of_beside : SameSync s t :=
  ⟨forall_tile_eq Tile.sems hn.sems h.others, forall_tile_eq Tile.srcs hn.srcs h.others,
    forall_tile_eq Tile.tokens hn.tokens h.others⟩

theorem SameEngines.of_beside : SameEngines s t :=
  ⟨forall_tile_eq Tile.eng hn.eng h.others, forall_tile_eq Tile.net hn.net h.others⟩

end Frames

theorem Tile.beside_refl (k : Ctx) (t : Tile) : Tile.Beside k t t := (Tile.Noted.refl k t).toBeside

theorem Tile.beside_leaveSlot (t : Tile) (k : Ctx) : Tile.Beside k t (t.leaveSlot k) := by
  have h := t.tileRest_leaveSlot k
  exact ⟨h.latO, h.latP, h.ports, h.sram, h.sems, h.srcs, h.tokens, h.eng, h.net, fun j _ => t.ctx_leaveSlot k j⟩

/-- A tile with other list entries, and other counts of its list. -/
def Tile.withEntries (t : Tile) (entries : Sparse Entry) : Tile := { t with entries := entries }

@[simp] theorem Tile.ctx_withEntries (t : Tile) (entries : Sparse Entry) (j : Ctx) : (t.withEntries entries).ctx j = t.ctx j := by
  cases j <;> rfl

theorem Tile.beside_withEntries (k : Ctx) (t : Tile) (entries : Sparse Entry) : Tile.Beside k t (t.withEntries entries) :=
  ⟨rfl, rfl, rfl, rfl, rfl, rfl, rfl, rfl, rfl, fun j _ => t.ctx_withEntries entries j⟩

theorem Tile.entry_withEntries_spPut (t : Tile) (e : Nat) (x : Entry) (f : Nat) :
    (t.withEntries (spPut t.entries e x)).entry f = if f = e then x else t.entry f := by
  split
  · next h => exact h ▸ spGet_spPut_same _ _ _ _
  · next h => exact spGet_spPut_other _ _ _ _ _ h

/-- The tile of a routine that retires. -/
def Tile.entryRetires (t : Tile) (k : Ctx) (e : Option Nat) : Tile :=
  match e with
  | some e => if isRoutine k then t.withEntries (spPut t.entries e { t.entry e with st := 2 }) else t
  | none => t

theorem State.tile_entryRetires (s : State) (n : Nat) (k : Ctx) (e : Option Nat) :
    (s.entryRetires n k e).tile n = (s.tile n).entryRetires k e := by
  unfold State.entryRetires Tile.entryRetires
  split
  · split
    · exact State.tile_modTile_same _ _ _
    · rfl
  · rfl

theorem onlyTile_entryRetires (s : State) (n : Nat) (k : Ctx) (e : Option Nat) : OnlyTile s (s.entryRetires n k e) n := by
  unfold State.entryRetires
  split
  · split
    · exact onlyTile_modTile _ _ _
    · exact OnlyTile.refl _ _
  · exact OnlyTile.refl _ _

/-- The mark of the entry is all that changes. -/
theorem Tile.entryRetires_spec (t : Tile) (k : Ctx) (e : Option Nat) :
    Tile.Beside k t (t.entryRetires k e) ∧ (t.entryRetires k e).ctx k = t.ctx k ∧ (t.entryRetires k e).primary = t.primary
      ∧ ∀ f, (t.entryRetires k e).entry f = if isRoutine k = true ∧ e = some f then { t.entry f with st := 2 } else t.entry f := by
  cases e with
  | none => exact ⟨t.beside_refl k, rfl, rfl, fun f => by simp [Tile.entryRetires]⟩
  | some e =>
    by_cases hr : isRoutine k = true
    · simp only [Tile.entryRetires, if_pos hr]
      refine ⟨t.beside_withEntries k _, t.ctx_withEntries _ k, rfl, fun f => ?_⟩
      rw [Tile.entry_withEntries_spPut]
      by_cases hf : f = e
      · simp [hf, hr]
      · simp [hf, Ne.symm hf]
    · rw [show t.entryRetires k (some e) = t from if_neg hr]
      exact ⟨t.beside_refl k, rfl, rfl, fun f => by simp [hr]⟩

/-- A retiring context stops, and a routine marks its entry. -/
theorem retire_retires {s : State} (hsaved : s.hc.saved = none) :
    let n := s.hand.tile
    let k := s.hand.ctx
    ∃ t, exec .ctlRetire s = .next t ∧ t.ctx n k = s.hc.retire k ∧ (t.tile n).primary ≠ some k
      ∧ SameOtherContexts s t n k ∧ SameMemory s t ∧ SameSync s t ∧ SameEngines s t ∧ SameDevice s t
      ∧ ∀ e, (t.tile n).entry e = if isRoutine k = true ∧ s.hc.entry = some e then { (s.tile n).entry e with st := 2 }
          else (s.tile n).entry e := by
  intro n k
  refine ⟨_, exec_ctlRetire hsaved, ?_⟩
  set u := (s.tile n).modCtx k fun c => c.retire k
  set r := ((s.modCtx n k fun c => c.retire k).farRef n k).entryRetires n k s.hc.entry
  obtain ⟨hbeside, hctx, hprimary, hentry⟩ := Tile.entryRetires_spec (u.leaveSlot k) k s.hc.entry
  have htile : r.tile n = (u.leaveSlot k).entryRetires k s.hc.entry := by
    simp only [r, u, State.tile_entryRetires, State.farRef, State.modCtx, State.tile_modTile_same]
  have honly : OnlyTile s r n :=
    ((onlyTile_modTile s n _).trans (onlyTile_modTile _ n _)).trans (onlyTile_entryRetires _ n k _)
  have hall : Tile.Beside k (s.tile n) (r.tile n) :=
    htile ▸ (((s.tile n).beside_modCtx k _).trans (u.beside_leaveSlot k)).trans hbeside
  refine ⟨?_, ?_, .of_beside honly hall, .of_beside honly hall, .of_beside honly hall, .of_beside honly hall, .of_onlyTile honly,
    fun e => ?_⟩
  · rw [State.ctx, htile, hctx, Tile.ctx_leaveSlot, Tile.ctx_modCtx_same]
    rfl
  · rw [htile, hprimary]
    exact u.primary_leaveSlot_ne k
  · have hsame : (u.leaveSlot k).entry e = (s.tile n).entry e := by
      rw [Tile.entry, (u.tileRest_leaveSlot k).entries, ((s.tile n).tileRest_modCtx k _).entries, Tile.entry]
    rw [htile, hentry, hsame]

/-- Settles O18: a far reference, a hold, a trap and a return each change their context alone; a routine that retires marks its
entry too. -/
theorem contextControl : Obligations.ContextControl := by
  unfold Obligations.ContextControl
  exact fun s h => ⟨retire_retires, makes_yield h, makes_hold h (x := fun s => .token (bits s.tv 0 6)) rfl,
    makes_hold h (x := fun s => .untilCycle (s.now + 1 + bits s.tv 0 24)) rfl, exec_ctlTrap_next h, fun _ => makes_uret h⟩

end Sys2Proof.Machine
end

section
/-!
PROOFS (04 R101 to R103). Queue counters, the position and the interrupt handler, and the two updates that an addition and a new
handler fix to the next cycle.
-/

namespace Sys2Proof.Machine

/-! ## Fields of a word -/

theorem bits_eq_div {n : Nat} (x : BitVec n) (lo w : Nat) : bits x lo w = x.toNat / 2 ^ lo % 2 ^ w := by
  rw [bits, Nat.shiftRight_eq_div_pow]

theorem bits_one_eq_zero_iff {n : Nat} (x : BitVec n) (i : Nat) : bits x i 1 = 0 ↔ x.getLsbD i = false := by
  have hlt := bits_lt x i 1
  rw [← bitOf_eq_getLsbD, bitOf, beq_eq_false_iff_ne]
  omega

/-! ## The operations -/

theorem exec_ctlQadd (s : State) : exec .ctlQadd s = s.operate (s.checkEntry (bits (s.opo .ctl) 0 6)) fun s =>
    s.later s.hand.tile s.hand.ctx updQadd (w64 (bits (s.opo .ctl) 0 7 + bits s.tv 0 16 * 2 ^ 16)) := rfl

theorem exec_ctlHset (s : State) : exec .ctlHset s = s.operate (if isRoutine s.hand.ctx then none else s.ctlFault 0x8) fun s =>
    s.later s.hand.tile s.hand.ctx updEnables (w64 (bits (s.opo .ctl) 0 11 + bits s.tv 0 2 * 2 ^ 16)) := rfl

theorem checkEntry_listed {s : State} {e : Nat} (h : s.ht.listFirst ≤ e ∧ e ≤ s.ht.listLast) : s.checkEntry e = none := by
  simp [State.checkEntry, h.1, h.2]

/-- An update of the context in hand that an operation fixes to the next cycle. -/
theorem fixes_update {i : Instr} {s : State} {chk : Option Raise} {num : Nat} {v : State → W64} (h : s.discards = false)
    (hi : exec i s = s.operate chk fun s => s.later s.hand.tile s.hand.ctx num (v s)) (hchk : chk = none) :
    ∃ t, exec i s = .next t ∧ Unchanged s t
      ∧ Fixed t (s.now + 1) prioUpdate (.registerWrite { tile := s.hand.tile, ctx := s.hand.ctx, num := num } (v s)) :=
  ⟨_, hi.trans (operate_next s _ chk h hchk), schedule_unchanged _ _ _ _, mem_schedule_self _ _ _ _⟩

section Queues

variable {s : State} (h : s.discards = false)

include h

theorem qadd_fixes (he : s.ht.listFirst ≤ (s.opo .ctl).toNat % 64 ∧ (s.opo .ctl).toNat % 64 ≤ s.ht.listLast) :
    ∃ t, exec .ctlQadd s = .next t ∧ Unchanged s t
      ∧ Fixed t (s.now + 1) prioUpdate (.registerWrite { tile := s.hand.tile, ctx := s.hand.ctx, num := updQadd }
        (w64 ((s.opo .ctl).toNat % 128 + s.tv.toNat % 2 ^ 16 * 2 ^ 16))) :=
  fixes_update h (exec_ctlQadd s) (checkEntry_listed he)

theorem qread_yields (he : s.ht.listFirst ≤ s.tv.toNat % 64 ∧ s.tv.toNat % 64 ≤ s.ht.listLast) :
    Yields64 .ctlQread s .ctl 1 (w64 (if s.tv.getLsbD 6 then (s.ht.entry (s.tv.toNat % 64)).count1
      else (s.ht.entry (s.tv.toNat % 64)).count0)) := by
  rw [← bitOf_eq_getLsbD]
  exact yields64_of_operate h (chk := s.checkEntry (bits s.tv 0 6)) (eff := fun s =>
    s.result .ctl (w64 (if bitOf s.tv 6 then (s.ht.entry (bits s.tv 0 6)).count1 else (s.ht.entry (bits s.tv 0 6)).count0)))
    rfl (checkEntry_listed he) rfl

theorem where_yields : Yields64 .ctlWhere s .ctl 1 (w64 (s.hc.pc + (if isRoutine s.hand.ctx then s.hc.entry.getD 0 else 0) * 2 ^ 11
    + ctxNum s.hand.ctx * 2 ^ 17 + b2n s.hc.saved.isSome * 2 ^ 19 + (if s.hc.nest.active then s.hc.nest.dims else 0) * 2 ^ 20)) :=
  yields64_of_operate h (chk := none) (eff := fun s => s.result .ctl (w64 (s.hc.pc
    + (if isRoutine s.hand.ctx then s.hc.entry.getD 0 else 0) * 2 ^ 11 + ctxNum s.hand.ctx * 2 ^ 17 + b2n s.hc.saved.isSome * 2 ^ 19
    + (if s.hc.nest.active then s.hc.nest.dims else 0) * 2 ^ 20))) rfl rfl rfl

theorem hset_fixes (hr : isRoutine s.hand.ctx = true) :
    ∃ t, exec .ctlHset s = .next t ∧ Unchanged s t
      ∧ Fixed t (s.now + 1) prioUpdate (.registerWrite { tile := s.hand.tile, ctx := s.hand.ctx, num := updEnables }
        (w64 ((s.opo .ctl).toNat % 2 ^ 11 + s.tv.toNat % 4 * 2 ^ 16))) :=
  fixes_update h (exec_ctlHset s) (if_pos hr)

end Queues

/-! ## Queue counters -/

/-- An entry with a number added to one of its queue counters, which saturates (04 R78). -/
def Entry.plus (x : Entry) (q v : Nat) : Entry :=
  if q = 0 then { x with count0 := min 0xFFFFFF (x.count0 + v) } else { x with count1 := min 0xFFFFFF (x.count1 + v) }

theorem queueAdd_eq (t : Tile) (e q v : Nat) : t.queueAdd e q v = t.withEntries (spPut t.entries e ((t.entry e).plus q v)) := rfl

theorem entry_queueAdd (t : Tile) (e q v f : Nat) :
    (t.queueAdd e q v).entry f = if f = e then (t.entry e).plus q v else t.entry f := by
  rw [queueAdd_eq, Tile.entry_withEntries_spPut]

theorem beside_queueAdd (k : Ctx) (t : Tile) (e q v : Nat) : Tile.Beside k t (t.queueAdd e q v) := t.beside_withEntries k _

/-! ## The updates -/

/-- An update under an internal number of the tile's own. -/
theorem exec_registerWrite_internal {s t : State} {x : RegRef} {v : W64} (hn : isTile x.tile = true)
    {num : Nat} (hx : x.num = num) (hnum : num ∉ [updAccess, updHub, updPtclr, updLevels, updDuty]) (h : s.internal x v = some t) :
    exec (.registerWrite x v) s = .next t := by
  have hexec : exec (.registerWrite x v) s = execRegisterWrite x v s := rfl
  simp only [← hx, List.mem_cons, List.not_mem_nil, or_false, not_or] at hnum
  obtain ⟨h1, h2, h3, h4, h5⟩ := hnum
  simp only [hexec, execRegisterWrite, hn, h1, h2, h3, h4, h5, h, Bool.not_true, Bool.false_eq_true, if_false]

theorem internal_updQadd (s : State) (n : Nat) (k : Ctx) (v : W64) :
    s.internal { tile := n, ctx := k, num := updQadd } v
      = some (s.modTile n fun t => t.queueAdd (bits v 0 6) (bits v 6 1) (bits v 16 16)) := by
  simp [State.internal, updAdvance, updStride, updWindow, updTag, updWord0, updWord1, updGuards, updFset, updTcclr, updChkclr,
    updTokDone, updQadd]

theorem internal_updEnables (s : State) (n : Nat) (k : Ctx) (v : W64) :
    s.internal { tile := n, ctx := k, num := updEnables } v
      = some (s.modCtx n k fun c => { c with handler := bits v 0 11, ien := BitVec.ofNat 2 (bits v 16 2) }) := by
  simp [State.internal, updAdvance, updStride, updWindow, updTag, updWord0, updWord1, updGuards, updFset, updTcclr, updChkclr,
    updTokDone, updQadd, updEnables]

/-- The addition changes one counter of one entry. -/
theorem updQadd_adds (s : State) (n : Nat) (k : Ctx) (v : W64) (hn : isTile n = true) :
    let e := v.toNat % 64
    let x := (s.tile n).entry e
    let add := v.toNat / 2 ^ 16 % 2 ^ 16
    ∃ t, exec (.registerWrite { tile := n, ctx := k, num := updQadd } v) s = .next t
      ∧ (t.tile n).entry e = (if v.getLsbD 6 then { x with count1 := min (2 ^ 24 - 1) (x.count1 + add) }
        else { x with count0 := min (2 ^ 24 - 1) (x.count0 + add) })
      ∧ (∀ f, f ≠ e → (t.tile n).entry f = (s.tile n).entry f) ∧ SameContexts s t
      ∧ (∀ r, (t.tile n).rg r = (s.tile n).rg r) ∧ SameMemory s t ∧ SameSync s t ∧ SameEngines s t ∧ SameDevice s t
      ∧ SameTime s t := by
  intro e x add
  refine ⟨_, exec_registerWrite_internal (num := updQadd) hn rfl (by decide) (internal_updQadd s n k v), ?_⟩
  set t := s.modTile n fun t => t.queueAdd (bits v 0 6) (bits v 6 1) (bits v 16 16)
  have htile : t.tile n = (s.tile n).queueAdd e (bits v 6 1) add := by
    rw [State.tile_modTile_same, bits_eq_div v 16]
    rfl
  have honly : OnlyTile s t n := onlyTile_modTile s n _
  have hbeside : Tile.Beside k (s.tile n) (t.tile n) := htile ▸ beside_queueAdd k _ _ _ _
  refine ⟨?_, fun f hf => ?_, setTile_contexts s n _ fun j => Tile.ctx_withEntries _ _ j, fun r => ?_, .of_beside honly hbeside,
    .of_beside honly hbeside, .of_beside honly hbeside, .of_onlyTile honly, .of_onlyTile honly⟩
  · have hqueue := bits_one_eq_zero_iff v 6
    rw [htile, entry_queueAdd, if_pos rfl, Entry.plus]
    cases hbit : v.getLsbD 6
    · exact if_pos (hqueue.mpr hbit)
    · exact if_neg fun h => Bool.false_ne_true ((hqueue.mp h).symm.trans hbit)
  · rw [htile, entry_queueAdd, if_neg hf]
  · rw [htile]
    rfl

theorem updEnables_sets (s : State) (n : Nat) (k : Ctx) (v : W64) (hn : isTile n = true) :
    ∃ t, exec (.registerWrite { tile := n, ctx := k, num := updEnables } v) s = .next t
      ∧ t.ctx n k = { s.ctx n k with handler := v.toNat % 2 ^ 11, ien := BitVec.ofNat 2 (v.toNat / 2 ^ 16) }
      ∧ SameOtherContexts s t n k ∧ SameRest s t := by
  have honly := onlyCtx_modCtx s n k fun c => { c with handler := bits v 0 11, ien := BitVec.ofNat 2 (bits v 16 2) }
  have hien : BitVec.ofNat 2 (bits v 16 2) = BitVec.ofNat 2 (v.toNat / 2 ^ 16) :=
    BitVec.eq_of_toNat_eq (by simp only [bits_eq_div, BitVec.toNat_ofNat, Nat.mod_mod])
  exact ⟨_, exec_registerWrite_internal (num := updEnables) hn rfl (by decide) (internal_updEnables s n k v),
    by rw [State.ctx_modCtx_same, hien]; rfl, honly.others, honly.rest⟩

/-- Settles O19: an operation reads what it lands, or fixes an update to the next cycle; each update changes one entry or one
context. -/
theorem queuesAndHandlers : Obligations.QueuesAndHandlers := by
  unfold Obligations.QueuesAndHandlers
  exact ⟨fun s h => ⟨qadd_fixes h, qread_yields h, where_yields h, hset_fixes h⟩,
    fun s n k v hn => ⟨updQadd_adds s n k v hn, updEnables_sets s n k v hn⟩⟩

end Sys2Proof.Machine
end

section
/-!
PROOFS (09 R194, 04 R85). A far load: one result in flight from the staging slice, and the hold of its context.
-/

namespace Sys2Proof.Machine

theorem Tile.flights_leaveSlot (t : Tile) (k : Ctx) : (t.leaveSlot k).flights = t.flights := by
  unfold Tile.leaveSlot
  split <;> rfl

@[simp] theorem Tile.flights_modCtx (t : Tile) (k : Ctx) (f : Context → Context) : (t.modCtx k f).flights = t.flights := by
  cases k <;> rfl

theorem State.flights_hold (s : State) (n : Nat) (k : Ctx) (x : Hold) : ((s.hold n k x).tile n).flights = (s.tile n).flights := by
  rw [State.hold, State.farRef, State.tile_modTile_same, Tile.flights_leaveSlot, State.modCtx, State.tile_modTile_same,
    Tile.flights_modCtx]

theorem State.primary_hold_ne (s : State) (n : Nat) (k : Ctx) (x : Hold) : ((s.hold n k x).tile n).primary ≠ some k := by
  rw [State.hold, State.farRef, State.tile_modTile_same]
  exact Tile.primary_leaveSlot_ne _ _

/-- The result in flight of a far load of nb bytes from an offset of the slice. -/
def farFlight (id : Nat) (u : Twin) (k : Ctx) (a nb due : Nat) : Flight :=
  { id := id, so := ldSock u, po := .r, ctx := k, locked := true, due := some due, val := 0#1024, flags := 0, far := some (a, nb)
    ready := none, err := none, errAux := 0#64, errAt := none, raised := false }

/-- A tile with one more result in flight. -/
def Tile.withFlight (t : Tile) (f : Flight) : Tile := { t with flights := t.flights ++ [f], nextId := t.nextId + 1 }

@[simp] theorem Tile.ctx_withFlight (t : Tile) (f : Flight) (j : Ctx) : (t.withFlight f).ctx j = t.ctx j := by
  cases j <;> rfl

theorem onlyCtx_withFlight (s : State) (n : Nat) (k : Ctx) (f : Flight) : OnlyCtx s (s.setTile n ((s.tile n).withFlight f)) n k :=
  onlyCtx_modTile s n k (Tile.withFlight · f) (fun j _ => Tile.ctx_withFlight _ _ j)
    ⟨rfl, rfl, rfl, rfl, rfl, rfl, rfl, rfl, rfl, rfl, rfl, rfl⟩

/-- What a far load does once its cycle has been chosen: the result is in flight, its landing fixed and its context held. -/
def State.startFar (s : State) (u : Twin) (a nb due : Nat) : State :=
  let n := s.hand.tile
  let k := s.hand.ctx
  let f := farFlight (s.tile n).nextId u k a nb due
  ((s.setTile n ((s.tile n).withFlight f)).schedule due prioLand (.resultLands n (ldSock u) .r)).hold n k (.result f.id)

theorem farLoad_eq (s : State) (u : Twin) (nb : Nat) : s.farLoad u nb = s.operate (s.checkFar nb) fun s =>
    (s.draw 81).2.startFar u s.tv.toNat nb (s.now + 40 + (s.draw 81).1) := rfl

theorem checkFar_inside {s : State} {nb : Nat} (hn : s.hand.tile ≠ waymark) (ha : s.tv.toNat < 0x800000)
    (halign : s.tv.toNat % nb = 0) : s.checkFar nb = none := by
  simp [State.checkFar, hn, ha, halign]

section StartFar

variable (s : State) (u : Twin) (a nb due : Nat)

theorem startFar_onlyCtx : OnlyCtx s (s.startFar u a nb due) s.hand.tile s.hand.ctx :=
  ((onlyCtx_withFlight s _ _ _).trans ((schedule_unchanged _ _ _ _).onlyCtx _ _)).trans (onlyCtx_hold _ _ _ _)

theorem startFar_flights : ((s.startFar u a nb due).tile s.hand.tile).flights
    = (s.tile s.hand.tile).flights ++ [farFlight (s.tile s.hand.tile).nextId u s.hand.ctx a nb due] := by
  rw [State.startFar, State.flights_hold, State.tile_schedule, State.tile_setTile_same, Tile.withFlight]

theorem startFar_fixed : Fixed (s.startFar u a nb due) due prioLand (.resultLands s.hand.tile (ldSock u) .r) :=
  (onlyCtx_hold _ _ _ _).rest.time.agenda _ (mem_schedule_self _ _ _ _)

theorem startFar_ctx : (s.startFar u a nb due).ctx s.hand.tile s.hand.ctx
    = { s.hc with holds := s.hc.holds ++ [.result (s.tile s.hand.tile).nextId] } := by
  have hctx (c p : Nat) (i : Instr) (f : Flight) : ((s.setTile s.hand.tile ((s.tile s.hand.tile).withFlight f)).schedule c p i).ctx
      s.hand.tile s.hand.ctx = s.hc := by
    rw [State.ctx, State.tile_schedule, State.tile_setTile_same, Tile.ctx_withFlight]
    rfl
  rw [State.startFar, State.ctx_hold, hctx]
  rfl

end StartFar

/-- Settles O25: the cycle is 40 after the trigger and a draw below 81, and both far loads start alike. -/
theorem farLoads : Obligations.FarLoads := by
  unfold Obligations.FarLoads
  intro s u h hn ha n b p hp halign
  have hexec : exec p.1 s = s.farLoad u p.2 := by
    obtain rfl | rfl : p = (.ldFl64 u, 8) ∨ p = (.ldFl1024 u, 128) := by simpa using hp
    · rfl
    · rfl
  set d := (s.draw 81).2
  set due := s.now + 40 + (s.draw 81).1
  have hdraw : (s.draw 81).1 < 81 := draw_lt s 81 (by decide)
  have honly := ((draw_unchanged s 81).onlyCtx n s.hand.ctx).trans (startFar_onlyCtx d u s.tv.toNat p.2 due)
  exact ⟨d.startFar u s.tv.toNat p.2 due, due,
    hexec.trans ((farLoad_eq s u p.2).trans (operate_next s _ _ h (checkFar_inside hn ha halign))),
    Nat.le_add_right _ _, by omega, startFar_flights d u _ _ due, startFar_fixed d u _ _ due, startFar_ctx d u _ _ due,
    State.primary_hold_ne _ _ _ _, honly.others, honly.rest⟩

end Sys2Proof.Machine
end

section
/-!
PROOFS (04 R86). A displacement of the holder itself: the model counts the cycle for it, `SchedulerEvents` says its count is 0.
-/

namespace Sys2Proof.Machine

/-- Tile 0 after reset with K0 in the primary slot. -/
def heldByK0 : State := State.reset.setTile 0 { Tile.reset 0 with primary := some .k0 }

/-- The count of displacement of a context after a step. -/
def displacedAfter (n : Nat) (k : Ctx) (o : Out) : Option Nat :=
  match o with
  | .next t => some (spGet 0 (t.tile n).displ (ctxNum k))
  | _ => none

theorem heldByK0_counts : displacedAfter 0 .k0 (exec (.displacement 0 .k0) heldByK0) = some 1 := by decide

/-- Refutes O28: its clause on displacement says that the count of the context that takes the slot is 0, but asks nowhere that
this context is not the holder, whose count the model then sets to 1 (log entry 94). The stages of a cycle displace no holder by
itself, but the statement takes any state and step. -/
theorem not_schedulerEvents : ¬ Obligations.SchedulerEvents := by
  unfold Obligations.SchedulerEvents
  intro h
  obtain ⟨-, ⟨t, hexec, -, hzero, -⟩, -⟩ := h heldByK0 0 .k0 (by decide)
  have hcount := heldByK0_counts
  rw [hexec] at hcount
  exact absurd (hzero.symm.trans (Option.some.inj hcount)) (by decide)

end Sys2Proof.Machine
end

section
/-!
PROOFS (04 R80 to R82, R88, R91, R92). Routines fire and retire: the counts that a firing takes and those that a routine makes,
the end of the list, and the causes that the scheduler raises.
-/

namespace Sys2Proof.Machine

/-! ## The list table and what an event leaves -/

theorem Tile.listEntry_one (t : Tile) (e : Nat) : t.listEntry e 1 = t.rg (0x101 + 3 * e) := by
  rw [Tile.listEntry, show 0x100 + 3 * e + 1 = 0x101 + 3 * e by omega]

theorem Tile.budget_eq (t : Tile) (e : Nat) : t.budget e = (t.rg (0x102 + 3 * e)).toNat % 2 ^ 32 := by
  rw [Tile.budget, Tile.listEntry, show 0x100 + 3 * e + 2 = 0x102 + 3 * e by omega]
  rfl

theorem Tile.need_eq (t : Tile) (e q : Nat) : t.need e q = (t.rg (0x100 + 3 * e)).toNat / 2 ^ (32 + 16 * q) % 2 ^ 16 :=
  bits_eq_div _ _ _

/-- An event is a record of the debug module. -/
theorem Tile.event_eq (t : Tile) (code : Nat) (k : Ctx) (word data : Nat) (hint : BitVec 2) :
    ∃ events, t.event code k word data hint = { t with events := events } := by
  unfold Tile.event
  split
  · exact ⟨_, rfl⟩
  · exact ⟨t.events, rfl⟩

@[simp] theorem Tile.ctx_event (t : Tile) (code : Nat) (k : Ctx) (word data : Nat) (hint : BitVec 2) (j : Ctx) :
    (t.event code k word data hint).ctx j = t.ctx j := by
  obtain ⟨events, h⟩ := t.event_eq code k word data hint
  rw [h]
  cases j <;> rfl

/-- What an event keeps of the list of its tile. -/
theorem Tile.event_keeps (t : Tile) (code : Nat) (k : Ctx) (word data : Nat) (hint : BitVec 2) :
    let u := t.event code k word data hint
    u.entries = t.entries ∧ u.nextEntry = t.nextEntry ∧ u.running = t.running ∧ u.reg = t.reg := by
  obtain ⟨events, h⟩ := t.event_eq code k word data hint
  rw [h]
  exact ⟨rfl, rfl, rfl, rfl⟩

/-- What a change of a context keeps of the list of its tile. -/
theorem Tile.modCtx_keeps (t : Tile) (k : Ctx) (f : Context → Context) :
    let u := t.modCtx k f
    u.entries = t.entries ∧ u.nextEntry = t.nextEntry ∧ u.running = t.running ∧ u.reg = t.reg := by
  cases k <;> exact ⟨rfl, rfl, rfl, rfl⟩

/-! ## Firing (R80) -/

/-- The context that a firing takes. -/
theorem idleRoutine_eq {t : Tile} {k : Ctx} (h : k = .k0 ∧ t.k0.run = .idle ∧ t.k1.coupled = false
    ∨ k = .k1 ∧ t.k0.run ≠ .idle ∧ t.k1.run = .idle ∧ t.k0.coupled = false) : t.idleRoutine = some k := by
  obtain ⟨rfl, hidle, hpair⟩ | ⟨rfl, hbusy, hidle, hpair⟩ := h
  · simp [Tile.idleRoutine, hidle, hpair]
  · simp [Tile.idleRoutine, hbusy, hidle, hpair]

/-- An entry that context k has fired, with the counts that it needs taken from its queues. -/
def Tile.firedEntry (t : Tile) (e : Nat) (k : Ctx) : Entry :=
  { st := 1, ctx := ctxNum k, count0 := (t.entry e).count0 - t.need e 0, count1 := (t.entry e).count1 - t.need e 1 }

/-- A tile whose list goes on after entry e. -/
def Tile.listGoesOn (t : Tile) (e : Nat) (k : Ctx) : Tile :=
  { t with entries := spPut t.entries e (t.firedEntry e k), nextEntry := e + 1, stalled := 0 }

/-- A tile on which context k has fired entry e. -/
def Tile.fired (t : Tile) (now e : Nat) (k : Ctx) : Tile :=
  ((t.listGoesOn e k).modCtx k fun c => c.begin (some e) (bits (t.listEntry e 1) 0 11) (t.budget e) (now + 1)).event 0x03 k 0 e

theorem exec_entryFire {s : State} {n e : Nat} {k : Ctx} (h : (s.tile n).idleRoutine = some k) :
    exec (.entryFire n e) s = .next (s.setTile n ((s.tile n).fired s.now e k)) := by
  change execEntryFire n e s = _
  simp only [execEntryFire, h]
  rfl

@[simp] theorem Tile.ctx_listGoesOn (t : Tile) (e : Nat) (k j : Ctx) : (t.listGoesOn e k).ctx j = t.ctx j := by
  cases j <;> rfl

theorem Tile.beside_listGoesOn (t : Tile) (e : Nat) (k : Ctx) : Tile.Beside k t (t.listGoesOn e k) :=
  ⟨rfl, rfl, rfl, rfl, rfl, rfl, rfl, rfl, rfl, fun j _ => t.ctx_listGoesOn e k j⟩

theorem Tile.beside_fired (t : Tile) (now e : Nat) (k : Ctx) : Tile.Beside k t (t.fired now e k) :=
  ((t.beside_listGoesOn e k).trans (Tile.beside_modCtx _ k _)).trans (Tile.noted_event k _ _ _ _ _ _).toBeside

theorem Tile.ctx_fired (t : Tile) (now e : Nat) (k : Ctx) : (t.fired now e k).ctx k
    = (t.ctx k).begin (some e) ((t.rg (0x101 + 3 * e)).toNat % 2 ^ 11) ((t.rg (0x102 + 3 * e)).toNat % 2 ^ 32) (now + 1) := by
  rw [Tile.fired, Tile.ctx_event, Tile.ctx_modCtx_same, Tile.ctx_listGoesOn, Tile.listEntry_one, Tile.budget_eq]
  rfl

theorem Tile.list_fired (t : Tile) (now e : Nat) (k : Ctx) :
    (t.fired now e k).entries = spPut t.entries e (t.firedEntry e k) ∧ (t.fired now e k).nextEntry = e + 1 := by
  obtain ⟨hentries, hnext, -⟩ := Tile.event_keeps ((t.listGoesOn e k).modCtx k fun c =>
    c.begin (some e) (bits (t.listEntry e 1) 0 11) (t.budget e) (now + 1)) 0x03 k 0 e 0#2
  obtain ⟨hentries', hnext', -⟩ := (t.listGoesOn e k).modCtx_keeps k fun c =>
    c.begin (some e) (bits (t.listEntry e 1) 0 11) (t.budget e) (now + 1)
  exact ⟨hentries.trans hentries', hnext.trans hnext'⟩

theorem Tile.entry_fired (t : Tile) (now e : Nat) (k : Ctx) (f : Nat) :
    (t.fired now e k).entry f = if f = e then t.firedEntry e k else t.entry f := by
  rw [Tile.entry, (t.list_fired now e k).1]
  exact t.entry_withEntries_spPut e _ f

theorem Tile.firedEntry_eq (t : Tile) (e : Nat) (k : Ctx) : t.firedEntry e k =
    { st := 1, ctx := ctxNum k, count0 := (t.entry e).count0 - (t.rg (0x100 + 3 * e)).toNat / 2 ^ 32 % 2 ^ 16,
      count1 := (t.entry e).count1 - (t.rg (0x100 + 3 * e)).toNat / 2 ^ 48 % 2 ^ 16 } := by
  rw [Tile.firedEntry, Tile.need_eq, Tile.need_eq]

/-! ## What a retired routine makes (R78, R81) -/

theorem Entry.st_plus (x : Entry) (q v : Nat) : (x.plus q v).st = x.st := by
  unfold Entry.plus
  split <;> rfl

/-- Of the two counters of an entry the one named takes the number, and saturates. -/
theorem Entry.count_plus (x : Entry) {i q : Nat} (v : Nat) (hi : i < 2) (hq : q < 2) :
    (x.plus i v).count q = if i = q then min 0xFFFFFF (x.count q + v) else x.count q := by
  obtain rfl | rfl : i = 0 ∨ i = 1 := by omega
  · obtain rfl | rfl : q = 0 ∨ q = 1 := by omega
    · rfl
    · rfl
  · obtain rfl | rfl : q = 0 ∨ q = 1 := by omega
    · rfl
    · rfl

/-- A tile after entry e has made what it makes in its i-th place. -/
def Tile.made (t : Tile) (e i : Nat) : Tile :=
  if t.makes e i = 0 then t else t.queueAdd (t.makeDest e i) (t.makeQueue e i) (t.makes e i)

theorem Tile.made_eq_withEntries (t : Tile) (e i : Nat) : ∃ entries, t.made e i = t.withEntries entries := by
  unfold Tile.made
  split
  · exact ⟨t.entries, rfl⟩
  · exact ⟨_, queueAdd_eq _ _ _ _⟩

theorem Tile.st_made (t : Tile) (e i f : Nat) : ((t.made e i).entry f).st = (t.entry f).st := by
  unfold Tile.made
  split
  · rfl
  · rw [entry_queueAdd]
    split
    · next h => rw [Entry.st_plus, h]
    · rfl

/-- What entry e makes in its i-th place for queue q of entry f. -/
def Tile.makesFor (t : Tile) (e i f q : Nat) : Nat := if t.makeDest e i = f ∧ t.makeQueue e i = q then t.makes e i else 0

theorem Tile.count_made (t : Tile) (e i f : Nat) {q : Nat} (hq : q < 2) (hle : (t.entry f).count q ≤ 0xFFFFFF) :
    ((t.made e i).entry f).count q = min 0xFFFFFF ((t.entry f).count q + t.makesFor e i f q) := by
  have hqueue : t.makeQueue e i < 2 := bits_lt _ _ _
  unfold Tile.made Tile.makesFor
  by_cases hzero : t.makes e i = 0
  · simp [hzero, hle]
  · rw [if_neg hzero, entry_queueAdd]
    by_cases hdest : f = t.makeDest e i
    · rw [if_pos hdest, Entry.count_plus _ _ hqueue hq, ← hdest]
      by_cases hsame : t.makeQueue e i = q
      · simp [hsame]
      · simp [hsame, hle]
    · simp [hdest, Ne.symm hdest, hle]

/-- A tile after entry e has made all it makes. -/
def Tile.madeBoth (t : Tile) (e : Nat) : Tile := (t.made e 0).made e 1

theorem Tile.madeBoth_eq_withEntries (t : Tile) (e : Nat) : ∃ entries, t.madeBoth e = t.withEntries entries := by
  obtain ⟨entries, h⟩ := t.made_eq_withEntries e 0
  obtain ⟨entries', h'⟩ := (t.made e 0).made_eq_withEntries e 1
  exact ⟨entries', by rw [Tile.madeBoth, h', h]; rfl⟩

theorem Tile.st_madeBoth (t : Tile) (e f : Nat) : ((t.madeBoth e).entry f).st = (t.entry f).st :=
  ((t.made e 0).st_made e 1 f).trans (t.st_made e 0 f)

theorem Tile.count_madeBoth (t : Tile) (e f : Nat) {q : Nat} (hq : q < 2) (hle : (t.entry f).count q ≤ 0xFFFFFF) :
    ((t.madeBoth e).entry f).count q = min 0xFFFFFF ((t.entry f).count q + t.makesFor e 0 f q + t.makesFor e 1 f q) := by
  have hfirst := t.count_made e 0 f hq hle
  have hfor : (t.made e 0).makesFor e 1 f q = t.makesFor e 1 f q := by
    obtain ⟨entries, h⟩ := t.made_eq_withEntries e 0
    rw [h]
    rfl
  rw [Tile.madeBoth, Tile.count_made _ _ _ _ hq (by omega), hfirst, hfor]
  omega

/-! ## A routine is retired (R81) -/

/-- A retired context, as it stands idle. -/
def Context.idled (c : Context) : Context := { c with run := .idle, ending := false, wdog := none, entry := none, exch := false }

/-- A tile on which the routine of context k is retired, its list entry e with it. -/
def Tile.retired (t : Tile) (k : Ctx) (e : Nat) : Tile :=
  let u := t.madeBoth e
  ((u.withEntries (spPut u.entries e { u.entry e with st := 3 })).modCtx k Context.idled).event 0x04 k 0 e

/-- What else the end of a list changes. -/
def Tile.listEnds (t : Tile) (now : Nat) : Tile :=
  if t.running && t.listDone then { (t.phaseEnds now) with running := false } else t

theorem exec_routineRetired {s : State} {n e : Nat} {k : Ctx} (hrun : (s.ctx n k).run = .retiring)
    (hentry : (s.ctx n k).entry = some e) :
    exec (.routineRetired n k) s = .next (s.setTile n (((s.tile n).retired k e).listEnds s.now)) := by
  change execRoutineRetired n k s = _
  simp only [State.ctx] at hrun hentry
  simp only [execRoutineRetired, hrun, hentry, ne_eq, not_true_eq_false, if_false]
  rfl

section Retired

variable (t : Tile) (k : Ctx) (e : Nat)

theorem Tile.ctx_retired : (t.retired k e).ctx k = (t.ctx k).idled := by
  obtain ⟨entries, h⟩ := t.madeBoth_eq_withEntries e
  rw [Tile.retired, Tile.ctx_event, Tile.ctx_modCtx_same, Tile.ctx_withEntries, h, Tile.ctx_withEntries]

theorem Tile.beside_retired : Tile.Beside k t (t.retired k e) := by
  obtain ⟨entries, h⟩ := t.madeBoth_eq_withEntries e
  have hmade : Tile.Beside k t (t.madeBoth e) := h ▸ t.beside_withEntries k entries
  exact ((hmade.trans (Tile.beside_withEntries k _ _)).trans (Tile.beside_modCtx _ k _)).trans
    (Tile.noted_event k _ _ _ _ _ _).toBeside

theorem Tile.list_retired : (t.retired k e).entries = spPut (t.madeBoth e).entries e { (t.madeBoth e).entry e with st := 3 }
    ∧ (t.retired k e).running = t.running ∧ (t.retired k e).reg = t.reg := by
  let u := (t.madeBoth e).withEntries (spPut (t.madeBoth e).entries e { (t.madeBoth e).entry e with st := 3 })
  obtain ⟨hentries, -, hrunning, hreg⟩ := Tile.event_keeps (u.modCtx k Context.idled) 0x04 k 0 e 0#2
  obtain ⟨hentries', -, hrunning', hreg'⟩ := u.modCtx_keeps k Context.idled
  obtain ⟨entries, h⟩ := t.madeBoth_eq_withEntries e
  refine ⟨hentries.trans hentries', hrunning.trans (hrunning'.trans ?_), hreg.trans (hreg'.trans ?_)⟩
  · simp only [u, h]
    rfl
  · simp only [u, h]
    rfl

theorem Tile.entry_retired (f : Nat) :
    (t.retired k e).entry f = if f = e then { (t.madeBoth e).entry e with st := 3 } else (t.madeBoth e).entry f := by
  rw [Tile.entry, (t.list_retired k e).1]
  exact (t.madeBoth e).entry_withEntries_spPut e _ f

theorem Tile.count_retired (f q : Nat) : ((t.retired k e).entry f).count q = ((t.madeBoth e).entry f).count q := by
  rw [Tile.entry_retired]
  split
  · next h => rw [h]; rfl
  · rfl

end Retired

/-! ## The end of the list (R82) -/

/-- Every entry of the selected list is retired. -/
def Tile.AllRetired (t : Tile) : Prop := ∀ f, t.listFirst ≤ f → f ≤ t.listLast → (t.entry f).st = 3

theorem Tile.listDone_iff (t : Tile) : t.listDone = true ↔ t.AllRetired := by
  have hlast : t.listLast < 64 := bits_lt _ _ _
  simp only [Tile.listDone, List.all_eq_true, List.mem_range, Bool.or_eq_true, Bool.not_eq_true', decide_eq_false_iff_not,
    decide_eq_true_eq, Tile.AllRetired]
  constructor
  · exact fun h f hlo hhi => (h f (by omega)).resolve_left fun hout => hout ⟨hlo, hhi⟩
  · intro h f _
    by_cases hin : t.listFirst ≤ f ∧ f ≤ t.listLast
    · exact .inr (h f hin.1 hin.2)
    · exact .inl hin

/-- The field that has been written. -/
theorem bits_putBits (x : W64) {lo w : Nat} (v : Nat) (h : lo + w ≤ 64) : bits (putBits x lo w v) lo w = v % 2 ^ w := by
  have hpow : 2 ^ 64 = 2 ^ lo * 2 ^ (64 - lo) := by rw [← pow_add, Nat.add_sub_cancel' (by omega)]
  have hparts : x.toNat % 2 ^ lo + v % 2 ^ w * 2 ^ lo + (x.toNat >>> (lo + w)) * 2 ^ (lo + w)
      = 2 ^ lo * (v % 2 ^ w + (x.toNat >>> (lo + w)) * 2 ^ w) + x.toNat % 2 ^ lo := by
    rw [pow_add]
    ring
  rw [bits_eq_div, putBits, BitVec.toNat_ofNat, hpow, Nat.mod_mul_right_div_self, Nat.mod_mod_of_dvd _ (pow_dvd_pow 2 (by omega)),
    hparts, Nat.mul_add_div (Nat.two_pow_pos lo), Nat.div_eq_of_lt (Nat.mod_lt _ (Nat.two_pow_pos lo)), Nat.add_zero,
    Nat.add_mul_mod_self_right, Nat.mod_mod]

/-- A tile whose phase, of computing or of exchange, goes on to its milestone. -/
def Tile.phaseAhead (t : Tile) : Tile :=
  let p := bits (t.rg 0x051) 40 3
  if p = 2 || p = 4 then t.setRg 0x051 (putBits (t.rg 0x051) 40 3 (p + 1)) else t

theorem Tile.phaseEnds_eq (t : Tile) (now : Nat) :
    t.phaseEnds now = { t.phaseAhead with seqr := { t.phaseAhead.seqr with ended := some now } } := rfl

theorem Tile.phaseAhead_eq (t : Tile) : ∃ reg, t.phaseAhead = { t with reg := reg } := by
  unfold Tile.phaseAhead
  extract_lets p
  split
  · exact ⟨_, rfl⟩
  · exact ⟨t.reg, rfl⟩

/-- A compute phase that ends goes on to its milestone. -/
theorem Tile.phase_phaseAhead (t : Tile) (h : bits (t.rg 0x051) 40 3 = 2) : bits (t.phaseAhead.rg 0x051) 40 3 = 3 := by
  have hset : t.phaseAhead = t.setRg 0x051 (putBits (t.rg 0x051) 40 3 (bits (t.rg 0x051) 40 3 + 1)) := if_pos (by simp [h])
  rw [hset, Tile.rg_setRg_same, bits_putBits _ _ (by decide), h]
  decide

/-- What the end of the list does, and that a list that has not ended goes on as it was. -/
theorem Tile.listEnds_spec (t : Tile) (now : Nat) (k : Ctx) :
    let u := t.listEnds now
    let ended := t.running = true ∧ t.AllRetired
    u.ctx k = t.ctx k ∧ u.entries = t.entries ∧ Tile.Beside k t u
      ∧ (ended → u.running = false ∧ (bits (t.rg 0x051) 40 3 = 2 → bits (u.rg 0x051) 40 3 = 3)) ∧ (¬ended → u = t) := by
  intro u ended
  have hiff : (t.running && t.listDone) = true ↔ ended := by rw [Bool.and_eq_true, Tile.listDone_iff]
  by_cases h : ended
  · have hu : u = { (t.phaseEnds now) with running := false } := if_pos (hiff.mpr h)
    have hrg : u.rg 0x051 = t.phaseAhead.rg 0x051 := by rw [hu, Tile.phaseEnds_eq, Tile.rg, Tile.rg]
    obtain ⟨reg, hahead⟩ := t.phaseAhead_eq
    have hctx (j : Ctx) : u.ctx j = t.ctx j := by
      rw [hu, Tile.phaseEnds_eq, hahead]
      cases j <;> rfl
    refine ⟨hctx k, ?_, ?_, fun _ => ⟨by rw [hu], fun hphase => hrg ▸ t.phase_phaseAhead hphase⟩, fun hn => absurd h hn⟩
    · rw [hu, Tile.phaseEnds_eq, hahead]
    · rw [hu, Tile.phaseEnds_eq, hahead] at hctx ⊢
      exact ⟨rfl, rfl, rfl, rfl, rfl, rfl, rfl, rfl, rfl, fun j _ => hctx j⟩
  · have hu : u = t := if_neg (hiff.not.mpr h)
    rw [hu]
    exact ⟨rfl, rfl, t.beside_refl k, fun hn => absurd hn h, fun _ => rfl⟩

/-! ## The events of the scheduler -/

section Events

variable (s : State) (n : Nat)

theorem entryFire_fires {e : Nat} {k : Ctx} (hk : k = .k0 ∧ (s.tile n).k0.run = .idle ∧ (s.tile n).k1.coupled = false
      ∨ k = .k1 ∧ (s.tile n).k0.run ≠ .idle ∧ (s.tile n).k1.run = .idle ∧ (s.tile n).k0.coupled = false) :
    let u := s.tile n
    let c := s.ctx n k
    ∃ t, exec (.entryFire n e) s = .next t
      ∧ t.ctx n k = c.begin (some e) ((u.rg (0x101 + 3 * e)).toNat % 2 ^ 11) ((u.rg (0x102 + 3 * e)).toNat % 2 ^ 32) (s.now + 1)
      ∧ (t.tile n).entry e = u.firedEntry e k ∧ (∀ f, f ≠ e → (t.tile n).entry f = u.entry f) ∧ (t.tile n).nextEntry = e + 1
      ∧ SameOtherContexts s t n k ∧ SameMemory s t ∧ SameSync s t ∧ SameEngines s t ∧ SameDevice s t := by
  intro u c
  refine ⟨_, exec_entryFire (idleRoutine_eq hk), ?_⟩
  set t := s.setTile n (u.fired s.now e k)
  have htile : t.tile n = u.fired s.now e k := State.tile_setTile_same _ _ _
  have honly : OnlyTile s t n := onlyTile_setTile _ _ _
  have hbeside : Tile.Beside k (s.tile n) (t.tile n) := htile ▸ u.beside_fired s.now e k
  refine ⟨?_, ?_, fun f hf => ?_, ?_, .of_beside honly hbeside, .of_beside honly hbeside, .of_beside honly hbeside,
    .of_beside honly hbeside, .of_onlyTile honly⟩
  · rw [State.ctx, htile, Tile.ctx_fired]
    rfl
  · rw [htile, Tile.entry_fired, if_pos rfl]
  · rw [htile, Tile.entry_fired, if_neg hf]
  · rw [htile, (u.list_fired s.now e k).2]

theorem routineRetired_retires {k : Ctx} {e : Nat} (hrun : (s.ctx n k).run = .retiring) (hentry : (s.ctx n k).entry = some e)
    (hle : ∀ f q, ((s.tile n).entry f).count q ≤ 0xFFFFFF) :
    let u := s.tile n
    ∃ t, exec (.routineRetired n k) s = .next t ∧ t.ctx n k = (s.ctx n k).idled
      ∧ ((t.tile n).entry e).st = 3 ∧ (∀ f, f ≠ e → ((t.tile n).entry f).st = (u.entry f).st)
      ∧ (∀ f q, q < 2 → ((t.tile n).entry f).count q = min 0xFFFFFF ((u.entry f).count q + u.makesFor e 0 f q + u.makesFor e 1 f q))
      ∧ (let ended := u.running = true ∧ ∀ f, u.listFirst ≤ f → f ≤ u.listLast → ((t.tile n).entry f).st = 3
        (ended → (t.tile n).running = false ∧ (bits (u.rg 0x051) 40 3 = 2 → bits ((t.tile n).rg 0x051) 40 3 = 3))
          ∧ (¬ended → (t.tile n).running = u.running ∧ ∀ r, (t.tile n).rg r = u.rg r))
      ∧ SameOtherContexts s t n k ∧ SameMemory s t ∧ SameSync s t ∧ SameEngines s t ∧ SameDevice s t := by
  intro u
  refine ⟨_, exec_routineRetired hrun hentry, ?_⟩
  set t := s.setTile n ((u.retired k e).listEnds s.now)
  obtain ⟨hctx, hentries, hends, hended, hgoes⟩ := (u.retired k e).listEnds_spec s.now k
  obtain ⟨-, hrunning, hreg⟩ := u.list_retired k e
  have htile : t.tile n = (u.retired k e).listEnds s.now := State.tile_setTile_same _ _ _
  have hlist (f : Nat) : (t.tile n).entry f = (u.retired k e).entry f := by rw [htile, Tile.entry, hentries, Tile.entry]
  have hrg (r : Nat) : (u.retired k e).rg r = u.rg r := by rw [Tile.rg, hreg, Tile.rg]
  have honly : OnlyTile s t n := onlyTile_setTile _ _ _
  have hbeside : Tile.Beside k (s.tile n) (t.tile n) := htile ▸ (u.beside_retired k e).trans hends
  refine ⟨?_, ?_, fun f hf => ?_, fun f q hq => ?_, ?_, .of_beside honly hbeside, .of_beside honly hbeside, .of_beside honly hbeside,
    .of_beside honly hbeside, .of_onlyTile honly⟩
  · rw [State.ctx, htile, hctx, Tile.ctx_retired]
    rfl
  · rw [hlist, Tile.entry_retired, if_pos rfl]
  · rw [hlist, Tile.entry_retired, if_neg hf, Tile.st_madeBoth]
  · rw [hlist, Tile.count_retired, Tile.count_madeBoth _ _ _ hq (hle f q)]
  · simp only [hlist]
    simp only [hrunning, Tile.AllRetired, Tile.listFirst, Tile.listLast, hrg, ← htile] at hended hgoes
    exact ⟨hended, fun hn => by rw [hgoes hn]; exact ⟨hrunning, hrg⟩⟩

theorem watchdog_raises {k : Ctx} (hrun : (s.ctx n k).run = .ready) :
    let cause := if (s.tile n).waiting s.now k then Cause.waitunsat else .watchdog
    exec (.watchdog n k) s = .next (s.raiseDue n k (raiseAt cause 15 0) true) := by
  change execWatchdog n k s = _
  simp [execWatchdog, hrun]

theorem exec_waitunsatList (hn : isTile n = true) : exec (.waitunsatList n) s = .next (s.trapK0 n .waitunsat 0x01) := by
  change execWaitunsatList n s = _
  rw [execWaitunsatList, if_pos hn]

theorem onlyCtx_raiseDue (k : Ctx) (r : Raise) (urgent : Bool) : OnlyCtx s (s.raiseDue n k r urgent) n k := onlyCtx_modCtx s n k _

theorem State.ctx_raiseDue (k : Ctx) (r : Raise) (urgent : Bool) : (s.raiseDue n k r urgent).ctx n k
    = { s.ctx n k with dues := (s.ctx n k).dues ++ [{ at' := s.now, urgent := urgent, what := r }] } := State.ctx_modCtx_same _ _ _ _

/-- A tile on which K3 has started its service program. -/
def Tile.ballastStarted (t : Tile) : Tile :=
  { t.modCtx .k3 fun c =>
      { c with
        run := .ready, pc := bits (t.rg 0x023) 16 11, next := none, rstack := [], nest := Nest.reset, holds := [] } with
    privO := [], privP := [] }

theorem exec_ballastStart : exec (.ballastStart n) s = .next (s.modTile n Tile.ballastStarted) := rfl

theorem onlyCtx_ballastStarted : OnlyCtx s (s.modTile n Tile.ballastStarted) n .k3 := by
  refine onlyCtx_modTile s n .k3 _ (fun j hj => ?_) ⟨rfl, rfl, rfl, rfl, rfl, rfl, rfl, rfl, rfl, rfl, rfl, rfl⟩
  cases j with
  | k0 => rfl
  | k1 => rfl
  | k2 => rfl
  | k3 => exact absurd rfl hj

theorem ballastStart_starts :
    ∃ t, exec (.ballastStart n) s = .next t
      ∧ t.ctx n .k3 = { s.ctx n .k3 with
          run := .ready, pc := ((s.tile n).rg 0x023).toNat / 2 ^ 16 % 2 ^ 11, next := none, rstack := [], nest := Nest.reset
          holds := [] }
      ∧ (t.tile n).privO = [] ∧ (t.tile n).privP = [] ∧ SameOtherContexts s t n .k3 ∧ SameRest s t := by
  have honly := onlyCtx_ballastStarted s n
  refine ⟨_, exec_ballastStart s n, ?_, ?_, ?_, honly.others, honly.rest⟩
  · rw [State.ctx, State.tile_modTile_same, ← bits_eq_div]
    rfl
  · rw [State.tile_modTile_same]
    rfl
  · rw [State.tile_modTile_same]
    rfl

end Events

/-- Settles O29: each event is one change of its tile; what a routine makes is added place by place, and the list has ended
when the range that `rlsel` names is retired. -/
theorem routinesFireAndRetire : Obligations.RoutinesFireAndRetire := by
  unfold Obligations.RoutinesFireAndRetire
  intro s n hn u
  refine ⟨fun e k _ hk => ?_, fun k e hrun hentry hle => ?_, fun k hrun => ?_, fun hfrozen => ?_, fun hfrozen => ?_,
    ballastStart_starts s n⟩
  · obtain ⟨t, hexec, hctx, hentry, hrest⟩ := entryFire_fires s n hk
    refine ⟨t, hexec, ?_, hentry.trans (u.firedEntry_eq e k), hrest⟩
    rw [hctx]
    exact ⟨rfl, rfl, rfl, rfl, rfl, rfl, rfl, fun _ => rfl, rfl, rfl, rfl, rfl, rfl⟩
  · obtain ⟨t, hexec, hctx, hrest⟩ := routineRetired_retires s n hrun hentry hle
    refine ⟨t, hexec, ?_, ?_, ?_, hrest⟩ <;> rw [hctx] <;> rfl
  · exact ⟨_, watchdog_raises s n hrun, State.ctx_raiseDue s n k _ true, (onlyCtx_raiseDue s n k _ true).others,
      (onlyCtx_raiseDue s n k _ true).rest⟩
  · rw [exec_waitunsatList s n hn, State.trapK0, if_neg (by simp [hfrozen, u])]
  · refine ⟨s.raiseDue n .k0 (raiseAt .waitunsat 15 0x01), ?_, State.ctx_raiseDue s n .k0 _ false,
      (onlyCtx_raiseDue s n .k0 _ false).others, (onlyCtx_raiseDue s n .k0 _ false).rest⟩
    rw [exec_waitunsatList s n hn, State.trapK0, if_pos hfrozen]

end Sys2Proof.Machine
end

section
/-!
PROOFS (05 R105, R106). Patterns of exact integers: their signed and unsigned readings, and the flag word.
-/

namespace Sys2Proof.Machine

/-! ## Patterns of integers -/

theorem ofInt_eq (w : Nat) (x : Int) : Sys2Proof.ofInt w x = BitVec.ofInt w x := by
  refine BitVec.eq_of_toNat_eq ?_
  have hpos : (0 : Int) < 2 ^ w := by positivity
  have hlt : (x % 2 ^ w).toNat < 2 ^ w :=
    (Int.toNat_lt (Int.emod_nonneg x hpos.ne')).mpr (by exact_mod_cast Int.emod_lt_of_pos x hpos)
  rw [Sys2Proof.ofInt, BitVec.toNat_ofNat, Nat.mod_eq_of_lt hlt, BitVec.toNat_ofInt]
  norm_cast

/-- The signed reading of the pattern of an integer of the signed range. -/
theorem toInt_ofInt_of_range {x : Int} (hlo : lo64 ≤ x) (hhi : x ≤ hi64) : (Sys2Proof.ofInt 64 x).toInt = x := by
  simp only [lo64, hi64] at hlo hhi
  rw [ofInt_eq]
  exact BitVec.toInt_ofInt_eq_self (by decide) (by omega) (by omega)

/-- The unsigned reading of the pattern of an integer of the unsigned range. -/
theorem toNat_ofInt_of_range {x : Int} (hlo : 0 ≤ x) (hhi : x < 2 ^ 64) : ((Sys2Proof.ofInt 64 x).toNat : Int) = x := by
  rw [ofInt_eq, BitVec.toNat_ofInt]
  omega

theorem toInt_range (a : W64) : lo64 ≤ a.toInt ∧ a.toInt ≤ hi64 := by
  have hlo := a.le_toInt
  have hhi := a.toInt_lt
  simp only [lo64, hi64]
  omega

/-- An exact result leaves the signed range where the signed reading of its pattern is another number. -/
theorem ovf64_eq (x : Int) : ovf64 x = decide ((Sys2Proof.ofInt 64 x).toInt ≠ x) := by
  rw [ovf64, ← Bool.decide_or, decide_eq_decide]
  constructor
  · intro hout heq
    obtain ⟨hlo, hhi⟩ := toInt_range (Sys2Proof.ofInt 64 x)
    simp only [lo64, hi64] at hlo hhi
    omega
  · intro hne
    by_contra hin
    exact hne (toInt_ofInt_of_range (by simp only [lo64]; omega) (by simp only [hi64]; omega))

/-! ## The flag word -/

theorem bits_flagWord_carry (satd neg zero ovf carry : Bool) : bits (flagWord satd neg zero ovf carry) 0 1 = b2n carry := by
  revert satd neg zero ovf carry
  decide

theorem b2n_decide (c : Prop) [Decidable c] : b2n (decide c) = if c then 1 else 0 := by
  simp only [b2n, decide_eq_true_eq]

/-- What a result with its flag word does. -/
theorem aluF_yields {i : Instr} {s : State} {u : Twin} {v : W64 × W64} {r f : W64} (h : s.discards = false)
    (hi : exec i s = s.aluF u v) (hv : v = (r, f)) : Yields i s (aluSock u) 1 [(.r, wide r), (.f, wide f)] 0 := by
  subst hv
  exact ⟨_, hi.trans (operate_next _ _ _ h rfl), land_lands s (aluSock u) 1 _ 0 Nat.one_pos⟩

end Sys2Proof.Machine
end

section
/-!
PROOFS (05 R107). Sums and differences modulo 2^64 with their flag words, and how carries and borrows chain.
-/

namespace Sys2Proof.Machine

theorem addFlags_eq (y z : W64) (i : Nat) :
    let r := y + z + BitVec.ofNat 64 i
    addFlags y z i = (r, flagWord false r.msb (decide (r = 0#64)) (decide (r.toInt ≠ y.toInt + z.toInt + i))
      (decide (2 ^ 64 ≤ y.toNat + z.toNat + i))) := by
  intro r
  have hunsigned : w64 (uv y + uv z + i) = r := by
    simp only [r, w64, uv, BitVec.ofNat_add, BitVec.ofNat_toNat, BitVec.setWidth_eq]
  have hsigned : Sys2Proof.ofInt 64 (sv y + sv z + i) = r := by
    simp only [r, ofInt_eq, sv, BitVec.ofInt_add, BitVec.ofInt_toInt, BitVec.ofInt_natCast]
  rw [addFlags, hunsigned, ovf64_eq, hsigned]
  rfl

theorem bitVec_ofInt_sub {w : Nat} (x y : Int) : BitVec.ofInt w (x - y) = BitVec.ofInt w x - BitVec.ofInt w y := by
  rw [sub_eq_add_neg, BitVec.ofInt_add, BitVec.ofInt_neg, BitVec.sub_eq_add_neg]

theorem subFlags_eq (y z : W64) (i : Nat) :
    let r := y - z - BitVec.ofNat 64 i
    subFlags y z i = (r, flagWord false r.msb (decide (r = 0#64)) (decide (r.toInt ≠ y.toInt - z.toInt - i))
      (decide (y.toNat < z.toNat + i))) := by
  intro r
  have hunsigned : Sys2Proof.ofInt 64 ((uv y : Int) - uv z - i) = r := by
    simp only [r, ofInt_eq, uv, bitVec_ofInt_sub, BitVec.ofInt_natCast, BitVec.ofNat_toNat, BitVec.setWidth_eq]
  have hsigned : Sys2Proof.ofInt 64 (sv y - sv z - i) = r := by
    simp only [r, ofInt_eq, sv, bitVec_ofInt_sub, BitVec.ofInt_toInt, BitVec.ofInt_natCast]
  have hborrow : decide ((uv y : Int) - uv z - i < 0) = decide (y.toNat < z.toNat + i) :=
    decide_eq_decide.mpr (by simp only [uv]; omega)
  rw [subFlags, hunsigned, ovf64_eq, hsigned, hborrow]
  rfl

/-! ## Chains -/

/-- A sum and its carry are the exact sum. -/
theorem addFlags_exact (a b : W64) {i : Nat} (hi : i ≤ 1) :
    (addFlags a b i).1.toNat + 2 ^ 64 * bits (addFlags a b i).2 0 1 = a.toNat + b.toNat + i := by
  have ha := a.isLt
  have hb := b.isLt
  rw [addFlags_eq]
  simp only [bits_flagWord_carry, b2n_decide, BitVec.toNat_add, BitVec.toNat_ofNat]
  split <;> omega

/-- A difference less its borrow is the exact difference. -/
theorem subFlags_exact (a b : W64) {i : Nat} (hi : i ≤ 1) :
    ((subFlags a b i).1.toNat : Int) - 2 ^ 64 * bits (subFlags a b i).2 0 1 = a.toNat - b.toNat - i := by
  have ha := a.isLt
  have hb := b.isLt
  rw [subFlags_eq]
  simp only [bits_flagWord_carry, b2n_decide, BitVec.toNat_sub, BitVec.toNat_ofNat]
  split <;> omega

theorem add_chains (a0 a1 b0 b1 : W64) :
    let lo := addFlags a0 b0 0
    let hi := addFlags a1 b1 (bits lo.2 0 1)
    lo.1.toNat + 2 ^ 64 * hi.1.toNat + 2 ^ 128 * bits hi.2 0 1
      = (a0.toNat + 2 ^ 64 * a1.toNat) + (b0.toNat + 2 ^ 64 * b1.toNat) := by
  intro lo hi
  have hlo : lo.1.toNat + 2 ^ 64 * bits lo.2 0 1 = _ := addFlags_exact a0 b0 (Nat.zero_le 1)
  have hhi : hi.1.toNat + 2 ^ 64 * bits hi.2 0 1 = _ := addFlags_exact a1 b1 (Nat.le_of_lt_succ (bits_lt lo.2 0 1))
  omega

theorem sub_chains (a0 a1 b0 b1 : W64) :
    let lo := subFlags a0 b0 0
    let hi := subFlags a1 b1 (bits lo.2 0 1)
    (lo.1.toNat : Int) + 2 ^ 64 * hi.1.toNat - 2 ^ 128 * bits hi.2 0 1
      = ((a0.toNat : Int) + 2 ^ 64 * a1.toNat) - (b0.toNat + 2 ^ 64 * b1.toNat) := by
  intro lo hi
  have hlo : (lo.1.toNat : Int) - 2 ^ 64 * bits lo.2 0 1 = _ := subFlags_exact a0 b0 (Nat.zero_le 1)
  have hhi : (hi.1.toNat : Int) - 2 ^ 64 * bits hi.2 0 1 = _ := subFlags_exact a1 b1 (Nat.le_of_lt_succ (bits_lt lo.2 0 1))
  omega

/-! ## The operations -/

/-- Settles O1: each result and its flag word read as one exact sum or difference, which chain. -/
theorem aluSumsAndDifferences : Obligations.AluSumsAndDifferences := by
  unfold Obligations.AluSumsAndDifferences
  refine ⟨fun s u x h => ?_, fun a0 a1 b0 b1 => ⟨add_chains a0 a1 b0 b1, sub_chains a0 a1 b0 b1⟩⟩
  intro so p v a b c sum difference
  exact ⟨aluF_yields h rfl (addFlags_eq p v 0), aluF_yields h rfl (addFlags_eq p v c),
    aluF_yields h (by cases x <;> rfl) (subFlags_eq a b 0), aluF_yields h (by cases x <;> rfl) (subFlags_eq a b c)⟩

end Sys2Proof.Machine
end

section
/-!
PROOFS (05 R108). Exact results clamped to the range of their type.
-/

namespace Sys2Proof.Machine

/-- The flag word of a clamped result. -/
def clampFlags (r : W64) (clamped : Bool) : W64 := flagWord clamped r.msb (decide (r = 0#64)) false false

theorem satFlags_signed (x : Int) :
    ∃ r : W64, r.toInt = max (-2 ^ 63) (min (2 ^ 63 - 1) x)
      ∧ satFlags lo64 hi64 x = (r, clampFlags r (decide (r.toInt ≠ x))) := by
  have hr : (Sys2Proof.ofInt 64 (min (max x lo64) hi64)).toInt = min (max x lo64) hi64 :=
    toInt_ofInt_of_range (by simp only [lo64, hi64]; omega) (min_le_right _ _)
  refine ⟨Sys2Proof.ofInt 64 (min (max x lo64) hi64), ?_, ?_⟩
  · rw [hr]
    simp only [lo64, hi64]
    omega
  · rw [hr]
    rfl

theorem satFlags_unsigned (x : Int) :
    ∃ r : W64, (r.toNat : Int) = max 0 (min (2 ^ 64 - 1) x)
      ∧ satFlags 0 (2 ^ 64 - 1) x = (r, clampFlags r (decide ((r.toNat : Int) ≠ x))) := by
  have hr : ((Sys2Proof.ofInt 64 (min (max x 0) (2 ^ 64 - 1))).toNat : Int) = min (max x 0) (2 ^ 64 - 1) :=
    toNat_ofInt_of_range (by omega) (by omega)
  refine ⟨Sys2Proof.ofInt 64 (min (max x 0) (2 ^ 64 - 1)), ?_, ?_⟩
  · rw [hr]
    omega
  · rw [hr]
    rfl

/-- Settles O2: each operation lands the clamped pattern of its exact sum or difference. -/
theorem aluSaturates : Obligations.AluSaturates := by
  unfold Obligations.AluSaturates
  intro s u x h so p v a b outcome
  have hp := p.isLt
  have hv := v.isLt
  refine ⟨?_, ?_, ?_, ?_⟩
  · obtain ⟨r, hr, hw⟩ := satFlags_signed (p.toInt + v.toInt)
    exact ⟨r, hr, aluF_yields h rfl hw⟩
  · obtain ⟨r, hr, hw⟩ := satFlags_unsigned ((p.toNat : Int) + v.toNat)
    refine ⟨r, by omega, aluF_yields h rfl (hw.trans ?_)⟩
    congr 2
    exact decide_eq_decide.mpr (by omega)
  · obtain ⟨r, hr, hw⟩ := satFlags_signed (a.toInt - b.toInt)
    exact ⟨r, hr, aluF_yields h (by cases x <;> rfl) hw⟩
  · obtain ⟨r, hr, hw⟩ := satFlags_unsigned ((a.toNat : Int) - b.toNat)
    have ha := a.isLt
    refine ⟨r, by omega, aluF_yields h (v := subSat false a b) (by cases x <;> rfl) (hw.trans ?_)⟩
    congr 2
    exact decide_eq_decide.mpr (by omega)

end Sys2Proof.Machine
end

section
/-!
PROOFS (05 R109, R110). Logic, shifts and rotates by the whole amount; compares and selections.
-/

namespace Sys2Proof.Machine

/-! ## Shifts -/

theorem toNat_shlW (a b : W64) : (shlW a b).toNat = a.toNat * 2 ^ b.toNat % 2 ^ 64 := by
  unfold shlW
  split
  · next hb =>
    have hdvd : 2 ^ 64 ∣ a.toNat * 2 ^ b.toNat := Dvd.dvd.mul_left (Nat.pow_dvd_pow 2 hb) _
    exact (Nat.mod_eq_zero_of_dvd hdvd).symm
  · rw [BitVec.toNat_shiftLeft, Nat.shiftLeft_eq, uv]

theorem toNat_shrN (a b : W64) : (shrN a b).toNat = a.toNat / 2 ^ b.toNat := by
  unfold shrN
  split
  · next hb => exact (Nat.div_eq_of_lt (lt_of_lt_of_le a.isLt (Nat.pow_le_pow_right Nat.two_pos hb))).symm
  · rw [BitVec.toNat_ushiftRight, Nat.shiftRight_eq_div_pow, uv]

/-- A shift of a signed word by 63 or more leaves its sign alone. -/
theorem toInt_div_two_pow (a : W64) {n : Nat} (hn : 63 ≤ n) : a.toInt / 2 ^ n = if a.toInt < 0 then -1 else 0 := by
  have hpow : (2 : Int) ^ 63 ≤ 2 ^ n := pow_le_pow_right₀ (by decide) hn
  obtain ⟨hlo, hhi⟩ := toInt_range a
  simp only [lo64, hi64] at hlo hhi
  split
  · next hneg => exact Int.ediv_eq_neg_one_of_neg_of_le hneg (by omega)
  · next hpos => exact Int.ediv_eq_zero_of_lt (by omega) (by omega)

theorem toInt_shrS (a b : W64) : (shrS a b).toInt = a.toInt / 2 ^ b.toNat := by
  have hshift : (shrS a b).toInt = a.toInt / 2 ^ min b.toNat 63 := by
    rw [shrS, BitVec.toInt_sshiftRight, Int.shiftRight_eq_div_pow, uv]
    norm_cast
  rw [hshift]
  by_cases hb : b.toNat ≤ 63
  · rw [min_eq_left hb]
  · rw [min_eq_right (by omega), toInt_div_two_pow a (Nat.le_refl 63), toInt_div_two_pow a (by omega)]

/-! ## Compares and selections -/

theorem truth_decide (c : Prop) [Decidable c] : truth (decide c) = if c then 1#64 else 0#64 := by
  rw [truth, b2n_decide]
  split <;> rfl

theorem bitOf_zero_iff {n : Nat} (x : BitVec n) : bitOf x 0 = true ↔ x.toNat % 2 = 1 := by
  rw [bitOf, beq_iff_eq]
  rfl

/-! ## The operations -/

/-- An operation with an x form reads its operands with their roles exchanged there (02 R36). -/
theorem aluR_yields_ab {i : Instr} {s : State} {u : Twin} {x : Bool} (f : W64 → W64 → W64) (h : s.discards = false)
    (hi : exec i s = s.aluR u (f (s.ab (aluSock u) x).1 (s.ab (aluSock u) x).2)) :
    Yields64 i s (aluSock u) 1 (f (if x then s.tv else s.opo (aluSock u)) (if x then s.opo (aluSock u) else s.tv)) :=
  aluR_yields h (by cases x <;> exact hi)

theorem truth_yields {i : Instr} {s : State} {u : Twin} {c : Prop} [Decidable c] (h : s.discards = false)
    (hi : exec i s = s.aluR u (truth (decide c))) : Yields64 i s (aluSock u) 1 (if c then 1#64 else 0#64) :=
  truth_decide c ▸ aluR_yields h hi

/-- The choice of one operand by a test lands the choice of its reading. -/
theorem choice_yields {α : Type} {i : Instr} {s : State} {u : Twin} {c : Prop} [Decidable c] {a b : W64} (read : W64 → α)
    (h : s.discards = false) (hi : exec i s = s.aluR u (if c then a else b)) :
    ∃ r : W64, read r = (if c then read a else read b) ∧ Yields64 i s (aluSock u) 1 r :=
  ⟨_, apply_ite read c a b, aluR_yields h hi⟩

/-- Settles O3: a shift past the width is the shift of the whole amount; compares land truth values, selections one operand. -/
theorem aluLogicShiftsComparesSelects : Obligations.AluLogicShiftsComparesSelects := by
  unfold Obligations.AluLogicShiftsComparesSelects
  refine ⟨fun s u x h => ?_, fun s u x h => ?_⟩
  · intro so p v a b
    refine ⟨aluR_yields h rfl, aluR_yields h rfl, aluR_yields h rfl, aluR_yields_ab (x := x) (fun y z => y &&& ~~~z) h rfl,
      ⟨shlW a b, toNat_shlW a b, aluR_yields_ab shlW h rfl⟩, ⟨shrN a b, toNat_shrN a b, aluR_yields_ab shrN h rfl⟩,
      ⟨shrS a b, toInt_shrS a b, aluR_yields_ab shrS h rfl⟩, aluR_yields_ab rolW h rfl, aluR_yields_ab rorW h rfl⟩
  · intro so p v a b one
    refine ⟨truth_yields h rfl, truth_yields h rfl, truth_yields h (by cases x <;> rfl), truth_yields h (by cases x <;> rfl),
      truth_yields h (by cases x <;> rfl), truth_yields h (by cases x <;> rfl), ?_, ?_, ?_, ?_, ?_⟩
    · exact min_def p.toInt v.toInt ▸ choice_yields BitVec.toInt h rfl
    · exact min_def p.toNat v.toNat ▸ choice_yields BitVec.toNat h rfl
    · exact max_def p.toInt v.toInt ▸ choice_yields BitVec.toInt h rfl
    · exact max_def p.toNat v.toNat ▸ choice_yields BitVec.toNat h rfl
    · have hsel : Yields64 (.aluSel u x) s so 1 (if bitOf (s.opp so) 0 then a else b) :=
        aluR_yields_ab (fun y z => if bitOf (s.opp so) 0 then y else z) h rfl
      simpa only [bitOf_zero_iff] using hsel

end Sys2Proof.Machine
end

section
/-!
PROOFS (05 R111, R112). Operations of one operand; extraction and insertion of bit fields, bit by bit.
-/

namespace Sys2Proof.Machine

/-! ## Operations of one operand -/

theorem toInt_absSat (a : W64) : (absSat a).toInt = (min a.toInt.natAbs (2 ^ 63 - 1) : Nat) := by
  have hrange : lo64 ≤ min ((sv a).natAbs : Int) hi64 := by simp only [lo64, hi64]; omega
  rw [absSat, toInt_ofInt_of_range hrange (min_le_right _ _), sv, hi64]
  omega

theorem popcount_eq_length (w v : Nat) : popcount w v = ((List.range w).filter fun i => v.testBit i).length := by
  induction w generalizing v with
  | zero => rfl
  | succ w ih =>
    have hhigh : (List.map Nat.succ (List.range w)).filter (fun i => v.testBit i)
        = ((List.range w).filter fun i => (v / 2).testBit i).map Nat.succ := by
      rw [List.filter_map]
      congr 2
      exact funext fun i => Nat.testBit_succ v i
    rw [popcount, ih, List.range_succ_eq_map, List.filter_cons, hhigh, Nat.testBit_zero]
    rcases Nat.mod_two_eq_zero_or_one v with h | h <;> simp [h, Nat.add_comm]

theorem toNat_popcount (v : W64) :
    (w64 (popcount 64 (uv v))).toNat = ((List.range 64).filter fun i => v.getLsbD i).length := by
  have hle := List.length_filter_le (fun i => (uv v).testBit i) (List.range 64)
  rw [List.length_range] at hle
  rw [popcount_eq_length, toNat_w64_of_lt (by omega)]
  rfl

/-- A word that is not 0 has a set bit below bit 64. -/
theorem exists_testBit_of_ne_zero {v : W64} (h : v ≠ 0#64) : ∃ i < 64, v.toNat.testBit i = true := by
  by_contra hnone
  refine h (BitVec.eq_of_getLsbD_eq fun i hi => ?_)
  rw [BitVec.getLsbD_zero, BitVec.getLsbD]
  exact Bool.eq_false_iff.mpr fun hset => hnone ⟨i, hi, hset⟩

/-- The highest set bit of a word. -/
theorem highestBit_bounds {v : W64} (h : v ≠ 0#64) :
    highestBit 64 v.toNat < 64 ∧ 2 ^ highestBit 64 v.toNat ≤ v.toNat ∧ v.toNat < 2 ^ (highestBit 64 v.toNat + 1) := by
  obtain ⟨habove, hat⟩ := highestBit_spec 64 v.toNat
  obtain ⟨hlt, hset⟩ | ⟨-, hnone⟩ := hat
  · refine ⟨hlt, Nat.ge_two_pow_of_testBit hset, Nat.lt_pow_two_of_testBit _ fun i hi => ?_⟩
    by_cases hi64 : i < 64
    · exact habove i hi64 (by omega)
    · exact BitVec.getLsbD_of_ge v i (by omega)
  · obtain ⟨i, hi, hset⟩ := exists_testBit_of_ne_zero h
    exact absurd (hnone i hi) (by simp [hset])

theorem clzW_spec (v : W64) :
    v.toNat < 2 ^ (64 - clzW v) ∧ clzW v ≤ 64 ∧ (v ≠ 0#64 → 2 ^ (63 - clzW v) ≤ v.toNat ∧ clzW v ≤ 63)
      ∧ (v = 0#64 → clzW v = 64) := by
  unfold clzW
  split
  · next h => simp [h]
  · next h =>
    obtain ⟨hlt, hlo, hhi⟩ := highestBit_bounds h
    rw [show 64 - (63 - highestBit 64 v.toNat) = highestBit 64 v.toNat + 1 by omega,
      show 63 - (63 - highestBit 64 v.toNat) = highestBit 64 v.toNat by omega]
    exact ⟨hhi, by omega, fun _ => ⟨hlo, by omega⟩, fun hzero => absurd hzero h⟩

theorem ctzW_spec (v : W64) :
    ctzW v ≤ 64 ∧ (∀ i < ctzW v, v.getLsbD i = false) ∧ (v ≠ 0#64 → v.getLsbD (ctzW v) = true) ∧ (v = 0#64 → ctzW v = 64) := by
  unfold ctzW
  split
  · next h => simp [h]
  · next h =>
    obtain ⟨hbelow, hat⟩ := lowestBit_spec 64 v.toNat
    refine ⟨by omega, hbelow, fun _ => ?_, fun hzero => absurd hzero h⟩
    obtain ⟨-, hset⟩ | hnone := hat
    · exact hset
    · obtain ⟨i, hi, hset⟩ := exists_testBit_of_ne_zero h
      rw [hbelow i (by omega)] at hset
      exact absurd hset Bool.false_ne_true

/-! ## Bit fields -/

theorem bfPos_eq (v : W64) : bfPos v = v.toNat % 64 := rfl

theorem bfWidth_eq (v : W64) : bfWidth v = min (v.toNat / 64 % 128) (64 - bfPos v) := by
  rw [bfWidth, bits_eq_div]
  rfl

theorem getLsbD_bfxN (o v : W64) {i : Nat} (hi : i < 64) :
    (bfxN o v).getLsbD i = (decide (i < bfWidth v) && o.getLsbD (bfPos v + i)) := by
  rw [bfxN, getLsbD_w64 _ hi, testBit_bits]

/-- The signed reading of a field is that of the word of its bits. -/
theorem sx_eq_toInt (w v : Nat) : sx w v = (BitVec.ofNat w v).toInt := by
  rw [BitVec.toInt_eq_toNat_cond, BitVec.toNat_ofNat]
  push_cast
  rfl

theorem getLsbD_bfxS (o v : W64) {i : Nat} (hi : i < 64) :
    (bfxS o v).getLsbD i = (decide (0 < bfWidth v) && o.getLsbD (bfPos v + min i (bfWidth v - 1))) := by
  unfold bfxS
  split
  · next hw => simp [hw]
  · next hw =>
    have hext : Sys2Proof.ofInt 64 (sbits o (bfPos v) (bfWidth v))
        = (BitVec.ofNat (bfWidth v) (bits o (bfPos v) (bfWidth v))).signExtend 64 := by
      rw [ofInt_eq, sbits, sx_eq_toInt, BitVec.signExtend]
    rw [hext, BitVec.getLsbD_signExtend, BitVec.msb_eq_getLsbD_last]
    simp only [BitVec.getLsbD_ofNat, testBit_bits, hi, decide_true, Bool.true_and, Nat.pos_of_ne_zero hw]
    split
    · next hlow => simp [hlow, show min i (bfWidth v - 1) = i by omega]
    · next hhigh => simp [show bfWidth v - 1 < bfWidth v by omega, show min i (bfWidth v - 1) = bfWidth v - 1 by omega]

/-- A word with a field replaced: the field's bits are those of the value, and the others stay. -/
theorem getLsbD_putBits (x : W64) {lo w : Nat} (v : Nat) {i : Nat} (hi : i < 64) :
    (putBits x lo w v).getLsbD i = if lo ≤ i ∧ i < lo + w then v.testBit (i - lo) else x.getLsbD i := by
  have hlow : x.toNat % 2 ^ lo < 2 ^ lo := Nat.mod_lt _ (Nat.two_pow_pos lo)
  have hfield : v % 2 ^ w < 2 ^ w := Nat.mod_lt _ (Nat.two_pow_pos w)
  have hsum : x.toNat % 2 ^ lo + v % 2 ^ w * 2 ^ lo + x.toNat >>> (lo + w) * 2 ^ (lo + w)
      = 2 ^ lo * (2 ^ w * (x.toNat >>> (lo + w)) + v % 2 ^ w) + x.toNat % 2 ^ lo := by ring
  rw [putBits, BitVec.getLsbD_ofNat, decide_eq_true hi, Bool.true_and, hsum, Nat.testBit_two_pow_mul_add _ hlow,
    Nat.testBit_two_pow_mul_add _ hfield, Nat.testBit_shiftRight]
  by_cases hlo : i < lo
  · simp [hlo, show ¬lo ≤ i by omega, BitVec.getLsbD]
  · by_cases hin : i - lo < w
    · simp [hlo, hin, show lo ≤ i ∧ i < lo + w by omega]
    · simp [hlo, hin, show ¬(lo ≤ i ∧ i < lo + w) by omega, show lo + w + (i - lo - w) = i by omega, BitVec.getLsbD]

/-! ## The operations -/

theorem clz_yields (s : State) (u : Twin) (h : s.discards = false) :
    ∃ r : W64, s.tv.toNat < 2 ^ (64 - r.toNat) ∧ r.toNat ≤ 64 ∧ (s.tv ≠ 0#64 → 2 ^ (63 - r.toNat) ≤ s.tv.toNat ∧ r.toNat ≤ 63)
      ∧ (s.tv = 0#64 → r = 64#64) ∧ Yields64 (.aluClz u) s (aluSock u) 1 r := by
  obtain ⟨hbelow, hle, hat, hzero⟩ := clzW_spec s.tv
  have hr : (w64 (clzW s.tv)).toNat = clzW s.tv := toNat_w64_of_lt (by omega)
  exact ⟨w64 (clzW s.tv), hr.symm ▸ hbelow, hr.symm ▸ hle, hr.symm ▸ hat, fun h0 => congrArg w64 (hzero h0), aluR_yields h rfl⟩

theorem ctz_yields (s : State) (u : Twin) (h : s.discards = false) :
    ∃ r : W64, (∀ i < r.toNat, s.tv.getLsbD i = false) ∧ (s.tv ≠ 0#64 → s.tv.getLsbD r.toNat = true)
      ∧ (s.tv = 0#64 → r = 64#64) ∧ Yields64 (.aluCtz u) s (aluSock u) 1 r := by
  obtain ⟨hle, hbelow, hat, hzero⟩ := ctzW_spec s.tv
  have hr : (w64 (ctzW s.tv)).toNat = ctzW s.tv := toNat_w64_of_lt (by omega)
  exact ⟨w64 (ctzW s.tv), hr.symm ▸ hbelow, hr.symm ▸ hat, fun h0 => congrArg w64 (hzero h0), aluR_yields h rfl⟩

/-- Settles O4: counts of bits by the highest and the lowest set bit, and fields bit by bit. -/
theorem aluSingleOperandAndBitFields : Obligations.AluSingleOperandAndBitFields := by
  unfold Obligations.AluSingleOperandAndBitFields
  simp only [← bfWidth_eq, ← bfPos_eq]
  refine ⟨fun s u h => ?_, fun s u h => ?_⟩
  · exact ⟨⟨_, toInt_absSat s.tv, aluR_yields h rfl⟩, aluR_yields h rfl, ⟨_, toNat_popcount s.tv, aluR_yields h rfl⟩,
      clz_yields s u h, ctz_yields s u h⟩
  · exact ⟨⟨_, fun _ hi => getLsbD_bfxN _ _ hi, aluR_yields h rfl⟩, ⟨_, fun _ hi => getLsbD_bfxS _ _ hi, aluR_yields h rfl⟩,
      ⟨_, fun _ hi => getLsbD_putBits _ _ hi, aluR_yields h rfl⟩⟩

end Sys2Proof.Machine
end

section
/-!
PROOFS (05 R113 to R117). The socket `mul`: exact products in two words, divisions with their corners, and products scaled and
rounded to nearest even.
-/

namespace Sys2Proof.Machine

/-! ## Exact products -/

/-- A value of the signed 128-bit range in two words. -/
theorem split128_signed {x : Int} (hlo : -2 ^ 127 ≤ x) (hhi : x < 2 ^ 127) :
    (split128 x).2.toInt * 2 ^ 64 + (split128 x).1.toNat = x := by
  simp only [split128, ofInt_eq, BitVec.toNat_ofInt, w64, BitVec.toInt_eq_toNat_cond, BitVec.toNat_ofNat,
    Nat.shiftRight_eq_div_pow]
  split <;> omega

/-- A value of the unsigned 128-bit range in two words. -/
theorem split128_unsigned {x : Nat} (h : x < 2 ^ 128) :
    (split128 (x : Int)).2.toNat * 2 ^ 64 + (split128 (x : Int)).1.toNat = x := by
  simp only [split128, ofInt_eq, BitVec.toNat_ofInt, w64, BitVec.toNat_ofNat, Nat.shiftRight_eq_div_pow]
  omega

theorem signed_product_bounds {x y m : Int} (hx : |x| ≤ m) (hy : |y| ≤ m) : |x * y| ≤ m * m := by
  rw [abs_mul]
  exact mul_le_mul hx hy (abs_nonneg y) ((abs_nonneg x).trans hx)

theorem abs_toInt_le (a : W64) : |a.toInt| ≤ 2 ^ 63 := by
  obtain ⟨hlo, hhi⟩ := toInt_range a
  simp only [lo64, hi64] at hlo hhi
  exact abs_le.mpr ⟨by omega, by omega⟩

theorem product_bounds (a b : W64) : -2 ^ 126 ≤ a.toInt * b.toInt ∧ a.toInt * b.toInt ≤ 2 ^ 126 := by
  have h := abs_le.mp (signed_product_bounds (abs_toInt_le a) (abs_toInt_le b))
  norm_num at h ⊢
  exact h

theorem unsigned_product_le (a b : W64) : a.toNat * b.toNat ≤ (2 ^ 64 - 1) * (2 ^ 64 - 1) :=
  Nat.mul_le_mul (Nat.le_sub_one_of_lt a.isLt) (Nat.le_sub_one_of_lt b.isLt)

/-- The low 32 bits of a word, signed. -/
theorem sbits_low32 (a : W64) : sbits a 0 32 = (a.setWidth 32).toInt := by
  rw [sbits, sx_eq_toInt]
  congr 1
  exact BitVec.eq_of_toNat_eq (by simp [bits_eq_div])

theorem bits_low32 (a : W64) : bits a 0 32 = (a.setWidth 32).toNat := by
  simp [bits_eq_div]

theorem toInt_mulS32 (a b : W64) :
    (Sys2Proof.ofInt 64 (sbits a 0 32 * sbits b 0 32)).toInt = (a.setWidth 32).toInt * (b.setWidth 32).toInt := by
  have habs (c : BitVec 32) : |c.toInt| ≤ 2 ^ 31 := abs_le.mpr ⟨by have := c.le_toInt; omega, by have := c.toInt_lt; omega⟩
  have h := abs_le.mp (signed_product_bounds (habs (a.setWidth 32)) (habs (b.setWidth 32)))
  rw [sbits_low32, sbits_low32]
  exact toInt_ofInt_of_range (by simp only [lo64]; omega) (by simp only [hi64]; omega)

theorem toNat_mulN32 (a b : W64) :
    (w64 (bits a 0 32 * bits b 0 32)).toNat = (a.setWidth 32).toNat * (b.setWidth 32).toNat := by
  have hle := Nat.mul_le_mul (Nat.le_sub_one_of_lt (a.setWidth 32).isLt) (Nat.le_sub_one_of_lt (b.setWidth 32).isLt)
  rw [bits_low32, bits_low32]
  exact toNat_w64_of_lt (by omega)

/-! ## Divisions -/

/-- Signed division: the quotient is cut toward zero, and the remainder takes the sign of the dividend. -/
theorem divS_exact {n d : W64} (hd : d ≠ 0#64) (hcorner : ¬(n = 0x8000000000000000#64 ∧ d = BitVec.allOnes 64)) :
    n.toInt = (divS n d).1.toInt * d.toInt + (divS n d).2.toInt ∧ (divS n d).2.toInt.natAbs < d.toInt.natAbs
      ∧ 0 ≤ (divS n d).2.toInt * n.toInt := by
  have hdiv : divS n d = (n.sdiv d, n.srem d) := by
    rw [divS, if_neg hd, ofInt_eq, ofInt_eq, sv, sv, ← BitVec.toInt_sdiv_of_ne_or_ne n d (not_and_or.mp hcorner),
      ← BitVec.toInt_srem, BitVec.ofInt_toInt, BitVec.ofInt_toInt]
  rw [hdiv]
  simp only [BitVec.toInt_srem, BitVec.toInt_sdiv_of_ne_or_ne n d (not_and_or.mp hcorner)]
  refine ⟨(Int.tdiv_mul_add_tmod _ _).symm, ?_, ?_⟩
  · rw [Int.natAbs_tmod]
    exact Nat.mod_lt _ (Int.natAbs_pos.mpr fun h0 => hd (BitVec.toInt_inj.mp h0))
  · rcases le_total 0 n.toInt with hn | hn
    · exact mul_nonneg (Int.tmod_nonneg _ hn) hn
    · have hneg := Int.tmod_nonneg (a := -n.toInt) d.toInt (by omega)
      rw [Int.neg_tmod] at hneg
      exact mul_nonneg_of_nonpos_of_nonpos (by omega) hn

theorem divS_zero (n : W64) : divS n 0#64 = (BitVec.allOnes 64, n) := rfl

theorem divS_overflow : divS 0x8000000000000000#64 (BitVec.allOnes 64) = (0x8000000000000000#64, 0#64) := by decide

theorem divN_exact {n d : W64} (hd : d ≠ 0#64) :
    n.toNat = (divN n d).1.toNat * d.toNat + (divN n d).2.toNat ∧ (divN n d).2.toNat < d.toNat := by
  have hpos : 0 < d.toNat := Nat.pos_of_ne_zero fun h0 => hd (BitVec.eq_of_toNat_eq h0)
  have hn := n.isLt
  have hquo := Nat.div_le_self n.toNat d.toNat
  have hrem := Nat.mod_le n.toNat d.toNat
  simp only [divN, if_neg hd, uv]
  rw [toNat_w64_of_lt (by omega), toNat_w64_of_lt (by omega)]
  exact ⟨by rw [Nat.mul_comm]; exact (Nat.div_add_mod _ _).symm, Nat.mod_lt _ hpos⟩

/-! ## Rounding -/

/-- Rounding to nearest even: within half a unit, and even where two integers are as near. -/
theorem roundHalfEven_nearest (n : Int) (m : Nat) :
    2 * (n - roundHalfEven n m * 2 ^ m).natAbs ≤ 2 ^ m
      ∧ (2 * (n - roundHalfEven n m * 2 ^ m).natAbs = 2 ^ m → roundHalfEven n m % 2 = 0) := by
  have hpos : (0 : Int) < 2 ^ m := by positivity
  have hunit : ((2 ^ m : Nat) : Int) = 2 ^ m := by norm_cast
  have hdiv := Int.mul_ediv_add_emod n (2 ^ m)
  have hnonneg := Int.emod_nonneg n hpos.ne'
  have hlt := Int.emod_lt_of_pos n hpos
  have hdown : n - n / 2 ^ m * 2 ^ m = n % 2 ^ m := by linarith
  have hup : n - (n / 2 ^ m + 1) * 2 ^ m = n % 2 ^ m - 2 ^ m := by linarith
  unfold roundHalfEven
  dsimp only
  split
  · next hm => simp [hm]
  · split
    · rw [hdown]; omega
    · split
      · rw [hup]; omega
      · split
        · rw [hdown]; omega
        · rw [hup]; omega

/-- The scaled product: the rounded value clamped, with the note whether it was. -/
theorem mulrW_spec (a b : W64) (m : Nat) :
    let q := roundHalfEven (a.toInt * b.toInt) m
    (mulrW a b m).1.toInt = max (-2 ^ 63) (min (2 ^ 63 - 1) q)
      ∧ (mulrW a b m).2 = if (mulrW a b m).1.toInt = q then 0#64 else 1#64 := by
  intro q
  have hr : (mulrW a b m).1.toInt = min (max q lo64) hi64 :=
    toInt_ofInt_of_range (by simp only [lo64, hi64]; omega) (min_le_right _ _)
  have hsat : (mulrW a b m).2 = w64 (b2n (decide (min (max q lo64) hi64 ≠ q))) := rfl
  refine ⟨?_, ?_⟩
  · rw [hr]
    simp only [lo64, hi64]
    omega
  · rw [hsat, hr, b2n_decide, ite_not]
    split <;> rfl

/-! ## The operations -/

/-- What a result pair of `mul` does. -/
theorem mulOut_yields {i : Instr} {s : State} {lat : Nat} {r q : W64} (h : s.discards = false) (hlat : 0 < lat)
    (hi : exec i s = s.mulOut lat (r, q)) : Yields i s .mul lat [(.r, wide r), (.q, wide q)] 0 :=
  ⟨_, hi.trans (operate_next _ _ _ h rfl), land_lands s .mul lat _ 0 hlat⟩

theorem exec_mulN64 (s : State) : exec .mulN64 s = s.mulOut 3 (split128 (((s.opo .mul).toNat * s.tv.toNat : Nat) : Int)) := by
  rw [Nat.cast_mul]
  rfl

theorem exec_madN64 (s : State) :
    exec .madN64 s = s.mulOut 4 (split128 (((s.opo .mul).toNat * s.tv.toNat + (s.opp .mul).toNat : Nat) : Int)) := by
  rw [Nat.cast_add, Nat.cast_mul]
  rfl

/-- From s on, a divide lands its quotient and remainder and keeps `mul` from another trigger (05 R113). -/
def Divides (i : Instr) (s : State) (v : W64 × W64) : Prop :=
  ∃ t, exec i s = .next t ∧ Lands s t .mul 34 [(.r, wide v.1), (.q, wide v.2)] 0 ∧ Unchanged s t
    ∧ (t.tile s.hand.tile).mulFree = s.now + 32

/-- The tile with `mul` kept until a cycle. -/
def Tile.keepMul (t : Tile) (c : Nat) : Tile := { t with mulFree := c }

theorem keepMul_unchanged (s : State) (n c : Nat) : Unchanged s (s.modTile n fun t => t.keepMul c) := by
  refine ⟨setTile_contexts s n _ fun k => ?_, setTile_rest s n _ ⟨rfl, rfl, rfl, rfl, rfl, rfl, rfl, rfl, rfl, rfl, rfl, rfl⟩⟩
  cases k <;> rfl

theorem flights_keepMul (s : State) (n c m : Nat) :
    ((s.modTile n fun t => t.keepMul c).tile m).flights = (s.tile m).flights := by
  rw [State.modTile, tile_setTile]
  split
  · next hm => rw [hm]; rfl
  · rfl

/-- Results in flight stay so where the tiles' flights and what is fixed stay. -/
theorem Lands.of_flights {s t t' : State} {so : Sock} {lat flags : Nat} {vs : List (Port × V1024)}
    (h : Lands s t so lat vs flags) (hflights : ∀ m, (t'.tile m).flights = (t.tile m).flights) (hagenda : t'.agenda = t.agenda) :
    Lands s t' so lat vs flags := by
  simpa only [Lands, Hastened, hflights, hagenda] using h

theorem divOut_divides {i : Instr} {s : State} {v : W64 × W64} (h : s.discards = false) (hi : exec i s = s.divOut v) :
    Divides i s v := by
  obtain ⟨hlands, hunchanged⟩ := land_lands s .mul 34 [(.r, wide v.1), (.q, wide v.2)] 0 (by decide)
  refine ⟨_, hi.trans (operate_next _ _ _ h rfl), hlands.of_flights (flights_keepMul _ _ _) rfl,
    hunchanged.trans (keepMul_unchanged _ _ _), ?_⟩
  rw [State.tile_modTile_same]

theorem divS_divides {s : State} (x : Bool) (h : s.discards = false) :
    Divides (.divS64 x) s (divS (if x then s.tv else s.opo .mul) (if x then s.opo .mul else s.tv)) :=
  divOut_divides h (by cases x <;> rfl)

theorem divN_divides {s : State} (x : Bool) (h : s.discards = false) :
    Divides (.divN64 x) s (divN (if x then s.tv else s.opo .mul) (if x then s.opo .mul else s.tv)) :=
  divOut_divides h (by cases x <;> rfl)

/-- Settles O6: exact products in two words, divisions by the exact division of integers, and the scaled product by its
rounding. -/
theorem multipliesAndDivides : Obligations.MultipliesAndDivides := by
  unfold Obligations.MultipliesAndDivides
  refine ⟨fun s h => ?_, fun s x h => ?_⟩
  · intro p q v lows
    have hproduct := product_bounds p v
    have hunsigned := unsigned_product_le p v
    have hq := toInt_range q
    have hq' := q.isLt
    simp only [lo64, hi64] at hq
    refine ⟨⟨_, _, split128_signed (by omega) (by omega), mulOut_yields h (by decide) rfl⟩,
      ⟨_, _, split128_unsigned (by omega), mulOut_yields h (by decide) (exec_mulN64 s)⟩,
      ⟨_, _, split128_signed (by omega) (by omega), mulOut_yields h (by decide) rfl⟩,
      ⟨_, _, split128_unsigned (by omega), mulOut_yields h (by decide) (exec_madN64 s)⟩,
      ⟨_, toInt_mulS32 p v, mulOut_yields h (by decide) rfl⟩, ⟨_, toNat_mulN32 p v, mulOut_yields h (by decide) rfl⟩⟩
  · intro p v n d divides
    refine ⟨⟨(divS n d).1, (divS n d).2, divS_divides x h, fun hd => ?_, fun hn hd => ?_, divS_exact⟩,
      ⟨(divN n d).1, (divN n d).2, divN_divides x h, fun hd => ?_, divN_exact⟩, ?_⟩
    · rw [hd, divS_zero]
      exact ⟨rfl, rfl⟩
    · rw [hn, hd, divS_overflow]
      exact ⟨rfl, rfl⟩
    · rw [hd]
      exact ⟨rfl, rfl⟩
    · obtain ⟨hr, hsat⟩ := mulrW_spec p v ((s.opp .mul).toNat % 128)
      obtain ⟨hnear, heven⟩ := roundHalfEven_nearest (p.toInt * v.toInt) ((s.opp .mul).toNat % 128)
      refine ⟨_, _, hr, hnear, heven, ?_⟩
      rw [← hsat]
      exact mulOut_yields h (by decide) rfl

end Sys2Proof.Machine
end

section
/-!
PROOFS (05 R118 to R127). Pointer operations: what the trigger in hand reads beside results in flight, the updates that an
operation fixes to the next cycle, and what each update changes.
-/

namespace Sys2Proof.Machine

/-! ## The trigger in hand beside results in flight -/

theorem landings_hand (s : State) (n : Nat) (so : Sock) (due : Nat) (vs : List (Port × V1024)) :
    (landings s n so due vs).hand = s.hand := by
  induction vs generalizing s with
  | nil => rfl
  | cons p vs ih => exact ih _

theorem landAt_hand (s : State) (n : Nat) (k : Ctx) (so : Sock) (due : Nat) (locked : Bool) (vs : List (Port × V1024))
    (flags : Nat) : (s.landAt n k so due locked vs flags).hand = s.hand := by
  rw [landAt_eq, landings_hand]
  rfl

theorem landSooner_hand (s : State) (n : Nat) (so : Sock) (f : Flight) (d : Option Nat) :
    (s.landSooner n so f d).hand = s.hand := by
  unfold State.landSooner
  split
  · rfl
  · split
    · rfl
    · dsimp only
      split <;> rfl

theorem sooner_hand (s : State) (n : Nat) (so : Sock) (h : Flight → Option Nat) (l : List Flight) :
    (sooner s n so h l).hand = s.hand := by
  induction l generalizing s with
  | nil => rfl
  | cons f l ih => exact (ih _).trans (landSooner_hand _ _ _ _ _)

theorem lag_hand (s : State) (lat : Nat) : (lag s lat).2.hand = s.hand := by
  unfold lag
  split <;> rfl

theorem land_hand (s : State) (n : Nat) (k : Ctx) (so : Sock) (lat : Nat) (vs : List (Port × V1024)) (flags : Nat) :
    (s.land n k so lat vs flags).hand = s.hand := by
  by_cases h : (s.tile n).lockedMode so = true
  · rw [land_locked _ _ _ _ _ _ _ h, landAt_hand, hasten_eq, sooner_hand]
    exact lag_hand s lat
  · rw [land_free _ _ _ _ _ _ _ (by simpa using h), landAt_hand]

theorem State.result_hand (s : State) (so : Sock) (v : W64) : (s.result so v).hand = s.hand := land_hand s _ _ so 1 _ 0

section Operands

variable {s t : State} (h : Unchanged s t) (hhand : t.hand = s.hand)

include hhand

theorem tv_of_hand : t.tv = s.tv := by
  rw [State.tv, State.tv, hhand]

theorem ptrT_of_hand : t.ptrT = s.ptrT := by
  rw [State.ptrT, tv_of_hand hhand]
  rfl

include h

theorem Unchanged.opo_eq (so : Sock) : t.opo so = s.opo so := by
  rw [State.opo, State.ht, h.rest.tiles.opo, hhand]
  rfl

theorem Unchanged.opp_eq (so : Sock) : t.opp so = s.opp so := by
  rw [State.opp, State.ht, h.rest.tiles.opp, hhand]
  rfl

theorem Unchanged.hc_eq : t.hc = s.hc := by
  rw [State.hc, h.contexts, hhand]
  rfl

theorem Unchanged.ptrO_eq : t.ptrO = s.ptrO := by
  rw [State.ptrO, h.opo_eq hhand]
  rfl

end Operands

/-! ## The operations -/

/-- An update of the context in hand at the start of the next cycle: its place in the cycle, its number and its value. -/
def updateOf (s : State) (q : Nat × Nat × W64) : Agenda :=
  { cyc := s.now + 1, prio := q.1, ins := .registerWrite { tile := s.hand.tile, ctx := s.hand.ctx, num := q.2.1 } q.2.2 }

/-- The updates that an operation fixes. -/
def State.fixUpdates (s : State) (l : List (Nat × Nat × W64)) : State :=
  l.foldl (fun s q => s.schedule (updateOf s q).cyc (updateOf s q).prio (updateOf s q).ins) s

theorem fixUpdates_unchanged (s : State) (l : List (Nat × Nat × W64)) : Unchanged s (s.fixUpdates l) := by
  induction l generalizing s with
  | nil => exact Unchanged.refl s
  | cons q l ih => exact (schedule_unchanged s _ _ _).trans (ih _)

theorem mem_fixUpdates (s : State) (l : List (Nat × Nat × W64)) {q : Nat × Nat × W64} (hq : q ∈ l) :
    updateOf s q ∈ (s.fixUpdates l).agenda := by
  induction l generalizing s with
  | nil => cases hq
  | cons p l ih =>
    rcases List.mem_cons.mp hq with rfl | hq
    · exact (fixUpdates_unchanged _ l).rest.time.agenda _ (mem_schedule_self _ _ _ _)
    · exact ih _ hq

theorem Lands.fixUpdates {s t : State} {so : Sock} {lat flags : Nat} {vs : List (Port × V1024)} (h : Lands s t so lat vs flags)
    (l : List (Nat × Nat × W64)) : Lands s (t.fixUpdates l) so lat vs flags := by
  induction l generalizing t with
  | nil => exact h
  | cons q l ih => exact ih (h.schedule _ _ _)

/-- Step i lands x and fixes some updates of the context in hand to the next cycle. -/
def Gives (s : State) (i : Instr) (x : Nat) (later : List (Nat × Nat × W64)) : Prop :=
  ∃ t, exec i s = .next t ∧ Lands s t .agu 1 [(.r, wide (w64 x))] 0 ∧ Unchanged s t ∧ ∀ q ∈ later, updateOf s q ∈ t.agenda

/-- A pointer operation outside a routine context (R124). -/
theorem aguPtr_outside {i : Instr} {s : State} {v : Regs → W64} {eff : State → State} (h : s.discards = false)
    (hk : isRoutine s.hand.ctx = false) (hi : exec i s = s.aguPtr v eff) : Gives s i 0 [] := by
  obtain ⟨hlands, hunchanged⟩ := result_lands s .agu (w64 0)
  refine ⟨_, hi.trans (operate_next s _ none h rfl), ?_, ?_, fun q hq => absurd hq List.not_mem_nil⟩ <;> rw [hk]
  · exact hlands
  · exact hunchanged

/-- A pointer operation of a routine context lands what it read, and fixes its updates. -/
theorem aguPtr_inside {i : Instr} {s : State} {v : Regs → W64} {eff : State → State} {x : Nat} {later : List (Nat × Nat × W64)}
    (h : s.discards = false) (hk : isRoutine s.hand.ctx = true) (hi : exec i s = s.aguPtr v eff) (hx : v s.hc.regs = w64 x)
    (heff : ∀ t, Unchanged s t → t.hand = s.hand → eff t = t.fixUpdates later) : Gives s i x later := by
  obtain ⟨hlands, hunchanged⟩ := result_lands s .agu (w64 x)
  have hhand := s.result_hand .agu (w64 x)
  have hexec : exec i s = .next ((s.result .agu (w64 x)).fixUpdates later) := by
    rw [hi, State.aguPtr, operate_next s _ none h rfl, if_pos hk, hx, heff _ hunchanged hhand]
  refine ⟨_, hexec, hlands.fixUpdates later, hunchanged.trans (fixUpdates_unchanged _ _), fun q hq => ?_⟩
  have hmem := mem_fixUpdates (s.result .agu (w64 x)) later hq
  rwa [updateOf, hhand, hunchanged.rest.time.now] at hmem

/-- The words of a pointer as numbers (05 R118). -/
def Regs.word0 (r : Regs) (p : Nat) : Nat := (spGet 0#32 r.addr p).toNat + (spGet 0#20 r.stride p).toNat * 2 ^ 32

def Regs.word1 (r : Regs) (p : Nat) : Nat :=
  (spGet 0#32 r.wbase p).toNat + (spGet 0#20 r.wlen p).toNat * 2 ^ 32 + (spGet 0#5 r.tag p).toNat * 2 ^ 52

theorem ptr0_eq (r : Regs) (p : Nat) : r.ptr0 p = w64 (r.word0 p) := rfl

theorem ptr1_eq (r : Regs) (p : Nat) : r.ptr1 p = w64 (r.word1 p) := rfl

theorem bits_low {n : Nat} (x : BitVec n) (w : Nat) : bits x 0 w = x.toNat % 2 ^ w := rfl

theorem ptrO_eq (s : State) : s.ptrO = (s.opo .agu).toNat % 8 := bits_low _ 3

theorem ptrT_eq (s : State) : s.ptrT = s.tv.toNat % 8 := bits_low _ 3

theorem exec_aguPstr (s : State) : exec .aguPstr s = s.aguPtr (fun r => r.ptr0 s.ptrO) fun t =>
    t.ptrLater (updStride + t.ptrO) (w64 (bits t.tv 0 20)) := rfl

theorem exec_aguPwin (s : State) : exec .aguPwin s = s.aguPtr (fun r => r.ptr1 s.ptrO) fun t =>
    t.ptrLater (updWindow + t.ptrO) (w64 (bits t.tv 0 32 + bits (t.opp .agu) 0 20 * 2 ^ 32)) := rfl

theorem exec_aguPreg (s : State) : exec .aguPreg s = s.aguPtr (fun r => r.ptr1 s.ptrO) fun t =>
    t.ptrLater (updTag + t.ptrO) (w64 (bits t.tv 0 5)) := rfl

theorem exec_aguPget (s : State) :
    exec .aguPget s = s.aguPtr (fun r => if bitOf s.tv 3 then r.ptr1 s.ptrT else r.ptr0 s.ptrT) id := rfl

theorem exec_aguPadv (s : State) : exec .aguPadv s = s.aguPtr (fun r => w64 (r.read .a s.ptrT)) fun t =>
    if t.opo .agu = 0#64 then t else t.schedule (t.now + 1) prioWrite
      (.registerWrite { tile := t.hand.tile, ctx := t.hand.ctx, num := updAdvance + t.ptrT } (t.opo .agu)) := rfl

theorem exec_aguPpeek (s : State) : exec .aguPpeek s = s.aguPtr
    (fun r => w64 (if s.opo .agu = 0#64 then r.read .a s.ptrT else r.advanced s.ptrT (sv (s.opo .agu)))) id := rfl

theorem exec_aguPcopy (s : State) : exec .aguPcopy s = s.aguPtr (fun r => r.ptr0 s.ptrT) fun t =>
    (t.ptrLater (updWord0 + t.ptrO) (t.hc.regs.ptr0 t.ptrT)).ptrLater (updWord1 + t.ptrO) (t.hc.regs.ptr1 t.ptrT) := rfl

theorem ptrLater_eq (t : State) (num : Nat) (v : W64) : t.ptrLater num v = t.fixUpdates [(prioUpdate, num, v)] := rfl

section Inside

variable {s : State} (h : s.discards = false) (hk : isRoutine s.hand.ctx = true)

include h hk

theorem pstr_gives : Gives s .aguPstr (s.hc.regs.word0 s.ptrO)
    [(prioUpdate, updStride + s.ptrO, w64 (s.tv.toNat % 2 ^ 20))] := by
  refine aguPtr_inside h hk (exec_aguPstr s) (ptr0_eq _ _) fun t hu hhand => ?_
  rw [hu.ptrO_eq hhand, tv_of_hand hhand, bits_low, ptrLater_eq]

theorem pwin_gives : Gives s .aguPwin (s.hc.regs.word1 s.ptrO)
    [(prioUpdate, updWindow + s.ptrO, w64 (s.tv.toNat % 2 ^ 32 + (s.opp .agu).toNat % 2 ^ 20 * 2 ^ 32))] := by
  refine aguPtr_inside h hk (exec_aguPwin s) (ptr1_eq _ _) fun t hu hhand => ?_
  rw [hu.ptrO_eq hhand, tv_of_hand hhand, hu.opp_eq hhand, bits_low, bits_low, ptrLater_eq]

theorem preg_gives : Gives s .aguPreg (s.hc.regs.word1 s.ptrO) [(prioUpdate, updTag + s.ptrO, w64 (s.tv.toNat % 2 ^ 5))] := by
  refine aguPtr_inside h hk (exec_aguPreg s) (ptr1_eq _ _) fun t hu hhand => ?_
  rw [hu.ptrO_eq hhand, tv_of_hand hhand, bits_low, ptrLater_eq]

theorem pget_gives : Gives s .aguPget (if s.tv.getLsbD 3 then s.hc.regs.word1 s.ptrT else s.hc.regs.word0 s.ptrT) [] := by
  refine aguPtr_inside h hk (exec_aguPget s) ?_ fun _ _ _ => rfl
  rw [bitOf_eq_getLsbD, ptr0_eq, ptr1_eq, apply_ite w64]

theorem padv_gives : Gives s .aguPadv (spGet 0#32 s.hc.regs.addr s.ptrT).toNat
    (if s.opo .agu = 0#64 then [] else [(prioWrite, updAdvance + s.ptrT, s.opo .agu)]) := by
  refine aguPtr_inside h hk (exec_aguPadv s) rfl fun t hu hhand => ?_
  rw [hu.opo_eq hhand, ptrT_of_hand hhand]
  split <;> rfl

theorem ppeek_gives : Gives s .aguPpeek (if s.opo .agu = 0#64 then (spGet 0#32 s.hc.regs.addr s.ptrT).toNat
    else s.hc.regs.advanced s.ptrT (s.opo .agu).toInt) [] :=
  aguPtr_inside h hk (exec_aguPpeek s) rfl fun _ _ _ => rfl

theorem pcopy_gives : Gives s .aguPcopy (s.hc.regs.word0 s.ptrT)
    [(prioUpdate, updWord0 + s.ptrO, w64 (s.hc.regs.word0 s.ptrT)),
      (prioUpdate, updWord1 + s.ptrO, w64 (s.hc.regs.word1 s.ptrT))] := by
  refine aguPtr_inside h hk (exec_aguPcopy s) (ptr0_eq _ _) fun t hu hhand => ?_
  rw [hu.ptrO_eq hhand, ptrT_of_hand hhand, hu.hc_eq hhand, ptr0_eq, ptr1_eq]
  rfl

end Inside

/-! ## The updates -/

theorem in_block {a p w : Nat} (hp : p < w) : (decide (a ≤ a + p) && decide (a + p < a + w)) = true := by
  simp [hp]

theorem not_in_block {a b p w : Nat} (hp : p < 8) (h : b + 8 ≤ a ∨ a + w ≤ b) :
    ¬(decide (a ≤ b + p) && decide (b + p < a + w)) = true := by
  simp only [Bool.and_eq_true, decide_eq_true_eq]
  omega

theorem internal_updAdvance (s : State) (n : Nat) (k : Ctx) (v : W64) {p uses : Nat} (hp : p < 8) (huses : uses < 32) :
    s.internal { tile := n, ctx := k, num := updAdvance + 8 * uses + p } v
      = some (s.modTile n fun t => t.pointerAdvance s.now k p (v.toInt + uses)) := by
  rw [Nat.add_assoc, State.internal]
  dsimp only
  rw [if_pos (in_block (by omega)), Nat.add_sub_cancel_left, show (8 * uses + p) % 8 = p by omega,
    show (8 * uses + p) / 8 = uses by omega]

section Numbers

variable (s : State) (n : Nat) (k : Ctx) (v : W64) {p : Nat} (hp : p < 8)

include hp

theorem internal_updStride : s.internal { tile := n, ctx := k, num := updStride + p } v
    = some (s.modCtx n k fun c => { c with regs := c.regs.setStride p v }) := by
  rw [State.internal]
  dsimp only
  rw [if_neg (not_in_block hp (by decide)), if_pos (in_block hp), Nat.add_sub_cancel_left]

theorem internal_updWindow : s.internal { tile := n, ctx := k, num := updWindow + p } v
    = some (s.modCtx n k fun c => { c with regs := c.regs.setWindow p v }) := by
  rw [State.internal]
  dsimp only
  rw [if_neg (not_in_block hp (by decide)), if_neg (not_in_block hp (by decide)), if_pos (in_block hp), Nat.add_sub_cancel_left]

theorem internal_updTag : s.internal { tile := n, ctx := k, num := updTag + p } v
    = some (s.modCtx n k fun c => { c with regs := c.regs.setTag p v }) := by
  rw [State.internal]
  dsimp only
  rw [if_neg (not_in_block hp (by decide)), if_neg (not_in_block hp (by decide)), if_neg (not_in_block hp (by decide)),
    if_pos (in_block hp), Nat.add_sub_cancel_left]

theorem internal_updWord1 : s.internal { tile := n, ctx := k, num := updWord1 + p } v
    = some (s.modCtx n k fun c => { c with regs := c.regs.setPtr1 p v }) := by
  rw [State.internal]
  dsimp only
  rw [if_neg (not_in_block hp (by decide)), if_neg (not_in_block hp (by decide)), if_neg (not_in_block hp (by decide)),
    if_neg (not_in_block hp (by decide)), if_neg (not_in_block hp (by decide)), if_pos (in_block hp), Nat.add_sub_cancel_left]

/-- The registers take word 0, and the tile may note that the address has changed. -/
theorem internal_updWord0 :
    let written := s.modCtx n k fun c => { c with regs := c.regs.setPtr0 p v }
    s.internal { tile := n, ctx := k, num := updWord0 + p } v = some written
      ∨ s.internal { tile := n, ctx := k, num := updWord0 + p } v
        = some (written.modTile n fun t => t.noteUpdate s.now k (regIdent .a p)) := by
  intro written
  rw [State.internal]
  dsimp only
  rw [if_neg (not_in_block hp (by decide)), if_neg (not_in_block hp (by decide)), if_neg (not_in_block hp (by decide)),
    if_neg (not_in_block hp (by decide)), if_pos (in_block hp), Nat.add_sub_cancel_left]
  split
  · exact .inl rfl
  · exact .inr rfl

end Numbers

theorem pointer_num_ordinary {num : Nat} (h : num < 0x1068 ∨ 0x1100 ≤ num) :
    num ∉ [updAccess, updHub, updPtclr, updLevels, updDuty] := by
  simp only [updAccess, updHub, updPtclr, updLevels, updDuty, List.mem_cons, List.not_mem_nil, or_false, not_or]
  omega

/-- The update of a register of a context changes its registers, and of all else nothing. -/
def Updates (s : State) (n : Nat) (k : Ctx) (num : Nat) (v : W64) (r : Regs) : Prop :=
  ∃ t, exec (.registerWrite { tile := n, ctx := k, num := num } v) s = .next t ∧ t.ctx n k = { s.ctx n k with regs := r }
    ∧ SameOtherContexts s t n k ∧ SameRest s t

section Updates

variable {s : State} {n : Nat} {k : Ctx} {v : W64}

theorem updates_of_internal {t : State} {num : Nat} {r : Regs} (hn : isTile n = true) (hnum : num < 0x1068 ∨ 0x1100 ≤ num)
    (hint : s.internal { tile := n, ctx := k, num := num } v = some t) (hctx : t.ctx n k = { s.ctx n k with regs := r })
    (honly : OnlyCtx s t n k) : Updates s n k num v r :=
  ⟨t, exec_registerWrite_internal hn rfl (pointer_num_ordinary hnum) hint, hctx, honly.others, honly.rest⟩

theorem updates_of_modCtx {num : Nat} (f : Regs → Regs) (hn : isTile n = true) (hnum : num < 0x1068 ∨ 0x1100 ≤ num)
    (hint : s.internal { tile := n, ctx := k, num := num } v = some (s.modCtx n k fun c => { c with regs := f c.regs })) :
    Updates s n k num v (f (s.ctx n k).regs) :=
  updates_of_internal hn hnum hint (State.ctx_modCtx_same _ _ _ _) (onlyCtx_modCtx _ _ _ _)

end Updates

theorem onlyCtx_noteUpdate (s : State) (n now : Nat) (k : Ctx) (ident : Nat) :
    OnlyCtx s (s.modTile n fun t => t.noteUpdate now k ident) n k :=
  onlyCtx_modTile s n k _ (fun _ _ => Tile.ctx_noteUpdate _ _ _ _ _) (Tile.tileRest_noteUpdate _ _ _ _)

/-- A pointer that advances takes its new address, and the tile may note that it has changed. -/
theorem pointerAdvance_cases (t : Tile) (now : Nat) (k : Ctx) (p : Nat) (steps : Int) :
    let moved := t.modCtx k fun c => { c with regs := c.regs.setAddr p ((t.ctx k).regs.advanced p steps) }
    t.pointerAdvance now k p steps = moved ∨ t.pointerAdvance now k p steps = moved.noteUpdate now k (regIdent .a p) := by
  intro moved
  unfold Tile.pointerAdvance
  dsimp only
  split
  · exact .inl rfl
  · exact .inr rfl

/-- What `pointerAdvance` changes of its tile. -/
theorem pointerAdvance_changes (t : Tile) (now : Nat) (k : Ctx) (p : Nat) (steps : Int) :
    (t.pointerAdvance now k p steps).ctx k = { t.ctx k with regs := (t.ctx k).regs.setAddr p ((t.ctx k).regs.advanced p steps) }
      ∧ (∀ j, j ≠ k → (t.pointerAdvance now k p steps).ctx j = t.ctx j) ∧ TileRest t (t.pointerAdvance now k p steps) := by
  obtain h | h := pointerAdvance_cases t now k p steps <;> rw [h]
  · exact ⟨Tile.ctx_modCtx_same _ _ _, fun j hj => Tile.ctx_modCtx_other _ _ _ _ hj, t.tileRest_modCtx k _⟩
  · simp only [Tile.ctx_noteUpdate]
    exact ⟨Tile.ctx_modCtx_same _ _ _, fun j hj => Tile.ctx_modCtx_other _ _ _ _ hj,
      (t.tileRest_modCtx k _).trans (Tile.tileRest_noteUpdate _ _ _ _)⟩

section Pointer

variable {s : State} {n : Nat} {k : Ctx} {v : W64} {p : Nat} (hn : isTile n = true) (hp : p < 8)

include hn hp

theorem updStride_updates : Updates s n k (updStride + p) v ((s.ctx n k).regs.setStride p v) :=
  updates_of_modCtx (·.setStride p v) hn (.inl (by unfold updStride; omega)) (internal_updStride s n k v hp)

theorem updWindow_updates : Updates s n k (updWindow + p) v ((s.ctx n k).regs.setWindow p v) :=
  updates_of_modCtx (·.setWindow p v) hn (.inl (by unfold updWindow; omega)) (internal_updWindow s n k v hp)

theorem updTag_updates : Updates s n k (updTag + p) v ((s.ctx n k).regs.setTag p v) :=
  updates_of_modCtx (·.setTag p v) hn (.inl (by unfold updTag; omega)) (internal_updTag s n k v hp)

theorem updWord1_updates : Updates s n k (updWord1 + p) v ((s.ctx n k).regs.setPtr1 p v) :=
  updates_of_modCtx (·.setPtr1 p v) hn (.inl (by unfold updWord1; omega)) (internal_updWord1 s n k v hp)

theorem updWord0_updates : Updates s n k (updWord0 + p) v ((s.ctx n k).regs.setPtr0 p v) := by
  have hnum : updWord0 + p < 0x1068 ∨ 0x1100 ≤ updWord0 + p := .inl (by unfold updWord0; omega)
  obtain hint | hint := internal_updWord0 s n k v hp
  · exact updates_of_modCtx (·.setPtr0 p v) hn hnum hint
  · refine updates_of_internal hn hnum hint ?_ ((onlyCtx_modCtx _ _ _ _).trans (onlyCtx_noteUpdate _ _ _ _ _))
    rw [State.ctx, State.tile_modTile_same, Tile.ctx_noteUpdate]
    exact State.ctx_modCtx_same _ _ _ _

theorem updAdvance_updates {uses : Nat} (huses : uses < 32) : Updates s n k (updAdvance + 8 * uses + p) v
    ((s.ctx n k).regs.setAddr p ((s.ctx n k).regs.advanced p (v.toInt + uses))) := by
  obtain ⟨hctx, hothers, hrest⟩ := pointerAdvance_changes (s.tile n) s.now k p (v.toInt + uses)
  refine updates_of_internal hn (.inr (by unfold updAdvance; omega)) (internal_updAdvance s n k v hp huses) ?_
    (onlyCtx_modTile s n k _ hothers hrest)
  rw [State.ctx, State.tile_modTile_same]
  exact hctx

end Pointer

/-! ## Pointer fields (R118, R119) -/

/-- An advance by some steps, inside the window where the pointer has one (R119). -/
theorem toNat_advanced (r : Regs) (p : Nat) (steps : Int) :
    let b : Int := (spGet 0#32 r.wbase p).toNat
    let l : Int := (spGet 0#20 r.wlen p).toNat
    let x : Int := (spGet 0#32 r.addr p).toNat + steps * (spGet 0#20 r.stride p).toInt
    ((BitVec.ofNat 32 (r.advanced p steps)).toNat : Int) = if l = 0 then x % 2 ^ 32 else (b + (x - b) % l) % 2 ^ 32 := by
  intro b l x
  have hadv : r.advanced p steps = if l = 0 then (x % 2 ^ 32).toNat else ((b + (x - b) % l) % 2 ^ 32).toNat := rfl
  rw [hadv, BitVec.toNat_ofNat]
  split <;> omega

theorem ofNat_bits_low (w : Nat) (v : W64) : BitVec.ofNat w (bits v 0 w) = v.setWidth w :=
  BitVec.eq_of_toNat_eq (by simp [bits_eq_div])

theorem ofNat_bits (w lo : Nat) (v : W64) : BitVec.ofNat w (bits v lo w) = (v >>> lo).setWidth w :=
  BitVec.eq_of_toNat_eq (by simp [bits])

theorem setStride_eq (r : Regs) (p : Nat) (v : W64) : r.setStride p v
    = { r with stride := spSet 0#20 r.stride p (v.setWidth 20) } := by
  rw [Regs.setStride, ofNat_bits_low]

theorem setWindow_eq (r : Regs) (p : Nat) (v : W64) : r.setWindow p v
    = { r with wbase := spSet 0#32 r.wbase p (v.setWidth 32), wlen := spSet 0#20 r.wlen p ((v >>> 32).setWidth 20) } := by
  rw [Regs.setWindow, ofNat_bits_low, ofNat_bits]

theorem setTag_eq (r : Regs) (p : Nat) (v : W64) : r.setTag p v = { r with tag := spSet 0#5 r.tag p (v.setWidth 5) } := by
  rw [Regs.setTag, ofNat_bits_low]

theorem setPtr0_eq (r : Regs) (p : Nat) (v : W64) : r.setPtr0 p v
    = { r with addr := spSet 0#32 r.addr p (v.setWidth 32), stride := spSet 0#20 r.stride p ((v >>> 32).setWidth 20) } := by
  rw [Regs.setPtr0, ofNat_bits_low, ofNat_bits]

theorem setPtr1_eq (r : Regs) (p : Nat) (v : W64) : r.setPtr1 p v
    = { r with
        wbase := spSet 0#32 r.wbase p (v.setWidth 32), wlen := spSet 0#20 r.wlen p ((v >>> 32).setWidth 20)
        tag := spSet 0#5 r.tag p ((v >>> 52).setWidth 5) } := by
  rw [Regs.setPtr1, ofNat_bits_low, ofNat_bits, ofNat_bits]

/-! ## The obligation -/

theorem outside_gives {s : State} (h : s.discards = false) (hk : isRoutine s.hand.ctx = false) {i : Instr}
    (hi : i ∈ [Instr.aguPstr, .aguPwin, .aguPreg, .aguPget, .aguPadv, .aguPpeek, .aguPcopy]) : Gives s i 0 [] := by
  simp only [List.mem_cons, List.not_mem_nil, or_false] at hi
  obtain rfl | rfl | rfl | rfl | rfl | rfl | rfl := hi
  · exact aguPtr_outside h hk (exec_aguPstr s)
  · exact aguPtr_outside h hk (exec_aguPwin s)
  · exact aguPtr_outside h hk (exec_aguPreg s)
  · exact aguPtr_outside h hk (exec_aguPget s)
  · exact aguPtr_outside h hk (exec_aguPadv s)
  · exact aguPtr_outside h hk (exec_aguPpeek s)
  · exact aguPtr_outside h hk (exec_aguPcopy s)

/-- Settles O20: an operation lands what it read and fixes its updates; each update is one change of the registers of its
context. -/
theorem pointerOperations : Obligations.PointerOperations := by
  unfold Obligations.PointerOperations
  simp only [← ptrO_eq, ← ptrT_eq]
  refine ⟨fun s h => ⟨fun hk => ⟨pstr_gives h hk, pwin_gives h hk, preg_gives h hk, pget_gives h hk, padv_gives h hk,
    ppeek_gives h hk, pcopy_gives h hk⟩, fun hk i hi => outside_gives h hk hi⟩, fun s n k p uses v hn hp huses => ?_⟩
  simp only [← setStride_eq, ← setWindow_eq, ← setTag_eq, ← setPtr0_eq, ← setPtr1_eq]
  exact ⟨⟨_, toNat_advanced _ _ _, updAdvance_updates hn hp huses⟩, updStride_updates hn hp, updWindow_updates hn hp,
    updTag_updates hn hp, updWord0_updates hn hp, updWord1_updates hn hp⟩

end Sys2Proof.Machine
end

section
/-!
PROOFS (05 R122, R123, R128, R129). Regions: the set an entry declares and the bounds of a region, the range tests, and the
computation of addresses.
-/

namespace Sys2Proof.Machine

/-! ## Regions -/

theorem inRegion_iff (t : Tile) (n lo hi : Nat) : t.inRegion n lo hi = true
    ↔ (t.rg (0x040 + n)).toNat % 2 ^ 32 ≤ lo ∧ hi < (t.rg (0x040 + n)).toNat % 2 ^ 32 + (t.rg (0x040 + n)).toNat / 2 ^ 32 := by
  have hlt := (t.rg (0x040 + n)).isLt
  have hbytes : t.rgnBytes n = (t.rg (0x040 + n)).toNat / 2 ^ 32 := by
    rw [Tile.rgnBytes, bits_eq_div]
    omega
  rw [Tile.inRegion, hbytes, Tile.rgnBase, bits_low, Bool.and_eq_true, decide_eq_true_eq, decide_eq_true_eq]

/-- A region is declared where the entry that runs, if one does, lists it. -/
theorem testBit_regionSet (t : Tile) (k : Ctx) (write : Bool) {n : Nat} (hn : n < 16) : (t.regionSet k write).testBit n = true
    ↔ ∀ e, (t.ctx k).entry = some e → (t.rg (0x100 + 3 * e)).getLsbD (n + if write then 16 else 0) = true := by
  unfold Tile.regionSet
  cases hentry : (t.ctx k).entry with
  | none => simpa using (Nat.testBit_two_pow_sub_one 16 n).trans (decide_eq_true hn)
  | some e => cases write <;> simp [testBit_bits, hn, Tile.listWord, Nat.add_comm]

/-! ## The range of the trigger in hand -/

/-- Region tv[3:0] is declared, or the test is of bounds alone (R128). -/
def State.RangeDeclared (s : State) : Prop :=
  s.tv.getLsbD 5 = true ∨ isRoutine s.hand.ctx = false
    ∨ ∀ e, s.hc.entry = some e → (s.ht.rg (0x100 + 3 * e)).getLsbD (s.tv.toNat % 16 + if s.tv.getLsbD 4 then 16 else 0) = true

/-- The range lies inside region tv[3:0] (R122). -/
def State.RangeInside (s : State) : Prop :=
  let word := s.ht.rg (0x040 + s.tv.toNat % 16)
  let lo := (s.opo .agu).toNat % 2 ^ 32
  word.toNat % 2 ^ 32 ≤ lo ∧ lo + max ((s.opp .agu).toNat % 2 ^ 32) 1 - 1 < word.toNat % 2 ^ 32 + word.toNat / 2 ^ 32

theorem inRegion_iff_rangeInside (s : State) :
    s.ht.inRegion (bits s.tv 0 4) (bits (s.opo .agu) 0 32) (bits (s.opo .agu) 0 32 + max (bits (s.opp .agu) 0 32) 1 - 1) = true
      ↔ s.RangeInside := by
  simp only [inRegion_iff, bits_low]
  rfl

/-- The test is of the bounds alone, or of the declared set before the bounds. -/
theorem rangeDeclared_iff (s : State) : s.RangeDeclared
    ↔ (bitOf s.tv 5 || !isRoutine s.hand.ctx) = true
      ∨ (s.ht.regionSet s.hand.ctx (bitOf s.tv 4)).testBit (bits s.tv 0 4) = true := by
  rw [testBit_regionSet _ _ _ (bits_lt s.tv 0 4), Bool.or_eq_true, Bool.not_eq_true', bitOf_eq_getLsbD, bitOf_eq_getLsbD,
    bits_low, or_assoc]
  rfl

section Range

variable {s : State}

theorem rangeFail_of_inside (hdeclared : s.RangeDeclared) (hinside : s.RangeInside) : s.rangeFail = none := by
  rw [← inRegion_iff_rangeInside] at hinside
  rw [rangeDeclared_iff] at hdeclared
  unfold State.rangeFail Tile.regionFail
  dsimp only
  split
  · rfl
  · next hset => simp [hdeclared.resolve_left hset, hinside]

theorem rangeFail_of_undeclared (hdeclared : ¬s.RangeDeclared) : s.rangeFail = some 0x1 := by
  rw [rangeDeclared_iff, not_or] at hdeclared
  obtain ⟨hset, hbit⟩ := hdeclared
  unfold State.rangeFail Tile.regionFail
  dsimp only
  rw [if_neg hset, if_pos (by simpa using hbit)]

theorem rangeFail_of_outside (hdeclared : s.RangeDeclared) (hinside : ¬s.RangeInside) : s.rangeFail = some 0x2 := by
  rw [← inRegion_iff_rangeInside] at hinside
  rw [rangeDeclared_iff] at hdeclared
  unfold State.rangeFail Tile.regionFail
  dsimp only
  split
  · rfl
  · next hset => simp [hdeclared.resolve_left hset, hinside]

theorem rangeFail_eq_none_iff : s.rangeFail = none ↔ s.RangeDeclared ∧ s.RangeInside := by
  refine ⟨fun hnone => ?_, fun ⟨hdeclared, hinside⟩ => rangeFail_of_inside hdeclared hinside⟩
  by_contra hfails
  by_cases hdeclared : s.RangeDeclared
  · exact Option.some_ne_none _ ((rangeFail_of_outside hdeclared fun hinside => hfails ⟨hdeclared, hinside⟩).symm.trans hnone)
  · exact Option.some_ne_none _ ((rangeFail_of_undeclared hdeclared).symm.trans hnone)

end Range

/-! ## The operations -/

/-- An operation with a failing check traps (02 R34, 18 R410). -/
theorem operate_traps {s : State} {chk : Option Raise} {eff : State → State} {r : Raise} (h : s.discards = false)
    (hchk : chk = some r) : s.operate chk eff = .next (s.takeTrap s.hand.tile s.hand.ctx r) := by
  simp [State.operate, h, hchk]

/-- An address computed modulo 2^64 (R129). -/
theorem ofInt_scaled (a b : W64) (m : Nat) :
    Sys2Proof.ofInt 64 (uv a + sv b * 2 ^ m) = a + b * BitVec.ofNat 64 (2 ^ m) := by
  have hpow : (2 : Int) ^ m = ((2 ^ m : Nat) : Int) := by norm_cast
  simp only [ofInt_eq, uv, sv, hpow, BitVec.ofInt_add, BitVec.ofInt_mul, BitVec.ofInt_natCast, BitVec.ofInt_toInt,
    BitVec.ofNat_toNat, BitVec.setWidth_eq]

section Operations

variable {s : State} (h : s.discards = false)

include h

theorem rchk_yields : Yields64 .aguRchk s .agu 1 (w64 (b2n s.rangeFail.isNone)) :=
  yields64_of_operate (chk := none) (eff := fun s => s.result .agu (w64 (b2n s.rangeFail.isNone))) h rfl rfl rfl

theorem rassert_yields (hpass : s.rangeFail = none) : Yields64 .aguRassert s .agu 1 1#64 :=
  yields64_of_operate (chk := s.checkRassert) (eff := fun s => s.result .agu 1#64) h rfl
    (by rw [State.checkRassert, hpass]; rfl) rfl

theorem rassert_traps {d : Nat} (hfail : s.rangeFail = some d) :
    exec .aguRassert s = .next (s.takeTrap s.hand.tile s.hand.ctx (raiseAt .region s.hand.slot d)) := by
  have hexec : exec .aguRassert s = s.operate s.checkRassert fun s => s.result .agu 1#64 := rfl
  exact hexec.trans (operate_traps h (by rw [State.checkRassert, hfail]; rfl))

theorem rget_yields : Yields64 .aguRget s .agu 1 (s.ht.rg (0x040 + s.tv.toNat % 16)) :=
  yields64_of_operate (chk := none) (eff := fun s => s.result .agu (s.ht.rg (0x040 + bits s.tv 0 4))) h rfl rfl rfl

theorem lea_yields : Yields64 .aguLea s .agu 1 (s.opo .agu + s.tv * BitVec.ofNat 64 (2 ^ ((s.opp .agu).toNat % 8))) := by
  rw [← ofInt_scaled]
  exact yields64_of_operate (chk := none) (eff := fun s =>
    s.result .agu (Sys2Proof.ofInt 64 (uv (s.opo .agu) + sv s.tv * 2 ^ bits (s.opp .agu) 0 3))) h rfl rfl rfl

end Operations

/-- Settles O21: the range test fails with the detail of the first of its two tests that fails. -/
theorem regionOperations : Obligations.RegionOperations := by
  unfold Obligations.RegionOperations
  intro s h u k v m lo hi base bytes inside declared
  have hinside : inside ↔ s.RangeInside := Iff.rfl
  have hdeclared : declared ↔ s.RangeDeclared := by
    refine or_congr_right (or_congr_right ?_)
    cases s.hc.entry with
    | none => simp
    | some e => simp [m, u, v]
  rw [hinside, hdeclared]
  have hrchk := rchk_yields h
  refine ⟨⟨fun hpass => ?_, fun hfails => ?_⟩, fun hpass => rassert_yields h (rangeFail_eq_none_iff.mpr hpass),
    fun hundeclared => rassert_traps h (rangeFail_of_undeclared hundeclared),
    fun ⟨hdecl, hout⟩ => rassert_traps h (rangeFail_of_outside hdecl hout), rget_yields h, lea_yields h⟩
  · rw [rangeFail_eq_none_iff.mpr hpass] at hrchk
    exact hrchk
  · have hsome : s.rangeFail.isNone = false := by
      rw [Option.isNone_eq_false_iff, Option.isSome_iff_ne_none]
      exact fun hnone => hfails (rangeFail_eq_none_iff.mp hnone)
    rw [hsome] at hrchk
    exact hrchk

end Sys2Proof.Machine
end

section
/-!
PROOFS (07 R150, R154, R160). Results of `vfb` element by element: values packed from elements under the lane mask, and the
integer groups.
-/

namespace Sys2Proof.Machine

/-! ## Values under the lane mask -/

/-- What `vecInt` does with a value whose elements are known. -/
theorem vecInt_elements {i : Instr} {s : State} {so : Sock} {lat w : Nat} {v : V1024} {f : Nat → Nat} (h : s.discards = false)
    (hlat : 0 < lat) (hi : exec i s = s.vecInt so lat v)
    (hv : ∀ j < 1024 / w, bits v (w * j) w = if (s.mask so).testBit (w * j / 32) then f j % 2 ^ w else 0) :
    YieldsElements i s so lat w fun j => (f j, 0) :=
  ⟨v, 0, hv, by simp, vecOut_yields i s so lat (v, 0) h hlat hi⟩

theorem abWide_eq (s : State) (so : Sock) (x : Bool) :
    s.abWide so x = (if x then s.hand.tv else s.ht.opo so, if x then s.ht.opo so else s.hand.tv) := by
  cases x <;> rfl

theorem bits_maskedElems (msk w : Nat) (f : Nat → Nat) {j : Nat} (hj : j < 1024 / w) :
    bits (mapElems w (1024 / w) fun i => if excludedElem msk w i then 0 else f i) (w * j) w
      = if msk.testBit (w * j / 32) then f j % 2 ^ w else 0 := by
  rw [bits_mapElems w _ j _ (Nat.mul_div_le 1024 w) hj, excludedElem, excluded]
  cases msk.testBit (w * j / 32) <;> simp

/-- An integer operation lands any function that agrees with its own modulo the width (07 R160). -/
theorem vfbInt_elements {i : Instr} {s : State} {lat w : Nat} {x : Bool} {f g : Nat → Nat → Nat} (h : s.discards = false)
    (hlat : 0 < lat) (hi : exec i s = s.vfbInt lat w x f) (hfg : ∀ y < 2 ^ w, ∀ z < 2 ^ w, f y z % 2 ^ w = g y z % 2 ^ w) :
    YieldsElements i s .vfb lat w fun j => (g (bits (if x then s.hand.tv else s.ht.opo .vfb) (w * j) w)
      (bits (if x then s.ht.opo .vfb else s.hand.tv) (w * j) w), 0) := by
  rw [State.vfbInt, abWide_eq] at hi
  refine vecInt_elements h hlat hi fun j hj => ?_
  rw [intMap, bits_maskedElems _ _ _ hj, hfg _ (bits_lt _ _ _) _ (bits_lt _ _ _)]

/-! ## The integer groups -/

/-- The pattern of w bits of an integer, as a number. -/
def pattern (w : Nat) (x : Int) : Nat := (x % 2 ^ w).toNat

theorem toNat_ofInt (w : Nat) (x : Int) : (Sys2Proof.ofInt w x).toNat = pattern w x := by
  rw [ofInt_eq, BitVec.toNat_ofInt, pattern]
  norm_cast

theorem pattern_natCast (w n : Nat) : pattern w n = n % 2 ^ w := by
  rw [pattern]
  norm_cast

theorem pattern_mod (w : Nat) (x : Int) : pattern w x % 2 ^ w = pattern w x := by
  rw [← toNat_ofInt, Nat.mod_eq_of_lt (BitVec.isLt _)]

theorem pattern_sx (w : Nat) {v : Nat} (h : v < 2 ^ w) : pattern w (sx w v) = v := by
  rw [← toNat_ofInt, ofInt_eq, sx_eq_toInt, BitVec.ofInt_toInt, BitVec.toNat_ofNat, Nat.mod_eq_of_lt h]

theorem iSub_mod (w y : Nat) {z : Nat} (hz : z < 2 ^ w) : iSub w y z % 2 ^ w = pattern w (y - z) % 2 ^ w := by
  have hcast : ((y + 2 ^ w - z : Nat) : Int) = y - z + 2 ^ w := by
    rw [Nat.cast_sub (by omega)]
    push_cast
    ring
  rw [pattern_mod, iSub, ← pattern_natCast, hcast, pattern, Int.add_emod_right, pattern]

theorem iAddS_eq (w y z : Nat) :
    iAddS w y z = pattern w (min (max (sx w y + sx w z) (-2 ^ (w - 1))) (2 ^ (w - 1) - 1)) :=
  toNat_ofInt _ _

theorem iMinS_eq (w : Nat) {y z : Nat} (hy : y < 2 ^ w) (hz : z < 2 ^ w) : iMinS w y z = pattern w (min (sx w y) (sx w z)) := by
  rw [iMinS, min_def, apply_ite (pattern w), pattern_sx w hy, pattern_sx w hz]

theorem iMaxS_eq (w : Nat) {y z : Nat} (hy : y < 2 ^ w) (hz : z < 2 ^ w) : iMaxS w y z = pattern w (max (sx w y) (sx w z)) := by
  rw [iMaxS, max_def, apply_ite (pattern w), pattern_sx w hy, pattern_sx w hz]

/-- Settles O8: each operation computes each element by itself, and agrees with the exact result modulo the width. -/
theorem integerElements : Obligations.IntegerElements := by
  unfold Obligations.IntegerElements
  intro s w x h b o v by' pattern'
  exact ⟨vfbInt_elements (x := false) h (by decide) rfl fun _ _ _ _ => rfl,
    vfbInt_elements h (by decide) rfl fun y _ _ hz => iSub_mod b y hz,
    vfbInt_elements (x := false) h (by decide) rfl fun _ _ _ _ => rfl,
    vfbInt_elements (x := false) h (by decide) rfl fun y _ z _ => congrArg (· % 2 ^ b) (iAddS_eq b y z),
    vfbInt_elements (x := false) h (by decide) rfl fun _ hy _ hz => congrArg (· % 2 ^ b) (iMinS_eq b hy hz),
    vfbInt_elements (x := false) h (by decide) rfl fun _ hy _ hz => congrArg (· % 2 ^ b) (iMaxS_eq b hy hz),
    vfbInt_elements (x := false) h (by decide) rfl fun _ _ _ _ => rfl,
    vfbInt_elements (x := false) h (by decide) rfl fun _ _ _ _ => rfl⟩

end Sys2Proof.Machine
end

section
/-!
PROOFS (07 R161, R162). Lane operations of `vfb`: bitwise work, shifts and compares of lanes, sign bits gathered into a mask, and
movements of lanes.
-/

namespace Sys2Proof.Machine

/-! ## Fields of bitwise results -/

theorem bits_and {n : Nat} (x y : BitVec n) (lo w : Nat) : bits (x &&& y) lo w = bits x lo w &&& bits y lo w := by
  refine Nat.eq_of_testBit_eq fun i => ?_
  simp only [testBit_bits, Nat.testBit_and, BitVec.getLsbD_and]
  cases decide (i < w) <;> simp

theorem bits_or {n : Nat} (x y : BitVec n) (lo w : Nat) : bits (x ||| y) lo w = bits x lo w ||| bits y lo w := by
  refine Nat.eq_of_testBit_eq fun i => ?_
  simp only [testBit_bits, Nat.testBit_or, BitVec.getLsbD_or, Bool.and_or_distrib_left]

theorem bits_xor {n : Nat} (x y : BitVec n) (lo w : Nat) : bits (x ^^^ y) lo w = bits x lo w ^^^ bits y lo w := by
  refine Nat.eq_of_testBit_eq fun i => ?_
  simp only [testBit_bits, Nat.testBit_xor, BitVec.getLsbD_xor, Bool.and_xor_distrib_left]

theorem bits_not {n : Nat} (x : BitVec n) {lo w : Nat} (h : lo + w ≤ n) : bits (~~~x) lo w = 2 ^ w - 1 - bits x lo w := by
  refine Nat.eq_of_testBit_eq fun i => ?_
  rw [Nat.sub_sub, Nat.add_comm 1, Nat.testBit_two_pow_sub_succ (bits_lt x lo w), testBit_bits, testBit_bits, BitVec.getLsbD_not]
  by_cases hi : i < w
  · simp [hi, show lo + i < n by omega]
  · simp [hi]

/-! ## Fields within fields -/

/-- A field of two parts. -/
theorem bits_add_width {n : Nat} (x : BitVec n) (lo a b : Nat) : bits x lo (a + b) = bits x lo a + 2 ^ a * bits x (lo + a) b := by
  rw [bits_eq_div, bits_eq_div, bits_eq_div, Nat.pow_add 2 lo, ← Nat.div_div_eq_div_mul, Nat.pow_add, Nat.mod_mul]

/-- A field inside a field. -/
theorem bits_within {n : Nat} (x : BitVec n) (lo r : Nat) {w v : Nat} (h : r + w ≤ v) :
    bits x (lo + r) w = bits x lo v / 2 ^ r % 2 ^ w := by
  refine Nat.eq_of_testBit_eq fun i => ?_
  rw [Nat.testBit_mod_two_pow, Nat.testBit_div_two_pow, testBit_bits, testBit_bits, Nat.add_comm i r, Nat.add_assoc]
  by_cases hi : i < w
  · simp [hi, show r + i < v by omega]
  · simp [hi]

/-! ## Results of lanes -/

/-- What a bitwise operation or a movement does with a value whose lanes are known. -/
theorem vfbBits_elements {i : Instr} {s : State} {v : V1024} {f : Nat → Nat} (h : s.discards = false)
    (hi : exec i s = s.vfbBits v) (hv : ∀ j < 32, bits v (32 * j) 32 = f j % 2 ^ 32) :
    YieldsElements i s .vfb 2 32 fun j => (f j, 0) := by
  refine vecInt_elements h (by decide) hi fun j hj => ?_
  have hj : j < 32 := hj
  rw [maskLanes, bits_mapElems 32 32 j _ (by decide) hj, hv j hj, excluded, Nat.mul_div_cancel_left j (by decide)]
  cases (s.mask .vfb).testBit j <;> simp

theorem bits_mod_width {n : Nat} (x : BitVec n) (lo w : Nat) : bits x lo w % 2 ^ w = bits x lo w :=
  Nat.mod_eq_of_lt (bits_lt x lo w)

/-- What a movement does with lanes that a function gives. -/
theorem mapElems_elements {i : Instr} {s : State} {f : Nat → Nat} (h : s.discards = false)
    (hi : exec i s = s.vfbBits (mapElems 32 32 f)) : YieldsElements i s .vfb 2 32 fun j => (f j, 0) :=
  vfbBits_elements h hi fun j hj => bits_mapElems 32 32 j f (by decide) hj

/-! ## Shifts and compares -/

theorem lShl_mod (y k : Nat) : lShl y k % 2 ^ 32 = y * 2 ^ k % 2 ^ 32 := by
  unfold lShl
  split
  · next hk =>
    have hdvd : 2 ^ 32 ∣ y * 2 ^ k := Dvd.dvd.mul_left (Nat.pow_dvd_pow 2 hk) _
    exact (Nat.mod_eq_zero_of_dvd hdvd).symm
  · rfl

theorem lShrN_eq {y : Nat} (hy : y < 2 ^ 32) (k : Nat) : lShrN y k = y / 2 ^ k := by
  unfold lShrN
  split
  · next hk => exact (Nat.div_eq_of_lt (lt_of_lt_of_le hy (Nat.pow_le_pow_right Nat.two_pos hk))).symm
  · rfl

/-- A shift of a signed lane by 31 or more leaves its sign alone. -/
theorem sx_div_two_pow (y : Nat) {k : Nat} (hk : 31 ≤ k) : sx 32 y / 2 ^ k = if sx 32 y < 0 then -1 else 0 := by
  have hpow : (2 : Int) ^ 31 ≤ 2 ^ k := pow_le_pow_right₀ (by decide) hk
  have hlo := (BitVec.ofNat 32 y).le_toInt
  have hhi := (BitVec.ofNat 32 y).toInt_lt
  rw [← sx_eq_toInt] at hlo hhi
  split
  · next hneg => exact Int.ediv_eq_neg_one_of_neg_of_le hneg (by omega)
  · next hpos => exact Int.ediv_eq_zero_of_lt (by omega) (by omega)

theorem lShrS_eq (y k : Nat) : lShrS y k = pattern 32 (sx 32 y / 2 ^ k) := by
  rw [lShrS, toNat_ofInt]
  by_cases hk : k ≤ 31
  · rw [min_eq_left hk]
  · rw [min_eq_right (by omega), sx_div_two_pow y (Nat.le_refl 31), sx_div_two_pow y (k := k) (by omega)]

/-! ## Sign bits -/

theorem getLsbD_kpackV (msk : Nat) (v : V1024) {j : Nat} (hj : j < 1024) :
    (kpackV msk v).getLsbD j = (decide (j < 32) && msk.testBit j && v.getLsbD (32 * j + 31)) := by
  rw [kpackV, mapElems, packV, BitVec.getLsbD_ofNat, testBit_packNat_one]
  by_cases h : j < 32
  · have hbit : bits v (32 * j + 31) 1 % 2 = 1 ↔ v.getLsbD (32 * j + 31) = true := by
      rw [← bitOf_eq_getLsbD, bitOf, beq_iff_eq, ← bits_mod_width, Nat.pow_one, Nat.mod_mod]
    cases hm : msk.testBit j
    · simp [h, hj, hm, excluded]
    · simp [h, hj, hm, excluded, hbit]
  · simp [h]

/-- Where the sign bits land, with a flag word of 0. -/
theorem kpack_yields {s : State} (h : s.discards = false) :
    ∃ r : V1024, (∀ j < 1024, r.getLsbD j = (decide (j < 32) && (s.mask .vfb).testBit j && s.hand.tv.getLsbD (32 * j + 31)))
      ∧ Yields .kpack s .vfb 2 [(.r, r), (.f, 0#1024)] 0 :=
  ⟨_, fun _ hj => getLsbD_kpackV (s.mask .vfb) s.hand.tv hj,
    vecOut_yields _ s .vfb 2 (kpackV (s.mask .vfb) s.hand.tv, 0) h (by decide) rfl⟩

/-! ## Broadcasts -/

theorem spread_lane (v : W64) : spread 0 v = mapElems 32 32 fun _ => bits v 0 32 := rfl

theorem spread_pair (v : W64) : spread 1 v = mapElems 64 16 fun _ => v.toNat := rfl

theorem spread_half (v : W64) : spread 2 v = mapElems 16 64 fun _ => bits v 0 16 := rfl

theorem spread_byte (v : W64) (n : Nat) : spread (n + 3) v = mapElems 8 128 fun _ => bits v 0 8 := rfl

theorem bits_spread_lane (v : W64) {j : Nat} (hj : j < 32) : bits (spread 0 v) (32 * j) 32 = bits v 0 32 % 2 ^ 32 := by
  rw [spread_lane, bits_mapElems 32 32 j _ (by decide) hj]

/-- A scalar of 64 bits fills a pair of lanes. -/
theorem bits_spread_pair (v : W64) {j : Nat} (hj : j < 32) :
    bits (spread 1 v) (32 * j) 32 = bits v (32 * (j % 2)) 32 % 2 ^ 32 := by
  have hlo : 32 * j = 64 * (j / 2) + 32 * (j % 2) := by omega
  rw [hlo, bits_within _ _ _ (show 32 * (j % 2) + 32 ≤ 64 by omega), spread_pair, bits_mapElems 64 16 _ _ (by decide) (by omega),
    Nat.mod_eq_of_lt v.isLt, bits_mod_width, bits_eq_div]

theorem bits_spread_half (v : W64) {j : Nat} (hj : j < 32) :
    bits (spread 2 v) (32 * j) 32 = bits v 0 16 * (1 + 2 ^ 16) % 2 ^ 32 := by
  have hhalf {i : Nat} (hi : i < 64) : bits (spread 2 v) (16 * i) 16 = bits v 0 16 := by
    rw [spread_half, bits_mapElems 16 64 i _ (by decide) hi, bits_mod_width]
  have hlt := bits_lt v 0 16
  rw [bits_add_width _ _ 16 16, show 32 * j = 16 * (2 * j) by omega, show 16 * (2 * j) + 16 = 16 * (2 * j + 1) by omega,
    hhalf (by omega), hhalf (by omega)]
  omega

theorem bits_spread_byte (v : W64) (n : Nat) {j : Nat} (hj : j < 32) :
    bits (spread (n + 3) v) (32 * j) 32 = bits v 0 8 * (1 + 2 ^ 8 + 2 ^ 16 + 2 ^ 24) % 2 ^ 32 := by
  have hbyte {i : Nat} (hi : i < 128) : bits (spread (n + 3) v) (8 * i) 8 = bits v 0 8 := by
    rw [spread_byte, bits_mapElems 8 128 i _ (by decide) hi, bits_mod_width]
  have hlt := bits_lt v 0 8
  rw [bits_add_width _ _ 8 24, bits_add_width _ _ 8 16, bits_add_width _ _ 8 8, show 32 * j = 8 * (4 * j) by omega,
    show 8 * (4 * j) + 8 = 8 * (4 * j + 1) by omega, show 8 * (4 * j + 1) + 8 = 8 * (4 * j + 2) by omega,
    show 8 * (4 * j + 2) + 8 = 8 * (4 * j + 3) by omega, hbyte (by omega), hbyte (by omega), hbyte (by omega), hbyte (by omega)]
  omega

/-- The scalar register of a broadcast is 0 where the context has none. -/
theorem sbcastReg_eq (s : State) :
    s.sbcastReg = if (s.hand.ctx = .k2 ∨ s.hand.ctx = .k3) ∧ 16 ≤ s.hand.tv.toNat % 64 then 0#64
      else spGet 0#64 s.hc.regs.s (s.hand.tv.toNat % 64) := by
  rw [State.sbcastReg, bits_low]
  cases s.hand.ctx <;> simp [isRoutine]

/-- Settles O9: each result is read lane by lane, a bitwise one by its bits, a broadcast by the elements of its lanes. -/
theorem laneOperations : Obligations.LaneOperations := by
  unfold Obligations.LaneOperations
  intro s x h o p v a c at' lanes holds pair k n z
  have hholds (less : Bool) (y w : Nat) : holds less y w = predicate (bits p 0 3) false less (decide (y = w)) := by
    rw [bits_low]
    simp only [holds]
    match p.toNat % 8 with
    | 0 | 1 | 2 | 3 | 4 | 5 | 6 | n + 7 => simp [predicate]
  have hcompare (less : Bool) (y w : Nat) : (if predicate (bits p 0 3) false less (decide (y = w)) then 2 ^ 32 - 1 else 0) % 2 ^ 32
      = (if holds less y w then 2 ^ 32 - 1 else 0) % 2 ^ 32 := by
    rw [hholds]
  refine ⟨vfbBits_elements h rfl fun j _ => ?_, vfbBits_elements h rfl fun j _ => ?_, vfbBits_elements h rfl fun j _ => ?_,
    vfbBits_elements (v := (p &&& a) ||| (~~~p &&& c)) h (by cases x <;> rfl) fun j _ => ?_, ?_, ?_, ?_, ?_, ?_,
    kpack_yields h, vfbBits_elements h rfl fun j hj => ?_, mapElems_elements h rfl, vfbBits_elements h rfl fun j hj => ?_,
    mapElems_elements h (by cases x <;> rfl), mapElems_elements h (by cases x <;> rfl)⟩
  · rw [← bits_and, bits_mod_width]
  · rw [← bits_or, bits_mod_width]
  · rw [← bits_xor, bits_mod_width]
  · rw [← bits_not p (by omega), ← bits_and, ← bits_and, ← bits_or, bits_mod_width]
  · exact vfbInt_elements h (by decide) rfl fun y _ k _ => lShl_mod y k
  · exact vfbInt_elements (g := fun y k => y / 2 ^ k) h (by decide) rfl fun y hy k _ => congrArg (· % 2 ^ 32) (lShrN_eq hy k)
  · exact vfbInt_elements (g := fun y k => pattern 32 (sx 32 y / 2 ^ k)) h (by decide) rfl
      fun y _ k _ => congrArg (· % 2 ^ 32) (lShrS_eq y k)
  · exact vfbInt_elements (g := fun y w => if holds (decide (sx 32 y < sx 32 w)) y w then 2 ^ 32 - 1 else 0) h (by decide) rfl
      fun y _ w _ => hcompare _ y w
  · exact vfbInt_elements (g := fun y w => if holds (decide (y < w)) y w then 2 ^ 32 - 1 else 0) h (by decide) rfl
      fun y _ w _ => hcompare _ y w
  · have hz : s.sbcastReg = z := sbcastReg_eq s
    have hwidth : bits s.hand.tv 8 2 = v.toNat / 2 ^ 8 % 4 := bits_eq_div _ _ _
    rw [hz, hwidth]
    match v.toNat / 2 ^ 8 % 4 with
    | 0 => exact bits_spread_lane z hj
    | 1 => exact bits_spread_pair z hj
    | 2 => exact bits_spread_half z hj
    | m + 3 => exact bits_spread_byte z m hj
  · have hlane : bits v (32 * j) 5 = at' v j % 32 := by
      rw [← Nat.add_zero (32 * j), bits_within v (32 * j) 0 (show 0 + 5 ≤ 32 by decide), Nat.pow_zero, Nat.div_one]
      rfl
    rw [permV, bits_mapElems 32 32 j _ (by decide) hj, hlane]

end Sys2Proof.Machine
end

section
/-!
PROOFS (07 R156, R157). Exact values as real numbers: the sums, products and fused forms of IEEE 754, and the order that `min`,
`max` and `cmp` go by.
-/

namespace Sys2Proof.Machine

/-! ## Finite values -/

/-- A magnitude with a sign. -/
def signed (neg : Bool) (v : ℝ) : ℝ := if neg then -v else v

theorem signed_eq_zero_iff {neg : Bool} {v : ℝ} : signed neg v = 0 ↔ v = 0 := by
  cases neg <;> simp [signed]

@[simp] theorem finite_fin_iff (n neg : Bool) (m : Nat) (e : Int) (v : ℝ) :
    Finite (.fin n m e) neg v ↔ n = neg ∧ (m : ℝ) * 2 ^ e = v := by
  constructor
  · rintro ⟨m', e', h, hv⟩
    cases h
    exact ⟨rfl, hv⟩
  · rintro ⟨rfl, hv⟩
    exact ⟨m, e, rfl, hv⟩

@[simp] theorem not_finite_nan (neg : Bool) (v : ℝ) : ¬Finite .nan neg v := fun ⟨_, _, h, _⟩ => nomatch h

@[simp] theorem not_finite_inf (n neg : Bool) (v : ℝ) : ¬Finite (.inf n) neg v := fun ⟨_, _, h, _⟩ => nomatch h

@[simp] theorem counts_fin_iff (n : Bool) (m : Nat) (e : Int) (z : ℝ) :
    Counts (.fin n m e) z ↔ z = signed n (m * 2 ^ e) := by
  simp [Counts, signed]

@[simp] theorem not_counts_nan (z : ℝ) : ¬Counts .nan z := fun ⟨_, _, h, _⟩ => not_finite_nan _ _ h

@[simp] theorem not_counts_inf (n : Bool) (z : ℝ) : ¬Counts (.inf n) z := fun ⟨_, _, h, _⟩ => not_finite_inf _ _ _ h

theorem mul_zpow_eq_zero_iff {m : Nat} {e : Int} : (m : ℝ) * 2 ^ e = 0 ↔ m = 0 := by
  rw [mul_eq_zero, Nat.cast_eq_zero, or_iff_left (zpow_ne_zero e two_ne_zero)]

theorem mul_zpow_pos_iff {m : Nat} {e : Int} : (0 : ℝ) < m * 2 ^ e ↔ 0 < m := by
  rw [mul_pos_iff_of_pos_right (zpow_pos two_pos e), Nat.cast_pos]

/-- A number of units in smaller units. -/
theorem natCast_shift (m : Nat) {e q : Int} (h : q ≤ e) : ((m * 2 ^ (e - q).toNat : Nat) : ℝ) * 2 ^ q = m * 2 ^ e := by
  have hexp : (2 : ℝ) ^ (e - q).toNat = 2 ^ (e - q) := by
    rw [← zpow_natCast, Int.toNat_of_nonneg (by omega)]
  rw [Nat.cast_mul, Nat.cast_pow, Nat.cast_ofNat, hexp, mul_assoc, ← zpow_add₀ two_ne_zero, sub_add_cancel]

theorem scaled_mul_zpow (n : Bool) (m : Nat) {e q : Int} (h : q ≤ e) : (scaled n m e q : ℝ) * 2 ^ q = signed n (m * 2 ^ e) := by
  rw [← natCast_shift m h]
  cases n <;> simp [scaled, signed]

/-- The magnitude of an integer number of units with its sign. -/
theorem signed_natAbs (i : Int) (q : Int) : signed (decide (i < 0)) ((i.natAbs : ℝ) * 2 ^ q) = i * 2 ^ q := by
  have habs : ((i.natAbs : Int) : ℝ) = ((|i| : Int) : ℝ) := by rw [Int.natCast_natAbs]
  rw [Int.cast_natCast] at habs
  rw [habs]
  by_cases h : i < 0
  · simp [signed, h, abs_of_neg h]
  · simp [signed, h, abs_of_nonneg (not_lt.mp h)]

/-! ## Sums, products and signs -/

theorem neg_turned (a : Ex) : Turned a a.neg := by
  cases a <;> simp [Turned, Ex.neg]

/-- The sum of two finite values in units of the lesser exponent. -/
theorem add_fin (n1 n2 rdn : Bool) (m1 m2 : Nat) (e1 e2 : Int) :
    ∃ (n : Bool) (m : Nat), (Ex.fin n1 m1 e1).add (.fin n2 m2 e2) rdn = (.fin n m (min e1 e2), 0)
      ∧ signed n (m * 2 ^ min e1 e2) = signed n1 (m1 * 2 ^ e1) + signed n2 (m2 * 2 ^ e2)
      ∧ (m = 0 → n = if m1 = 0 && m2 = 0 && n1 = n2 then n1 else rdn) := by
  have hsum : ((scaled n1 m1 e1 (min e1 e2) + scaled n2 m2 e2 (min e1 e2) : Int) : ℝ) * 2 ^ min e1 e2
      = signed n1 (m1 * 2 ^ e1) + signed n2 (m2 * 2 ^ e2) := by
    rw [Int.cast_add, add_mul, scaled_mul_zpow n1 m1 (min_le_left e1 e2), scaled_mul_zpow n2 m2 (min_le_right e1 e2)]
  simp only [Ex.add]
  split
  · next hzero =>
    refine ⟨_, _, rfl, ?_, fun _ => rfl⟩
    rw [← hsum, hzero, signed_eq_zero_iff.mpr] <;> simp
  · next hne => exact ⟨_, _, rfl, (signed_natAbs _ _).trans hsum, fun h => absurd (Int.natAbs_eq_zero.mp h) hne⟩

theorem add_exactSum (rdn : Bool) (a c : Ex) : ExactSum rdn a c (a.add c rdn).1 (a.add c rdn).2 := by
  match a, c with
  | .nan, c => simp [ExactSum, Ex.add]
  | .inf x, .nan | .fin _ _ _, .nan => simp [ExactSum, Ex.add]
  | .inf x, .inf y => cases x <;> cases y <;> simp [ExactSum, Ex.add, flINV]
  | .inf x, .fin n m e | .fin n m e, .inf x => simp [ExactSum, Ex.add]
  | .fin n1 m1 e1, .fin n2 m2 e2 =>
    obtain ⟨n, m, hadd, hvalue, hsign⟩ := add_fin n1 n2 rdn m1 m2 e1 e2
    rw [hadd]
    refine ⟨by simp, by simp, by simp, fun a b ha hb => ?_⟩
    rw [counts_fin_iff] at ha hb
    rw [← ha, ← hb] at hvalue
    refine ⟨rfl, (counts_fin_iff _ _ _ _).mpr hvalue.symm, fun zero hzero hab => ?_⟩
    rw [hab, signed_eq_zero_iff] at hvalue
    rw [finite_fin_iff]
    refine ⟨?_, hvalue⟩
    rw [hsign (mul_zpow_eq_zero_iff.mp hvalue), Bool.eq_iff_iff, hzero]
    simp only [finite_fin_iff, mul_zpow_eq_zero_iff]
    by_cases h1 : m1 = 0
    · by_cases h2 : m2 = 0
      · cases n1 <;> cases n2 <;> simp [h1, h2]
      · simp [h2]
    · simp [h1]

theorem mul_exactProduct (a c : Ex) : ExactProduct a c (a.mul c).1 (a.mul c).2 := by
  match a, c with
  | .nan, c => simp [ExactProduct, Ex.mul]
  | .inf x, .nan | .fin _ _ _, .nan => simp [ExactProduct, Ex.mul]
  | .inf x, .inf y => cases x <;> cases y <;> simp [ExactProduct, Ex.mul]
  | .inf x, .fin n m e | .fin n m e, .inf x =>
    by_cases hm : m = 0
    · simp [ExactProduct, Ex.mul, flINV, hm]
    · cases x <;> cases n <;> simp [ExactProduct, Ex.mul, hm, zpow_ne_zero]
  | .fin n1 m1 e1, .fin n2 m2 e2 =>
    refine ⟨by simp, by simp, by simp, fun n v g w hv hw => ?_⟩
    rw [finite_fin_iff] at hv hw
    obtain ⟨rfl, rfl⟩ := hv
    obtain ⟨rfl, rfl⟩ := hw
    rw [Ex.mul, finite_fin_iff, zpow_add₀ two_ne_zero]
    refine ⟨⟨rfl, ?_⟩, rfl⟩
    push_cast
    ring

/-- A product turns its sign with that of its first factor, and sets the same flags. -/
theorem neg_mul_eq (a c : Ex) : a.neg.mul c = ((a.mul c).1.neg, (a.mul c).2) := by
  match a, c with
  | .nan, c => rfl
  | .inf x, .nan | .fin _ _ _, .nan => rfl
  | .inf x, .inf y => cases x <;> cases y <;> rfl
  | .inf x, .fin n m e | .fin n m e, .inf x =>
    by_cases hm : m = 0
    · simp [Ex.mul, Ex.neg, hm]
    · cases x <;> cases n <;> simp [Ex.mul, Ex.neg, hm]
  | .fin n1 m1 e1, .fin n2 m2 e2 => cases n1 <;> cases n2 <;> rfl

theorem neg_eq_nan_iff (a : Ex) : a.neg = .nan ↔ a = .nan := by
  cases a <;> simp [Ex.neg]

theorem fma_nan (a b : Ex) (rdn : Bool) : a.fma b .nan rdn = (.nan, 0) := rfl

theorem fma_of_ne_nan (a b : Ex) {c : Ex} (rdn : Bool) (hc : c ≠ .nan) :
    a.fma b c rdn = (((a.mul b).1.add c rdn).1, (a.mul b).2 ||| ((a.mul b).1.add c rdn).2) := by
  cases c with
  | nan => exact absurd rfl hc
  | inf n => rfl
  | fin n m e => rfl

/-! ## Order -/

/-- The place of a value among the numbers and infinities. -/
noncomputable def Ex.place (a : Ex) : EReal :=
  match a with
  | .nan => 0
  | .inf n => if n then ⊥ else ⊤
  | .fin n m e => (signed n (m * 2 ^ e) : ℝ)

theorem valueIs_iff (a : Ex) (x : EReal) : ValueIs a x ↔ a ≠ .nan ∧ x = a.place := by
  match a with
  | .nan => simp [ValueIs]
  | .inf false | .inf true => simp [ValueIs, Ex.place]
  | .fin n m e => simp [ValueIs, Ex.place]

theorem lt_iff_place {a c : Ex} (ha : a ≠ .nan) (hc : c ≠ .nan) : a.lt c = true ↔ a.place < c.place := by
  match a, c with
  | .inf x, .inf y => cases x <;> cases y <;> simp [Ex.lt, Ex.place]
  | .inf x, .fin n m e => cases x <;> simp [Ex.lt, Ex.place, EReal.bot_lt_coe]
  | .fin n m e, .inf x => cases x <;> simp [Ex.lt, Ex.place, EReal.coe_lt_top]
  | .fin n1 m1 e1, .fin n2 m2 e2 =>
    rw [Ex.place, Ex.place, EReal.coe_lt_coe_iff, ← scaled_mul_zpow n1 m1 (min_le_left e1 e2),
      ← scaled_mul_zpow n2 m2 (min_le_right e1 e2), mul_lt_mul_iff_left₀ (zpow_pos two_pos _), Int.cast_lt]
    exact decide_eq_true_iff

end Sys2Proof.Machine
end

section
/-!
PROOFS (06 R131, R132, R136 to R139). Codes of the formats with a fraction and an exponent field: the value of a code as a number
of least units, rounding, and `EncodeResult`.
-/

namespace Sys2Proof.Machine

/-! ## The value of a code -/

/-- A code without sign, in units of the least subnormal. -/
def codeUnits (mb c : Nat) : Nat := if c / 2 ^ mb = 0 then c % 2 ^ mb else (2 ^ mb + c % 2 ^ mb) * 2 ^ (c / 2 ^ mb - 1)

/-- A significand with an exponent field of d + 1, or a subnormal, is worth so many units; a significand that a rounding made too
great by one bit is the code of the next exponent. -/
theorem codeUnits_add {mb k d : Nat} (hlo : d = 0 ∨ 2 ^ mb ≤ k) (hhi : k ≤ 2 ^ (mb + 1)) :
    codeUnits mb (k + d * 2 ^ mb) = k * 2 ^ d := by
  have hp : 0 < 2 ^ mb := Nat.two_pow_pos mb
  rw [Nat.pow_succ] at hhi
  rw [codeUnits, Nat.add_mul_div_right _ _ hp, Nat.add_mul_mod_self_right]
  rcases Nat.lt_trichotomy k (2 * 2 ^ mb) with hk | hk | hk
  · by_cases hsub : k < 2 ^ mb
    · obtain rfl : d = 0 := by omega
      simp [Nat.div_eq_of_lt hsub, Nat.mod_eq_of_lt hsub]
    · have hdiv : k / 2 ^ mb = 1 := Nat.div_eq_of_lt_le (by omega) (by omega)
      have hmod := Nat.div_add_mod k (2 ^ mb)
      rw [hdiv, Nat.mul_one] at hmod
      rw [hdiv, if_neg (by omega), hmod, Nat.add_sub_cancel_left]
  · rw [hk, Nat.mul_div_cancel _ hp, Nat.mul_mod_left, if_neg (by omega), show 2 + d - 1 = d + 1 by omega, Nat.pow_succ]
    ring
  · omega

theorem codeUnits_strictMono (mb : Nat) : StrictMono (codeUnits mb) := by
  refine strictMono_nat_of_lt_succ fun c => ?_
  have hp : 0 < 2 ^ mb := Nat.two_pow_pos mb
  have hc := Nat.div_add_mod c (2 ^ mb)
  have hmod := Nat.mod_lt c hp
  have hsucc : 2 ^ (mb + 1) = 2 * 2 ^ mb := by ring
  obtain ⟨k, d, rfl, hlo, hhi⟩ : ∃ k d, c = k + d * 2 ^ mb ∧ (d = 0 ∨ 2 ^ mb ≤ k) ∧ k < 2 ^ (mb + 1) := by
    match hd : c / 2 ^ mb with
    | 0 =>
      rw [hd] at hc
      exact ⟨c % 2 ^ mb, 0, by omega, .inl rfl, by omega⟩
    | d + 1 =>
      rw [hd, Nat.mul_succ, Nat.mul_comm] at hc
      exact ⟨2 ^ mb + c % 2 ^ mb, d, by omega, .inr (by omega), by omega⟩
  have hnext : k + d * 2 ^ mb + 1 = k + 1 + d * 2 ^ mb := by omega
  rw [hnext, codeUnits_add hlo (by omega), codeUnits_add (by omega) (by omega)]
  exact Nat.mul_lt_mul_of_pos_right (Nat.lt_succ_self k) (Nat.two_pow_pos d)

/-! ## Formats -/

theorem formatRow_eq (f : Fmt) : ∃ bias, formatRow f = (f.width, f.mbits, bias, f.emin) := by
  cases f <;> exact ⟨_, rfl⟩

theorem formatRow_width (f : Fmt) : (formatRow f).1 = f.width := by cases f <;> rfl

theorem formatRow_emin (f : Fmt) : (formatRow f).2.2.2 = f.emin := by cases f <;> rfl

theorem width_pos (f : Fmt) : 0 < f.width := by cases f <;> decide

theorem maxCode_lt (f : Fmt) : f.maxCode < 2 ^ (f.width - 1) := by cases f <;> decide

theorem infCode_lt {f : Fmt} (h : f.hasInf = true) : f.infCode < 2 ^ (f.width - 1) := by
  revert h
  cases f <;> decide

theorem nanCode_lt (f : Fmt) : f.nanCode < 2 ^ f.width := by cases f <;> decide

theorem formatNaN_eq (f : Fmt) : formatNaN f = if f.hasNaN then some f.nanCode else none := by cases f <;> rfl

/-- The greatest finite magnitude is the value of its code. -/
theorem formatHigh_eq {f : Fmt} (hf : f ≠ .mi8) (neg : Bool) :
    (formatHigh f neg : ℝ) = codeUnits f.mbits f.maxCode * 2 ^ (f.emin - f.mbits) := by
  cases f with
  | mi8 => exact absurd rfl hf
  | _ => norm_num [formatHigh, codeUnits, Fmt.mbits, Fmt.maxCode, Fmt.emin]

theorem two_pow_width (f : Fmt) : 2 ^ f.width = 2 ^ (f.width - 1) + 2 ^ (f.width - 1) := by
  cases f <;> rfl

theorem signBit_add_lt (f : Fmt) (neg : Bool) {mag : Nat} (h : mag < 2 ^ (f.width - 1)) : f.signBit neg + mag < 2 ^ f.width := by
  rw [two_pow_width]
  cases neg
  · simp [Fmt.signBit]
    omega
  · simp [Fmt.signBit]
    omega

/-! ## Decoding -/

/-- `Decode` of a sign and a magnitude (06 R131). -/
theorem decodeF_add {f : Fmt} (hf : f ≠ .mi8) (neg : Bool) {mag : Nat} (h : mag < 2 ^ (f.width - 1)) :
    decodeF f (f.signBit neg + mag)
      = if f.hasInf && mag = f.infCode then .inf neg
        else if f.hasNaN && f.maxCode < mag then .nan
        else if mag / 2 ^ f.mbits = 0 then .fin neg (mag % 2 ^ f.mbits) (f.emin - f.mbits)
        else .fin neg (2 ^ f.mbits + mag % 2 ^ f.mbits) (f.emin - f.mbits + (mag / 2 ^ f.mbits - 1 : Nat)) := by
  have hsign : (f.signBit neg + mag).testBit (f.width - 1) = neg := by
    cases neg
    · simp [Fmt.signBit, Nat.testBit_lt_two_pow h]
    · simp [Fmt.signBit, Nat.testBit_two_pow_add_eq, Nat.testBit_lt_two_pow h]
  have hmag : (f.signBit neg + mag) % 2 ^ (f.width - 1) = mag := by
    cases neg <;> simp [Fmt.signBit, Nat.mod_eq_of_lt h]
  rw [decodeF, if_neg hf, hsign, hmag]

theorem decodeF_inf {f : Fmt} (h : f.hasInf = true) (neg : Bool) : decodeF f (f.signBit neg + f.infCode) = .inf neg := by
  rw [decodeF_add (by rintro rfl; exact absurd h (by decide)) neg (infCode_lt h)]
  simp [h]

/-- The value of a code up to the greatest finite one. -/
theorem decodeF_finite {f : Fmt} (hf : f ≠ .mi8) (neg : Bool) {mag : Nat} (h : mag ≤ f.maxCode) :
    Finite (decodeF f (f.signBit neg + mag)) neg (codeUnits f.mbits mag * 2 ^ (f.emin - f.mbits)) := by
  have hinf : mag ≠ f.infCode := by
    rw [Fmt.infCode]
    omega
  rw [decodeF_add hf neg (lt_of_le_of_lt h (maxCode_lt f)), codeUnits]
  simp only [hinf, decide_false, Bool.and_false, Bool.false_eq_true, if_false, not_lt.mpr h]
  split
  · simp
  · rw [finite_fin_iff, zpow_add₀ two_ne_zero, zpow_natCast]
    refine ⟨rfl, ?_⟩
    push_cast
    ring

/-! ## Rounding -/

theorem topExp_eq_log {m : Nat} (e : Int) (hm : 0 < m) : topExp m e = Int.log 2 ((m : ℝ) * 2 ^ e) := by
  have hpos : (0 : ℝ) < m * 2 ^ e := mul_zpow_pos_iff.mpr hm
  have hlo : 2 ^ Nat.log2 m ≤ m := Nat.log2_self_le hm.ne'
  have hhi : m < 2 ^ (Nat.log2 m + 1) := Nat.lt_log2_self
  rw [topExp]
  refine le_antisymm ((Int.zpow_le_iff_le_log one_lt_two hpos).mp ?_) (Int.lt_add_one_iff.mp ?_)
  · rw [Nat.cast_ofNat, zpow_add₀ two_ne_zero, zpow_natCast]
    exact mul_le_mul_of_nonneg_right (by exact_mod_cast hlo) (zpow_pos two_pos e).le
  · refine (Int.lt_zpow_iff_log_lt one_lt_two hpos).mp ?_
    rw [show (Nat.log2 m : Int) + e + 1 = ((Nat.log2 m + 1 : Nat) : Int) + e by push_cast; ring, Nat.cast_ofNat,
      zpow_add₀ two_ne_zero, zpow_natCast]
    exact mul_lt_mul_of_pos_right (by exact_mod_cast hhi) (zpow_pos two_pos e)

theorem le_topExp_iff {m : Nat} (e z : Int) (hm : 0 < m) : z ≤ topExp m e ↔ (2 : ℝ) ^ z ≤ m * 2 ^ e := by
  rw [topExp_eq_log e hm]
  exact (Int.zpow_le_iff_le_log one_lt_two (mul_zpow_pos_iff.mpr hm)).symm

theorem topExp_lt_iff {m : Nat} (e z : Int) (hm : 0 < m) : topExp m e < z ↔ (m : ℝ) * 2 ^ e < 2 ^ z := by
  rw [← not_le, le_topExp_iff e z hm, not_le]

theorem sameValue_iff (k m : Nat) (q e : Int) : sameValue k q m e = true ↔ (k : ℝ) * 2 ^ q = m * 2 ^ e := by
  have hne (i : Int) : (2 : ℝ) ^ i ≠ 0 := zpow_ne_zero i two_ne_zero
  rw [sameValue]
  split
  · next h => rw [← natCast_shift m h, mul_left_inj' (hne q), Nat.cast_inj, decide_eq_true_iff]
  · next h => rw [← natCast_shift k (not_le.mp h).le, mul_left_inj' (hne e), Nat.cast_inj, decide_eq_true_iff]

/-- The units of a value that has no smaller part than a unit. -/
theorem units_of_le (m : Nat) {e q : Int} (h : q ≤ e) : (m : ℝ) * 2 ^ e / 2 ^ q = (m * 2 ^ (e - q).toNat : Nat) := by
  rw [← natCast_shift m h, mul_div_cancel_right₀ _ (zpow_ne_zero q two_ne_zero)]

theorem units_of_lt (m : Nat) {e q : Int} (h : e < q) : (m : ℝ) * 2 ^ e / 2 ^ q = (m : ℝ) / (2 ^ (q - e).toNat : Nat) := by
  have hexp : ((2 ^ (q - e).toNat : Nat) : ℝ) = 2 ^ (q - e) := by
    rw [Nat.cast_pow, Nat.cast_ofNat, ← zpow_natCast, Int.toNat_of_nonneg (by omega)]
  rw [hexp, zpow_sub₀ two_ne_zero, div_div_eq_mul_div]

/-- Whether a number of units is rounded up, as `RoundsTo` says it (06 R137). -/
def GoesUp (mode sr : Nat) (neg : Bool) (u : ℝ) : Prop :=
  match mode with
  | 1 => False
  | 2 => 0 < u - ⌊u⌋₊ ∧ neg = false
  | 3 => 0 < u - ⌊u⌋₊ ∧ neg = true
  | 4 => sr < ⌊(u - ⌊u⌋₊) * 2 ^ 24⌋₊
  | _ => 1 / 2 < u - ⌊u⌋₊ ∨ u - ⌊u⌋₊ = 1 / 2 ∧ ⌊u⌋₊ % 2 = 1

theorem roundsTo_iff (mode sr : Nat) (neg : Bool) (u : ℝ) (k : Nat) :
    RoundsTo mode sr neg u k ↔ (GoesUp mode sr neg u → k = ⌊u⌋₊ + 1) ∧ (¬GoesUp mode sr neg u → k = ⌊u⌋₊) :=
  Iff.rfl

/-- Whether a quotient of integers is rounded up, as `roundUnits` finds it. -/
def roundsUp (mode sr : Nat) (neg : Bool) (m d : Nat) : Bool :=
  match mode with
  | 1 => false
  | 2 => m % d > 0 && !neg
  | 3 => m % d > 0 && neg
  | 4 => decide (sr < m % d * 2 ^ 24 / d)
  | _ => d < 2 * (m % d) || (d = 2 * (m % d) && m / d % 2 = 1)

theorem div_sub_floor (m : Nat) {d : Nat} (hd : 0 < d) : (m : ℝ) / d - ⌊(m : ℝ) / d⌋₊ = (m % d : Nat) / d := by
  have hne : (d : ℝ) ≠ 0 := Nat.cast_ne_zero.mpr hd.ne'
  rw [Nat.floor_div_eq_div, div_sub' hne, div_left_inj' hne, sub_eq_iff_eq_add]
  exact_mod_cast (Nat.mod_add_div m d).symm

theorem floor_draw (r d : Nat) : ⌊(r : ℝ) / d * 2 ^ 24⌋₊ = r * 2 ^ 24 / d := by
  rw [div_mul_eq_mul_div, ← Nat.floor_div_eq_div (K := ℝ), Nat.cast_mul, Nat.cast_pow, Nat.cast_ofNat]

theorem goesUp_div_iff (mode sr : Nat) (neg : Bool) (m : Nat) {d : Nat} (hd : 0 < d) :
    GoesUp mode sr neg ((m : ℝ) / d) ↔ roundsUp mode sr neg m d = true := by
  have hpos : (0 : ℝ) < d := Nat.cast_pos.mpr hd
  unfold GoesUp roundsUp
  rw [div_sub_floor m hd, floor_draw, Nat.floor_div_eq_div, div_pos_iff_of_pos_right hpos, Nat.cast_pos,
    div_lt_div_iff₀ two_pos hpos, div_eq_div_iff hpos.ne' two_ne_zero, one_mul]
  norm_cast
  split
  · simp
  · simp
  · simp
  · rw [decide_eq_true_iff]
  · simp only [Bool.or_eq_true, Bool.and_eq_true, decide_eq_true_iff]
    omega

theorem roundsTo_div_iff (mode sr : Nat) (neg : Bool) (m k : Nat) {d : Nat} (hd : 0 < d) :
    RoundsTo mode sr neg ((m : ℝ) / d) k ↔ k = if roundsUp mode sr neg m d then m / d + 1 else m / d := by
  rw [roundsTo_iff, goesUp_div_iff mode sr neg m hd, Nat.floor_div_eq_div]
  cases roundsUp mode sr neg m d <;> simp

theorem roundsUp_one (mode sr : Nat) (neg : Bool) (m : Nat) : roundsUp mode sr neg m 1 = false := by
  unfold roundsUp
  split <;> simp [Nat.mod_one]

theorem roundUnits_of_le (neg : Bool) (m mode sr : Nat) {e q : Int} (h : q ≤ e) :
    roundUnits neg m e q mode sr = m * 2 ^ (e - q).toNat := if_pos h

theorem roundUnits_of_lt (neg : Bool) (m mode sr : Nat) {e q : Int} (h : e < q) :
    roundUnits neg m e q mode sr = if roundsUp mode sr neg m (2 ^ (q - e).toNat) then m / 2 ^ (q - e).toNat + 1
      else m / 2 ^ (q - e).toNat := if_neg (not_le.mpr h)

/-- An exact number of units is rounded to itself. -/
theorem roundsTo_natCast_iff (mode sr : Nat) (neg : Bool) (n k : Nat) : RoundsTo mode sr neg n k ↔ k = n := by
  have h := roundsTo_div_iff mode sr neg n k Nat.one_pos
  rwa [roundsUp_one, Nat.cast_one, div_one, Nat.div_one] at h

/-- `RoundToFormat` rounds as 06 R137 says. -/
theorem roundUnits_roundsTo (neg : Bool) (m : Nat) (e q : Int) (mode sr : Nat) :
    RoundsTo mode sr neg ((m : ℝ) * 2 ^ e / 2 ^ q) (roundUnits neg m e q mode sr) := by
  rcases le_or_gt q e with h | h
  · rw [units_of_le m h, roundsTo_natCast_iff, roundUnits_of_le neg m mode sr h]
  · rw [units_of_lt m h, roundsTo_div_iff mode sr neg m _ (Nat.two_pow_pos _), roundUnits_of_lt neg m mode sr h]

/-- A rounded number of units is that below or that above. -/
theorem RoundsTo.floor {mode sr : Nat} {neg : Bool} {u : ℝ} {k : Nat} (h : RoundsTo mode sr neg u k) :
    k = ⌊u⌋₊ ∨ k = ⌊u⌋₊ + 1 := by
  obtain ⟨hup, hdown⟩ := h
  exact or_iff_not_imp_left.mpr fun hne => hup (by_contra fun hn => hne (hdown hn))

end Sys2Proof.Machine
end

section
/-!
PROOFS (06 R139, R140). `EncodeResult` of an exact value: the code and the flags of its rounding to a format with a fraction
and an exponent field.
-/

namespace Sys2Proof.Machine

/-! ## A value in the units of its rounding -/

/-- The exponent of the unit to which a value is rounded in a format. -/
def unitExp (f : Fmt) (m : Nat) (e : Int) : Int := max (topExp m e) f.emin - f.mbits

/-- The exponent field less one that goes with a unit, 0 for the unit of the subnormals. -/
def unitStep (f : Fmt) (q : Int) : Nat := (q - (f.emin - f.mbits)).toNat

theorem unitStep_unitExp (f : Fmt) (m : Nat) (e : Int) :
    unitExp f m e = f.emin - f.mbits + (unitStep f (unitExp f m e) : Nat) := by
  rw [unitStep, Int.toNat_of_nonneg (by rw [unitExp]; omega)]
  ring

theorem units_lt (f : Fmt) {m : Nat} (e : Int) (hm : 0 < m) :
    (m : ℝ) * 2 ^ e / 2 ^ unitExp f m e < (2 ^ (f.mbits + 1) : Nat) := by
  have hlog : topExp m e < f.mbits + 1 + unitExp f m e := by
    rw [unitExp]
    omega
  rw [topExp_lt_iff e _ hm, zpow_add₀ two_ne_zero] at hlog
  rw [div_lt_iff₀ (zpow_pos two_pos _)]
  exact_mod_cast hlog

theorem le_units {f : Fmt} {m : Nat} {e : Int} (hm : 0 < m) (hstep : unitStep f (unitExp f m e) ≠ 0) :
    ((2 ^ f.mbits : Nat) : ℝ) ≤ m * 2 ^ e / 2 ^ unitExp f m e := by
  have hlog : f.mbits + unitExp f m e ≤ topExp m e := by
    have := unitStep_unitExp f m e
    rw [unitExp] at *
    omega
  rw [le_topExp_iff e _ hm, zpow_add₀ two_ne_zero] at hlog
  rw [le_div_iff₀ (zpow_pos two_pos _)]
  exact_mod_cast hlog

/-- A value rounded to its unit is the significand of a code, or the first of the next exponent. -/
theorem rounded_bounds {f : Fmt} {m : Nat} {e : Int} {mode sr : Nat} {neg : Bool} {k : Nat} (hm : 0 < m)
    (hk : RoundsTo mode sr neg ((m : ℝ) * 2 ^ e / 2 ^ unitExp f m e) k) :
    (unitStep f (unitExp f m e) = 0 ∨ 2 ^ f.mbits ≤ k) ∧ k ≤ 2 ^ (f.mbits + 1) := by
  have hlt := (Nat.floor_lt' (Nat.two_pow_pos _).ne').mpr (units_lt f e hm)
  refine ⟨or_iff_not_imp_left.mpr fun hstep => ?_, ?_⟩
  · have hle := Nat.le_floor (le_units hm hstep)
    rcases hk.floor with h | h <;> omega
  · rcases hk.floor with h | h <;> omega

/-- The value of a code with a significand of k units. -/
theorem codeUnits_value {f : Fmt} {m : Nat} {e : Int} {k : Nat}
    (hk : (unitStep f (unitExp f m e) = 0 ∨ 2 ^ f.mbits ≤ k) ∧ k ≤ 2 ^ (f.mbits + 1)) :
    (codeUnits f.mbits (k + unitStep f (unitExp f m e) * 2 ^ f.mbits) : ℝ) * 2 ^ (f.emin - f.mbits)
      = k * 2 ^ unitExp f m e := by
  rw [codeUnits_add hk.1 hk.2]
  conv_rhs => rw [unitStep_unitExp, zpow_add₀ two_ne_zero, zpow_natCast]
  push_cast
  ring

/-- A rounded value is past the greatest one where its code would be. -/
theorem past_iff {f : Fmt} (hf : f ≠ .mi8) {m : Nat} {e : Int} {k : Nat} (neg : Bool)
    (hk : (unitStep f (unitExp f m e) = 0 ∨ 2 ^ f.mbits ≤ k) ∧ k ≤ 2 ^ (f.mbits + 1)) :
    (formatHigh f neg : ℝ) < k * 2 ^ unitExp f m e ↔ f.maxCode < k + unitStep f (unitExp f m e) * 2 ^ f.mbits := by
  rw [formatHigh_eq hf, ← codeUnits_value hk, mul_lt_mul_iff_left₀ (zpow_pos two_pos _), Nat.cast_lt,
    (codeUnits_strictMono f.mbits).lt_iff_lt]

/-! ## Codes and flags -/

/-- Whether an arithmetic result past the greatest magnitude is an infinity (06 R139). -/
def toInfinity (mode : Nat) (neg : Bool) : Bool := !(mode = 1 || (mode = 2 && neg) || (mode = 3 && !neg))

/-- The code of an arithmetic result past the greatest magnitude. -/
def overflowCode (f : Fmt) (mode : Nat) (neg : Bool) : Nat := if toInfinity mode neg then f.infCode else f.maxCode

theorem fitCode_of_fits (fp : FpMode) {f : Fmt} (hf : f ≠ .mi8) (mode : Nat) (conv neg : Bool) {k : Nat} {q : Int} (fl : Nat)
    (hk : unitStep f q = 0 ∨ 2 ^ f.mbits ≤ k) (hfits : k + unitStep f q * 2 ^ f.mbits ≤ f.maxCode) :
    fitCode fp f mode conv neg k q fl = (f.signBit neg + (k + unitStep f q * 2 ^ f.mbits), fl) := by
  have hpos := Nat.two_pow_pos f.mbits
  unfold unitStep at *
  rw [fitCode, if_neg hf]
  simp only [if_neg (not_lt.mpr hfits)]
  split
  · next hzero =>
    have hstep : (q - (f.emin - f.mbits)).toNat = 0 := by omega
    simp [hzero, hstep]
  · rfl

theorem fitCode_of_past (fp : FpMode) {f : Fmt} (hf : f ≠ .mi8) (mode : Nat) (conv neg : Bool) {k : Nat} {q : Int} (fl : Nat)
    (hk : unitStep f q = 0 ∨ 2 ^ f.mbits ≤ k) (hpast : f.maxCode < k + unitStep f q * 2 ^ f.mbits) :
    fitCode fp f mode conv neg k q fl
      = if conv = false then (f.signBit neg + overflowCode f mode neg, fl ||| flOVF ||| flNX)
        else if fp.ovfnan && f.hasNaN then (f.nanCode, fl ||| flOVF) else (f.signBit neg + f.maxCode, fl ||| flOVF ||| flSAT) := by
  unfold unitStep at *
  have hzero : k ≠ 0 := by
    have hpos := Nat.two_pow_pos f.mbits
    rintro rfl
    rcases hk with h | h
    · rw [h] at hpast
      omega
    · omega
  rw [fitCode, if_neg hf]
  simp only [if_neg hzero, if_pos hpast]
  cases conv <;> simp [overflowCode, toInfinity, apply_ite (f.signBit neg + ·)]

/-- The flags of a rounding to k units. -/
def roundFlags (f : Fmt) (k m : Nat) (e : Int) : Nat :=
  flagIf (!sameValue k (unitExp f m e) m e) flNX ||| flagIf (topExp m e < f.emin) flUNF

/-- `EncodeResult` of a positive value. -/
theorem encodeResult_fin (fp : FpMode) {f : Fmt} (hf : f ≠ .mi8) (mode : Nat) (conv : Bool) (sr : Nat) (neg : Bool) {m : Nat}
    (e : Int) (hm : 0 < m) :
    encodeResult fp f mode conv sr (.fin neg m e)
      = if fp.ftz = true ∧ f.flushes = true ∧ topExp m e < f.emin then (f.signBit neg, flUNF ||| flNX)
        else
          let k := roundUnits neg m e (unitExp f m e) mode sr
          fitCode fp f mode conv neg k (unitExp f m e) (roundFlags f k m e) := by
  simp only [encodeResult, if_neg hm.ne', if_neg hf, unitExp, roundFlags, Bool.and_eq_true, decide_eq_true_iff, and_assoc]

@[simp] theorem flagWhen_true (flag : Nat) : flagWhen True flag = flag := if_pos trivial

@[simp] theorem flagWhen_false (flag : Nat) : flagWhen False flag = 0 := if_neg not_false

theorem not_sameValue_iff (k m : Nat) (q e : Int) : (!sameValue k q m e) = true ↔ (k : ℝ) * 2 ^ q ≠ m * 2 ^ e := by
  rw [Bool.not_eq_true', ← Bool.not_eq_true, sameValue_iff]

section Flags

variable (f : Fmt) (k m : Nat) (e : Int)

/-- A rounding flags an inexact value and a tiny one. -/
theorem roundFlags_eq :
    roundFlags f k m e = flagWhen ((k : ℝ) * 2 ^ unitExp f m e ≠ m * 2 ^ e) 1 + flagWhen (topExp m e < f.emin) 2 := by
  rw [← not_sameValue_iff, roundFlags]
  generalize (!sameValue k (unitExp f m e) m e) = inexact
  by_cases htiny : topExp m e < f.emin <;> cases inexact <;> simp [flagIf, flNX, flUNF, htiny]

theorem roundFlags_or_ovf : roundFlags f k m e ||| flOVF = roundFlags f k m e + 4 := by
  rw [roundFlags]
  cases !sameValue k (unitExp f m e) m e <;> cases decide (topExp m e < f.emin) <;> rfl

theorem roundFlags_or_ovf_sat : roundFlags f k m e ||| flOVF ||| flSAT = roundFlags f k m e + 4 + 32 := by
  rw [roundFlags]
  cases !sameValue k (unitExp f m e) m e <;> cases decide (topExp m e < f.emin) <;> rfl

theorem roundFlags_or_ovf_nx : roundFlags f k m e ||| flOVF ||| flNX = 1 + flagWhen (topExp m e < f.emin) 2 + 4 := by
  rw [roundFlags]
  by_cases htiny : topExp m e < f.emin <;> cases !sameValue k (unitExp f m e) m e <;>
    simp [flagIf, flNX, flUNF, flOVF, htiny]

end Flags

theorem unitExp_eq (f : Fmt) {m : Nat} (e : Int) (hm : 0 < m) :
    max (Int.log 2 ((m : ℝ) * 2 ^ e)) f.emin - f.mbits = unitExp f m e := by
  rw [← topExp_eq_log e hm, unitExp]

theorem decodeF_signBit {f : Fmt} (hf : f ≠ .mi8) (neg : Bool) : Finite (decodeF f (f.signBit neg)) neg 0 := by
  simpa [codeUnits] using decodeF_finite hf neg (Nat.zero_le f.maxCode)

theorem decodeF_maxCode {f : Fmt} (hf : f ≠ .mi8) (neg : Bool) :
    Finite (decodeF f (f.signBit neg + f.maxCode)) neg (formatHigh f neg) := by
  rw [formatHigh_eq hf]
  exact decodeF_finite hf neg le_rfl

theorem overflowCode_lt {f : Fmt} (h : f.hasInf = true) (mode : Nat) (neg : Bool) :
    overflowCode f mode neg < 2 ^ (f.width - 1) := by
  rw [overflowCode]
  split
  · exact infCode_lt h
  · exact maxCode_lt f

theorem decodeF_overflowCode {f : Fmt} (hf : f ≠ .mi8) (h : f.hasInf = true) (mode : Nat) (neg : Bool) :
    if mode = 1 ∨ mode = 2 ∧ neg = true ∨ mode = 3 ∧ neg = false then
      Finite (decodeF f (f.signBit neg + overflowCode f mode neg)) neg (formatHigh f neg)
    else decodeF f (f.signBit neg + overflowCode f mode neg) = .inf neg := by
  have hinf : toInfinity mode neg = true ↔ ¬(mode = 1 ∨ mode = 2 ∧ neg = true ∨ mode = 3 ∧ neg = false) := by
    simp [toInfinity, and_assoc, or_iff_not_imp_left]
  rw [overflowCode]
  split
  · next hstay =>
    rw [if_neg fun htrue => hinf.mp htrue hstay]
    exact decodeF_maxCode hf neg
  · next hgo =>
    rw [if_pos (hinf.mpr hgo)]
    exact decodeF_inf h neg

/-! ## The result of a rounding -/

/-- What 06 R139 asks of the code and the flags of a value that is rounded to k units. -/
def UnitsEncodeTo (fp : FpMode) (f : Fmt) (mode : Nat) (conv neg : Bool) (m : Nat) (e : Int) (k : Nat) (r : Nat × Nat) : Prop :=
  let y : ℝ := k * 2 ^ unitExp f m e
  let high : ℝ := formatHigh f neg
  let past : Prop := high < y
  let toNaN : Prop := fp.ovfnan = true ∧ (formatNaN f).isSome
  r.1 < 2 ^ f.width
    ∧ r.2 = flagWhen (y ≠ m * 2 ^ e ∨ past ∧ conv = false) 1 + flagWhen (topExp m e < f.emin) 2 + flagWhen past 4
        + flagWhen (past ∧ conv = true ∧ ¬toNaN) 32
    ∧ (¬past → Finite (decodeF f r.1) neg y)
    ∧ (past → conv = false →
        if mode = 1 ∨ mode = 2 ∧ neg = true ∨ mode = 3 ∧ neg = false then Finite (decodeF f r.1) neg high
        else decodeF f r.1 = .inf neg)
    ∧ (past → conv = true → if toNaN then some r.1 = formatNaN f else Finite (decodeF f r.1) neg high)

/-- `EncodesTo` by its two outcomes: a tiny value flushed, or a value rounded. -/
theorem encodesTo_iff (fp : FpMode) {f : Fmt} (hf : f ≠ .mi8) (mode : Nat) (conv : Bool) (sr : Nat) (neg : Bool) {m : Nat} (e : Int)
    (r : Nat × Nat) (hm : 0 < m) :
    EncodesTo fp f mode conv sr neg (m * 2 ^ e) r
      ↔ if fp.ftz = true ∧ f.flushes = true ∧ topExp m e < f.emin then
          r.1 < 2 ^ f.width ∧ Finite (decodeF f r.1) neg 0 ∧ r.2 = 3
        else ∃ k, RoundsTo mode sr neg ((m : ℝ) * 2 ^ e / 2 ^ unitExp f m e) k ∧ UnitsEncodeTo fp f mode conv neg m e k r := by
  obtain ⟨bias, hrow⟩ := formatRow_eq f
  have hflushes : formatFlushes f = f.flushes := rfl
  unfold EncodesTo UnitsEncodeTo
  simp only [hrow, hflushes, ← topExp_lt_iff e f.emin hm, unitExp_eq f e hm, hf, if_false, false_implies,
    decide_true, Bool.and_true]
  split
  · exact Iff.rfl
  · constructor
    · rintro ⟨hlt, k, hround, h⟩
      exact ⟨k, hround, hlt, h⟩
    · rintro ⟨k, hround, hlt, h⟩
      exact ⟨hlt, k, hround, h⟩

section Rounded

variable (fp : FpMode) {f : Fmt} (mode : Nat) (neg : Bool) {m : Nat} {e : Int} {k : Nat} (hf : f ≠ .mi8)
  (hk : (unitStep f (unitExp f m e) = 0 ∨ 2 ^ f.mbits ≤ k) ∧ k ≤ 2 ^ (f.mbits + 1))
include hf hk

theorem fitCode_fits (conv : Bool) (hle : k + unitStep f (unitExp f m e) * 2 ^ f.mbits ≤ f.maxCode) :
    UnitsEncodeTo fp f mode conv neg m e k (fitCode fp f mode conv neg k (unitExp f m e) (roundFlags f k m e)) := by
  have hunder : ¬(formatHigh f neg : ℝ) < k * 2 ^ unitExp f m e := fun h => not_lt.mpr hle ((past_iff hf neg hk).mp h)
  rw [fitCode_of_fits fp hf mode conv neg _ hk.1 hle]
  refine ⟨signBit_add_lt f neg (lt_of_le_of_lt hle (maxCode_lt f)), ?_, fun _ => ?_, fun h => absurd h hunder,
    fun h => absurd h hunder⟩
  · simp only [hunder, roundFlags_eq, false_and, or_false, flagWhen_false, Nat.add_zero]
  · rw [← codeUnits_value hk]
    exact decodeF_finite hf neg hle

variable (hfits : f.maxCode < k + unitStep f (unitExp f m e) * 2 ^ f.mbits)
include hfits

theorem fitCode_overflows (hinf : f.hasInf = true) :
    UnitsEncodeTo fp f mode false neg m e k (fitCode fp f mode false neg k (unitExp f m e) (roundFlags f k m e)) := by
  have hover := (past_iff hf neg hk).mpr hfits
  rw [fitCode_of_past fp hf mode false neg _ hk.1 hfits]
  refine ⟨signBit_add_lt f neg (overflowCode_lt hinf mode neg), ?_, fun h => absurd hover h,
    fun _ _ => decodeF_overflowCode hf hinf mode neg, fun _ h => absurd h (by decide)⟩
  simp [hover, roundFlags_or_ovf_nx]

theorem fitCode_saturates :
    UnitsEncodeTo fp f mode true neg m e k (fitCode fp f mode true neg k (unitExp f m e) (roundFlags f k m e)) := by
  have hover := (past_iff hf neg hk).mpr hfits
  rw [fitCode_of_past fp hf mode true neg _ hk.1 hfits, if_neg (by decide), UnitsEncodeTo, formatNaN_eq]
  by_cases hN : fp.ovfnan = true ∧ f.hasNaN = true
  · obtain ⟨hovf, hhas⟩ := hN
    have hcode : (fp.ovfnan && f.hasNaN) = true := by simp [hovf, hhas]
    rw [if_pos hcode, if_pos hhas]
    refine ⟨nanCode_lt f, ?_, fun h => absurd hover h, fun _ h => absurd h (by decide), fun _ _ => ?_⟩
    · rw [roundFlags_or_ovf, roundFlags_eq]
      simp [hover, hovf]
    · simp [hovf]
  · have hcode : ¬(fp.ovfnan && f.hasNaN) = true := by simpa using hN
    have hnone : ¬(fp.ovfnan = true ∧ (if f.hasNaN then some f.nanCode else none).isSome = true) := by simpa using hN
    rw [if_neg hcode]
    simp only [hnone]
    refine ⟨signBit_add_lt f neg (maxCode_lt f), ?_, fun h => absurd hover h, fun _ h => absurd h (by decide),
      fun _ _ => decodeF_maxCode hf neg⟩
    rw [roundFlags_or_ovf_sat, roundFlags_eq]
    simp [hover]

end Rounded

/-- `EncodeResult` of a positive magnitude with a sign. -/
theorem encodeResult_encodesTo (fp : FpMode) {f : Fmt} (hf : f ≠ .mi8) (mode : Nat) {conv : Bool} (sr : Nat) (neg : Bool)
    {m : Nat} (e : Int) (hm : 0 < m) (hconv : conv = true ∨ f.hasInf = true) :
    EncodesTo fp f mode conv sr neg (m * 2 ^ e) (encodeResult fp f mode conv sr (.fin neg m e)) := by
  rw [encodeResult_fin fp hf mode conv sr neg e hm, encodesTo_iff fp hf mode conv sr neg e _ hm]
  split
  · exact ⟨signBit_add_lt f neg (Nat.two_pow_pos _), decodeF_signBit hf neg, rfl⟩
  · have hround := roundUnits_roundsTo neg m e (unitExp f m e) mode sr
    have hk := rounded_bounds hm hround
    refine ⟨_, hround, ?_⟩
    rcases le_or_gt (roundUnits neg m e (unitExp f m e) mode sr + unitStep f (unitExp f m e) * 2 ^ f.mbits) f.maxCode with
      hfits | hfits
    · exact fitCode_fits fp mode neg hf hk conv hfits
    · cases conv with
      | false => exact fitCode_overflows fp mode neg hf hk hfits (by simpa using hconv)
      | true => exact fitCode_saturates fp mode neg hf hk hfits

/-- `EncodeResult` of any exact value. -/
theorem encodeResult_encodes (fp : FpMode) {f : Fmt} (hf : f ≠ .mi8) (mode : Nat) {conv : Bool} (sr : Nat) (x : Ex)
    (hconv : conv = true ∨ f.hasInf = true) : Encodes fp f mode conv sr 1 x (encodeResult fp f mode conv sr x) := by
  unfold Encodes
  rw [formatNaN_eq, formatRow_width, show formatInf f = f.hasInf from rfl]
  match x with
  | .nan =>
    refine ⟨fun _ => ?_, by simp, by simp, by simp⟩
    cases h : f.hasNaN <;> simp [encodeResult, h, flINV]
  | .inf neg =>
    refine ⟨by simp, fun n hn => ?_, by simp, by simp⟩
    cases hn
    by_cases hinf : f.hasInf = true
    · have hcode : encodeResult fp f mode conv sr (.inf neg) = (f.signBit neg + f.infCode, 0) := if_pos hinf
      rw [if_pos hinf, hcode]
      exact ⟨signBit_add_lt f neg (infCode_lt hinf), decodeF_inf hinf neg, rfl⟩
    · by_cases hN : fp.ovfnan = true ∧ f.hasNaN = true
      · simp [encodeResult, hinf, hN.1, hN.2]
      · have hsat : encodeResult fp f mode conv sr (.inf neg) = (f.signBit neg + f.maxCode, flSAT) := by
          simp [encodeResult, hinf, hN, hf]
        have hnone : ¬(fp.ovfnan = true ∧ (if f.hasNaN then some f.nanCode else none).isSome = true) := by simpa using hN
        rw [if_neg hinf, if_neg hnone, hsat]
        exact ⟨signBit_add_lt f neg (maxCode_lt f), decodeF_maxCode hf neg, rfl⟩
  | .fin neg m e =>
    refine ⟨by simp, by simp, fun n hn => ?_, fun n v hn hv => ?_⟩
    · obtain ⟨rfl, hm⟩ := (finite_fin_iff _ _ _ _ _).mp hn
      rw [mul_zpow_eq_zero_iff] at hm
      simp [encodeResult, hm, hf, Fmt.signBit]
    · obtain ⟨rfl, rfl⟩ := (finite_fin_iff _ _ _ _ _).mp hn
      rw [mul_one]
      exact encodeResult_encodesTo fp hf mode sr neg e (mul_zpow_pos_iff.mp hv) hconv

end Sys2Proof.Machine
end

section
/-!
PROOFS (07 R156, R157). Values that a format holds: their codes and classes, and results far past the ends of a format, which do
not depend on how far.
-/

namespace Sys2Proof.Machine

theorem ne_mi8_of_hasInf {f : Fmt} (h : f.hasInf = true) : f ≠ .mi8 := by
  rintro rfl
  exact absurd h (by decide)

theorem hasNaN_of_hasInf {f : Fmt} (h : f.hasInf = true) : f.hasNaN = true := by simp [Fmt.hasNaN, h]

/-! ## Decoded values -/

/-- A value with a significand, an exponent and a magnitude of a format. -/
def Fmt.Holds (f : Fmt) (x : Ex) : Prop :=
  ∀ n m e, x = .fin n m e → m < 2 ^ (f.mbits + 1) ∧ f.emin - f.mbits ≤ e ∧ (m : ℝ) * 2 ^ e ≤ formatHigh f n

theorem decodeF_eq_sign_add {f : Fmt} (hf : f ≠ .mi8) (code : Nat) :
    decodeF f code = decodeF f (f.signBit (code.testBit (f.width - 1)) + code % 2 ^ (f.width - 1)) := by
  rw [decodeF_add hf _ (Nat.mod_lt _ (Nat.two_pow_pos _)), decodeF, if_neg hf]

theorem decodeF_holds {f : Fmt} (hinf : f.hasInf = true) (code : Nat) : f.Holds (decodeF f code) := by
  intro n m e hx
  have hf := ne_mi8_of_hasInf hinf
  have hlt := Nat.mod_lt code (Nat.two_pow_pos (f.width - 1))
  rw [decodeF_eq_sign_add hf] at hx
  generalize code.testBit (f.width - 1) = neg at hx
  generalize code % 2 ^ (f.width - 1) = mag at hx hlt
  have hdecode := decodeF_add hf neg hlt
  have hfrac := Nat.mod_lt mag (Nat.two_pow_pos f.mbits)
  rw [hx] at hdecode
  split at hdecode
  · cases hdecode
  split at hdecode
  · cases hdecode
  · next hnan =>
    have hle : mag ≤ f.maxCode := by simpa [hasNaN_of_hasInf hinf] using hnan
    have hvalue := decodeF_finite hf neg hle
    rw [hx, finite_fin_iff] at hvalue
    refine ⟨?_, ?_, ?_⟩
    · rw [Nat.pow_succ]
      split at hdecode <;> cases hdecode <;> omega
    · split at hdecode <;> cases hdecode <;> omega
    · rw [hvalue.2, formatHigh_eq hf]
      have hmono := (codeUnits_strictMono f.mbits).monotone hle
      exact mul_le_mul_of_nonneg_right (by exact_mod_cast hmono) (zpow_pos two_pos _).le

theorem Fmt.Holds.flush {f : Fmt} {x : Ex} (h : f.Holds x) (ftz : Bool) : f.Holds (x.flush f ftz) := by
  match x with
  | .nan | .inf n => exact h
  | .fin n m e =>
    obtain ⟨hm, he, hhigh⟩ := h n m e rfl
    rw [Ex.flush]
    split
    · intro n' m' e' hx
      cases hx
      refine ⟨Nat.two_pow_pos _, he, le_trans ?_ hhigh⟩
      rw [Nat.cast_zero, zero_mul]
      positivity
    · exact h

theorem unitExp_le {f : Fmt} {m : Nat} {e : Int} (hpos : 0 < m) (hm : m < 2 ^ (f.mbits + 1)) (he : f.emin - f.mbits ≤ e) :
    unitExp f m e ≤ e := by
  have hlog := (Nat.log2_lt hpos.ne').mpr hm
  rw [unitExp, topExp]
  omega

/-! ## Codes of values that a format holds -/

/-- A value that is a whole number of units is not changed by rounding. -/
theorem exists_exact_units (f : Fmt) (neg : Bool) {m : Nat} {e : Int} (mode sr : Nat) (hpos : 0 < m) (he : unitExp f m e ≤ e) :
    ∃ k, roundUnits neg m e (unitExp f m e) mode sr = k ∧ (k : ℝ) * 2 ^ unitExp f m e = m * 2 ^ e
      ∧ (unitStep f (unitExp f m e) = 0 ∨ 2 ^ f.mbits ≤ k) ∧ k ≤ 2 ^ (f.mbits + 1) := by
  have hround := roundUnits_roundsTo neg m e (unitExp f m e) mode sr
  rw [roundUnits_of_le neg m mode sr he] at hround
  exact ⟨_, roundUnits_of_le neg m mode sr he, natCast_shift m he, rounded_bounds hpos hround⟩

theorem decodeF_exactCode {f : Fmt} (hf : f ≠ .mi8) (neg : Bool) {m : Nat} {e : Int} (hpos : 0 < m) (he : unitExp f m e ≤ e)
    (hhigh : (m : ℝ) * 2 ^ e ≤ formatHigh f neg) :
    exactCode f (.fin neg m e) < 2 ^ f.width ∧ Finite (decodeF f (exactCode f (.fin neg m e))) neg (m * 2 ^ e) := by
  obtain ⟨k, hunits, hvalue, hk⟩ := exists_exact_units f neg 0 0 hpos he
  rw [← hvalue, ← not_lt, past_iff hf neg hk, not_lt] at hhigh
  have hcode : exactCode f (.fin neg m e) = f.signBit neg + (k + unitStep f (unitExp f m e) * 2 ^ f.mbits) := by
    rw [exactCode, encodeResult_fin rneMode hf 0 false 0 neg e hpos, if_neg fun h => absurd h.1 (by decide)]
    simp only [hunits, fitCode_of_fits rneMode hf 0 false neg _ hk.1 hhigh]
  rw [hcode, ← hvalue, ← codeUnits_value hk]
  exact ⟨signBit_add_lt f neg (lt_of_le_of_lt hhigh (maxCode_lt f)), decodeF_finite hf neg hhigh⟩

theorem exactCode_codeOf {f : Fmt} (hinf : f.hasInf = true) {x : Ex} (hx : f.Holds x) : CodeOf f x (exactCode f x) := by
  have hf := ne_mi8_of_hasInf hinf
  rw [CodeOf, formatRow_width]
  match x with
  | .nan =>
    have hcode : exactCode f .nan = f.nanCode := by simp [exactCode, encodeResult, hasNaN_of_hasInf hinf]
    rw [hcode]
    exact ⟨nanCode_lt f, by simp, by simp⟩
  | .inf n =>
    have hcode : exactCode f (.inf n) = f.signBit n + f.infCode := by simp [exactCode, encodeResult, hinf]
    rw [hcode, decodeF_inf hinf]
    exact ⟨signBit_add_lt f n (infCode_lt hinf), fun _ h => h, fun _ _ h => h⟩
  | .fin n m e =>
    obtain ⟨hm, he, hhigh⟩ := hx n m e rfl
    simp only [finite_fin_iff, reduceCtorEq, false_implies, implies_true, true_and]
    rcases Nat.eq_zero_or_pos m with rfl | hpos
    · have hcode : exactCode f (.fin n 0 e) = f.signBit n := by simp [exactCode, encodeResult, hf]
      rw [hcode, Nat.cast_zero, zero_mul]
      refine ⟨signBit_add_lt f n (Nat.two_pow_pos _), ?_⟩
      rintro _ _ ⟨rfl, rfl⟩
      exact decodeF_signBit hf n
    · obtain ⟨hlt, hvalue⟩ := decodeF_exactCode hf n hpos (unitExp_le hpos hm he) hhigh
      refine ⟨hlt, ?_⟩
      rintro _ _ ⟨rfl, rfl⟩
      exact hvalue

/-! ## Classes -/

theorem classBits_classIs (f : Fmt) (code : Nat) : ClassIs f code (classBits f code) := by
  rw [ClassIs, classBits, formatRow_emin]
  match decodeF f code with
  | .nan => simp
  | .inf n => cases n <;> simp
  | .fin n m e =>
    refine ⟨by simp, by simp, fun n' v h => ?_⟩
    obtain ⟨rfl, rfl⟩ := (finite_fin_iff _ _ _ _ _).mp h
    rcases Nat.eq_zero_or_pos m with rfl | hpos
    · have hleast : ¬(2 : ℝ) ^ f.emin ≤ 0 := not_le.mpr (zpow_pos two_pos _)
      simp [hleast]
    · rw [mul_zpow_eq_zero_iff, mul_zpow_pos_iff, ← not_lt, ← topExp_lt_iff e f.emin hpos]
      simp only [hpos.ne', if_false, false_implies, true_and]
      refine ⟨fun _ htiny => ?_, fun hnormal => ?_⟩
      · simp [htiny]
      · simp [hnormal]

/-! ## Far past the ends of a format -/

theorem formatHigh_lt {f : Fmt} (hinf : f.hasInf = true) (neg : Bool) : (formatHigh f neg : ℝ) < 2 ^ (128 : Int) := by
  cases f with
  | e4m3 | e3m2 | e2m3 | e2m1 | mi8 => exact absurd hinf (by decide)
  | _ => norm_num [formatHigh]

theorem emin_bounds (f : Fmt) : -149 ≤ f.emin - f.mbits ∧ f.emin ≤ 0 := by cases f <;> decide

theorem topExp_add (m : Nat) (e k : Int) : topExp m (e + k) = topExp m e + k := by
  rw [topExp, topExp]
  ring

/-- The leading exponents of a format. -/
theorem topExp_of_holds {f : Fmt} (hinf : f.hasInf = true) {n : Bool} {m : Nat} {e : Int} (h : f.Holds (.fin n m e))
    (hpos : 0 < m) :
    -149 ≤ topExp m e ∧ topExp m e < 128 := by
  obtain ⟨-, he, hhigh⟩ := h n m e rfl
  obtain ⟨hlow, -⟩ := emin_bounds f
  refine ⟨by rw [topExp]; omega, ?_⟩
  rw [topExp_lt_iff e _ hpos]
  exact lt_of_le_of_lt hhigh (formatHigh_lt hinf n)

/-- An arithmetic result far above a format overflows. -/
theorem encodeResult_of_large (fp : FpMode) {f : Fmt} (hinf : f.hasInf = true) (mode sr : Nat) (neg : Bool) {m : Nat} {e : Int}
    (hpos : 0 < m) (hm : m < 2 ^ (f.mbits + 1)) (hlarge : 128 ≤ topExp m e) :
    encodeResult fp f mode false sr (.fin neg m e) = (f.signBit neg + overflowCode f mode neg, flOVF ||| flNX) := by
  have hf := ne_mi8_of_hasInf hinf
  obtain ⟨-, hmin⟩ := emin_bounds f
  have he : unitExp f m e ≤ e := by
    have hlog := (Nat.log2_lt hpos.ne').mpr hm
    rw [unitExp]
    rw [topExp] at *
    omega
  obtain ⟨k, hunits, hvalue, hk⟩ := exists_exact_units f neg mode sr hpos he
  have hpast := lt_of_lt_of_le (formatHigh_lt hinf neg) ((le_topExp_iff e _ hpos).mp hlarge)
  rw [← hvalue, past_iff hf neg hk] at hpast
  have hnormal : ¬topExp m e < f.emin := by omega
  rw [encodeResult_fin fp hf mode false sr neg e hpos, if_neg fun h => hnormal h.2.2]
  simp only [hunits, fitCode_of_past fp hf mode false neg _ hk.1 hpast, roundFlags, (sameValue_iff _ _ _ _).mpr hvalue, hnormal]
  rfl

/-- Where a value far below a format is rounded: away from zero by a directed mode, and else to zero. -/
def smallUnits (mode : Nat) (neg : Bool) : Nat := if (mode = 2 && !neg) || (mode = 3 && neg) then 1 else 0

theorem roundsUp_of_small {mode : Nat} (sr : Nat) (neg : Bool) {m d : Nat} (hpos : 0 < m) (hmode : mode ≠ 4) (h : 2 * m < d) :
    roundsUp mode sr neg m d = ((mode = 2 && !neg) || (mode = 3 && neg)) := by
  have hmod : m % d = m := Nat.mod_eq_of_lt (by omega)
  unfold roundsUp
  rw [hmod]
  split
  · simp
  · simp [hpos]
  · simp [hpos]
  · exact absurd rfl hmode
  · next h2 h3 _ =>
    have hnear : ¬d < 2 * m ∧ d ≠ 2 * m := by omega
    simp [hnear, show mode ≠ 2 from h2, show mode ≠ 3 from h3]

theorem shift_of_small {m : Nat} {e q : Int} (hsmall : topExp m e < q - 1) : 2 * m < 2 ^ (q - e).toNat := by
  have hlog : m < 2 ^ (Nat.log2 m + 1) := Nat.lt_log2_self
  have hle : 2 ^ (Nat.log2 m + 2) ≤ 2 ^ (q - e).toNat := by
    rw [topExp] at hsmall
    exact Nat.pow_le_pow_right Nat.two_pos (by omega)
  rw [Nat.pow_succ] at hle
  omega

theorem roundUnits_of_small (neg : Bool) {m : Nat} {e q : Int} {mode : Nat} (sr : Nat) (hpos : 0 < m) (hmode : mode ≠ 4)
    (hsmall : topExp m e < q - 1) :
    roundUnits neg m e q mode sr = smallUnits mode neg ∧ sameValue (smallUnits mode neg) q m e = false := by
  have hshift := shift_of_small hsmall
  have hlt : e < q := by
    rw [topExp] at hsmall
    omega
  refine ⟨?_, ?_⟩
  · rw [roundUnits_of_lt neg m mode sr hlt, roundsUp_of_small sr neg hpos hmode hshift, Nat.div_eq_of_lt (by omega), smallUnits]
  · rw [sameValue, if_neg (not_le.mpr hlt), smallUnits, decide_eq_false_iff_not]
    split <;> omega

theorem encodeResult_of_small (fp : FpMode) {f : Fmt} (hf : f ≠ .mi8) {mode : Nat} (conv : Bool) (sr : Nat) (neg : Bool) {m : Nat}
    {e : Int} (hpos : 0 < m) (hmode : mode ≠ 4) (hsmall : topExp m e < f.emin - f.mbits - 1) :
    encodeResult fp f mode conv sr (.fin neg m e)
      = if fp.ftz = true ∧ f.flushes = true then (f.signBit neg, flUNF ||| flNX)
        else fitCode fp f mode conv neg (smallUnits mode neg) (f.emin - f.mbits) (flNX ||| flUNF) := by
  have htiny : topExp m e < f.emin := by omega
  have hunit : unitExp f m e = f.emin - f.mbits := by rw [unitExp, max_eq_right htiny.le]
  obtain ⟨hround, hsame⟩ := roundUnits_of_small neg sr hpos hmode hsmall
  rw [encodeResult_fin fp hf mode conv sr neg e hpos]
  simp only [roundFlags, hunit, htiny, hround, hsame, and_true]
  rfl

/-- A scale past 2048 in either direction is one of 2048. -/
theorem arith_scale_clamp (fp : FpMode) {f : Fmt} (hinf : f.hasInf = true) {x : Ex} (hx : f.Holds x) (k : Int) :
    arith fp f (x.scale (min (max k (-2048)) 2048)) = arith fp f (x.scale k) := by
  match x with
  | .nan | .inf n => rfl
  | .fin n m e =>
    have hmode : (if fp.rm = 4 then 0 else fp.rm) ≠ 4 := by
      split
      · decide
      · assumption
    rw [arith, arith, Ex.scale, Ex.scale]
    rcases Nat.eq_zero_or_pos m with rfl | hpos
    · simp [encodeResult]
    · obtain ⟨hlow, hhigh⟩ := topExp_of_holds hinf hx hpos
      obtain ⟨hm, -, -⟩ := hx n m e rfl
      obtain ⟨hmin, -⟩ := emin_bounds f
      have hlarge {i : Int} (hi : 2048 ≤ i) := encodeResult_of_large fp hinf (if fp.rm = 4 then 0 else fp.rm) 0 n
        (e := e + i) hpos hm (by rw [topExp_add]; omega)
      have hsmall {i : Int} (hi : i ≤ -2048) := encodeResult_of_small fp (ne_mi8_of_hasInf hinf) false 0 n
        (e := e + i) hpos hmode (by rw [topExp_add]; omega)
      rcases lt_or_ge 2048 k with hk | hk
      · rw [hlarge (i := min (max k (-2048)) 2048) (by omega), hlarge (i := k) (by omega)]
      rcases lt_or_ge k (-2048) with hk' | hk'
      · rw [hsmall (i := min (max k (-2048)) 2048) (by omega), hsmall (i := k) (by omega)]
      · rw [max_eq_left hk', min_eq_left hk]

theorem Finite.scale {x : Ex} {neg : Bool} {v : ℝ} (h : Finite x neg v) (k : Int) : Finite (x.scale k) neg (v * 2 ^ k) := by
  obtain ⟨m, e, rfl, rfl⟩ := h
  rw [Ex.scale, finite_fin_iff, zpow_add₀ two_ne_zero, mul_assoc]
  exact ⟨rfl, rfl⟩

/-- The encoding of a scaled value, as one of the value times the scale. -/
theorem encodes_of_scale {fp : FpMode} {f : Fmt} {mode sr : Nat} {conv : Bool} {x : Ex} {k : Int} {r : Nat × Nat}
    (h : Encodes fp f mode conv sr 1 (x.scale k) r) : Encodes fp f mode conv sr (2 ^ k) x r := by
  obtain ⟨hnan, hinf, hzero, hpos⟩ := h
  refine ⟨fun hx => hnan (by rw [hx]; rfl), fun n hx => hinf n (by rw [hx]; rfl), fun n hx => hzero n ?_, fun n v hx hv => ?_⟩
  · simpa using hx.scale k
  · simpa using hpos n _ (hx.scale k) (mul_pos hv (zpow_pos two_pos k))

end Sys2Proof.Machine
end

section
/-!
PROOFS (07 R155 to R157, R159). The typed operations element by element: exact results rounded once, extremes, compares, classes
and scales.
-/

namespace Sys2Proof.Machine

theorem hasInf_ftyFmt (f : FTy) : (ftyFmt f).hasInf = true := by cases f <;> rfl

/-! ## Exact results rounded once -/

theorem rounded_roundsOnceTo (fp : FpMode) {f : Fmt} (hinf : f.hasInf = true) (x : Ex × Nat) :
    RoundsOnceTo fp f x.1 x.2 (rounded fp f x) :=
  ⟨arith fp f x.1, encodeResult_encodes fp (ne_mi8_of_hasInf hinf) _ 0 x.1 (.inr hinf), rfl⟩

/-- The fused forms with the product or the addend turned. -/
theorem vFma_fusedTo (fp : FpMode) {f : Fmt} (hinf : f.hasInf = true) (negP negC : Bool) (a b c : Ex) :
    FusedTo fp f negP negC a b c (vFma fp f negP negC a b c) := by
  have hnan : (if negC then c.neg else c) = .nan ↔ c = .nan := by
    cases negC
    · rfl
    · exact neg_eq_nan_iff c
  have hturned (t : Bool) (y : Ex) : if t then Turned y (if t then y.neg else y) else (if t then y.neg else y) = y := by
    cases t
    · rfl
    · exact neg_turned y
  have hproduct : (if negP then a.neg else a).mul b = (if negP then (a.mul b).1.neg else (a.mul b).1, (a.mul b).2) := by
    cases negP
    · rfl
    · exact neg_mul_eq a b
  refine ⟨fun hc => ?_, fun hc => ⟨(a.mul b).1, _, _, _, (a.mul b).2, _, mul_exactProduct a b, hturned negP _, hturned negC c,
    add_exactSum _ _ _, ?_⟩⟩
  · rw [vFma, hnan.mpr hc, fma_nan]
    exact rounded_roundsOnceTo fp hinf (.nan, 0)
  · have hround := rounded_roundsOnceTo fp hinf ((if negP then a.neg else a).fma b (if negC then c.neg else c) (fp.rm = 3))
    rw [fma_of_ne_nan _ b _ (mt hnan.mp hc), hproduct] at hround
    rw [vFma, fma_of_ne_nan _ b _ (mt hnan.mp hc), hproduct]
    exact hround

/-! ## Extremes -/

theorem isNaN_iff (a : Ex) : a.isNaN = true ↔ a = .nan := by cases a <;> simp [Ex.isNaN]

theorem place_of_isZero {a : Ex} (h : a.isZero = true) : a.place = 0 := by
  match a with
  | .nan => rfl
  | .inf n => cases h
  | .fin n m e =>
    have hm : m = 0 := of_decide_eq_true h
    simp [Ex.place, signed, hm]

/-- Apart from zeros, the order of `min` and `max` is that of the values. -/
theorem before_iff {a c : Ex} (ha : a ≠ .nan) (hc : c ≠ .nan) (hne : ¬(a.place = 0 ∧ c.place = 0)) :
    a.before c = true ↔ a.place < c.place := by
  have hzeros : (a.isZero && c.isZero) = false := by
    rw [Bool.eq_false_iff]
    intro h
    rw [Bool.and_eq_true] at h
    exact hne ⟨place_of_isZero h.1, place_of_isZero h.2⟩
  rw [Ex.before, hzeros, Bool.false_and, Bool.false_and, Bool.or_false, lt_iff_place ha hc]

theorem before_zeros (n m : Bool) (e e' : Int) : (Ex.fin n 0 e).before (.fin m 0 e') = (n && !m) := by
  simp [Ex.before, Ex.lt, Ex.isZero, Ex.isNeg, scaled]

theorem codeOf_zero {f : Fmt} {n : Bool} {e : Int} {code : Nat} (h : CodeOf f (.fin n 0 e) code) :
    CodeOf f (.fin n 0 0) code := by
  simpa [CodeOf] using h

/-- The lesser or the greater of two values, the first where they are equal. -/
def Ex.extremeOf (greater : Bool) (a c : Ex) : Ex := if (if greater then a.before c else c.before a) then c else a

theorem extremeOf_mem (greater : Bool) (a c : Ex) : Ex.extremeOf greater a c = a ∨ Ex.extremeOf greater a c = c := by
  unfold Ex.extremeOf
  exact (ite_eq_or_eq _ c a).symm

section Order

variable {a c : Ex} (ha : a ≠ .nan) (hc : c ≠ .nan) (greater : Bool)
include ha hc

theorem extremeOf_of_lt (h : a.place < c.place) : Ex.extremeOf greater a c = if greater then c else a := by
  have hne : ¬(a.place = 0 ∧ c.place = 0) := fun h0 => absurd h (by simp [h0.1, h0.2])
  cases greater
  · simp [Ex.extremeOf, before_iff hc ha (mt And.symm hne), h.le]
  · simp [Ex.extremeOf, before_iff ha hc hne, h]

theorem extremeOf_of_gt (h : c.place < a.place) : Ex.extremeOf greater a c = if greater then a else c := by
  have hne : ¬(a.place = 0 ∧ c.place = 0) := fun h0 => absurd h (by simp [h0.1, h0.2])
  cases greater
  · simp [Ex.extremeOf, before_iff hc ha (mt And.symm hne), h]
  · simp [Ex.extremeOf, before_iff ha hc hne, h.le]

theorem extremeOf_of_eq (h : a.place = c.place) (h0 : a.place ≠ 0) : Ex.extremeOf greater a c = a := by
  have hne : ¬(a.place = 0 ∧ c.place = 0) := fun h' => h0 h'.1
  cases greater
  · simp [Ex.extremeOf, before_iff hc ha (mt And.symm hne), h]
  · simp [Ex.extremeOf, before_iff ha hc hne, h]

end Order

theorem extremeOf_zeros (greater n m : Bool) (e1 e2 : Int) :
    ∃ e, Ex.extremeOf greater (.fin n 0 e1) (.fin m 0 e2) = .fin (if greater then n && m else n || m) 0 e := by
  rw [Ex.extremeOf, before_zeros, before_zeros]
  cases greater <;> cases n <;> cases m <;> simp

theorem extreme_extremeOf {f : Fmt} (hinf : f.hasInf = true) (greater : Bool) {a c : Ex} (ha : f.Holds a) (hc : f.Holds c) :
    ExtremeOf greater f a c
      (if a.isNaN || c.isNaN then (f.nanCode, 0) else (exactCode f (Ex.extremeOf greater a c), 0)) := by
  have hcode {y : Ex} (hy : y = a ∨ y = c) : CodeOf f y (exactCode f y) := by
    rcases hy with rfl | rfl
    · exact exactCode_codeOf hinf ha
    · exact exactCode_codeOf hinf hc
  have hnan : (a.isNaN || c.isNaN) = true ↔ a = .nan ∨ c = .nan := by
    rw [Bool.or_eq_true, isNaN_iff, isNaN_iff]
  refine ⟨by split <;> rfl, fun h => ?_, fun x y hx hy => ?_, fun n m hn hm => ?_⟩
  · rw [if_pos (hnan.mpr h), formatNaN_eq, if_pos (hasNaN_of_hasInf hinf)]
  · obtain ⟨ha', rfl⟩ := (valueIs_iff a x).mp hx
    obtain ⟨hc', rfl⟩ := (valueIs_iff c y).mp hy
    rw [if_neg fun h => (hnan.mp h).elim ha' hc']
    refine ⟨fun hlt => ?_, fun hlt => ?_, fun heq hne => ?_⟩
    · rw [extremeOf_of_lt ha' hc' greater hlt]
      exact hcode (by cases greater <;> simp)
    · rw [extremeOf_of_gt ha' hc' greater hlt]
      exact hcode (by cases greater <;> simp)
    · rw [extremeOf_of_eq ha' hc' greater heq hne]
      exact hcode (.inl rfl)
  · obtain ⟨m1, e1, rfl, h1⟩ := hn
    obtain ⟨m2, e2, rfl, h2⟩ := hm
    obtain rfl := mul_zpow_eq_zero_iff.mp h1
    obtain rfl := mul_zpow_eq_zero_iff.mp h2
    rw [if_neg fun h => (hnan.mp h).elim nofun nofun]
    obtain ⟨e, he⟩ := extremeOf_zeros greater n m e1 e2
    refine codeOf_zero (e := e) ?_
    rw [← he]
    exact hcode (extremeOf_mem _ _ _)

theorem vMin_extremeOf {f : Fmt} (hinf : f.hasInf = true) {a c : Ex} (b : Ex) (ha : f.Holds a) (hc : f.Holds c) :
    ExtremeOf false f a c (vMin f a b c) := extreme_extremeOf hinf false ha hc

theorem vMax_extremeOf {f : Fmt} (hinf : f.hasInf = true) {a c : Ex} (b : Ex) (ha : f.Holds a) (hc : f.Holds c) :
    ExtremeOf true f a c (vMax f a b c) := extreme_extremeOf hinf true ha hc

/-! ## Compares -/

theorem predicate_iff_compares (p : Nat) (a c : Ex) :
    predicate p (a.isNaN || c.isNaN) (a.lt c) (!(a.isNaN || c.isNaN) && !a.lt c && !c.lt a) = true ↔ Compares p a c := by
  rw [Compares]
  by_cases hnan : a = .nan ∨ c = .nan
  · have hun : (a.isNaN || c.isNaN) = true := by rwa [Bool.or_eq_true, isNaN_iff, isNaN_iff]
    rw [if_pos hnan, hun]
    match p with
    | 0 | 1 | 2 | 3 | 4 | 5 | 6 | n + 7 => simp [predicate]
  · rw [if_neg hnan]
    obtain ⟨ha, hc⟩ := not_or.mp hnan
    have hun : (a.isNaN || c.isNaN) = false := by rwa [Bool.eq_false_iff, Ne, Bool.or_eq_true, isNaN_iff, isNaN_iff]
    have hlt : a.lt c = decide (a.place < c.place) := by rw [Bool.eq_iff_iff, lt_iff_place ha hc, decide_eq_true_iff]
    have heq : (!a.lt c && !c.lt a) = decide (a.place = c.place) := by
      rw [Bool.eq_iff_iff, Bool.and_eq_true, Bool.not_eq_true', Bool.not_eq_true', ← Bool.not_eq_true, ← Bool.not_eq_true,
        lt_iff_place ha hc, lt_iff_place hc ha, not_lt, not_lt, decide_eq_true_iff, le_antisymm_iff, and_comm]
    rw [hun, Bool.not_false, Bool.true_and, heq, hlt]
    simp only [valueIs_iff, ne_eq, ha, hc, not_false_iff, true_and, exists_eq_left, exists_and_left]
    match p with
    | 0 | 1 | 2 | 4 | 5 => simp [predicate]
    | 3 => simp [predicate, le_iff_lt_or_eq]
    | 6 =>
      have hgt : ¬a.place < c.place ∧ ¬a.place = c.place ↔ c.place < a.place := by
        rw [← not_or, ← le_iff_lt_or_eq, not_le]
      simpa [predicate] using hgt
    | n + 7 => simp [predicate]

/-- The element and the flags of a compare (07 R157). -/
def ComparedTo (f : Fmt) (p : Nat) (a c : Ex) (r : Nat × Nat) : Prop :=
  r.2 = 0 ∧ (Compares p a c → r.1 = 2 ^ (formatRow f).1 - 1) ∧ (¬Compares p a c → r.1 = 0)

theorem vCmp_comparedTo (f : Fmt) (p : Nat) (a b c : Ex) : ComparedTo f p a c (vCmp f p a b c) := by
  rw [ComparedTo, ← predicate_iff_compares, formatRow_width]
  exact ⟨rfl, fun h => if_pos h, fun h => if_neg h⟩

/-! ## Elements -/

/-- The value of element j, as an operation reads it. -/
def elementOf (fp : FpMode) (f : Fmt) (v : V1024) (j : Nat) : Ex :=
  (decodeF f (bits v ((formatRow f).1 * j) (formatRow f).1)).flush f fp.ftz

theorem elementOf_holds (fp : FpMode) {f : Fmt} (hinf : f.hasInf = true) (v : V1024) (j : Nat) : f.Holds (elementOf fp f v j) :=
  (decodeF_holds hinf _).flush fp.ftz

/-- A result under whose elements each is as a relation says of its operands: the elements that a typed operation lands. -/
def Relates (i : Instr) (s : State) (so : Sock) (lat : Nat) (f : Fmt) (is : Nat → Nat × Nat → Prop) : Prop :=
  ∃ v, YieldsElements i s so lat (formatRow f).1 v ∧ ∀ j < 1024 / (formatRow f).1, is j (v j)

/-- What a value of coded elements under the mask does. -/
theorem coded_relates {i : Instr} {s : State} {so : Sock} {lat : Nat} {f : Fmt} {g : Nat → Coded} {is : Nat → Nat × Nat → Prop}
    (h : s.discards = false) (hlat : 0 < lat)
    (hi : exec i s = s.vecOut so lat
      (mapCoded f.width (1024 / f.width) fun j => if excludedElem (s.mask so) f.width j then (0, 0) else g j))
    (his : ∀ j, is j (g j)) : Relates i s so lat f is := by
  refine ⟨g, ?_, fun j _ => his j⟩
  rw [formatRow_width]
  exact vecOut_elements i s so lat f.width g h hlat (Nat.mul_div_le 1024 f.width) hi

/-- What a typed operation does whose function meets a relation on the values of a format. -/
theorem typed_relates {i : Instr} {s : State} {so : Sock} {lat : Nat} {f : Fmt} {x : Bool} (hinf : f.hasInf = true)
    {g : Ex → Ex → Ex → Coded} {is : Ex → Ex → Ex → Nat × Nat → Prop} (h : s.discards = false) (hlat : 0 < lat)
    (hi : exec i s = s.vecOut so lat (typedMap s.fp (s.mask so) f g (s.abWide so x).1 (s.ht.opp so) (s.abWide so x).2))
    (his : ∀ y z w, f.Holds y → f.Holds w → is y z w (g y z w)) :
    Relates i s so lat f fun j => is (elementOf s.fp f (if x then s.hand.tv else s.ht.opo so) j)
      (elementOf s.fp f (s.ht.opp so) j) (elementOf s.fp f (if x then s.ht.opo so else s.hand.tv) j) := by
  rw [abWide_eq] at hi
  refine coded_relates h hlat ?_ fun j => his _ _ _ (elementOf_holds _ hinf _ _) (elementOf_holds _ hinf _ _)
  simp only [elementOf, formatRow_width]
  exact hi

theorem class_relates {s : State} (f : FTy) (h : s.discards = false) :
    Relates (.vfaClass f) s .vfa 3 (ftyFmt f) fun j r =>
      ClassIs (ftyFmt f) (bits s.hand.tv ((formatRow (ftyFmt f)).1 * j) (formatRow (ftyFmt f)).1) r.1 ∧ r.2 = 0 := by
  refine ⟨_, vecInt_elements h (by decide) rfl fun j hj => ?_, fun j _ => ⟨classBits_classIs _ _, rfl⟩⟩
  rw [vClass, ← formatRow_width]
  exact bits_maskedElems _ _ _ hj

/-- The signed reading of a field, cut at its sign. -/
theorem sbits_eq {n : Nat} (x : BitVec n) (lo : Nat) {w : Nat} (hw : 0 < w) :
    sbits x lo w = if bits x lo w < 2 ^ (w - 1) then (bits x lo w : Int) else (bits x lo w : Int) - 2 ^ w := by
  have hpow : 2 ^ w = 2 * 2 ^ (w - 1) := by rw [← Nat.pow_succ', Nat.succ_eq_add_one, Nat.sub_add_cancel hw]
  rw [sbits, sx]
  simp only [bits_mod_width]
  exact if_congr (by omega) rfl rfl

theorem arith_scale_encodes (fp : FpMode) {f : Fmt} (hinf : f.hasInf = true) {x : Ex} (hx : f.Holds x) (k : Int) :
    Encodes fp f (if fp.rm = 4 then 0 else fp.rm) false 0 (2 ^ k) x (arith fp f (x.scale (min (max k (-2048)) 2048))) := by
  rw [arith_scale_clamp fp hinf hx]
  exact encodes_of_scale (encodeResult_encodes fp (ne_mi8_of_hasInf hinf) _ 0 _ (.inr hinf))

theorem scale_relates {s : State} (f : FTy) (x : Bool) (h : s.discards = false) :
    let a := if x then s.hand.tv else s.ht.opo .vfa
    let c := if x then s.ht.opo .vfa else s.hand.tv
    let w := (formatRow (ftyFmt f)).1
    Relates (.vfaScale f x) s .vfa 3 (ftyFmt f) fun j r =>
      let k := bits c (w * j) w
      let power : Int := if k < 2 ^ (w - 1) then k else (k : Int) - 2 ^ w
      Encodes s.fp (ftyFmt f) (if s.fp.rm = 4 then 0 else s.fp.rm) false 0 (2 ^ power) (elementOf s.fp (ftyFmt f) a j) r := by
  intro a c w
  have hw : 0 < w := by
    rw [show w = (ftyFmt f).width from formatRow_width _]
    exact width_pos _
  have hi : exec (.vfaScale f x) s = s.vecOut .vfa 3 (vScale s.fp (s.mask .vfa) (ftyFmt f) a c) := by
    cases x <;> rfl
  refine coded_relates (g := fun j => arith s.fp (ftyFmt f) ((elementOf s.fp (ftyFmt f) a j).scale
    (min (max (sbits c (w * j) w) (-2048)) 2048))) h (by decide) ?_ fun j => ?_
  · simp only [elementOf, w, formatRow_width]
    exact hi
  · simp only [← sbits_eq c _ hw]
    exact arith_scale_encodes _ (hasInf_ftyFmt f) (elementOf_holds _ (hasInf_ftyFmt f) _ _) _

/-- Settles O7: each typed operation works element by element, on exact values that are rounded once, or on the order and the
classes of the values that the format holds. -/
theorem floatElements : Obligations.FloatElements := by
  unfold Obligations.FloatElements
  intro s f x h m g element read results vfa vfb sums
  have hinf : g.hasInf = true := hasInf_ftyFmt f
  have hround (y : Ex × Nat) := rounded_roundsOnceTo m hinf y
  refine ⟨?_, ?_, ?_, ?_, ?_, ?_, ?_, ?_, ?_, ?_, class_relates f h, scale_relates f x h, ?_, ?_, ?_, ?_⟩
  · exact typed_relates (x := false) (is := fun y _ w r => sums y w r) hinf h (by decide) rfl
      fun _ _ _ _ _ => ⟨_, _, add_exactSum _ _ _, hround _⟩
  · exact typed_relates (is := fun y _ w r => ∃ w', Turned w w' ∧ sums y w' r) hinf h (by decide) rfl
      fun _ _ w _ _ => ⟨w.neg, neg_turned w, _, _, add_exactSum _ _ _, hround _⟩
  · exact typed_relates (x := false) (is := fun y _ w r => ∃ z fl, ExactProduct y w z fl ∧ RoundsOnceTo m g z fl r) hinf h
      (by decide) rfl fun _ _ _ _ _ => ⟨_, _, mul_exactProduct _ _, hround _⟩
  · exact typed_relates hinf h (by decide) rfl fun y z w _ _ => vFma_fusedTo m hinf false false y z w
  · exact typed_relates hinf h (by decide) rfl fun y z w _ _ => vFma_fusedTo m hinf false true y z w
  · exact typed_relates hinf h (by decide) rfl fun y z w _ _ => vFma_fusedTo m hinf true false y z w
  · exact typed_relates hinf h (by decide) rfl fun y z w _ _ => vFma_fusedTo m hinf true true y z w
  · exact typed_relates (x := false) hinf h (by decide) rfl fun _ z _ hy hw => vMin_extremeOf hinf z hy hw
  · exact typed_relates (x := false) hinf h (by decide) rfl fun _ z _ hy hw => vMax_extremeOf hinf z hy hw
  · exact typed_relates (is := fun y _ w r => ComparedTo g ((s.ht.opp .vfa).toNat % 8) y w r) hinf h (by decide) rfl
      fun y z w _ _ => vCmp_comparedTo g _ y z w
  · exact typed_relates rfl h (by decide) rfl fun y z w _ _ => vFma_fusedTo m rfl false false y z w
  · exact typed_relates rfl h (by decide) rfl fun y z w _ _ => vFma_fusedTo m rfl false true y z w
  · exact typed_relates rfl h (by decide) rfl fun y z w _ _ => vFma_fusedTo m rfl true false y z w
  · exact typed_relates rfl h (by decide) rfl fun y z w _ _ => vFma_fusedTo m rfl true true y z w

end Sys2Proof.Machine
end

section
/-!
PROOFS (08 R172). The series behind the transcendental functions as real numbers: how near the partial sums of arctan, artanh and
e^x come, and the integral of the normal distribution with its series and its tail.
-/

namespace Sys2Proof.Machine
open Finset Real

/-! ## Partial sums -/

/-- The odd powers of a series at x ≤ 1/3 with coefficients of at most 1 in size, cut after n terms. -/
theorem dist_oddPowers {x s : ℝ} (hx : 0 ≤ x) (hx3 : x ≤ 1 / 3) {c : ℕ → ℝ} (hc : ∀ i, |c i| ≤ 1)
    (hs : HasSum (fun i => c i * x ^ (2 * i + 1)) s) (n : ℕ) :
    |∑ i ∈ range n, c i * x ^ (2 * i + 1) - s| ≤ (1 / 9) ^ n := by
  have hstep (i : ℕ) : dist (∑ j ∈ range i, c j * x ^ (2 * j + 1)) (∑ j ∈ range (i + 1), c j * x ^ (2 * j + 1))
      ≤ 1 / 3 * (1 / 9) ^ i := by
    rw [sum_range_succ, dist_self_add_right, norm_mul, norm_of_nonneg (pow_nonneg hx _), norm_eq_abs]
    calc |c i| * x ^ (2 * i + 1) ≤ 1 * (1 / 3) ^ (2 * i + 1) :=
          mul_le_mul (hc i) (pow_le_pow_left₀ hx hx3 _) (pow_nonneg hx _) zero_le_one
      _ = 1 / 3 * (1 / 9) ^ i := by
          rw [pow_succ, pow_mul]
          norm_num [mul_comm]
  have hdist := dist_le_of_le_geometric_of_tendsto (1 / 9) (1 / 3) (by norm_num) hstep hs.tendsto_sum_nat n
  rw [dist_eq] at hdist
  refine hdist.trans ?_
  have hpow : (0 : ℝ) ≤ (1 / 9) ^ n := by positivity
  linarith [show (1 / 3 : ℝ) * (1 / 9) ^ n / (1 - 1 / 9) = 3 / 8 * (1 / 9) ^ n by ring]

theorem abs_coeff_le {c : ℝ} (hc : |c| = 1) (i : ℕ) : |c / (2 * i + 1)| ≤ 1 := by
  rw [abs_div, hc, abs_of_pos (by positivity)]
  exact (div_le_one (by positivity)).mpr (by linarith [Nat.cast_nonneg (α := ℝ) i])

theorem dist_arctan {x : ℝ} (hx : 0 ≤ x) (hx3 : x ≤ 1 / 3) (n : ℕ) :
    |∑ i ∈ range n, (-1) ^ i / (2 * i + 1) * x ^ (2 * i + 1) - arctan x| ≤ (1 / 9) ^ n := by
  refine dist_oddPowers hx hx3 (fun i => abs_coeff_le (by simp) i) ?_ n
  have h := Real.hasSum_arctan (x := x) (by rw [norm_of_nonneg hx]; linarith)
  simp only [Nat.cast_add, Nat.cast_mul, Nat.cast_ofNat, Nat.cast_one, mul_div_right_comm] at h
  exact h

theorem dist_artanh {x : ℝ} (hx : 0 ≤ x) (hx3 : x ≤ 1 / 3) (n : ℕ) :
    |∑ i ∈ range n, 1 / (2 * i + 1) * x ^ (2 * i + 1) - (log (1 + x) - log (1 - x)) / 2| ≤ (1 / 9) ^ n := by
  refine dist_oddPowers hx hx3 (fun i => abs_coeff_le abs_one i) ?_ n
  have h := (hasSum_log_sub_log_of_abs_lt_one (x := x) (by rw [abs_of_nonneg hx]; linarith)).div_const 2
  simp only [mul_assoc, mul_div_cancel_left₀ _ (two_ne_zero (α := ℝ))] at h
  exact h

/-- A power over its factorial falls behind each geometric progression. -/
theorem pow_div_factorial_le {y a : ℝ} (hy : 0 ≤ y) (ha : 0 < a) (n : ℕ) : y ^ n / n.factorial ≤ exp (a * y) / a ^ n := by
  rw [le_div_iff₀ (pow_pos ha n), div_mul_eq_mul_div, ← mul_pow, mul_comm y]
  exact pow_div_factorial_le_exp _ (by positivity) n

theorem dist_exp {x : ℝ} (hx : 0 ≤ x) (hx1 : x ≤ 1) {n : ℕ} (hn : 0 < n) :
    |∑ i ∈ range n, x ^ i / i.factorial - exp x| ≤ 2 * exp 4 / 4 ^ n := by
  have hlo := sum_le_exp_of_nonneg hx n
  have hhi := exp_bound' hx hx1 hn
  have htail := pow_div_factorial_le hx (a := 4) (by norm_num) n
  have hexp : exp (4 * x) / 4 ^ n ≤ exp 4 / 4 ^ n := by
    gcongr
    linarith
  have hn1 : (1 : ℝ) ≤ n := by exact_mod_cast hn
  have hratio : x ^ n * (n + 1) / (n.factorial * n) ≤ x ^ n / n.factorial * 2 := by
    rw [show x ^ n * (n + 1) / (n.factorial * n) = x ^ n / n.factorial * ((n + 1) / n) by field_simp]
    refine mul_le_mul_of_nonneg_left ?_ (by positivity)
    rw [div_le_iff₀ (by linarith)]
    linarith
  rw [abs_sub_comm, abs_of_nonneg (sub_nonneg.mpr hlo), mul_div_assoc]
  linarith

/-! ## The normal distribution -/

/-- The integral of e^(-t^2/2) from 0. -/
noncomputable def bell (x : ℝ) : ℝ := ∫ t in (0 : ℝ)..x, exp (-(t ^ 2) / 2)

/-- Term i of the series of `bell x` times e^(x^2/2): x^(2i+1) over the product of the odd numbers to 2i+1. -/
noncomputable def bellTerm (x : ℝ) : ℕ → ℝ
  | 0 => x
  | i + 1 => bellTerm x i * x ^ 2 / (2 * i + 3)

theorem continuous_bellDensity : Continuous fun t : ℝ => exp (-(t ^ 2) / 2) := by fun_prop

theorem bellTerm_eq (x : ℝ) (i : ℕ) : bellTerm x i = bellTerm 1 i * x ^ (2 * i + 1) := by
  induction i with
  | zero => simp [bellTerm]
  | succ i ih =>
    rw [bellTerm, bellTerm, ih]
    ring

theorem hasDerivAt_bellTerm_succ (x : ℝ) (i : ℕ) : HasDerivAt (fun x => bellTerm x (i + 1)) (x * bellTerm x i) x := by
  have hfun : (fun x => bellTerm x (i + 1)) = fun x => bellTerm 1 (i + 1) * x ^ (2 * (i + 1) + 1) :=
    funext fun x => bellTerm_eq x _
  have hne : (2 * (i : ℝ) + 3) ≠ 0 := by positivity
  rw [hfun, bellTerm_eq x]
  refine ((hasDerivAt_pow (2 * (i + 1) + 1) x).const_mul (bellTerm 1 (i + 1))).congr_deriv ?_
  rw [bellTerm, show 2 * (i + 1) + 1 - 1 = 2 * i + 1 + 1 by omega]
  push_cast
  field_simp
  ring

theorem bellTerm_nonneg {x : ℝ} (hx : 0 ≤ x) (i : ℕ) : 0 ≤ bellTerm x i := by
  induction i with
  | zero => exact hx
  | succ i ih =>
    rw [bellTerm]
    positivity

theorem bellTerm_le {x : ℝ} (hx : 0 ≤ x) (i : ℕ) : bellTerm x i ≤ x * ((x ^ 2 / 2) ^ i / i.factorial) := by
  induction i with
  | zero => simp [bellTerm]
  | succ i ih =>
    have hden : 2 * ((i : ℝ) + 1) ≤ 2 * i + 3 := by linarith
    calc bellTerm x (i + 1) ≤ x * ((x ^ 2 / 2) ^ i / i.factorial) * x ^ 2 / (2 * (i + 1)) := by
          rw [bellTerm]
          gcongr
      _ = x * ((x ^ 2 / 2) ^ (i + 1) / (i + 1).factorial) := by
          rw [pow_succ, Nat.factorial_succ]
          push_cast
          field_simp
          ring

/-- The derivative of the first terms of the series, which telescopes. -/
theorem hasDerivAt_bellSum (x : ℝ) (n : ℕ) :
    HasDerivAt (fun x => ∑ i ∈ range (n + 1), bellTerm x i) (1 + x * ∑ i ∈ range n, bellTerm x i) x := by
  induction n with
  | zero => simpa [bellTerm] using hasDerivAt_id' x
  | succ n ih =>
    simp only [sum_range_succ _ (n + 1)]
    refine (ih.add (hasDerivAt_bellTerm_succ x n)).congr_deriv ?_
    rw [sum_range_succ]
    ring

theorem hasDerivAt_bellDensity (x : ℝ) : HasDerivAt (fun x : ℝ => exp (-(x ^ 2) / 2)) (-x * exp (-(x ^ 2) / 2)) x := by
  refine ((hasDerivAt_pow 2 x).fun_neg.div_const 2).exp.congr_deriv ?_
  push_cast
  ring

/-- The series of `bell`, cut: what is left is the integral of its last term. -/
theorem bell_sub_series (x : ℝ) (n : ℕ) :
    bell x - exp (-(x ^ 2) / 2) * ∑ i ∈ range (n + 1), bellTerm x i
      = ∫ t in (0 : ℝ)..x, exp (-(t ^ 2) / 2) * (t * bellTerm t n) := by
  have hcont : Continuous fun t => bellTerm t n := by
    rw [show (fun t => bellTerm t n) = fun t => bellTerm 1 n * t ^ (2 * n + 1) from funext fun t => bellTerm_eq t n]
    fun_prop
  have hderiv (t : ℝ) : HasDerivAt (fun t => exp (-(t ^ 2) / 2) * ∑ i ∈ range (n + 1), bellTerm t i)
      (exp (-(t ^ 2) / 2) - exp (-(t ^ 2) / 2) * (t * bellTerm t n)) t := by
    refine ((hasDerivAt_bellDensity t).mul (hasDerivAt_bellSum t n)).congr_deriv ?_
    rw [sum_range_succ]
    ring
  have hrest : Continuous fun t : ℝ => exp (-(t ^ 2) / 2) * (t * bellTerm t n) :=
    continuous_bellDensity.mul (continuous_id.mul hcont)
  have hftc := intervalIntegral.integral_eq_sub_of_hasDerivAt (a := 0) (b := x) (fun t _ => hderiv t)
    ((continuous_bellDensity.sub hrest).intervalIntegrable 0 x)
  have hzero : ∑ i ∈ range (n + 1), bellTerm 0 i = 0 := sum_eq_zero fun i _ => by rw [bellTerm_eq, zero_pow (by omega), mul_zero]
  rw [intervalIntegral.integral_sub (continuous_bellDensity.intervalIntegrable 0 x) (hrest.intervalIntegrable 0 x), hzero,
    mul_zero, sub_zero] at hftc
  rw [bell]
  linarith

/-- The integral of e^(-t^2/2) from x on. -/
noncomputable def bellTail (x : ℝ) : ℝ := ∫ t in Set.Ioi x, exp (-(t ^ 2) / 2)

theorem integrableOn_bellDensity (s : Set ℝ) : MeasureTheory.IntegrableOn (fun t : ℝ => exp (-(t ^ 2) / 2)) s := by
  have h := integrable_exp_neg_mul_sq (b := 1 / 2) (by norm_num)
  rw [show (fun t : ℝ => exp (-(t ^ 2) / 2)) = fun t => exp (-(1 / 2) * t ^ 2) from funext fun t => by ring_nf]
  exact h.integrableOn

theorem bellTail_eq_add (x y : ℝ) : bellTail x = (∫ t in x..y, exp (-(t ^ 2) / 2)) + bellTail y :=
  (intervalIntegral.integral_interval_add_Ioi (integrableOn_bellDensity _) (integrableOn_bellDensity _)).symm

theorem bellTail_nonneg (x : ℝ) : 0 ≤ bellTail x := MeasureTheory.integral_nonneg fun _ => (exp_pos _).le

theorem bell_add_bellTail (x : ℝ) : bell x + bellTail x = √(2 * π) / 2 := by
  have h := integral_gaussian_Ioi (1 / 2)
  rw [bell, ← bellTail_eq_add, bellTail, show 2 * π = π / (1 / 2) by ring, ← h]
  exact MeasureTheory.integral_congr_ae (.of_forall fun t => by ring_nf)

/-- How small the tail can be. -/
theorem le_bellTail {x : ℝ} (hx : 0 ≤ x) : exp (-((x + 1) ^ 2) / 2) ≤ bellTail x := by
  have hle : (x + 1 - x) * exp (-((x + 1) ^ 2) / 2) ≤ ∫ t in x..x + 1, exp (-(t ^ 2) / 2) := by
    rw [← smul_eq_mul, ← intervalIntegral.integral_const]
    refine intervalIntegral.integral_mono_on (by linarith) intervalIntegrable_const
      (continuous_bellDensity.intervalIntegrable _ _) fun t ht => exp_le_exp.mpr ?_
    nlinarith [ht.1, ht.2]
  rw [bellTail_eq_add x (x + 1)]
  linarith [bellTail_nonneg (x + 1)]

/-- How small the tail is from 16 on. -/
theorem bellTail_le {x : ℝ} (hx : 16 ≤ x) : bellTail x ≤ exp (-8 * x) / 8 := by
  have hint := integral_exp_mul_Ioi (a := -8) (by norm_num) x
  have hle : bellTail x ≤ ∫ t in Set.Ioi x, exp (-8 * t) := by
    refine MeasureTheory.setIntegral_mono_on (integrableOn_bellDensity _) (integrableOn_exp_mul_Ioi (by norm_num) x)
      measurableSet_Ioi fun t ht => exp_le_exp.mpr ?_
    have ht : x < t := ht
    nlinarith
  rw [hint] at hle
  linarith

end Sys2Proof.Machine
end

section
/-!
PROOFS (08 R172). Fixed point with 640 bits of fraction: products, quotients and series but for a number of units, and logarithms.
-/

namespace Sys2Proof.Machine
open Finset Real

/-! ## Fixed point -/

theorem natDiv_bounds (a : ℕ) {b : ℕ} (hb : 0 < b) : (a : ℝ) / b - 1 < (a / b : ℕ) ∧ ((a / b : ℕ) : ℝ) ≤ a / b := by
  rw [← Nat.floor_div_eq_div (K := ℝ)]
  exact ⟨Nat.sub_one_lt_floor _, Nat.floor_le (by positivity)⟩

theorem fxOne_pos : 0 < fxOne := Nat.two_pow_pos _

/-- One in fixed point, as a real number. -/
@[irreducible] noncomputable def fxUnit : ℝ := fxOne

theorem fxUnit_pos : 0 < fxUnit := by
  rw [fxUnit]
  exact Nat.cast_pos.mpr fxOne_pos

theorem fxUnit_eq : fxUnit = 2 ^ fxBits := by
  rw [fxUnit, fxOne, Nat.cast_pow, Nat.cast_ofNat]

theorem two_pow_mul_le_fxUnit {a b : ℕ} (h : a + b ≤ 640) : (2 : ℝ) ^ a * 2 ^ b ≤ fxUnit := by
  rw [fxUnit_eq, ← pow_add]
  exact pow_le_pow_right₀ one_le_two h

theorem fxUnit_ge : (2 : ℝ) ^ 200 ≤ fxUnit := by
  rw [← mul_one ((2 : ℝ) ^ 200), ← pow_zero (2 : ℝ)]
  exact two_pow_mul_le_fxUnit (by decide)

/-- a is y in fixed point but for n units. -/
def FxNear (a : ℕ) (y n : ℝ) : Prop := |(a : ℝ) - fxUnit * y| ≤ n

theorem FxNear.mono {a : ℕ} {y n k : ℝ} (h : FxNear a y n) (hk : n ≤ k) : FxNear a y k := le_trans h hk

theorem FxNear.nonneg {a : ℕ} {y n : ℝ} (h : FxNear a y n) : 0 ≤ n := le_trans (abs_nonneg _) h

theorem FxNear.add_one {a : ℕ} {y n : ℝ} (h : FxNear a y n) : FxNear (a + fxOne) (y + 1) n := by
  rw [FxNear, Nat.cast_add, ← fxUnit, show (a : ℝ) + fxUnit - fxUnit * (y + 1) = a - fxUnit * y by ring]
  exact h

theorem FxNear.sub_one {a : ℕ} {y n : ℝ} (h : FxNear a y n) (ha : fxOne ≤ a) : FxNear (a - fxOne) (y - 1) n := by
  rw [FxNear, Nat.cast_sub ha, ← fxUnit, show (a : ℝ) - fxUnit - fxUnit * (y - 1) = a - fxUnit * y by ring]
  exact h

theorem fxNear_fxOne : FxNear fxOne 1 0 := by
  rw [FxNear, ← fxUnit, mul_one, sub_self, abs_zero]

theorem fxNear_div (a : ℕ) {b : ℕ} (hb : 0 < b) {v : ℝ} {n : ℝ} (h : |(a : ℝ) / b - fxUnit * v| ≤ n) :
    FxNear (a / b) v (1 + n) := by
  obtain ⟨hlo, hhi⟩ := natDiv_bounds a hb
  rw [abs_le] at h
  rw [FxNear, abs_le]
  constructor <;> linarith

theorem fxMul_bounds (a b : ℕ) : (a : ℝ) * (b / fxUnit) - 1 < fxMul a b ∧ (fxMul a b : ℝ) ≤ a * (b / fxUnit) := by
  have h := natDiv_bounds (a * b) fxOne_pos
  rwa [Nat.cast_mul, ← fxUnit, mul_div_assoc] at h

theorem fxDiv_bounds (a : ℕ) {b : ℕ} (hb : 0 < b) : fxUnit * (a / b) - 1 < fxDiv a b ∧ (fxDiv a b : ℝ) ≤ fxUnit * (a / b) := by
  have h := natDiv_bounds (a * fxOne) hb
  rwa [Nat.cast_mul, ← fxUnit, mul_comm, mul_div_assoc] at h

theorem fxMul_near {a b : ℕ} {y z n k : ℝ} (ha : FxNear a y n) (hb : FxNear b z k) :
    FxNear (fxMul a b) (y * z) (1 + (n * (b / fxUnit) + |y| * k)) := by
  have hU := fxUnit_pos
  refine fxNear_div _ fxOne_pos ?_
  rw [Nat.cast_mul, ← fxUnit, show (a * b : ℝ) / fxUnit - fxUnit * (y * z) =
      (a - fxUnit * y) * (b / fxUnit) + y * (b - fxUnit * z) by
    field_simp
    ring]
  refine (abs_add_le _ _).trans (add_le_add ?_ ?_)
  · rw [abs_mul, abs_of_nonneg (show (0 : ℝ) ≤ b / fxUnit by positivity)]
    exact mul_le_mul_of_nonneg_right ha (by positivity)
  · rw [abs_mul]
    exact mul_le_mul_of_nonneg_left hb (abs_nonneg y)

theorem fxDiv_near {a b : ℕ} {y z n k : ℝ} (ha : FxNear a y n) (hb : FxNear b z k) (hpos : 0 < b) (hz : 0 < z) :
    FxNear (fxDiv a b) (y / z) (1 + (n + |y| / z * k) * (fxUnit / b)) := by
  have hU := fxUnit_pos
  have hb' : (0 : ℝ) < b := Nat.cast_pos.mpr hpos
  refine fxNear_div _ hpos ?_
  rw [Nat.cast_mul, ← fxUnit, show (a * fxUnit : ℝ) / b - fxUnit * (y / z) =
      ((a - fxUnit * y) - y / z * (b - fxUnit * z)) * (fxUnit / b) by
    field_simp
    ring, abs_mul, abs_of_nonneg (show (0 : ℝ) ≤ fxUnit / b by positivity)]
  refine mul_le_mul_of_nonneg_right ((abs_sub _ _).trans (add_le_add ha ?_)) (by positivity)
  rw [abs_mul, abs_div, abs_of_pos hz]
  exact mul_le_mul_of_nonneg_left hb (by positivity)

theorem toFx_cast (m : ℕ) {e : ℤ} (he : -640 ≤ e) : (toFx m e : ℝ) = fxUnit * (m * 2 ^ e) := by
  have hbits : (fxBits : ℤ) = 640 := rfl
  have hexp : (2 : ℝ) ^ (e + fxBits).toNat = 2 ^ e * 2 ^ fxBits := by
    rw [← zpow_natCast, Int.toNat_of_nonneg (by omega), zpow_add₀ two_ne_zero, zpow_natCast]
  rw [toFx, if_pos (by omega), Nat.cast_mul, Nat.cast_pow, Nat.cast_ofNat, hexp, fxUnit_eq]
  ring

/-! ## Series in fixed point -/

/-- A series is the sum of its terms; no term follows 0. -/
theorem series_eq_sum {next : ℕ → ℕ → ℕ} (hnext : ∀ i, next i 0 = 0) {T : ℕ → ℕ} (hT : ∀ i, T (i + 1) = next i (T i))
    (fuel i acc : ℕ) : series next fuel i (T i) acc = acc + ∑ j ∈ range fuel, T (i + j) := by
  induction fuel generalizing i acc with
  | zero => rfl
  | succ fuel ih =>
    rw [series, sum_range_succ']
    split
    · next hzero =>
      have hall (j : ℕ) : T (i + j) = 0 := by
        induction j with
        | zero => exact hzero
        | succ j ihj => rw [← Nat.add_assoc, hT, ihj, hnext]
      simp [hall, hzero]
    · rw [← hT, ih]
      simp only [Nat.add_zero, show ∀ j, i + 1 + j = i + (j + 1) from fun j => by omega]
      ring

/-- An error that each term hands on in the proportion of y to its number, with one of c of its own, stays below c e^y. -/
theorem error_le_exp {δ : ℕ → ℝ} {y c : ℝ} (hy : 0 ≤ y) (hc : 0 ≤ c) (h0 : δ 0 ≤ 0)
    (hstep : ∀ i, δ (i + 1) ≤ y / (i + 1 : ℕ) * δ i + c) (i : ℕ) : δ i ≤ c * exp y := by
  suffices h : δ i ≤ c * ∑ k ∈ range i, y ^ k / k.factorial from
    h.trans (mul_le_mul_of_nonneg_left (sum_le_exp_of_nonneg hy i) hc)
  induction i with
  | zero => simpa using h0
  | succ i ih =>
    have hshift : y / (i + 1 : ℕ) * ∑ k ∈ range i, y ^ k / k.factorial ≤ ∑ k ∈ range i, y ^ (k + 1) / (k + 1).factorial := by
      rw [mul_sum]
      refine sum_le_sum fun k hk => ?_
      rw [Nat.factorial_succ, Nat.cast_mul, div_mul_div_comm, ← pow_succ']
      have hle : ((k + 1 : ℕ) : ℝ) ≤ (i + 1 : ℕ) := by
        have := mem_range.mp hk
        exact_mod_cast (by omega : k + 1 ≤ i + 1)
      gcongr
    have hmul := mul_le_mul_of_nonneg_left ih (show (0 : ℝ) ≤ y / (i + 1 : ℕ) by positivity)
    rw [sum_range_succ', pow_zero, Nat.factorial_zero, Nat.cast_one, div_one]
    nlinarith [hstep i]

/-- The terms of a series whose term i + 1 is term i times z over d i, cut to a whole number. -/
def seriesTerm (d : ℕ → ℕ) (z t : ℕ) : ℕ → ℕ
  | 0 => t
  | i + 1 => fxMul (seriesTerm d z t i) z / d i

theorem series_near {d : ℕ → ℕ} {z t fuel : ℕ} {A : ℕ → ℝ} {ζ η y M : ℝ} (hd : ∀ i, 0 < d i) (hA0 : A 0 = t)
    (hA : ∀ i, A (i + 1) = A i * ζ / d i) (hM : ∀ i, A i ≤ M) (hlo : (z : ℝ) / fxUnit ≤ ζ) (hhi : ζ ≤ z / fxUnit + η) (hη : 0 ≤ η)
    (hy : ∀ i, ζ / d i ≤ y / (i + 1 : ℕ)) :
    |(series (fun i t => fxMul t z / d i) fuel 0 t 0 : ℝ) - ∑ i ∈ range fuel, A i| ≤ fuel * ((1 + M * η) * exp y) := by
  have hU := fxUnit_pos
  have hz : (0 : ℝ) ≤ z / fxUnit := by positivity
  have hζ : 0 ≤ ζ := hz.trans hlo
  have hM0 : 0 ≤ M := le_trans (by rw [hA0]; positivity) (hM 0)
  have hy0 : 0 ≤ y := by
    have h := hy 0
    have h0 : (0 : ℝ) ≤ ζ / d 0 := by positivity
    simp only [Nat.zero_add, Nat.cast_one, div_one] at h
    exact h0.trans h
  have hbounds (i : ℕ) : (seriesTerm d z t i : ℝ) * (z / fxUnit) / d i - 1 ≤ seriesTerm d z t (i + 1)
      ∧ (seriesTerm d z t (i + 1) : ℝ) ≤ seriesTerm d z t i * (z / fxUnit) / d i := by
    obtain ⟨h1, h2⟩ := natDiv_bounds (seriesTerm d z t i * z) (Nat.mul_pos fxOne_pos (hd i))
    rw [← Nat.div_div_eq_div_mul, Nat.cast_mul, Nat.cast_mul, ← fxUnit, ← div_div, mul_div_assoc] at h1 h2
    exact ⟨h1.le, h2⟩
  have hle (i : ℕ) : (seriesTerm d z t i : ℝ) ≤ A i := by
    induction i with
    | zero => exact hA0.ge
    | succ i ih =>
      rw [hA]
      have hA0 := (Nat.cast_nonneg _).trans ih
      refine (hbounds i).2.trans ?_
      gcongr
  have herr (i : ℕ) : A i - seriesTerm d z t i ≤ (1 + M * η) * exp y := by
    refine error_le_exp (δ := fun i => A i - seriesTerm d z t i) hy0 (by positivity) (by rw [hA0]; exact (sub_self _).le)
      (fun i => ?_) i
    have hd1 : (1 : ℝ) ≤ d i := by exact_mod_cast hd i
    have hT : (seriesTerm d z t i : ℝ) * (ζ - z / fxUnit) / d i ≤ M * η := by
      rw [div_le_iff₀ (by linarith)]
      have h1 : (seriesTerm d z t i : ℝ) * (ζ - z / fxUnit) ≤ M * η :=
        mul_le_mul ((hle i).trans (hM i)) (by linarith) (by linarith) hM0
      nlinarith [mul_nonneg hM0 hη]
    have hprop : (A i - seriesTerm d z t i) * (ζ / d i) ≤ (A i - seriesTerm d z t i) * (y / (i + 1 : ℕ)) :=
      mul_le_mul_of_nonneg_left (hy i) (sub_nonneg.mpr (hle i))
    have hsplit : A i * ζ / d i = (A i - seriesTerm d z t i) * (ζ / d i) + seriesTerm d z t i * (ζ - z / fxUnit) / d i
        + seriesTerm d z t i * (z / fxUnit) / d i := by ring
    rw [hA, hsplit]
    linarith [(hbounds i).1]
  have hsum := series_eq_sum (next := fun i t => fxMul t z / d i) (fun i => by simp [fxMul]) (T := seriesTerm d z t)
    (fun _ => rfl) fuel 0 0
  rw [seriesTerm] at hsum
  rw [hsum, Nat.zero_add, Nat.cast_sum, ← sum_sub_distrib]
  simp only [Nat.zero_add]
  refine (abs_sum_le_sum_abs _ _).trans ((sum_le_card_nsmul _ _ _ fun i _ => ?_).trans_eq (by rw [card_range, nsmul_eq_mul]))
  rw [abs_sub_comm, abs_of_nonneg (sub_nonneg.mpr (hle i))]
  exact herr i

/-! ## Logarithms in fixed point -/

/-- The odd powers of t that `fxAtanh` sums. -/
def oddPower (t2 t : ℕ) : ℕ → ℕ
  | 0 => t
  | i + 1 => fxMul (oddPower t2 t i) t2

theorem atanhFrom_eq_sum (t2 t fuel i acc : ℕ) :
    atanhFrom t2 fuel i (oddPower t2 t i) acc = acc + ∑ j ∈ range fuel, oddPower t2 t (i + j) / (2 * (i + j) + 1) := by
  induction fuel generalizing i acc with
  | zero => rfl
  | succ fuel ih =>
    rw [atanhFrom, sum_range_succ']
    split
    · next hzero =>
      have hall (j : ℕ) : oddPower t2 t (i + j) = 0 := by
        induction j with
        | zero => exact hzero
        | succ j ihj => rw [← Nat.add_assoc, oddPower, ihj, fxMul, Nat.zero_mul, Nat.zero_div]
      simp [hall, hzero]
    · rw [← oddPower, ih]
      simp only [Nat.add_zero, show ∀ j, i + 1 + j = i + (j + 1) from fun j => by omega]
      ring

theorem fxUnit_mul_pow_le_one : fxUnit * (1 / 9) ^ 400 ≤ 1 := by
  have h9 : (8 : ℝ) ^ 400 ≤ 9 ^ 400 := pow_le_pow_left₀ (by norm_num) (by norm_num) _
  have h8 : (2 : ℝ) ^ fxBits ≤ 8 ^ 400 := by
    rw [show (8 : ℝ) = 2 ^ 3 by norm_num, ← pow_mul]
    exact pow_le_pow_right₀ one_le_two (by decide)
  rw [one_div, inv_pow, ← div_eq_mul_inv, div_le_one (by positivity), fxUnit_eq]
  exact h8.trans h9

/-- Terms that are each within c, and a sum that is within 1, of the exact ones. -/
theorem abs_sum_sub_le {n : ℕ} {f : ℕ → ℝ} {g : ℕ → ℝ} {c s : ℝ} (hterm : ∀ i, |f i - fxUnit * g i| ≤ c)
    (hsum : fxUnit * |∑ i ∈ range n, g i - s| ≤ 1) : |∑ i ∈ range n, f i - fxUnit * s| ≤ n * c + 1 := by
  have hsplit : ∑ i ∈ range n, f i - fxUnit * s
      = ∑ i ∈ range n, (f i - fxUnit * g i) + fxUnit * (∑ i ∈ range n, g i - s) := by
    rw [sum_sub_distrib, ← mul_sum]
    ring
  rw [hsplit]
  refine (abs_add_le _ _).trans (add_le_add ?_ ?_)
  · refine (abs_sum_le_sum_abs _ _).trans ((sum_le_card_nsmul _ _ _ fun i _ => hterm i).trans_eq ?_)
    rw [card_range, nsmul_eq_mul]
  · rwa [abs_mul, abs_of_pos fxUnit_pos]

theorem oddPower_near {t : ℕ} (ht : (t : ℝ) / fxUnit ≤ 1 / 3) (i : ℕ) :
    (oddPower (fxMul t t) t i : ℝ) ≤ fxUnit * (t / fxUnit) ^ (2 * i + 1)
      ∧ fxUnit * (t / fxUnit) ^ (2 * i + 1) - 3 ≤ oddPower (fxMul t t) t i := by
  have hU := fxUnit_pos
  have hτ : (0 : ℝ) ≤ t / fxUnit := by positivity
  generalize hx : (t : ℝ) / fxUnit = x at *
  have htx : (t : ℝ) = fxUnit * x := by
    rw [← hx]
    field_simp
  obtain ⟨hsq1, hsq2⟩ := fxMul_bounds t t
  rw [hx, htx, mul_assoc, ← sq] at hsq1 hsq2
  induction i with
  | zero => exact ⟨by simp [oddPower, htx], by simp [oddPower, htx]⟩
  | succ i ih =>
    obtain ⟨hhi, hlo⟩ := ih
    obtain ⟨h1, h2⟩ := fxMul_bounds (oddPower (fxMul t t) t i) (fxMul t t)
    have hp : (0 : ℝ) ≤ oddPower (fxMul t t) t i := Nat.cast_nonneg _
    have hz1 : ((fxMul t t : ℕ) : ℝ) / fxUnit ≤ x ^ 2 := by
      rw [div_le_iff₀ hU, mul_comm]
      exact hsq2
    have hz2 : x ^ 2 - 1 / fxUnit ≤ ((fxMul t t : ℕ) : ℝ) / fxUnit := by
      rw [le_div_iff₀ hU, sub_mul, one_div_mul_cancel hU.ne', mul_comm]
      exact hsq1.le
    have hx2 : x ^ 2 ≤ 1 / 9 := by nlinarith
    have hpx : x ^ (2 * i + 1) ≤ 1 := pow_le_one₀ hτ (by linarith)
    have hstep : x ^ (2 * (i + 1) + 1) = x ^ (2 * i + 1) * x ^ 2 := by ring
    have hpU : (oddPower (fxMul t t) t i : ℝ) * (1 / fxUnit) ≤ 1 := by
      rw [mul_one_div, div_le_one hU]
      nlinarith
    rw [oddPower, hstep]
    refine ⟨h2.trans ?_, ?_⟩
    · rw [← mul_assoc]
      exact mul_le_mul hhi hz1 (by positivity) (by positivity)
    · have hmul := mul_le_mul_of_nonneg_left hz2 hp
      have hsq := mul_le_mul_of_nonneg_right hlo (sq_nonneg x)
      nlinarith

theorem fxAtanh_near {t : ℕ} (ht : (t : ℝ) / fxUnit ≤ 1 / 3) :
    FxNear (fxAtanh t) ((log (1 + t / fxUnit) - log (1 - t / fxUnit)) / 2) 1601 := by
  have hU := fxUnit_pos
  have hτ : (0 : ℝ) ≤ t / fxUnit := by positivity
  have hsum := atanhFrom_eq_sum (fxMul t t) t 400 0 0
  rw [oddPower] at hsum
  rw [FxNear, fxAtanh, hsum, Nat.zero_add, Nat.cast_sum]
  simp only [Nat.zero_add]
  refine (abs_sum_sub_le (c := 4) (g := fun i => 1 / (2 * i + 1) * (t / fxUnit) ^ (2 * i + 1)) (fun i => ?_) ?_).trans
    (by norm_num)
  · obtain ⟨hhi, hlo⟩ := oddPower_near ht i
    obtain ⟨h1, h2⟩ := natDiv_bounds (oddPower (fxMul t t) t i) (b := 2 * i + 1) (by omega)
    have hden : (1 : ℝ) ≤ ((2 * i + 1 : ℕ) : ℝ) := by exact_mod_cast (by omega : 1 ≤ 2 * i + 1)
    have hcast : ((2 * i + 1 : ℕ) : ℝ) = 2 * i + 1 := by push_cast; ring
    rw [← hcast, show fxUnit * (1 / ((2 * i + 1 : ℕ) : ℝ) * (t / fxUnit) ^ (2 * i + 1))
      = fxUnit * (t / fxUnit) ^ (2 * i + 1) / ((2 * i + 1 : ℕ) : ℝ) by ring]
    have hhi' := div_le_div_of_nonneg_right hhi (zero_le_one.trans hden)
    have hlo' := div_le_div_of_nonneg_right hlo (zero_le_one.trans hden)
    have h3 : 3 / ((2 * i + 1 : ℕ) : ℝ) ≤ 3 := div_le_self (by norm_num) hden
    rw [sub_div] at hlo'
    rw [abs_le]
    constructor <;> linarith
  · exact (mul_le_mul_of_nonneg_left (dist_artanh hτ ht 400) hU.le).trans fxUnit_mul_pow_le_one

/-- How far ln ((1 + x) / (1 - x)) goes between arguments up to 1/3. -/
theorem artanh_sub_le {x y : ℝ} (hx : 0 ≤ x) (hxy : x ≤ y) (hy : y ≤ 1 / 3) :
    |(log (1 + x) - log (1 - x)) - (log (1 + y) - log (1 - y))| ≤ 3 * (y - x) := by
  have h1 : log (1 + x) ≤ log (1 + y) := log_le_log (by linarith) (by linarith)
  have h2 : log (1 - y) ≤ log (1 - x) := log_le_log (by linarith) (by linarith)
  have h3 : log (1 + y) - log (1 + x) ≤ y - x := by
    rw [← log_div (by linarith) (by linarith)]
    refine (log_le_sub_one_of_pos (div_pos (by linarith) (by linarith))).trans ?_
    rw [div_sub_one (by linarith), div_le_iff₀ (by linarith)]
    nlinarith
  have h4 : log (1 - x) - log (1 - y) ≤ 2 * (y - x) := by
    rw [← log_div (by linarith) (by linarith)]
    refine (log_le_sub_one_of_pos (div_pos (by linarith) (by linarith))).trans ?_
    rw [div_sub_one (by linarith), div_le_iff₀ (by linarith)]
    nlinarith
  rw [abs_le]
  constructor <;> linarith

/-- Twice `fxAtanh` of a quotient that is cut to a whole number. -/
theorem two_fxAtanh_near {t : ℕ} {x : ℝ} (hx : x ≤ 1 / 3) (h1 : (t : ℝ) ≤ fxUnit * x) (h2 : fxUnit * x - 1 ≤ t) :
    FxNear (2 * fxAtanh t) (log ((1 + x) / (1 - x))) 4000 := by
  have hU := fxUnit_pos
  have hτ : (0 : ℝ) ≤ t / fxUnit := by positivity
  have hτx : (t : ℝ) / fxUnit ≤ x := by
    rw [div_le_iff₀ hU, mul_comm]
    exact h1
  have hx0 := hτ.trans hτx
  have hdist := artanh_sub_le hτ hτx hx
  have hnear := fxAtanh_near (hτx.trans hx)
  have hgap : fxUnit * (3 * (x - t / fxUnit)) ≤ 3 := by
    rw [show fxUnit * (3 * (x - t / fxUnit)) = 3 * (fxUnit * x - t) by
      field_simp]
    linarith
  rw [log_div (by linarith) (by linarith), FxNear, Nat.cast_mul, Nat.cast_ofNat]
  rw [FxNear] at hnear
  have hU' := mul_le_mul_of_nonneg_left hdist hU.le
  rw [← abs_of_pos hU, ← abs_mul, abs_of_pos hU] at hU'
  rw [abs_le] at *
  constructor <;> linarith

theorem fxLn2_near : FxNear fxLn2 (log 2) 4000 := by
  obtain ⟨h1, h2⟩ := natDiv_bounds fxOne (b := 3) (by decide)
  have h := two_fxAtanh_near (t := fxOne / 3) (x := 1 / 3) le_rfl (by rw [fxUnit]; linarith) (by rw [fxUnit]; linarith)
  rwa [show (1 + 1 / 3 : ℝ) / (1 - 1 / 3) = 2 by norm_num] at h

theorem fxLn_near {m : ℕ} (h1 : fxOne ≤ m) (h2 : m ≤ 2 * fxOne) : FxNear (fxLn m) (log (m / fxUnit)) 4000 := by
  have hU := fxUnit_pos
  have hm1 : fxUnit ≤ m := by
    rw [fxUnit]
    exact_mod_cast h1
  have hm2 : (m : ℝ) ≤ 2 * fxUnit := by
    rw [fxUnit]
    exact_mod_cast h2
  have hx : ((m : ℝ) - fxUnit) / (m + fxUnit) ≤ 1 / 3 := by
    rw [div_le_div_iff₀ (add_pos_of_nonneg_of_pos m.cast_nonneg hU) three_pos]
    linarith only [hm2]
  have hne : (m : ℝ) + fxUnit ≠ 0 := (add_pos_of_nonneg_of_pos m.cast_nonneg hU).ne'
  obtain ⟨hlo, hhi⟩ := fxDiv_bounds (m - fxOne) (Nat.add_pos_right m fxOne_pos)
  rw [Nat.cast_sub h1, Nat.cast_add, ← fxUnit] at hlo hhi
  have h := two_fxAtanh_near hx hhi hlo.le
  rwa [show (1 + ((m : ℝ) - fxUnit) / (m + fxUnit)) / (1 - (m - fxUnit) / (m + fxUnit)) = m / fxUnit by
    rw [one_add_div hne, one_sub_div hne, div_div_div_cancel_right₀ hne, show (m : ℝ) + fxUnit + (m - fxUnit) = 2 * m by ring,
      show (m : ℝ) + fxUnit - (m - fxUnit) = 2 * fxUnit by ring, mul_div_mul_left _ _ two_ne_zero]] at h

end Sys2Proof.Machine
end

section
/-!
PROOFS (08 R172). The circle constant, square roots and e to a power in fixed point.
-/

namespace Sys2Proof.Machine
open Finset Real

/-! ## The circle constant -/

/-- Term i of `atanInv k`: a unit over k^(2i+1) and over 2i+1, with alternating signs. -/
def atanTerm (k i : ℕ) : ℤ := (-1) ^ i * (fxOne / k ^ (2 * i + 1) / (2 * i + 1) : ℕ)

theorem atanInv_eq_sum (k fuel i : ℕ) (acc : ℤ) :
    atanInv k fuel i (fxOne / k ^ (2 * i + 1)) acc = acc + ∑ j ∈ range fuel, atanTerm k (i + j) := by
  induction fuel generalizing i acc with
  | zero => simp [atanInv]
  | succ fuel ih =>
    have hnext : fxOne / k ^ (2 * i + 1) / (k * k) = fxOne / k ^ (2 * (i + 1) + 1) := by
      rw [Nat.div_div_eq_div_mul]
      congr 1
      ring
    rw [atanInv, sum_range_succ']
    split
    · next hzero =>
      have hall (j : ℕ) : fxOne / k ^ (2 * (i + j) + 1) = 0 := by
        induction j with
        | zero => exact hzero
        | succ j ihj =>
          rw [show 2 * (i + (j + 1)) + 1 = 2 * (i + j) + 1 + 2 by ring, pow_add, ← Nat.div_div_eq_div_mul, ihj, Nat.zero_div]
      simp [atanTerm, hall, hzero]
    · have hterm : (if i % 2 = 0 then acc + ((fxOne / k ^ (2 * i + 1) : ℕ) : ℤ) / (2 * i + 1)
          else acc - ((fxOne / k ^ (2 * i + 1) : ℕ) : ℤ) / (2 * i + 1)) = acc + atanTerm k i := by
        rw [atanTerm, Int.natCast_div _ (2 * i + 1)]
        rcases Nat.mod_two_eq_zero_or_one i with h | h
        · rw [if_pos h, (Nat.even_iff.mpr h).neg_one_pow, one_mul]
          push_cast
          rfl
        · rw [if_neg (by omega), (Nat.odd_iff.mpr h).neg_one_pow]
          push_cast
          ring
      dsimp only
      rw [hnext, hterm, ih]
      simp only [Nat.add_zero, show ∀ j, i + 1 + j = i + (j + 1) from fun j => by omega]
      ring

theorem atanInv_near {k : ℕ} (hk : 3 ≤ k) : |(atanInv k 400 0 (fxOne / k) 0 : ℝ) - fxUnit * arctan (k : ℝ)⁻¹| ≤ 401 := by
  have hsum := atanInv_eq_sum k 400 0 0
  have hk0 : (0 : ℝ) < k := by exact_mod_cast (by omega : 0 < k)
  have hk3 : (k : ℝ)⁻¹ ≤ 1 / 3 := by
    rw [inv_eq_one_div]
    exact one_div_le_one_div_of_le three_pos (by exact_mod_cast hk)
  simp only [Nat.mul_zero, Nat.zero_add, pow_one] at hsum
  rw [hsum, zero_add, Int.cast_sum]
  refine (abs_sum_sub_le (c := 1) (g := fun i => (-1) ^ i / (2 * i + 1) * (k : ℝ)⁻¹ ^ (2 * i + 1)) (fun i => ?_) ?_).trans
    (by norm_num)
  · obtain ⟨h1, h2⟩ := natDiv_bounds fxOne (b := k ^ (2 * i + 1) * (2 * i + 1)) (by positivity)
    have hexact : fxUnit * ((-1) ^ i / (2 * i + 1) * (k : ℝ)⁻¹ ^ (2 * i + 1))
        = (-1) ^ i * (fxUnit / ((k ^ (2 * i + 1) * (2 * i + 1) : ℕ) : ℝ)) := by
      push_cast
      rw [inv_pow]
      field_simp
    rw [← fxUnit] at h1 h2
    rw [atanTerm, Nat.div_div_eq_div_mul, hexact, Int.cast_mul, Int.cast_pow, Int.cast_neg,
      Int.cast_one, Int.cast_natCast, ← mul_sub, abs_mul, abs_pow, abs_neg, abs_one, one_pow, one_mul, abs_le]
    constructor <;> linarith
  · exact (mul_le_mul_of_nonneg_left (dist_arctan (by positivity) hk3 400) fxUnit_pos.le).trans fxUnit_mul_pow_le_one

theorem fxPi_near : FxNear fxPi π 8020 := by
  have h5 := atanInv_near (k := 5) (by decide)
  have h239 := atanInv_near (k := 239) (by decide)
  have hmachin := four_mul_arctan_inv_5_sub_arctan_inv_239
  have hU := fxUnit_ge
  have hpi := pi_gt_three
  push_cast at h5 h239
  rw [fxPi]
  generalize atanInv 5 400 0 (fxOne / 5) 0 = a at *
  generalize atanInv 239 400 0 (fxOne / 239) 0 = b at *
  have hexact : fxUnit * π = 16 * (fxUnit * arctan 5⁻¹) - 4 * (fxUnit * arctan 239⁻¹) := by
    linear_combination -4 * fxUnit * hmachin
  have hlarge : (8020 : ℝ) ≤ fxUnit * π := by nlinarith
  rw [abs_le] at h5 h239
  have hcast : (((16 * a - 4 * b).toNat : ℕ) : ℝ) = 16 * a - 4 * b := by
    have hnonneg : (0 : ℤ) ≤ 16 * a - 4 * b := by
      have : (0 : ℝ) ≤ 16 * a - 4 * b := by linarith
      exact_mod_cast this
    have hto := Int.toNat_of_nonneg hnonneg
    have : (((16 * a - 4 * b).toNat : ℤ) : ℝ) = ((16 * a - 4 * b : ℤ) : ℝ) := by rw [hto]
    rw [Int.cast_natCast] at this
    rw [this]
    push_cast
    ring
  rw [FxNear, hcast, abs_le]
  constructor <;> linarith

/-! ## Square roots -/

theorem isqrtFrom_spec {n b r : ℕ} (hlo : r * r ≤ n) (hhi : n < (r + 2 ^ b) * (r + 2 ^ b)) :
    isqrtFrom n b r * isqrtFrom n b r ≤ n ∧ n < (isqrtFrom n b r + 1) * (isqrtFrom n b r + 1) := by
  induction b generalizing r with
  | zero => exact ⟨hlo, hhi⟩
  | succ b ih =>
    rw [isqrtFrom]
    split
    · next h => exact ih h (by rwa [Nat.add_assoc, ← Nat.two_mul, ← Nat.pow_succ'])
    · next h => exact ih hlo (not_le.mp h)

theorem isqrt_spec (n : ℕ) : isqrt n * isqrt n ≤ n ∧ n < (isqrt n + 1) * (isqrt n + 1) := by
  refine isqrtFrom_spec (Nat.zero_le n) ?_
  rw [Nat.zero_add, ← Nat.pow_add]
  exact lt_of_lt_of_le Nat.lt_log2_self (Nat.pow_le_pow_right Nat.two_pos (by omega))

theorem fxSqrt2Pi_near : FxNear fxSqrt2Pi √(2 * π) 20000 := by
  obtain ⟨h1, h2⟩ := isqrt_spec (2 * fxPi * fxOne)
  have h1' := Nat.cast_le (α := ℝ).mpr h1
  have h2' := Nat.cast_lt (α := ℝ).mpr h2
  rw [Nat.cast_mul, Nat.cast_mul, Nat.cast_mul, Nat.cast_ofNat, ← fxUnit] at h1' h2'
  rw [Nat.cast_add, Nat.cast_one] at h2'
  clear h1 h2
  have hU := fxUnit_ge
  have hpi := pi_gt_three
  have hP := fxPi_near
  have hsq : √(2 * π) * √(2 * π) = 2 * π := mul_self_sqrt (by positivity)
  have hc1 : 2 ≤ √(2 * π) := le_sqrt_of_sq_le (by linarith)
  have hs : (0 : ℝ) ≤ (isqrt (2 * fxPi * fxOne) : ℕ) := Nat.cast_nonneg _
  rw [fxSqrt2Pi]
  rw [FxNear, abs_le] at hP ⊢
  generalize √(2 * π) = c at *
  generalize ((isqrt (2 * fxPi * fxOne) : ℕ) : ℝ) = s at *
  have ha : (fxUnit * c) * (fxUnit * c) = 2 * (fxUnit * π) * fxUnit := by linear_combination fxUnit ^ 2 * hsq
  have hbig : 2 * fxUnit ≤ fxUnit * c := by nlinarith
  have hpos : (40000 : ℝ) ≤ fxUnit := le_trans (by norm_num) hU
  generalize fxUnit * c = a at *
  constructor
  · by_contra hlt
    nlinarith
  · by_contra hlt
    nlinarith

/-! ## The exponential -/

theorem exp_four_le : exp 4 ≤ 4 ^ 4 := by
  have h : exp 1 ≤ 4 := exp_one_lt_three.le.trans (by norm_num)
  calc exp 4 = exp 1 ^ 4 := by rw [← exp_nat_mul]; norm_num
    _ ≤ 4 ^ 4 := pow_le_pow_left₀ (exp_pos _).le h 4

theorem fxExp_near {r : ℕ} (hr : (r : ℝ) / fxUnit ≤ 1) : FxNear (fxExp r) (exp (r / fxUnit)) 1201 := by
  have hU := fxUnit_pos
  have hρ : (0 : ℝ) ≤ r / fxUnit := by positivity
  generalize hx : (r : ℝ) / fxUnit = x at *
  have hseries := series_near (d := fun i => i + 1) (z := r) (t := fxOne) (fuel := 400)
    (A := fun i => fxUnit * (x ^ i / i.factorial))
    (ζ := x) (η := 0) (y := x) (M := fxUnit) (fun i => Nat.succ_pos i)
    (by rw [pow_zero, Nat.factorial_zero, Nat.cast_one, div_one, mul_one, fxUnit]) (fun i => ?_) (fun i => ?_) hx.le
    (by rw [hx, add_zero]) le_rfl (fun i => le_rfl)
  · have hexp : exp x ≤ 3 := (exp_le_exp.mpr hr).trans exp_one_lt_three.le
    have htail : fxUnit * |∑ i ∈ range 400, x ^ i / i.factorial - exp x| ≤ 1 := by
      refine (mul_le_mul_of_nonneg_left (dist_exp hρ hr (by decide)) hU.le).trans ?_
      have h4 : (4 : ℝ) ^ 400 = fxUnit * 2 ^ 160 := by
        rw [show (4 : ℝ) = 2 ^ 2 by norm_num, ← pow_mul, fxUnit_eq, ← pow_add]
        rfl
      have h4' := exp_four_le
      rw [h4, ← mul_div_assoc, mul_div_mul_left _ _ hU.ne', div_le_one (by positivity)]
      linarith
    rw [← mul_sum] at hseries
    have hconst : (400 : ℕ) * ((1 + fxUnit * 0) * exp x) ≤ 1200 := by
      push_cast
      linarith
    have hunit : |fxUnit * ∑ i ∈ range 400, x ^ i / i.factorial - fxUnit * exp x| ≤ 1 := by
      rw [← mul_sub, abs_mul, abs_of_pos hU]
      exact htail
    rw [FxNear, fxExp]
    linarith [abs_sub_le (series (fun i t => fxMul t r / (i + 1)) 400 0 fxOne 0 : ℝ)
      (fxUnit * ∑ i ∈ range 400, x ^ i / i.factorial) (fxUnit * exp x)]
  · rw [Nat.factorial_succ, Nat.cast_mul, pow_succ]
    field_simp
  · exact mul_le_of_le_one_right hU.le (div_le_one_of_le₀ ((pow_le_one₀ hρ hr).trans (Nat.one_le_cast.mpr (Nat.factorial_pos i)))
      (Nat.cast_nonneg _))

/-! ## e to a power in fixed point -/

theorem fxLn2_bounds : fxUnit / 2 ≤ fxLn2 ∧ (fxLn2 : ℝ) ≤ fxUnit := by
  have h := fxLn2_near
  have hU := fxUnit_ge
  have h1 := log_two_gt_d9
  have h2 := log_two_lt_d9
  rw [FxNear, abs_le] at h
  constructor <;> nlinarith

theorem fxLn2_pos : 0 < fxLn2 := by
  rw [← Nat.cast_pos (α := ℝ)]
  linarith [fxLn2_bounds.1, fxUnit_pos]

/-- e to a fixed point number, split in a power of 2 and the rest. -/
theorem fxExp_reduced_near {x : ℤ} (hx : |(x : ℝ)| ≤ 2 ^ 15 * fxUnit) :
    FxNear (fxExp (x - x / fxLn2 * fxLn2).toNat) (exp (x / fxUnit) / 2 ^ (x / (fxLn2 : ℤ))) (2 ^ 33)
      ∧ 1 / 2 ≤ exp (x / fxUnit) / 2 ^ (x / (fxLn2 : ℤ)) := by
  have hU := fxUnit_pos
  have hbig := fxUnit_ge
  obtain ⟨hL1, hL2⟩ := fxLn2_bounds
  have hL := fxLn2_near
  rw [FxNear] at hL
  have hLpos : (0 : ℤ) < fxLn2 := Int.natCast_pos.mpr fxLn2_pos
  have hr0 := Int.emod_nonneg x hLpos.ne'
  have hr1 := Int.emod_lt_of_pos x hLpos
  have hdiv := Int.emod_add_mul_ediv x fxLn2
  rw [show x - x / fxLn2 * fxLn2 = x % fxLn2 by linarith]
  obtain ⟨r, hr⟩ := Int.eq_ofNat_of_zero_le hr0
  generalize x / (fxLn2 : ℤ) = k at *
  rw [hr] at hr1 hdiv ⊢
  rw [Int.toNat_natCast]
  clear hr hr0 hLpos
  replace hr1 : (r : ℝ) < fxLn2 := by exact_mod_cast hr1
  replace hdiv : (r : ℝ) + fxLn2 * k = x := by exact_mod_cast hdiv
  have hr0 : (0 : ℝ) ≤ r := r.cast_nonneg
  generalize (fxLn2 : ℝ) = L at *
  have hρ : (r : ℝ) / fxUnit ≤ 1 := (div_le_one hU).mpr (by linarith)
  have hexp := fxExp_near hρ
  have hk : |(k : ℝ)| ≤ 2 ^ 17 := by
    rw [abs_le] at *
    constructor <;> nlinarith
  have hβ : |k * (L / fxUnit - log 2)| * fxUnit ≤ 2 ^ 17 * 4000 := by
    rw [abs_mul, mul_assoc, show |L / fxUnit - log 2| * fxUnit = |L - fxUnit * log 2| by
      rw [← abs_of_pos hU, ← abs_mul, abs_of_pos hU]
      congr 1
      field_simp]
    exact mul_le_mul hk hL (abs_nonneg _) (by norm_num)
  have hsplit : exp (x / fxUnit) / 2 ^ k = exp (r / fxUnit) * exp (k * (L / fxUnit - log 2)) := by
    rw [← exp_add, div_eq_iff (by positivity), ← rpow_intCast, rpow_def_of_pos two_pos, ← exp_add, ← hdiv]
    congr 1
    field_simp
    ring
  generalize k * (L / fxUnit - log 2) = β at *
  have hβ1 : |β| ≤ 1 / 2 := by nlinarith [abs_nonneg β]
  have hexp1 := abs_exp_sub_one_le (x := β) (by linarith)
  have hr3 : exp (r / fxUnit) ≤ 3 := (exp_le_exp.mpr hρ).trans exp_one_lt_three.le
  have hr4 : 1 ≤ exp (r / fxUnit) := one_le_exp (by positivity)
  have hβ2 := add_one_le_exp β
  rw [hsplit]
  generalize exp (r / fxUnit) = E at *
  generalize exp β = B at *
  refine ⟨?_, ?_⟩
  · rw [FxNear] at *
    have hdiff : |fxUnit * E - fxUnit * (E * B)| ≤ 6 * (2 ^ 17 * 4000) := by
      rw [show fxUnit * E - fxUnit * (E * B) = -(fxUnit * E * (B - 1)) by ring, abs_neg, abs_mul, abs_of_pos (by positivity)]
      nlinarith [mul_le_mul_of_nonneg_left hexp1 hU.le, abs_nonneg (B - 1), abs_nonneg β]
    linarith [abs_sub_le (fxExp r : ℝ) (fxUnit * E) (fxUnit * (E * B))]
  · have := (abs_le.mp hβ1).1
    nlinarith

end Sys2Proof.Machine
end

section
/-!
PROOFS (08 R172). Approximations that stand for the value of a function: e and 2 to a power.
-/

namespace Sys2Proof.Machine
open Finset Real

/-! ## Values that stand for the value of a function -/

/-- An approximation stands for the value y of a function, which it is where `exact` holds. -/
def Approx.StandsFor (small great : ℤ) (a : Approx) (y : ℝ) (exact : Prop) : Prop :=
  ∃ (neg : Bool) (m : ℕ) (e : ℤ), a.val = .fin neg m e ∧ 0 < m ∧ (neg = true ↔ y < 0) ∧ (a.exact = true ↔ exact)
    ∧ (exact → (m : ℝ) * 2 ^ e = |y|) ∧ Near small great (m * 2 ^ e) |y|

@[simp] theorem signed_false (v : ℝ) : signed false v = v := rfl

@[simp] theorem signed_true (v : ℝ) : signed true v = -v := rfl

theorem Near.mono {s g s' g' : ℤ} {v y : ℝ} (h : Near s g v y) (hs : s ≤ s') (hg : g' ≤ g) : Near s' g' v y := by
  have hs' := zpow_le_zpow_right₀ (one_le_two (α := ℝ)) hs
  have hg' := zpow_le_zpow_right₀ (one_le_two (α := ℝ)) hg
  rcases h with h | ⟨h1, h2⟩ | ⟨h1, h2⟩
  · exact .inl h
  · exact .inr (.inl ⟨h1.trans_le hs', h2.trans_le hs'⟩)
  · exact .inr (.inr ⟨hg'.trans_lt h1, hg'.trans_lt h2⟩)

theorem near_self (s g : ℤ) {y : ℝ} (hy : 0 ≤ y) : Near s g y y := by
  refine .inl ?_
  rw [sub_self, abs_zero]
  positivity

section StandsFor

variable {small great : ℤ} {y : ℝ}

theorem Approx.StandsFor.mono {s g : ℤ} {a : Approx} {exact : Prop} (h : a.StandsFor small great y exact) (hs : small ≤ s)
    (hg : g ≤ great) : a.StandsFor s g y exact := by
  obtain ⟨neg, m, e, hval, hm, hneg, hex, heq, hnear⟩ := h
  exact ⟨neg, m, e, hval, hm, hneg, hex, heq, hnear.mono hs hg⟩

theorem or_one_eq (f : ℕ) : f ||| 1 = 2 * (f / 2) + 1 := by
  have hdiv : (f ||| 1) / 2 = f / 2 := by rw [Nat.or_div_two, show 1 / 2 = 0 from rfl, Nat.or_zero]
  have hmod : (f ||| 1) % 2 = 1 := Nat.or_mod_two_eq_one.mpr (.inr rfl)
  omega

theorem or_one_bounds (f : ℕ) : 0 < f ||| 1 ∧ (f : ℝ) ≤ (f ||| 1 : ℕ) ∧ ((f ||| 1 : ℕ) : ℝ) ≤ f + 1 := by
  rw [or_one_eq]
  exact ⟨Nat.succ_pos _, by exact_mod_cast (by omega : f ≤ 2 * (f / 2) + 1),
    by exact_mod_cast (by omega : 2 * (f / 2) + 1 ≤ f + 1)⟩

/-- A cut value within 2^-60 of the magnitude that it stands for. -/
theorem cut_near {f : ℕ} {v n : ℝ} (h : FxNear f v n) (hn : (n + 1) * 2 ^ 60 ≤ fxUnit * v) (k : ℤ) :
    |((f ||| 1 : ℕ) : ℝ) * 2 ^ (k - fxBits) - v * 2 ^ k| ≤ v * 2 ^ k * 2 ^ (-60 : ℤ) := by
  have hU := fxUnit_pos
  obtain ⟨-, h1, h2⟩ := or_one_bounds f
  have hdist : |((f ||| 1 : ℕ) : ℝ) - fxUnit * v| ≤ n + 1 := by
    rw [FxNear, abs_le] at h
    rw [abs_le]
    constructor <;> linarith
  have hunit : (2 : ℝ) ^ (k - fxBits) = 2 ^ k / fxUnit := by
    rw [zpow_sub₀ two_ne_zero, zpow_natCast, ← fxUnit_eq]
  have hscale : (0 : ℝ) < 2 ^ k / fxUnit := by positivity
  rw [hunit, show ((f ||| 1 : ℕ) : ℝ) * (2 ^ k / fxUnit) - v * 2 ^ k = (((f ||| 1 : ℕ) : ℝ) - fxUnit * v) * (2 ^ k / fxUnit) by
    field_simp, abs_mul, abs_of_pos hscale, show v * 2 ^ k * (2 : ℝ) ^ (-60 : ℤ) =
      fxUnit * v * 2 ^ (-60 : ℤ) * (2 ^ k / fxUnit) by
    field_simp]
  refine mul_le_mul_of_nonneg_right (hdist.trans ?_) hscale.le
  rw [zpow_neg, ← div_eq_mul_inv, le_div_iff₀ (by positivity)]
  exact_mod_cast hn

theorem standsFor_cut {f : ℕ} {v n : ℝ} (h : FxNear f v n) (hn : (n + 1) * 2 ^ 60 ≤ fxUnit * v) (neg : Bool) (k : ℤ) :
    Approx.StandsFor small great ⟨cut neg f k, false⟩ (signed neg (v * 2 ^ k)) False := by
  have hU := fxUnit_pos
  have hv : 0 < v := by
    by_contra hle
    nlinarith [h.nonneg]
  have hpos : 0 < v * 2 ^ k := by positivity
  refine ⟨neg, f ||| 1, k - fxBits, rfl, (or_one_bounds f).1, ?_, by simp, False.elim, .inl ?_⟩
  · cases neg
    · simp [signed, hpos.le]
    · simp [signed, hpos]
  · rw [show |signed neg (v * 2 ^ k)| = v * 2 ^ k by cases neg <;> simp [signed, abs_of_pos hpos]]
    exact cut_near h hn k

theorem standsFor_exact {neg : Bool} {m : ℕ} {e : ℤ} (hm : 0 < m) (hy : y = signed neg (m * 2 ^ e)) {exact : Prop} (hex : exact) :
    Approx.StandsFor small great ⟨.fin neg m e, true⟩ y exact := by
  have hpos : (0 : ℝ) < m * 2 ^ e := mul_zpow_pos_iff.mpr hm
  have habs : |y| = m * 2 ^ e := by rw [hy]; cases neg <;> simp [signed, abs_of_pos hpos]
  refine ⟨neg, m, e, rfl, hm, ?_, by simpa using hex, fun _ => habs.symm, habs.symm ▸ near_self _ _ hpos.le⟩
  rw [hy]
  cases neg
  · simp [signed, hpos.le]
  · simp [signed, hpos]

theorem standsFor_huge (hg : great < 100000) (hy : 2 ^ great < y) :
    Approx.StandsFor small great ⟨hugeVal, false⟩ y False := by
  have hpos : 0 < y := lt_trans (by positivity) hy
  refine ⟨false, 1, 100000, rfl, Nat.one_pos, by simp [hpos.le], by simp, False.elim, .inr (.inr ⟨?_, ?_⟩)⟩
  · rw [Nat.cast_one, one_mul]
    exact zpow_lt_zpow_right₀ one_lt_two hg
  · rwa [abs_of_pos hpos]

theorem standsFor_tiny (neg : Bool) (hs : -100000 < small) (hneg : neg = true ↔ y < 0) (hy : |y| < 2 ^ small) :
    Approx.StandsFor small great ⟨tinyVal neg, false⟩ y False := by
  refine ⟨neg, 1, -100000, rfl, Nat.one_pos, hneg, by simp, False.elim, .inr (.inl ⟨?_, hy⟩)⟩
  rw [Nat.cast_one, one_mul]
  exact zpow_lt_zpow_right₀ one_lt_two hs

end StandsFor

/-! ## Powers (08 R172) -/

/-- The number x = ±m * 2^e in fixed point. -/
def signedFx (neg : Bool) (m : ℕ) (e : ℤ) : ℤ := if neg then -(toFx m e : ℤ) else toFx m e

theorem signedFx_cast (neg : Bool) (m : ℕ) {e : ℤ} (he : -640 ≤ e) :
    (signedFx neg m e : ℝ) = fxUnit * signed neg (m * 2 ^ e) := by
  cases neg <;> simp [signedFx, signed, toFx_cast m he]

theorem expParts_eq (neg : Bool) (m : ℕ) (e : ℤ) :
    expParts neg m e = (fxExp (signedFx neg m e - signedFx neg m e / fxLn2 * fxLn2).toNat, signedFx neg m e / fxLn2) := rfl

theorem expParts_near {neg : Bool} {m : ℕ} {e : ℤ} (he : -640 ≤ e) (hx : (m : ℝ) * 2 ^ e ≤ 2 ^ 15) :
    FxNear (expParts neg m e).1 (exp (signed neg (m * 2 ^ e)) / 2 ^ (expParts neg m e).2) (2 ^ 33)
      ∧ 1 / 2 ≤ exp (signed neg (m * 2 ^ e)) / 2 ^ (expParts neg m e).2 := by
  have hU := fxUnit_pos
  have hpos : (0 : ℝ) ≤ m * 2 ^ e := by positivity
  have hcast := signedFx_cast neg m he
  have habs : |(signedFx neg m e : ℝ)| ≤ 2 ^ 15 * fxUnit := by
    rw [hcast, abs_mul, abs_of_pos hU, mul_comm, show |signed neg (m * 2 ^ e)| = m * 2 ^ e by
      cases neg <;> simp [signed, abs_of_nonneg hpos]]
    exact mul_le_mul_of_nonneg_right hx hU.le
  have h := fxExp_reduced_near habs
  rw [hcast, mul_div_cancel_left₀ _ hU.ne'] at h
  rw [expParts_eq]
  dsimp only
  exact h

theorem exExp_of_lt {neg : Bool} {m : ℕ} {e : ℤ} (hm : 0 < m) (h : topExp m e < 15) :
    exExp neg m e = ⟨cut false (expParts neg m e).1 (expParts neg m e).2, false⟩ := by
  rw [exExp, if_neg hm.ne', if_neg (not_le.mpr h)]

theorem exExp_of_ge {neg : Bool} {m : ℕ} {e : ℤ} (hm : 0 < m) (h : 15 ≤ topExp m e) :
    exExp neg m e = ⟨if neg then tinyVal false else hugeVal, false⟩ := by
  rw [exExp, if_neg hm.ne', if_pos h]

theorem exExp_standsFor {neg : Bool} {m : ℕ} {e : ℤ} (hm : 0 < m) (he : -640 ≤ e) :
    (exExp neg m e).StandsFor (-40000) 40000 (exp (signed neg (m * 2 ^ e))) False := by
  have hU := fxUnit_ge
  have hpos := exp_pos (signed neg (m * 2 ^ e))
  rcases le_or_gt 15 (topExp m e) with htop | htop
  · rw [exExp_of_ge hm htop]
    rw [le_topExp_iff e _ hm] at htop
    have hlog := log_two_lt_d9
    have hbig : (2 : ℝ) ^ (40000 : ℤ) < exp (m * 2 ^ e) := by
      rw [← rpow_intCast, rpow_def_of_pos two_pos]
      refine exp_lt_exp.mpr (lt_of_lt_of_le ?_ htop)
      norm_num
      linarith
    cases neg
    · exact standsFor_huge (by norm_num) hbig
    · refine standsFor_tiny false (by norm_num) (iff_of_false (by decide) hpos.not_gt) ?_
      rw [abs_of_pos hpos, signed_true, exp_neg, zpow_neg]
      exact inv_strictAnti₀ (by positivity) hbig
  · rw [exExp_of_lt hm htop]
    rw [topExp_lt_iff e _ hm] at htop
    obtain ⟨hnear, hlow⟩ := expParts_near (neg := neg) he htop.le
    have h := standsFor_cut (small := -40000) (great := 40000) hnear (by nlinarith) false (expParts neg m e).2
    rwa [signed_false, div_mul_cancel₀ _ (by positivity)] at h

/-- `fxExp` of an argument that is known but for n units. -/
theorem fxExp_near_of_near {g : ℕ} {v n : ℝ} (hg : (g : ℝ) ≤ fxUnit) (h : FxNear g v n) (hn : n ≤ fxUnit) :
    FxNear (fxExp g) (exp v) (1201 + 6 * n) := by
  have hU := fxUnit_pos
  have hρ : (g : ℝ) / fxUnit ≤ 1 := (div_le_one hU).mpr hg
  have hexp := fxExp_near hρ
  have hgap : |v - g / fxUnit| * fxUnit ≤ n := by
    rw [show |v - g / fxUnit| * fxUnit = |(v - g / fxUnit) * fxUnit| by rw [abs_mul, abs_of_pos hU],
      show (v - g / fxUnit) * fxUnit = -(g - fxUnit * v) by
        field_simp
        ring, abs_neg]
    exact h
  have hgap1 : |v - g / fxUnit| ≤ 1 := by nlinarith [abs_nonneg (v - g / fxUnit)]
  have hsmall := abs_exp_sub_one_le hgap1
  have hthree : exp (g / fxUnit) ≤ 3 := (exp_le_exp.mpr hρ).trans exp_one_lt_three.le
  have hpos := exp_pos (g / fxUnit)
  have hsplit : exp v = exp (g / fxUnit) * exp (v - g / fxUnit) := by
    rw [← exp_add]
    congr 1
    ring
  rw [hsplit]
  generalize exp (v - g / fxUnit) = B at *
  generalize exp (g / fxUnit) = E at *
  have hdiff : |fxUnit * E - fxUnit * (E * B)| ≤ 6 * n := by
    rw [show fxUnit * E - fxUnit * (E * B) = -(fxUnit * E * (B - 1)) by ring, abs_neg, abs_mul, abs_of_pos (by positivity)]
    have h1 := mul_le_mul_of_nonneg_left hsmall hU.le
    have h2 : E * (fxUnit * |B - 1|) ≤ 3 * (fxUnit * |B - 1|) :=
      mul_le_mul_of_nonneg_right hthree (by positivity)
    nlinarith
  rw [FxNear] at *
  linarith [abs_sub_le (fxExp g : ℝ) (fxUnit * E) (fxUnit * (E * B))]

/-! ## Powers of 2 -/

theorem exExp2_of_ge {neg : Bool} {m : ℕ} {e : ℤ} (hm : 0 < m) (h : 15 ≤ topExp m e) :
    exExp2 neg m e = ⟨if neg then tinyVal false else hugeVal, false⟩ := by
  rw [exExp2, if_neg hm.ne', if_pos h]

theorem exExp2_of_lt {neg : Bool} {m : ℕ} {e : ℤ} (hm : 0 < m) (h : topExp m e < 15) :
    exExp2 neg m e
      = if (signedFx neg m e - signedFx neg m e / fxOne * fxOne).toNat = 0 then ⟨.fin false 1 (signedFx neg m e / fxOne), true⟩
        else ⟨cut false (fxExp (fxMul (signedFx neg m e - signedFx neg m e / fxOne * fxOne).toNat fxLn2))
          (signedFx neg m e / fxOne), false⟩ := by
  rw [exExp2, if_neg hm.ne', if_neg (not_le.mpr h)]
  rfl

theorem abs_signed {neg : Bool} {v : ℝ} (hv : 0 ≤ v) : |signed neg v| = v := by
  cases neg <;> simp [signed, abs_of_nonneg hv]

/-- The numbers whose power of 2 is a power of 2 that the model gives exactly. -/
def WholeExponent (z : ℝ) : Prop := |z| < 2 ^ 15 ∧ ∃ i : ℤ, z = i

/-- A fixed point number as its whole part and its fraction. -/
theorem fx_parts (x : ℤ) : ∃ f : ℕ, (x - x / fxOne * fxOne).toNat = f ∧ (f : ℝ) < fxUnit
    ∧ (x : ℝ) = fxUnit * ((x / fxOne : ℤ) + f / fxUnit) := by
  have hU := fxUnit_pos
  have hone : (0 : ℤ) < fxOne := by exact_mod_cast fxOne_pos
  have hdiv := Int.emod_add_mul_ediv x fxOne
  rw [show x - x / fxOne * fxOne = x % fxOne by linarith]
  obtain ⟨r, hr⟩ := Int.eq_ofNat_of_zero_le (Int.emod_nonneg x hone.ne')
  have hlt := Int.emod_lt_of_pos x hone
  rw [hr] at hlt hdiv ⊢
  have hdiv' := congrArg (Int.cast (R := ℝ)) hdiv
  rw [Int.cast_add, Int.cast_mul, Int.cast_natCast, Int.cast_natCast, ← fxUnit] at hdiv'
  refine ⟨r, rfl, ?_, ?_⟩
  · rw [fxUnit]
    exact Nat.cast_lt.mpr (Int.ofNat_lt.mp hlt)
  · rw [← hdiv']
    field_simp
    ring

theorem exExp2_standsFor_of_ge {neg : Bool} {m : ℕ} {e : ℤ} (hm : 0 < m) (htop : 15 ≤ topExp m e) :
    (exExp2 neg m e).StandsFor (-160) 200 ((2 : ℝ) ^ signed neg (m * 2 ^ e)) (WholeExponent (signed neg (m * 2 ^ e))) := by
  have hpow := rpow_pos_of_pos two_pos (signed neg (m * 2 ^ e))
  rw [exExp2_of_ge hm htop]
  rw [le_topExp_iff e _ hm] at htop
  have hnot : WholeExponent (signed neg (m * 2 ^ e)) ↔ False := by
    refine iff_of_false (fun h => not_lt.mpr htop ?_) not_false
    have := h.1
    rw [abs_signed (by positivity)] at this
    exact_mod_cast this
  have hlarge : (2 : ℝ) ^ (200 : ℤ) < 2 ^ ((m : ℝ) * 2 ^ e) := by
    rw [← rpow_intCast]
    refine rpow_lt_rpow_of_exponent_lt one_lt_two (lt_of_lt_of_le ?_ htop)
    norm_num
  rw [hnot]
  cases neg
  · exact standsFor_huge (by norm_num) hlarge
  · refine standsFor_tiny false (by norm_num) (iff_of_false (by decide) hpow.not_gt) ?_
    rw [abs_of_pos hpow, signed_true, rpow_neg two_pos.le]
    refine lt_of_lt_of_le (inv_strictAnti₀ (by positivity) hlarge) ?_
    rw [← zpow_neg]
    exact zpow_le_zpow_right₀ one_le_two (by norm_num)

/-- A number is whole where its fraction is 0. -/
theorem whole_iff_of_parts {z φ : ℝ} {n : ℤ} (hz : z = n + φ) (h0 : 0 ≤ φ) (h1 : φ < 1) : (∃ i : ℤ, z = i) ↔ φ = 0 := by
  rw [hz]
  constructor
  · rintro ⟨i, hi⟩
    have hlo : n < i + 1 := by exact_mod_cast (by linarith : (n : ℝ) < i + 1)
    have hhi : i < n + 1 := by exact_mod_cast (by linarith : (i : ℝ) < n + 1)
    obtain rfl : i = n := by omega
    linarith
  · rintro rfl
    exact ⟨n, add_zero _⟩

/-- 2 to a fraction in fixed point. -/
theorem fxExp_fraction_near {f : ℕ} (hf : (f : ℝ) < fxUnit) :
    FxNear (fxExp (fxMul f fxLn2)) (2 ^ ((f : ℝ) / fxUnit)) (1201 + 6 * 4001) := by
  have hU := fxUnit_pos
  have hbig := fxUnit_ge
  obtain ⟨-, hL⟩ := fxLn2_bounds
  have hφ0 : (0 : ℝ) ≤ f / fxUnit := by positivity
  have hφ1 : (f : ℝ) / fxUnit ≤ 1 := (div_le_one hU).mpr hf.le
  have hfnear : FxNear f (f / fxUnit) 0 := by
    rw [FxNear, mul_div_cancel₀ _ hU.ne', sub_self, abs_zero]
  have hg := (fxMul_near hfnear fxLn2_near).mono (k := 4001) (by
    rw [abs_of_nonneg hφ0]
    nlinarith)
  have hg1 : (fxMul f fxLn2 : ℝ) ≤ fxUnit := by
    refine (fxMul_bounds f fxLn2).2.trans ?_
    have : (fxLn2 : ℝ) / fxUnit ≤ 1 := (div_le_one hU).mpr hL
    nlinarith [f.cast_nonneg (α := ℝ)]
  have hnear := fxExp_near_of_near hg1 hg (by linarith)
  rwa [mul_comm (f / fxUnit), ← rpow_def_of_pos two_pos] at hnear

theorem exExp2_standsFor_of_lt {neg : Bool} {m : ℕ} {e : ℤ} (hm : 0 < m) (he : -640 ≤ e) (htop : topExp m e < 15) :
    (exExp2 neg m e).StandsFor (-160) 200 ((2 : ℝ) ^ signed neg (m * 2 ^ e)) (WholeExponent (signed neg (m * 2 ^ e))) := by
  have hU := fxUnit_pos
  have hbig := fxUnit_ge
  have hcast := signedFx_cast neg m he
  obtain ⟨f, hf, hf1, hparts⟩ := fx_parts (signedFx neg m e)
  rw [exExp2_of_lt hm htop, hf]
  rw [topExp_lt_iff e _ hm] at htop
  rw [hcast, mul_right_inj' hU.ne'] at hparts
  generalize signedFx neg m e / (fxOne : ℤ) = n at *
  have hwhole : WholeExponent (signed neg (m * 2 ^ e)) ↔ f = 0 := by
    rw [WholeExponent, whole_iff_of_parts hparts (by positivity) ((div_lt_one hU).mpr hf1), div_eq_zero_iff, or_iff_left hU.ne',
      Nat.cast_eq_zero, abs_signed (by positivity)]
    exact and_iff_right (by exact_mod_cast htop)
  split
  · next hzero =>
    refine standsFor_exact Nat.one_pos ?_ (hwhole.mpr hzero)
    rw [hparts, hzero]
    simp [signed]
  · next hne =>
    have hone : (1 : ℝ) ≤ 2 ^ ((f : ℝ) / fxUnit) := one_le_rpow one_le_two (by positivity)
    have h := standsFor_cut (small := -160) (great := 200) (fxExp_fraction_near hf1) (by nlinarith) false n
    rwa [signed_false, ← rpow_intCast, ← rpow_add two_pos, add_comm, ← hparts, ← iff_false_intro (mt hwhole.mp hne)] at h

theorem exExp2_standsFor {neg : Bool} {m : ℕ} {e : ℤ} (hm : 0 < m) (he : -640 ≤ e) :
    (exExp2 neg m e).StandsFor (-160) 200 ((2 : ℝ) ^ signed neg (m * 2 ^ e)) (WholeExponent (signed neg (m * 2 ^ e))) := by
  rcases le_or_gt 15 (topExp m e) with htop | htop
  · exact exExp2_standsFor_of_ge hm htop
  · exact exExp2_standsFor_of_lt hm he htop

end Sys2Proof.Machine
end

section
/-!
PROOFS (08 R172). The logarithms, `tanh` and `sigmoid`: their approximations stand for their values.
-/

namespace Sys2Proof.Machine
open Finset Real

/-! ## Logarithms (08 R172) -/

/-- A signed fixed point number, cut, that stands for a number. -/
theorem standsFor_cutInt {small great : ℤ} {v : ℤ} {y n : ℝ} (h : |(v : ℝ) - fxUnit * y| ≤ n)
    (hn : (n + 1) * 2 ^ 60 ≤ fxUnit * |y|) :
    Approx.StandsFor small great ⟨cutInt v, false⟩ y False := by
  have hU := fxUnit_pos
  have hn0 := (abs_nonneg _).trans h
  have hbig : n < fxUnit * |y| := by nlinarith
  have habs : ((v.natAbs : ℕ) : ℝ) = |(v : ℝ)| := by rw [Nat.cast_natAbs, Int.cast_abs]
  have hnear : FxNear v.natAbs |y| n := by
    rw [FxNear, habs, show fxUnit * |y| = |fxUnit * y| by rw [abs_mul, abs_of_pos hU]]
    exact (abs_abs_sub_abs_le _ _).trans h
  have hsign : (v < 0 ↔ y < 0) := by
    rw [abs_le] at h
    rw [← Int.cast_lt_zero (R := ℝ)]
    constructor
    · intro hv
      by_contra hy
      rw [abs_of_nonneg (not_lt.mp hy)] at hbig
      linarith
    · intro hy
      rw [abs_of_neg hy] at hbig
      linarith
  have hcut := standsFor_cut (small := small) (great := great) hnear hn (decide (v < 0)) 0
  rwa [zpow_zero, mul_one, show signed (decide (v < 0)) |y| = y by
    by_cases hy : y < 0
    · simp [signed, hsign.mpr hy, abs_of_neg hy]
    · simp [signed, mt hsign.mp hy, abs_of_nonneg (not_lt.mp hy)]] at hcut

/-- The powers of 2 are the values of one bit. -/
theorem pow_two_iff {m : ℕ} {e : ℤ} (hm : 0 < m) : (∃ i : ℤ, (m : ℝ) * 2 ^ e = 2 ^ i) ↔ m = 2 ^ Nat.log2 m := by
  have hsplit : (2 : ℝ) ^ topExp m e = 2 ^ Nat.log2 m * 2 ^ e := by rw [topExp, zpow_add₀ two_ne_zero, zpow_natCast]
  have hz : (2 : ℝ) ^ e ≠ 0 := zpow_ne_zero e two_ne_zero
  constructor
  · rintro ⟨i, hi⟩
    have htop : topExp m e = i := by
      rw [topExp_eq_log e hm, hi]
      exact_mod_cast Int.log_zpow (R := ℝ) one_lt_two i
    rw [← htop, hsplit, mul_left_inj' hz] at hi
    exact_mod_cast hi
  · intro h
    refine ⟨topExp m e, ?_⟩
    rw [hsplit, mul_left_inj' hz]
    exact_mod_cast h

section Log

variable {m : ℕ} {e : ℤ} (hm : 0 < m) (hm24 : m < 2 ^ 24)
include hm hm24

/-- The significand of a value, in fixed point. -/
theorem lnParts_near : FxNear (lnParts m e).2 (log (m * 2 ^ e) - topExp m e * log 2) 4000 ∧ (lnParts m e).1 = topExp m e := by
  have hU := fxUnit_pos
  have hlog : Nat.log2 m < 24 := (Nat.log2_lt hm.ne').mpr hm24
  have htop := topExp_eq_log e hm
  have hpos : (0 : ℝ) < m * 2 ^ e := mul_zpow_pos_iff.mpr hm
  have hlo : (2 : ℝ) ^ topExp m e ≤ m * 2 ^ e := (le_topExp_iff e _ hm).mp le_rfl
  have hhi : (m : ℝ) * 2 ^ e < 2 ^ (topExp m e + 1) := (topExp_lt_iff e _ hm).mp (by omega)
  have hcast := toFx_cast m (e := e - topExp m e) (by rw [topExp]; omega)
  rw [zpow_sub₀ two_ne_zero, ← mul_div_assoc] at hcast
  rw [zpow_add_one₀ two_ne_zero] at hhi
  have hz : (0 : ℝ) < 2 ^ topExp m e := by positivity
  have h1 : fxOne ≤ toFx m (e - topExp m e) := by
    rw [← Nat.cast_le (α := ℝ), hcast, ← fxUnit]
    exact le_mul_of_one_le_right hU.le ((one_le_div hz).mpr hlo)
  have h2 : toFx m (e - topExp m e) ≤ 2 * fxOne := by
    rw [← Nat.cast_le (α := ℝ), hcast, Nat.cast_mul, Nat.cast_ofNat, ← fxUnit, mul_comm]
    exact mul_le_mul_of_nonneg_right ((div_le_iff₀ hz).mpr (by linarith)) hU.le
  have hnear := fxLn_near h1 h2
  rw [hcast, mul_div_cancel_left₀ _ hU.ne', log_div hpos.ne' hz.ne', log_zpow] at hnear
  exact ⟨hnear, rfl⟩

/-- A logarithm of a value of 24 bits is 0 or not very small. -/
theorem le_abs_log (hone : (m : ℝ) * 2 ^ e ≠ 1) : 1 / 2 ^ 25 ≤ |log (m * 2 ^ e)| := by
  have hpos : (0 : ℝ) < m * 2 ^ e := mul_zpow_pos_iff.mpr hm
  have hgap : 1 / 2 ^ 24 ≤ |(m : ℝ) * 2 ^ e - 1| := by
    rcases le_or_gt (-24) e with he | he
    · have hunits := natCast_shift m (q := -24) he
      generalize m * 2 ^ (e - -24).toNat = i at hunits
      rw [← hunits] at hone ⊢
      have hne : (i : ℤ) - 2 ^ 24 ≠ 0 := by
        intro h
        refine hone ?_
        have : (i : ℝ) = 2 ^ 24 := by exact_mod_cast (by omega : (i : ℤ) = 2 ^ 24)
        rw [this]
        norm_num
      have habs : (1 : ℝ) ≤ |(i : ℝ) - 2 ^ 24| := by exact_mod_cast Int.one_le_abs hne
      rw [show (i : ℝ) * 2 ^ (-24 : ℤ) - 1 = (i - 2 ^ 24) * (1 / 2 ^ 24) by
        rw [zpow_neg]
        norm_num
        ring, abs_mul, abs_of_pos (show (0 : ℝ) < 1 / 2 ^ 24 by norm_num)]
      exact le_mul_of_one_le_left (by norm_num) habs
    · have hsmall : (m : ℝ) * 2 ^ e ≤ 1 / 2 := by
        have h1 : (m : ℝ) ≤ 2 ^ 24 := by exact_mod_cast hm24.le
        have h2 : (2 : ℝ) ^ e ≤ 2 ^ (-25 : ℤ) := zpow_le_zpow_right₀ one_le_two (by omega)
        calc (m : ℝ) * 2 ^ e ≤ 2 ^ 24 * 2 ^ (-25 : ℤ) := mul_le_mul h1 h2 (by positivity) (by positivity)
          _ = 1 / 2 := by norm_num
      rw [abs_sub_comm, abs_of_nonneg (by linarith)]
      linarith
  rcases lt_or_gt_of_ne hone with hlt | hgt
  · rw [abs_of_neg (by linarith)] at hgap
    rw [abs_of_neg (log_neg hpos hlt)]
    have := log_le_sub_one_of_pos hpos
    linarith
  · rw [abs_of_pos (by linarith)] at hgap
    rw [abs_of_pos (log_pos hgt)]
    have hinv := one_sub_inv_le_log_of_pos hpos
    refine le_trans ?_ hinv
    rw [le_sub_comm, inv_le_comm₀ hpos (by norm_num)]
    refine le_trans ?_ (by linarith : 1 + 1 / 2 ^ 24 ≤ (m : ℝ) * 2 ^ e)
    norm_num

theorem exLog_standsFor (hone : (m : ℝ) * 2 ^ e ≠ 1) (htop : |(topExp m e : ℝ)| ≤ 2 ^ 10) :
    (exLog m e).StandsFor (-160) 200 (log (m * 2 ^ e)) False := by
  have hU := fxUnit_ge
  obtain ⟨hl, hn⟩ := lnParts_near (e := e) hm hm24
  have hsame : ¬sameValue m e 1 0 = true := by
    rw [sameValue_iff]
    simpa using hone
  have heq : exLog m e = ⟨cutInt (topExp m e * fxLn2 + (lnParts m e).2), false⟩ := by
    rw [exLog, if_neg hsame, ← hn]
  have hL := fxLn2_near
  have habs := le_abs_log hm hm24 hone
  rw [heq]
  refine standsFor_cutInt (n := 2 ^ 10 * 4000 + 4000) ?_ (by nlinarith)
  rw [FxNear] at hL hl
  rw [Int.cast_add, Int.cast_mul, Int.cast_natCast, Int.cast_natCast,
    show (topExp m e : ℝ) * fxLn2 + (lnParts m e).2 - fxUnit * log (m * 2 ^ e)
      = topExp m e * (fxLn2 - fxUnit * log 2) + ((lnParts m e).2 - fxUnit * (log (m * 2 ^ e) - topExp m e * log 2)) by ring]
  refine (abs_add_le _ _).trans (add_le_add ?_ hl)
  rw [abs_mul]
  exact mul_le_mul htop hL (abs_nonneg _) (by norm_num)

theorem exLog2_standsFor (hpow : m ≠ 2 ^ Nat.log2 m) :
    (exLog2 m e).StandsFor (-160) 200 (logb 2 (m * 2 ^ e)) False := by
  have hU := fxUnit_ge
  have hpos : (0 : ℝ) < m * 2 ^ e := mul_zpow_pos_iff.mpr hm
  obtain ⟨hl, hn⟩ := lnParts_near (e := e) hm hm24
  have heq : exLog2 m e = ⟨cutInt (topExp m e * fxOne + fxDiv (lnParts m e).2 fxLn2), false⟩ := by
    rw [exLog2, if_neg hpow]
  have hlog1 := log_two_gt_d9
  have hlog2 := log_two_lt_d9
  obtain ⟨hL1, hL2⟩ := fxLn2_bounds
  have hone : (m : ℝ) * 2 ^ e ≠ 1 := fun h => hpow ((pow_two_iff hm).mp ⟨0, h⟩)
  have habs := le_abs_log hm hm24 hone
  have hlo : (2 : ℝ) ^ topExp m e ≤ m * 2 ^ e := (le_topExp_iff e _ hm).mp le_rfl
  have hhi : (m : ℝ) * 2 ^ e < 2 ^ (topExp m e + 1) := (topExp_lt_iff e _ hm).mp (by omega)
  have hfrac0 : 0 ≤ log (m * 2 ^ e) - topExp m e * log 2 := by
    rw [← log_zpow, sub_nonneg]
    exact log_le_log (by positivity) hlo
  have hfrac1 : log (m * 2 ^ e) - topExp m e * log 2 ≤ log 2 := by
    have := log_le_log hpos hhi.le
    rw [log_zpow] at this
    push_cast at this
    linarith
  have hdiv := (fxDiv_near hl fxLn2_near fxLn2_pos (by linarith)).mono (k := 16001) (by
    have h1 : fxUnit / fxLn2 ≤ 2 := by
      rw [div_le_iff₀ (by linarith)]
      linarith
    have h2 : |log (m * 2 ^ e) - topExp m e * log 2| / log 2 ≤ 1 := by
      rw [abs_of_nonneg hfrac0]
      exact div_le_one_of_le₀ hfrac1 (by linarith)
    have h3 : (4000 : ℝ) + |log (m * 2 ^ e) - topExp m e * log 2| / log 2 * 4000 ≤ 8000 := by linarith
    have h4 : 0 ≤ fxUnit / fxLn2 := div_nonneg fxUnit_pos.le (Nat.cast_nonneg _)
    nlinarith)
  rw [heq]
  refine standsFor_cutInt (n := 16001) ?_ ?_
  · rw [FxNear] at hdiv
    rw [Int.cast_add, Int.cast_mul, Int.cast_natCast, Int.cast_natCast, ← fxUnit]
    convert hdiv using 2
    rw [logb]
    field_simp
    ring
  · have hlogb : |log (m * 2 ^ e)| ≤ |logb 2 (m * 2 ^ e)| := by
      rw [logb, abs_div, abs_of_pos (by linarith : 0 < log 2), le_div_iff₀ (by linarith)]
      nlinarith [abs_nonneg (log (m * 2 ^ e))]
    nlinarith

end Log

/-! ## Hyperbolic tangent and logistic function (08 R172) -/

theorem fxExpBig_near {m : ℕ} {e : ℤ} (he : -640 ≤ e) (hx : (m : ℝ) * 2 ^ e ≤ 2 ^ 15) :
    FxNear (fxExpBig m e) (exp (m * 2 ^ e)) (2 ^ 34 * exp (m * 2 ^ e)) := by
  obtain ⟨hnear, hlow⟩ := expParts_near (neg := false) he hx
  have hk : 0 ≤ (expParts false m e).2 := by
    rw [expParts_eq]
    exact Int.ediv_nonneg (by rw [signedFx, if_neg (by decide)]; exact Int.natCast_nonneg _) (Int.natCast_nonneg _)
  have heq : fxExpBig m e = (expParts false m e).1 * 2 ^ (expParts false m e).2.toNat := by
    rw [fxExpBig]
  have hpow : ((2 : ℝ) ^ (expParts false m e).2.toNat) = 2 ^ (expParts false m e).2 := by
    rw [← zpow_natCast, Int.toNat_of_nonneg hk]
  have hz : (0 : ℝ) < 2 ^ (expParts false m e).2 := by positivity
  rw [signed_false] at hnear hlow
  rw [FxNear] at hnear
  rw [FxNear, heq, Nat.cast_mul, Nat.cast_pow, Nat.cast_ofNat, hpow]
  clear heq hpow hk
  generalize ((expParts false m e).1 : ℝ) = f at *
  generalize (2 : ℝ) ^ (expParts false m e).2 = z at *
  generalize exp (m * 2 ^ e) = E at *
  rw [div_le_div_iff₀ two_pos hz] at hlow
  rw [show f * z - fxUnit * E = (f - fxUnit * (E / z)) * z by field_simp, abs_mul, abs_of_pos hz]
  nlinarith

/-- e to a power of 0 and more, with its distance from 1. -/
structure ExpBounds (x : ℕ) (v : ℝ) : Prop where
  near : FxNear x (exp v) (2 ^ 34 * exp v)
  half : fxUnit * exp v / 2 ≤ x
  one : fxUnit * (1 + v / 2) ≤ x

theorem fxExpBig_bounds {m : ℕ} {e : ℤ} (he : -640 ≤ e) (hx : (m : ℝ) * 2 ^ e ≤ 2 ^ 15) (hlow : 1 / 2 ^ 150 ≤ (m : ℝ) * 2 ^ e) :
    ExpBounds (fxExpBig m e) (m * 2 ^ e) := by
  have hnear := fxExpBig_near he hx
  have hU := fxUnit_ge
  have hexp := add_one_le_exp ((m : ℝ) * 2 ^ e)
  have hdist := (abs_le.mp hnear).1
  refine ⟨hnear, ?_, ?_⟩
  · nlinarith
  · generalize exp ((m : ℝ) * 2 ^ e) = E at *
    generalize (m : ℝ) * 2 ^ e = v at *
    have hUv : 2 ^ 40 ≤ fxUnit * v := by
      calc (2 : ℝ) ^ 40 ≤ 2 ^ 200 * (1 / 2 ^ 150) := by norm_num
        _ ≤ fxUnit * v := mul_le_mul hU hlow (by norm_num) (by linarith)
    have hgap : (fxUnit - 2 ^ 34) * (v + 1) ≤ (fxUnit - 2 ^ 34) * E := mul_le_mul_of_nonneg_left hexp (by linarith)
    have hv15 : v * 2 ^ 34 ≤ v * fxUnit / 4 := by nlinarith
    nlinarith

/-- The hyperbolic tangent by e^2x. -/
theorem tanh_eq_exp (x : ℝ) : tanh x = (exp (2 * x) - 1) / (exp (2 * x) + 1) := by
  have h := exp_pos x
  rw [tanh_eq_sinh_div_cosh, sinh_eq, cosh_eq, two_mul, exp_add, exp_neg]
  field_simp

theorem exTanh_of_ge {neg : Bool} {m : ℕ} {e : ℤ} (hm : 0 < m) (h : 6 ≤ topExp m e) :
    exTanh neg m e = ⟨cut neg (fxOne - 1) 0, false⟩ := by
  rw [exTanh, if_neg hm.ne', if_pos h]

theorem exTanh_of_lt {neg : Bool} {m : ℕ} {e : ℤ} (hm : 0 < m) (h : topExp m e < 6) :
    exTanh neg m e = ⟨cut neg (fxDiv (fxExpBig m (e + 1) - fxOne) (fxExpBig m (e + 1) + fxOne)) 0, false⟩ := by
  rw [exTanh, if_neg hm.ne', if_neg (not_le.mpr h)]

/-- The greatest fixed point number below 1 stands for what is near 1. -/
theorem fxOne_sub_one_near {y : ℝ} (h1 : y ≤ 1) (h2 : 1 - y ≤ 1 / 2 ^ 100) :
    FxNear (fxOne - 1) y (1 + fxUnit * (1 / 2 ^ 100)) := by
  have hU := fxUnit_pos
  rw [FxNear, Nat.cast_sub fxOne_pos, Nat.cast_one, ← fxUnit, abs_le]
  constructor <;> nlinarith

/-- A power of e in powers of 2. -/
theorem two_pow_le_exp {n : ℕ} {x : ℝ} (h : n * 0.6931471808 ≤ x) : 2 ^ n ≤ exp x := by
  rw [← rpow_natCast, rpow_def_of_pos two_pos]
  refine exp_le_exp.mpr (le_trans ?_ h)
  rw [mul_comm]
  exact mul_le_mul_of_nonneg_left log_two_lt_d9.le n.cast_nonneg

theorem exp_le_two_pow {n : ℕ} {x : ℝ} (h : x ≤ n * 0.6931471803) : exp x ≤ 2 ^ n := by
  rw [← rpow_natCast, rpow_def_of_pos two_pos]
  refine exp_le_exp.mpr (le_trans h ?_)
  rw [mul_comm]
  exact mul_le_mul_of_nonneg_right log_two_gt_d9.le n.cast_nonneg

/-- A quotient of numbers that are known as well as the e to a power in them. -/
theorem fxDiv_near_of_exp {a b : ℕ} {y z E : ℝ} (ha : FxNear a y (2 ^ 34 * E)) (hb : FxNear b z (2 ^ 34 * E)) (hyz : |y| ≤ z)
    (hz : 0 < z) (hE : 0 < E) (hbig : fxUnit * E / 2 ≤ b) : FxNear (fxDiv a b) (y / z) (2 ^ 37) := by
  have hU := fxUnit_pos
  have hbpos : (0 : ℝ) < b := lt_of_lt_of_le (by positivity) hbig
  refine (fxDiv_near ha hb (Nat.cast_pos.mp hbpos) hz).mono ?_
  have hratio : |y| / z ≤ 1 := div_le_one_of_le₀ hyz hz.le
  have hinv : fxUnit / b * E ≤ 2 := by
    rw [div_mul_eq_mul_div, div_le_iff₀ hbpos]
    linarith
  have hn : 0 ≤ fxUnit / b * E := by positivity
  have hsum : (2 ^ 34 * E + |y| / z * (2 ^ 34 * E)) * (fxUnit / b) = 2 ^ 34 * (1 + |y| / z) * (fxUnit / b * E) := by ring
  rw [hsum]
  nlinarith

section Lane

variable {neg : Bool} {m : ℕ} {e : ℤ} (hm : 0 < m) (he : -149 ≤ e)
include hm he

theorem lane_ge : 1 / 2 ^ 149 ≤ (m : ℝ) * 2 ^ e := by
  have h1 : (1 : ℝ) ≤ m := by exact_mod_cast hm
  have h2 : (2 : ℝ) ^ (-149 : ℤ) ≤ 2 ^ e := zpow_le_zpow_right₀ one_le_two he
  calc 1 / 2 ^ 149 = 1 * (2 : ℝ) ^ (-149 : ℤ) := by
        rw [zpow_neg]
        norm_num
    _ ≤ m * 2 ^ e := mul_le_mul h1 h2 (by positivity) (by positivity)

omit hm he in
theorem tanh_signed (neg : Bool) (v : ℝ) : tanh (signed neg v) = signed neg (tanh v * 2 ^ (0 : ℤ)) := by
  rw [zpow_zero, mul_one]
  cases neg <;> simp [signed, tanh_neg]

omit he in
theorem exTanh_standsFor_of_ge (htop : 6 ≤ topExp m e) :
    (exTanh neg m e).StandsFor (-160) 200 (tanh (signed neg (m * 2 ^ e))) False := by
  have hU := fxUnit_ge
  rw [exTanh_of_ge hm htop, tanh_signed]
  rw [le_topExp_iff e _ hm] at htop
  have hbig : (2 : ℝ) ^ 128 ≤ exp (2 * (m * 2 ^ e)) := two_pow_le_exp (by
    norm_num at htop ⊢
    linarith)
  have hgap : 1 - tanh (m * 2 ^ e) = 2 / (exp (2 * (m * 2 ^ e)) + 1) := by
    rw [tanh_eq_exp]
    field_simp
    ring
  have hgap1 : 2 / (exp (2 * (m * 2 ^ e)) + 1) ≤ 1 / 2 ^ 100 := by
    rw [div_le_div_iff₀ (by linarith) (by norm_num)]
    linarith
  have hgap0 : 0 < 2 / (exp (2 * (m * 2 ^ e)) + 1) := by positivity
  refine standsFor_cut (fxOne_sub_one_near (by linarith) (by linarith)) ?_ neg 0
  have : 1 - 1 / 2 ^ 100 ≤ tanh (m * 2 ^ e) := by linarith
  nlinarith

theorem exTanh_standsFor_of_lt (htop : topExp m e < 6) :
    (exTanh neg m e).StandsFor (-160) 200 (tanh (signed neg (m * 2 ^ e))) False := by
  have hU := fxUnit_ge
  have hlow := lane_ge hm he
  have hE := exp_pos (2 * ((m : ℝ) * 2 ^ e))
  rw [exTanh_of_lt hm htop, tanh_signed]
  rw [topExp_lt_iff e _ hm] at htop
  have hdouble : (m : ℝ) * 2 ^ (e + 1) = 2 * (m * 2 ^ e) := by
    rw [zpow_add_one₀ two_ne_zero]
    ring
  have hb := fxExpBig_bounds (m := m) (e := e + 1) (by omega) (by
    rw [hdouble]
    norm_num at htop ⊢
    linarith) (by
    rw [hdouble]
    norm_num at hlow ⊢
    linarith)
  rw [hdouble] at hb
  obtain ⟨hnear, hhalf, hone⟩ := hb
  have hexp := add_one_le_exp (2 * ((m : ℝ) * 2 ^ e))
  rw [tanh_eq_exp]
  generalize fxExpBig m (e + 1) = x at *
  generalize exp (2 * ((m : ℝ) * 2 ^ e)) = E at *
  generalize (m : ℝ) * 2 ^ e = v at *
  have hv : 0 < v := lt_of_lt_of_le (by norm_num) hlow
  have hx1 : fxUnit ≤ x := by nlinarith
  have hx1' : fxOne ≤ x := by rwa [← Nat.cast_le (α := ℝ), ← fxUnit]
  refine standsFor_cut (fxDiv_near_of_exp (hnear.sub_one hx1') hnear.add_one (by rw [abs_of_pos] <;> linarith)
    (by linarith) hE (by
      rw [Nat.cast_add, ← fxUnit]
      linarith)) ?_ neg 0
  have hquot : 1 / 2 ^ 151 ≤ (E - 1) / (E + 1) := by
    rw [div_le_div_iff₀ (by positivity) (by linarith)]
    norm_num at hlow ⊢
    linarith
  have hunit := two_pow_mul_le_fxUnit (a := 100) (b := 151) (by decide)
  calc ((2 : ℝ) ^ 37 + 1) * 2 ^ 60 ≤ 2 ^ 100 * 2 ^ 151 * (1 / 2 ^ 151) := by norm_num
    _ ≤ fxUnit * ((E - 1) / (E + 1)) := mul_le_mul hunit hquot (by positivity) fxUnit_pos.le

theorem exTanh_standsFor : (exTanh neg m e).StandsFor (-160) 200 (tanh (signed neg (m * 2 ^ e))) False := by
  rcases le_or_gt 6 (topExp m e) with htop | htop
  · exact exTanh_standsFor_of_ge hm htop
  · exact exTanh_standsFor_of_lt hm he htop

/-! ### The logistic function -/

omit he in
theorem exSigmoid_of_ge (h : 8 ≤ topExp m e) :
    exSigmoid neg m e = ⟨if neg then tinyVal false else cut false (fxOne - 1) 0, false⟩ := by
  rw [exSigmoid, if_neg hm.ne', if_pos h]

omit he in
theorem exSigmoid_of_lt (h : topExp m e < 8) :
    exSigmoid neg m e = ⟨cut false (if neg then fxDiv fxOne (fxOne + fxExpBig m e)
      else fxDiv (fxExpBig m e) (fxOne + fxExpBig m e)) 0, false⟩ := by
  rw [exSigmoid, if_neg hm.ne', if_neg (not_le.mpr h)]

omit hm he in
theorem sigmoid_signed (neg : Bool) (v : ℝ) :
    1 / (1 + exp (-signed neg v)) = signed false ((if neg then 1 / (exp v + 1) else exp v / (exp v + 1)) * 2 ^ (0 : ℤ)) := by
  rw [zpow_zero, mul_one, signed_false]
  cases neg
  · simp only [signed_false, Bool.false_eq_true, if_false, exp_neg]
    field_simp
  · simp only [signed_true, if_true, neg_neg, add_comm]

omit he in
theorem exSigmoid_standsFor_of_ge (htop : 8 ≤ topExp m e) :
    (exSigmoid neg m e).StandsFor (-160) 200 (1 / (1 + exp (-signed neg (m * 2 ^ e)))) False := by
  have hU := fxUnit_ge
  have hE := exp_pos ((m : ℝ) * 2 ^ e)
  rw [exSigmoid_of_ge hm htop, sigmoid_signed]
  rw [le_topExp_iff e _ hm] at htop
  have hbig : (2 : ℝ) ^ 200 ≤ exp (m * 2 ^ e) := two_pow_le_exp (by
    norm_num at htop ⊢
    linarith)
  generalize exp ((m : ℝ) * 2 ^ e) = E at *
  have htiny : 1 / (E + 1) < 1 / 2 ^ 199 := one_div_lt_one_div_of_lt (by positivity) (by linarith)
  have hpos : 0 < 1 / (E + 1) := by positivity
  cases neg
  · simp only [Bool.false_eq_true, if_false]
    have hgap : 1 - E / (E + 1) = 1 / (E + 1) := by
      field_simp
      ring
    have h100 : (1 : ℝ) / 2 ^ 199 ≤ 1 / 2 ^ 100 := by norm_num
    refine standsFor_cut (fxOne_sub_one_near (by linarith) (by linarith)) ?_ false 0
    have : 1 - 1 / 2 ^ 100 ≤ E / (E + 1) := by linarith
    nlinarith
  · simp only [if_true, signed_false, zpow_zero, mul_one]
    refine standsFor_tiny false (by norm_num) (iff_of_false (by decide) hpos.not_gt) ?_
    rw [abs_of_pos hpos]
    refine htiny.trans ?_
    rw [zpow_neg]
    norm_num

theorem exSigmoid_standsFor_of_lt (htop : topExp m e < 8) :
    (exSigmoid neg m e).StandsFor (-160) 200 (1 / (1 + exp (-signed neg (m * 2 ^ e)))) False := by
  have hU := fxUnit_ge
  have hlow := lane_ge hm he
  have hE := exp_pos ((m : ℝ) * 2 ^ e)
  rw [exSigmoid_of_lt hm htop, sigmoid_signed]
  rw [topExp_lt_iff e _ hm] at htop
  have hsmall : exp ((m : ℝ) * 2 ^ e) ≤ 2 ^ 256 * 2 ^ 256 := by
    rw [← pow_add]
    refine exp_le_two_pow ?_
    norm_num at htop ⊢
    linarith
  obtain ⟨hnear, hhalf, -⟩ := fxExpBig_bounds (m := m) (e := e) (by omega) (by
    norm_num at htop ⊢
    linarith) (by
    norm_num at hlow ⊢
    linarith)
  have hone : 1 ≤ exp ((m : ℝ) * 2 ^ e) := one_le_exp (by positivity)
  generalize fxExpBig m e = x at *
  generalize exp ((m : ℝ) * 2 ^ e) = E at *
  have hbig : fxUnit * E / 2 ≤ ((x + fxOne : ℕ) : ℝ) := by
    rw [Nat.cast_add, ← fxUnit]
    linarith
  rw [add_comm fxOne]
  cases neg
  · simp only [Bool.false_eq_true, if_false]
    refine standsFor_cut (fxDiv_near_of_exp hnear hnear.add_one (by rw [abs_of_pos] <;> linarith) (by linarith) hE hbig)
      ?_ false 0
    have : 1 / 2 ≤ E / (E + 1) := by
      rw [div_le_div_iff₀ two_pos (by linarith)]
      linarith
    nlinarith
  · simp only [if_true]
    refine standsFor_cut (fxDiv_near_of_exp (fxNear_fxOne.mono (by positivity)) hnear.add_one (by rw [abs_one]; linarith)
      (by linarith) hE hbig) ?_ false 0
    have hquot : 1 / (2 * (2 ^ 256 * 2 ^ 256)) ≤ 1 / (E + 1) := one_div_le_one_div_of_le (by linarith) (by linarith)
    have hunit := two_pow_mul_le_fxUnit (a := 127) (b := 513) (by decide)
    calc ((2 : ℝ) ^ 37 + 1) * 2 ^ 60 ≤ 2 ^ 127 * 2 ^ 513 * (1 / (2 * (2 ^ 256 * 2 ^ 256))) := by
          rw [show (2 : ℝ) ^ 513 = 2 * (2 ^ 256 * 2 ^ 256) by rw [← pow_add, ← pow_succ'], mul_one_div, mul_div_assoc,
            div_self (by positivity)]
          norm_num
      _ ≤ fxUnit * (1 / (E + 1)) := mul_le_mul hunit hquot (by positivity) fxUnit_pos.le

theorem exSigmoid_standsFor : (exSigmoid neg m e).StandsFor (-160) 200 (1 / (1 + exp (-signed neg (m * 2 ^ e)))) False := by
  rcases le_or_gt 8 (topExp m e) with htop | htop
  · exact exSigmoid_standsFor_of_ge hm htop
  · exact exSigmoid_standsFor_of_lt hm he htop

end Lane

end Sys2Proof.Machine
end

section
/-!
PROOFS (08 R172). `gelu`: the normal distribution in fixed point, by its series near 0 and by its tail from 16 on.
-/

namespace Sys2Proof.Machine
open Finset Real

/-! ## The normal distribution in fixed point (08 R172) -/

theorem bellTerm_le_exp {x : ℝ} (hx : 0 ≤ x) (i : ℕ) : bellTerm x i ≤ x * exp (x ^ 2 / 2) :=
  (bellTerm_le hx i).trans (mul_le_mul_of_nonneg_left (pow_div_factorial_le_exp _ (by positivity) i) hx)

theorem continuous_bellTerm (n : ℕ) : Continuous fun t => bellTerm t n := by
  rw [show (fun t => bellTerm t n) = fun t => bellTerm 1 n * t ^ (2 * n + 1) from funext fun t => bellTerm_eq t n]
  fun_prop

theorem bellTerm_mono {x y : ℝ} (hx : 0 ≤ x) (hxy : x ≤ y) (n : ℕ) : bellTerm x n ≤ bellTerm y n := by
  rw [bellTerm_eq x, bellTerm_eq y]
  exact mul_le_mul_of_nonneg_left (pow_le_pow_left₀ hx hxy _) (bellTerm_nonneg zero_le_one _)

/-- What the first terms of the series of `bell` leave. -/
theorem bell_series_rest {x : ℝ} (hx : 0 ≤ x) (n : ℕ) :
    0 ≤ bell x - exp (-(x ^ 2) / 2) * ∑ i ∈ range (n + 1), bellTerm x i
      ∧ bell x - exp (-(x ^ 2) / 2) * ∑ i ∈ range (n + 1), bellTerm x i ≤ x * (x * bellTerm x n) := by
  have hbounds : ∀ t ∈ Set.Icc 0 x, 0 ≤ exp (-(t ^ 2) / 2) * (t * bellTerm t n)
      ∧ exp (-(t ^ 2) / 2) * (t * bellTerm t n) ≤ x * bellTerm x n := by
    intro t ⟨ht0, htx⟩
    have hterm := bellTerm_nonneg ht0 n
    have hexp : exp (-(t ^ 2) / 2) ≤ 1 := exp_le_one_iff.mpr (by linarith [sq_nonneg t])
    exact ⟨mul_nonneg (exp_pos _).le (mul_nonneg ht0 hterm), (mul_le_of_le_one_left (mul_nonneg ht0 hterm) hexp).trans
      (mul_le_mul htx (bellTerm_mono ht0 htx n) hterm hx)⟩
  have hcont : Continuous fun t : ℝ => exp (-(t ^ 2) / 2) * (t * bellTerm t n) :=
    continuous_bellDensity.mul (continuous_id.mul (continuous_bellTerm n))
  have hle : ∫ t in (0 : ℝ)..x, exp (-(t ^ 2) / 2) * (t * bellTerm t n) ≤ (x - 0) * (x * bellTerm x n) := by
    rw [← smul_eq_mul (x - 0), ← intervalIntegral.integral_const]
    exact intervalIntegral.integral_mono_on hx (hcont.intervalIntegrable _ _) intervalIntegrable_const
      fun t ht => (hbounds t ht).2
  rw [bell_sub_series, ← sub_zero x]
  exact ⟨intervalIntegral.integral_nonneg (by rwa [sub_zero]) fun t ht => (hbounds t (by rwa [sub_zero] at ht)).1,
    by simpa using hle⟩

/-- What 3,000 terms of the series leave is less than a unit. -/
theorem bell_series_rest_lt_unit {x : ℝ} (hx : 0 ≤ x) (hx16 : x ≤ 16) : fxUnit * (x * (x * bellTerm x 2999)) ≤ 1 := by
  have hfac := pow_div_factorial_le (y := x ^ 2 / 2) (by positivity) two_pos 2999
  have hexp : exp (2 * (x ^ 2 / 2)) ≤ 2 ^ 512 := exp_le_two_pow (by
    norm_num
    nlinarith)
  have hpow : (0 : ℝ) ≤ 2 ^ 512 / 2 ^ 2999 := div_nonneg (pow_nonneg two_pos.le _) (pow_nonneg two_pos.le _)
  have hterm : bellTerm x 2999 ≤ 16 * (2 ^ 512 / 2 ^ 2999) :=
    (bellTerm_le hx 2999).trans (mul_le_mul hx16 (hfac.trans (div_le_div_of_nonneg_right hexp (pow_nonneg two_pos.le _)))
      (div_nonneg (pow_nonneg (by positivity) _) (Nat.cast_nonneg _)) (by norm_num))
  have hall : x * (x * bellTerm x 2999) ≤ 16 * (16 * (16 * (2 ^ 512 / 2 ^ 2999))) :=
    mul_le_mul hx16 (mul_le_mul hx16 hterm (bellTerm_nonneg hx _) (by norm_num))
      (mul_nonneg hx (bellTerm_nonneg hx _)) (by norm_num)
  refine (mul_le_mul_of_nonneg_left hall fxUnit_pos.le).trans ?_
  rw [fxUnit_eq, show (16 : ℝ) = 2 ^ 4 by norm_num, ← mul_div_assoc, ← mul_div_assoc, ← mul_div_assoc, ← mul_div_assoc, ← pow_add,
    ← pow_add, ← pow_add, ← pow_add, div_le_one (pow_pos two_pos _)]
  exact pow_le_pow_right₀ one_le_two (by decide)

theorem normalSeries_near {x : ℕ} {v : ℝ} (hv : (x : ℝ) = fxUnit * v) (hv0 : 0 ≤ v) (hv16 : v ≤ 16) :
    FxNear (normalSeries x) (exp (v ^ 2 / 2) * bell v) (exp (v ^ 2 / 2) * (3000 * (1 + v * exp (v ^ 2 / 2)) + 1)) := by
  have hU := fxUnit_pos
  have hxv : (x : ℝ) / fxUnit = v := by rw [hv, mul_div_cancel_left₀ _ hU.ne']
  obtain ⟨hsq1, hsq2⟩ := fxMul_bounds x x
  have hsq : (x : ℝ) * (x / fxUnit) = fxUnit * v ^ 2 := by
    rw [hxv, hv]
    ring
  rw [hsq] at hsq1 hsq2
  have hseries := series_near (d := fun i => 2 * i + 3) (z := fxMul x x) (t := x) (fuel := 3000)
    (A := fun i => fxUnit * bellTerm v i)
    (ζ := v ^ 2) (η := 1 / fxUnit) (y := v ^ 2 / 2) (M := fxUnit * (v * exp (v ^ 2 / 2))) (fun i => by omega)
    (by rw [bellTerm, hv]) (fun i => ?_) (fun i => ?_) ?_ ?_ (by positivity) (fun i => ?_)
  · rw [← mul_sum, mul_one_div, mul_div_cancel_left₀ _ hU.ne'] at hseries
    obtain ⟨hr0, hr1⟩ := bell_series_rest hv0 2999
    replace hr1 := (mul_le_mul_of_nonneg_left hr1 hU.le).trans (bell_series_rest_lt_unit hv0 hv16)
    rw [show 2999 + 1 = 3000 from rfl] at hr0 hr1
    have hE := exp_pos (v ^ 2 / 2)
    have hsplit : fxUnit * ∑ i ∈ range 3000, bellTerm v i - fxUnit * (exp (v ^ 2 / 2) * bell v)
        = -(exp (v ^ 2 / 2) * (fxUnit * (bell v - exp (-(v ^ 2) / 2) * ∑ i ∈ range 3000, bellTerm v i))) := by
      rw [neg_div, exp_neg]
      field_simp
      ring
    have htail : |fxUnit * ∑ i ∈ range 3000, bellTerm v i - fxUnit * (exp (v ^ 2 / 2) * bell v)| ≤ exp (v ^ 2 / 2) := by
      rw [hsplit, abs_neg, abs_of_nonneg (by positivity)]
      exact mul_le_of_le_one_right hE.le hr1
    have htri := abs_sub_le (normalSeries x : ℝ) (fxUnit * ∑ i ∈ range 3000, bellTerm v i) (fxUnit * (exp (v ^ 2 / 2) * bell v))
    rw [FxNear]
    refine htri.trans ((add_le_add hseries htail).trans_eq ?_)
    push_cast
    ring
  · rw [bellTerm]
    push_cast
    ring
  · exact mul_le_mul_of_nonneg_left (bellTerm_le_exp hv0 i) hU.le
  · rw [div_le_iff₀ hU, mul_comm]
    exact hsq2
  · rw [← add_div, le_div_iff₀ hU, mul_comm]
    linarith
  · push_cast
    rw [div_div, div_le_div_iff₀ (by positivity) (by positivity)]
    nlinarith [sq_nonneg v]

/-! ## `gelu` (08 R172) -/

/-- The part of the normal distribution past a distance from 0. -/
noncomputable def normalTail (v : ℝ) : ℝ := bellTail v / √(2 * π)

theorem bell_neg (x : ℝ) : bell (-x) = -bell x := by
  have h := intervalIntegral.integral_comp_neg (a := 0) (b := x) fun t : ℝ => exp (-(t ^ 2) / 2)
  simp only [neg_sq, neg_zero] at h
  rw [bell, bell, h, intervalIntegral.integral_symm]

theorem sqrt_two_pi_bounds : 2 ≤ √(2 * π) ∧ √(2 * π) ≤ 3 := by
  have h1 := pi_gt_three
  have h2 := pi_lt_four
  exact ⟨le_sqrt_of_sq_le (by linarith), sqrt_le_iff.mpr ⟨by norm_num, by linarith⟩⟩

theorem bell_div (v : ℝ) : bell v / √(2 * π) = 1 / 2 - normalTail v := by
  have h := bell_add_bellTail v
  have hc : √(2 * π) ≠ 0 := by
    have := sqrt_two_pi_bounds.1
    positivity
  rw [normalTail, eq_sub_iff_add_eq, ← add_div, h]
  field_simp

theorem normalTail_pos (v : ℝ) (hv : 0 ≤ v) : 0 < normalTail v :=
  div_pos (lt_of_lt_of_le (exp_pos _) (le_bellTail hv)) (by linarith [sqrt_two_pi_bounds.1])

theorem normalTail_le_half {v : ℝ} (hv : 0 ≤ v) : normalTail v ≤ 1 / 2 := by
  have hbell : 0 ≤ bell v / √(2 * π) := div_nonneg (intervalIntegral.integral_nonneg hv fun t _ => (exp_pos _).le) (sqrt_nonneg _)
  rw [bell_div] at hbell
  linarith

/-- The normal distribution function at a number with a sign and a magnitude. -/
noncomputable def normalAt (neg : Bool) (v : ℝ) : ℝ := if neg then normalTail v else 1 - normalTail v

@[simp] theorem normalAt_true (v : ℝ) : normalAt true v = normalTail v := rfl

@[simp] theorem normalAt_false (v : ℝ) : normalAt false v = 1 - normalTail v := rfl

theorem normalAt_pos (neg : Bool) {v : ℝ} (hv : 0 ≤ v) : 0 < normalAt neg v := by
  cases neg
  · rw [normalAt_false]
    linarith [normalTail_le_half hv]
  · exact normalTail_pos v hv

/-- The normal distribution function times a signed number. -/
theorem gelu_eq (neg : Bool) (v : ℝ) :
    signed neg v * (1 / 2 + bell (signed neg v) / √(2 * π)) = signed neg (v * normalAt neg v) := by
  cases neg
  · simp only [signed_false, bell_div, normalAt_false]
    ring
  · simp only [signed_true, bell_neg, neg_div, bell_div, normalAt_true]
    ring

theorem exGelu_of_ge {neg : Bool} {m : ℕ} {e : ℤ} (hm : 0 < m) (h : 4 ≤ topExp m e) :
    exGelu neg m e = ⟨if neg then tinyVal true else .fin false (m * 2 ^ 64 - 1) (e - 64), false⟩ := by
  rw [exGelu, if_neg hm.ne', if_pos h]

/-- How far the normal distribution at m * 2^e is past 1/2, in fixed point. -/
def fxNormal (m : ℕ) (e : ℤ) : ℕ := fxDiv (normalSeries (toFx m e)) (fxMul (fxExpBig (m * m) (2 * e - 1)) fxSqrt2Pi)

/-- The normal distribution in fixed point at a number with a sign and a magnitude. -/
def fxNormalAt (neg : Bool) (m : ℕ) (e : ℤ) : ℕ := if neg then fxOne / 2 - fxNormal m e else fxOne / 2 + fxNormal m e

theorem exGelu_of_lt {neg : Bool} {m : ℕ} {e : ℤ} (hm : 0 < m) (h : topExp m e < 4) :
    exGelu neg m e = ⟨cut neg (fxMul (toFx m e) (fxNormalAt neg m e)) 0, false⟩ := by
  rw [exGelu, if_neg hm.ne', if_neg (not_le.mpr h)]
  rfl

theorem bell_div_bounds {v : ℝ} (hv : 0 ≤ v) : 0 ≤ bell v / √(2 * π) ∧ bell v / √(2 * π) ≤ 1 / 2 := by
  rw [bell_div]
  constructor <;> linarith [normalTail_pos v hv, normalTail_le_half hv]

/-- e^(v^2/2) at v = m * 2^e. -/
theorem fxExpBig_sq_near {m : ℕ} {e : ℤ} (he : -149 ≤ e) (hx : (m : ℝ) * 2 ^ e ≤ 16) :
    FxNear (fxExpBig (m * m) (2 * e - 1)) (exp ((m * 2 ^ e) ^ 2 / 2)) (2 ^ 34 * exp ((m * 2 ^ e) ^ 2 / 2)) := by
  have hv0 : (0 : ℝ) ≤ m * 2 ^ e := by positivity
  have hsq : ((m * m : ℕ) : ℝ) * 2 ^ (2 * e - 1) = (m * 2 ^ e) ^ 2 / 2 := by
    rw [zpow_sub_one₀ two_ne_zero, two_mul, zpow_add₀ two_ne_zero]
    push_cast
    ring
  have h := fxExpBig_near (m := m * m) (e := 2 * e - 1) (by omega) (by
    rw [hsq]
    nlinarith)
  rwa [hsq] at h

theorem fxMul_fxSqrt2Pi_near {G : ℕ} {E : ℝ} (h : FxNear G E (2 ^ 34 * E)) (hE1 : 1 ≤ E) :
    FxNear (fxMul G fxSqrt2Pi) (E * √(2 * π)) (2 ^ 37 * E) := by
  have hU := fxUnit_ge
  have hE : 0 < E := by linarith
  have hroot := fxSqrt2Pi_near
  have hc3 := sqrt_two_pi_bounds.2
  refine (fxMul_near h hroot).mono ?_
  have hq : (fxSqrt2Pi : ℝ) / fxUnit ≤ 4 := by
    rw [div_le_iff₀ fxUnit_pos]
    have := (abs_le.mp hroot).2
    nlinarith
  rw [abs_of_pos hE]
  nlinarith [mul_le_mul_of_nonneg_left hq (show 0 ≤ 2 ^ 34 * E by positivity)]

theorem fxNormal_near {m : ℕ} {e : ℤ} (he : -149 ≤ e) (hx : (m : ℝ) * 2 ^ e ≤ 16) :
    FxNear (fxNormal m e) (1 / 2 - normalTail (m * 2 ^ e)) (2 ^ 256 * 2 ^ 20) := by
  have hU := fxUnit_ge
  have hUpos := fxUnit_pos
  have hv0 : (0 : ℝ) ≤ m * 2 ^ e := by positivity
  have hseries := normalSeries_near (toFx_cast m (by omega)) hv0 hx
  have hexp := fxExpBig_sq_near he hx
  have hE1 : 1 ≤ exp (((m : ℝ) * 2 ^ e) ^ 2 / 2) := one_le_exp (by positivity)
  have hE2 : exp (((m : ℝ) * 2 ^ e) ^ 2 / 2) ≤ 2 ^ 256 := exp_le_two_pow (by
    norm_num
    nlinarith)
  obtain ⟨hc2, hc3⟩ := sqrt_two_pi_bounds
  have hI := bell_div_bounds hv0
  rw [← bell_div, fxNormal]
  generalize fxExpBig (m * m) (2 * e - 1) = G at *
  generalize normalSeries (toFx m e) = S at *
  generalize exp (((m : ℝ) * 2 ^ e) ^ 2 / 2) = E at *
  generalize (m : ℝ) * 2 ^ e = v at *
  have hE : 0 < E := by linarith
  have hden := fxMul_fxSqrt2Pi_near hexp hE1
  generalize fxMul G fxSqrt2Pi = D at *
  generalize √(2 * π) = c at *
  have hD : fxUnit * E ≤ D := by
    have := (abs_le.mp hden).1
    nlinarith [mul_le_mul_of_nonneg_left hc2 (show 0 ≤ fxUnit * E by positivity)]
  have hDpos : (0 : ℝ) < D := lt_of_lt_of_le (by positivity) hD
  have hquot := fxDiv_near hseries hden (Nat.cast_pos.mp hDpos) (by positivity)
  rw [mul_div_mul_left _ _ hE.ne'] at hquot
  refine hquot.mono ?_
  have hratio : |E * bell v| / (E * c) = bell v / c := by
    rw [abs_of_nonneg, mul_div_mul_left _ _ hE.ne']
    have := mul_nonneg hI.1 (show 0 ≤ c by linarith)
    rw [div_mul_cancel₀ _ (by linarith)] at this
    positivity
  have hinv : E * (fxUnit / D) ≤ 1 := by
    rw [← mul_div_assoc, div_le_one hDpos, mul_comm]
    exact hD
  have hsum : (E * (3000 * (1 + v * E) + 1) + |E * bell v| / (E * c) * (2 ^ 37 * E)) * (fxUnit / D)
      = (3000 * (1 + v * E) + 1 + bell v / c * 2 ^ 37) * (E * (fxUnit / D)) := by
    rw [hratio]
    ring
  have hvE : v * E ≤ 16 * 2 ^ 256 := mul_le_mul hx hE2 hE.le (by norm_num)
  have hpos : 0 ≤ 3000 * (1 + v * E) + 1 + bell v / c * 2 ^ 37 := by
    have := hI.1
    positivity
  rw [hsum]
  refine (add_le_add_right (mul_le_of_le_one_right hpos hinv) 1).trans ?_
  norm_num at hvE ⊢
  linarith [hI.2]

/-- The tail up to 16 is far above what a fixed point number leaves. -/
theorem normalTail_ge {v : ℝ} (hv : 0 ≤ v) (hv16 : v ≤ 16) : 1 / (4 * 2 ^ 220) ≤ normalTail v := by
  obtain ⟨hc2, hc3⟩ := sqrt_two_pi_bounds
  have hexp : exp ((v + 1) ^ 2 / 2) ≤ 2 ^ 220 := exp_le_two_pow (by
    norm_num
    nlinarith)
  have hle : 1 / 2 ^ 220 ≤ bellTail v := by
    refine le_trans ?_ (le_bellTail hv)
    rw [neg_div, exp_neg, ← one_div]
    exact one_div_le_one_div_of_le (exp_pos _) hexp
  rw [normalTail, div_le_div_iff₀ (by positivity) (by linarith)]
  rw [div_le_iff₀ (by positivity)] at hle
  linarith

/-- The tail from 16 on. -/
theorem normalTail_le {v : ℝ} (hv : 16 ≤ v) : v * normalTail v < 1 / 2 ^ 160 ∧ normalTail v ≤ 1 / 2 ^ 100 := by
  obtain ⟨hc2, hc3⟩ := sqrt_two_pi_bounds
  have htail := bellTail_le hv
  have hnonneg := bellTail_nonneg v
  have hpos := normalTail_pos v (by linarith)
  have hexp : 2 ^ 160 ≤ exp (7 * v) := two_pow_le_exp (by
    norm_num
    linarith)
  have hv1 := add_one_le_exp v
  have hsplit : exp (-8 * v) * (exp (7 * v) * exp v) = 1 := by
    rw [← exp_add, ← exp_add, show -8 * v + (7 * v + v) = 0 by ring, exp_zero]
  have hle : normalTail v ≤ bellTail v / 2 := div_le_div_of_nonneg_left hnonneg two_pos hc2
  have hsmall : v * exp (-8 * v) ≤ 1 / 2 ^ 160 := by
    rw [le_div_iff₀ (by positivity)]
    have h8 := exp_pos (-8 * v)
    calc v * exp (-8 * v) * 2 ^ 160 ≤ exp v * exp (-8 * v) * exp (7 * v) :=
          mul_le_mul (mul_le_mul_of_nonneg_right (by linarith) h8.le) hexp (by positivity) (by positivity)
      _ = 1 := by
          rw [← hsplit]
          ring
  have hscaled : v * normalTail v ≤ v * exp (-8 * v) / 16 := by
    rw [mul_div_assoc]
    exact mul_le_mul_of_nonneg_left (by linarith) (by linarith)
  have h160 : (0 : ℝ) < 1 / 2 ^ 160 := by positivity
  refine ⟨by linarith, ?_⟩
  have h100 : (1 : ℝ) / 2 ^ 160 ≤ 1 / 2 ^ 100 := by norm_num
  nlinarith

theorem le_fxUnit_mul_normalTail {v : ℝ} (hv : 0 ≤ v) (hv16 : v ≤ 16) : (2 : ℝ) ^ 256 * 2 ^ 100 ≤ fxUnit * normalTail v := by
  have hunit : (2 : ℝ) ^ 256 * 2 ^ 100 * (4 * 2 ^ 220) ≤ fxUnit := by
    have h := two_pow_mul_le_fxUnit (a := 256 + 100) (b := 2 + 220) (by decide)
    rwa [pow_add, pow_add, show (2 : ℝ) ^ 2 = 4 by norm_num] at h
  calc (2 : ℝ) ^ 256 * 2 ^ 100 = 2 ^ 256 * 2 ^ 100 * (4 * 2 ^ 220) * (1 / (4 * 2 ^ 220)) := by
        rw [mul_one_div, mul_div_cancel_right₀ _ (by positivity)]
    _ ≤ fxUnit * normalTail v := mul_le_mul hunit (normalTail_ge hv hv16) (by positivity) fxUnit_pos.le

theorem le_fxUnit_mul_normalAt (neg : Bool) {v : ℝ} (hv : 0 ≤ v) (hv16 : v ≤ 16) :
    (2 : ℝ) ^ 256 * 2 ^ 100 ≤ fxUnit * normalAt neg v := by
  have htail := le_fxUnit_mul_normalTail hv hv16
  have hhalf := normalTail_le_half hv
  have hU := fxUnit_pos
  cases neg
  · rw [normalAt_false]
    nlinarith
  · exact htail

theorem fxNormalAt_near (neg : Bool) {m : ℕ} {e : ℤ} (he : -149 ≤ e) (hx : (m : ℝ) * 2 ^ e ≤ 16) :
    FxNear (fxNormalAt neg m e) (normalAt neg (m * 2 ^ e)) (2 ^ 256 * 2 ^ 21) := by
  have hnear := fxNormal_near he hx
  have htail := le_fxUnit_mul_normalTail (by positivity) hx
  obtain ⟨hhalf1, hhalf2⟩ := natDiv_bounds fxOne two_pos
  rw [← fxUnit, Nat.cast_ofNat] at hhalf1 hhalf2
  rw [FxNear, abs_le] at hnear
  rw [fxNormalAt]
  generalize fxNormal m e = h at *
  generalize fxOne / 2 = o at *
  cases neg
  · rw [normalAt_false, if_neg (by decide), FxNear, Nat.cast_add, abs_le]
    norm_num at hnear ⊢
    constructor <;> linarith
  · have hle : (h : ℝ) ≤ o := by
      norm_num at hnear htail
      linarith
    rw [normalAt_true, if_pos rfl, FxNear, Nat.cast_sub (Nat.cast_le.mp hle), abs_le]
    norm_num at hnear ⊢
    constructor <;> linarith

theorem exGelu_standsFor_of_lt {neg : Bool} {m : ℕ} {e : ℤ} (hm : 0 < m) (he : -149 ≤ e) (htop : topExp m e < 4) :
    (exGelu neg m e).StandsFor (-160) 200 (signed neg (m * 2 ^ e * normalAt neg (m * 2 ^ e))) False := by
  have hlow := lane_ge hm he
  have hv0 : (0 : ℝ) ≤ m * 2 ^ e := by positivity
  rw [exGelu_of_lt hm htop]
  rw [topExp_lt_iff e _ hm] at htop
  have hx : (m : ℝ) * 2 ^ e ≤ 16 := by
    norm_num at htop
    exact htop.le
  have hxnear : FxNear (toFx m e) (m * 2 ^ e) 0 := by
    rw [FxNear, toFx_cast m (by omega), sub_self, abs_zero]
  have hprod := fxMul_near hxnear (fxNormalAt_near neg he hx)
  have hlarge := mul_le_mul_of_nonneg_left (le_fxUnit_mul_normalAt neg hv0 hx) hv0
  rw [zero_mul, zero_add, abs_of_nonneg hv0] at hprod
  have h := standsFor_cut (small := -160) (great := 200) hprod ?_ neg 0
  · rwa [zpow_zero, mul_one] at h
  · generalize normalAt neg ((m : ℝ) * 2 ^ e) = P at *
    generalize (m : ℝ) * 2 ^ e = v at *
    norm_num at hlarge hlow ⊢
    nlinarith

theorem exGelu_standsFor_of_ge {neg : Bool} {m : ℕ} {e : ℤ} (hm : 0 < m) (htop : 4 ≤ topExp m e) :
    (exGelu neg m e).StandsFor (-160) 200 (signed neg (m * 2 ^ e * normalAt neg (m * 2 ^ e))) False := by
  rw [exGelu_of_ge hm htop]
  rw [le_topExp_iff e _ hm] at htop
  have hx : 16 ≤ (m : ℝ) * 2 ^ e := by
    norm_num at htop
    exact htop
  obtain ⟨hsmall, htail⟩ := normalTail_le hx
  have hpos := normalTail_pos ((m : ℝ) * 2 ^ e) (by linarith)
  cases neg
  · simp only [normalAt_false, signed_false]
    have hm1 : (1 : ℝ) ≤ m := by exact_mod_cast hm
    have hval : ((m * 2 ^ 64 - 1 : ℕ) : ℝ) * 2 ^ (e - 64) = m * 2 ^ e - 2 ^ e / 2 ^ 64 := by
      rw [Nat.cast_sub (by omega), zpow_sub₀ two_ne_zero]
      push_cast
      norm_num
      ring
    have he : (2 : ℝ) ^ e ≤ m * 2 ^ e := le_mul_of_one_le_left (by positivity) hm1
    have he0 : (0 : ℝ) < 2 ^ e := by positivity
    generalize hR : normalTail ((m : ℝ) * 2 ^ e) = R at *
    have hy : 0 < (m : ℝ) * 2 ^ e * (1 - R) := by
      norm_num at htail
      exact mul_pos (by linarith) (by linarith)
    refine ⟨false, m * 2 ^ 64 - 1, e - 64, rfl, by omega, by simp [hy.le], by simp, False.elim, .inl ?_⟩
    rw [hval, abs_of_pos hy]
    generalize (m : ℝ) * 2 ^ e = v at *
    have h1 : v * R ≤ v * (1 / 2 ^ 100) := mul_le_mul_of_nonneg_left htail (by linarith)
    have h2 : 0 ≤ v * R := by positivity
    rw [zpow_neg, abs_le]
    norm_num at h1 ⊢
    constructor <;> nlinarith
  · simp only [normalAt_true, signed_true]
    have hy : 0 < (m : ℝ) * 2 ^ e * normalTail (m * 2 ^ e) := by positivity
    refine standsFor_tiny true (by norm_num) (iff_of_true rfl (by linarith)) ?_
    rw [abs_neg, abs_of_pos hy, zpow_neg]
    norm_num at hsmall ⊢
    exact hsmall

theorem exGelu_standsFor {neg : Bool} {m : ℕ} {e : ℤ} (hm : 0 < m) (he : -149 ≤ e) :
    (exGelu neg m e).StandsFor (-160) 200
      (signed neg (m * 2 ^ e) * (1 / 2 + bell (signed neg (m * 2 ^ e)) / √(2 * π))) False := by
  rw [gelu_eq]
  rcases le_or_gt 4 (topExp m e) with htop | htop
  · exact exGelu_standsFor_of_ge hm htop
  · exact exGelu_standsFor_of_lt hm he htop

end Sys2Proof.Machine
end

section
/-!
PROOFS (08 R172, R173). The lanes of the transcendental functions: the special values, and else the two
roundings of an approximation.
-/

namespace Sys2Proof.Machine
open Finset Real

/-! ## The two roundings (08 R172) -/

theorem flagIf_eq_flagWhen {b : Bool} {c : Prop} (h : b = true ↔ c) (fl : ℕ) : flagIf b fl = flagWhen c fl := by
  by_cases hc : c
  · rw [flagIf, if_pos (h.mpr hc), flagWhen, if_pos hc]
  · rw [flagIf, if_neg (mt h.mp hc), flagWhen, if_neg hc]

theorem roundTwice_roundsTwice (fp : FpMode) {a : Approx} {neg : Bool} {m : ℕ} {e : ℤ} (ha : a.val = .fin neg m e) (hm : 0 < m) :
    RoundsTwice fp a.exact neg (m * 2 ^ e) (roundTwice fp a) := by
  have hq : max (Int.log 2 ((m : ℝ) * 2 ^ e)) (-126) - 26 = max (topExp m e) (-126) - 26 := by rw [topExp_eq_log e hm]
  have hround : RoundsTo 0 0 false ((m : ℝ) * 2 ^ e / 2 ^ (max (topExp m e) (-126) - 26))
      (roundUnits neg m e (max (topExp m e) (-126) - 26) 0 0) := roundUnits_roundsTo neg m e _ 0 0
  rw [RoundsTwice, hq, roundTwice, ha]
  simp only [if_neg hm.ne']
  generalize max (topExp m e) (-126) - 26 = q at *
  generalize roundUnits neg m e q 0 0 = k at *
  refine ⟨k, (encodeResult { fp with rm := 0 } .f32 0 false 0 (.fin neg k q)).2, hround, fun hz => ?_, fun hz => ?_, ?_⟩
  · rw [mul_zpow_eq_zero_iff] at hz
    rw [encodeResult, if_pos hz, if_neg (by decide)]
    exact ⟨rfl, rfl⟩
  · exact encodeResult_encodesTo _ (by decide) 0 0 neg q (mul_zpow_pos_iff.mp hz) (.inr rfl)
  · rw [flagIf_eq_flagWhen (c := a.exact = false ∨ (k : ℝ) * 2 ^ q ≠ m * 2 ^ e),
      flagIf_eq_flagWhen (c := (m : ℝ) * 2 ^ e < 2 ^ (-126 : ℤ))]
    · rfl
    · rw [decide_eq_true_iff, topExp_lt_iff e _ hm]
    · rw [Bool.or_eq_true, Bool.not_eq_true', not_sameValue_iff]

/-- What 08 R172 asks of the lane of a function at a finite z that is not 0. -/
def FunctionValue (fp : FpMode) (f : ℝ → ℝ) (exact : ℝ → Prop) (z : ℝ) (r : ℕ × ℕ) : Prop :=
  if f z = 0 then r = (0, 0)
  else
    ∃ (near : ℝ) (sign ex : Bool), 0 < near ∧ (sign = true ↔ f z < 0) ∧ (ex = true ↔ exact z)
      ∧ Near (-160) 200 near |f z| ∧ (exact z → near = |f z|) ∧ RoundsTwice fp ex sign near r

/-- What 08 R172 and R173 ask of the lane of a function. -/
def FunctionLane (fp : FpMode) (f : ℝ → ℝ) (exact : ℝ → Prop) (pinf ninf pzero nzero : ℕ × ℕ) (negative : Bool) (x : Ex)
    (r : ℕ × ℕ) : Prop :=
  (x = .nan → r = (0x7FC00000, 0)) ∧ (x = .inf false → r = pinf) ∧ (x = .inf true → r = ninf)
    ∧ (Finite x false 0 → r = pzero) ∧ (Finite x true 0 → r = nzero)
    ∧ ∀ g y, Finite x g y → 0 < y →
      if g = true ∧ negative = false then r = (0x7FC00000, 16) else FunctionValue fp f exact (if g then -y else y) r

/-- The approximations of a function: where it is 0 they are, and elsewhere they stand for its value. -/
def Approximates (F : Bool → ℕ → ℤ → Approx) (f : ℝ → ℝ) (exact : ℝ → Prop) (negative : Bool) : Prop :=
  ∀ neg m e, 0 < m → m < 2 ^ 24 → -149 ≤ e → topExp m e < 128 → (neg = true → negative = true) →
    (f (signed neg (m * 2 ^ e)) = 0 → (F neg m e).val = .fin false 0 0)
      ∧ (f (signed neg (m * 2 ^ e)) ≠ 0 →
        (F neg m e).StandsFor (-160) 200 (f (signed neg (m * 2 ^ e))) (exact (signed neg (m * 2 ^ e))))

theorem roundTwice_of_val_zero (fp : FpMode) {a : Approx} {neg : Bool} {e : ℤ} (h : a.val = .fin neg 0 e) :
    roundTwice fp a = (0, 0) := by
  obtain ⟨val, ex⟩ := a
  obtain rfl : val = .fin neg 0 e := h
  rfl

theorem transLane_functionLane {fp : FpMode} {F : Bool → ℕ → ℤ → Approx} {f : ℝ → ℝ} {exact : ℝ → Prop} {negative : Bool}
    (h : Approximates F f exact negative) (pinf ninf pzero nzero : Coded) {x : Ex} (hx : Fmt.Holds .f32 x) :
    FunctionLane fp f exact pinf ninf pzero nzero negative x
      (transLane fp pinf ninf pzero nzero F (if negative then none else some (0x7FC00000, 16)) x) := by
  match x with
  | .nan => simp [FunctionLane, transLane, Fmt.nanCode]
  | .inf neg => cases neg <;> simp [FunctionLane, transLane]
  | .fin neg m e =>
    rcases Nat.eq_zero_or_pos m with rfl | hm
    · refine ⟨by simp, by simp, by simp, ?_, ?_, fun g y hy hpos => ?_⟩
      · intro hz
        obtain ⟨rfl, -⟩ := (finite_fin_iff _ _ _ _ _).mp hz
        rfl
      · intro hz
        obtain ⟨rfl, -⟩ := (finite_fin_iff _ _ _ _ _).mp hz
        rfl
      · obtain ⟨-, hz⟩ := (finite_fin_iff _ _ _ _ _).mp hy
        rw [Nat.cast_zero, zero_mul] at hz
        exact absurd hz hpos.ne
    · have hne (g : Bool) : ¬Finite (.fin neg m e) g 0 := by
        rw [finite_fin_iff, mul_zpow_eq_zero_iff]
        exact fun hz => hm.ne' hz.2
      refine ⟨by simp, by simp, by simp, fun hz => absurd hz (hne _), fun hz => absurd hz (hne _), fun g y hy hpos => ?_⟩
      obtain ⟨rfl, rfl⟩ := (finite_fin_iff _ _ _ _ _).mp hy
      obtain ⟨hm24, he, -⟩ := hx neg m e rfl
      have htop := (topExp_of_holds (f := .f32) rfl hx hm).2
      by_cases hrefused : neg = true ∧ negative = false
      · rw [if_pos hrefused]
        obtain ⟨rfl, rfl⟩ := hrefused
        simp [transLane, hm.ne']
      · rw [if_neg hrefused]
        have hneg : neg = true → negative = true := by
          intro hn
          simpa [hn] using hrefused
        have hlane : transLane fp pinf ninf pzero nzero F (if negative then none else some (0x7FC00000, 16)) (.fin neg m e)
            = roundTwice fp (F neg m e) := by
          cases neg
          · simp [transLane, hm.ne']
          · simp [transLane, hm.ne', hneg rfl]
        obtain ⟨hzero, hstands⟩ := h neg m e hm hm24 (by simpa [Fmt.emin, Fmt.mbits] using he) htop hneg
        rw [hlane, FunctionValue]
        change if f (signed neg (m * 2 ^ e)) = 0 then _ else _
        by_cases hz : f (signed neg (m * 2 ^ e)) = 0
        · rw [if_pos hz]
          exact roundTwice_of_val_zero fp (hzero hz)
        · rw [if_neg hz]
          obtain ⟨sign, m', e', hval, hm', hsign, hex, heq, hnear⟩ := hstands hz
          exact ⟨m' * 2 ^ e', sign, (F neg m e).exact, mul_zpow_pos_iff.mpr hm', hsign, hex, hnear, heq,
            roundTwice_roundsTwice fp hval hm'⟩

/-! ## The functions -/

/-- No value is given exactly. -/
def neverExact (_ : ℝ) : Prop := False

theorem exExp_approximates : Approximates exExp exp neverExact true := fun neg m e hm _ he _ _ =>
  ⟨fun h => absurd h (exp_pos _).ne', fun _ => (exExp_standsFor hm (by omega)).mono (by decide) (by decide)⟩

theorem exExp2_approximates : Approximates exExp2 (fun x => (2 : ℝ) ^ x) WholeExponent true := fun neg m e hm _ he _ _ =>
  ⟨fun h => absurd h (rpow_pos_of_pos two_pos _).ne', fun _ => exExp2_standsFor hm (by omega)⟩

theorem exTanh_approximates : Approximates exTanh tanh neverExact true := fun neg m e hm _ he _ _ => by
  refine ⟨fun h => ?_, fun _ => exTanh_standsFor hm he⟩
  rw [tanh_eq_sinh_div_cosh, div_eq_zero_iff, or_iff_left (cosh_pos _).ne', sinh_eq_zero, signed_eq_zero_iff,
    mul_zpow_eq_zero_iff] at h
  exact absurd h hm.ne'

theorem exSigmoid_approximates : Approximates exSigmoid (fun x => 1 / (1 + exp (-x))) neverExact true :=
  fun neg m e hm _ he _ _ =>
  ⟨fun h => absurd h (by positivity), fun _ => exSigmoid_standsFor hm he⟩

theorem exGelu_approximates : Approximates exGelu (fun x => x * (1 / 2 + bell x / √(2 * π))) neverExact true :=
  fun neg m e hm _ he _ _ => by
    have hpos : (0 : ℝ) < m * 2 ^ e := mul_zpow_pos_iff.mpr hm
    refine ⟨fun h => ?_, fun _ => exGelu_standsFor hm he⟩
    dsimp only at h
    rw [gelu_eq, signed_eq_zero_iff] at h
    exact absurd h (mul_pos hpos (normalAt_pos neg hpos.le)).ne'

theorem topExp_abs_le {m : ℕ} {e : ℤ} (he : -149 ≤ e) (htop : topExp m e < 128) : |(topExp m e : ℝ)| ≤ 2 ^ 10 := by
  have hlo : -149 ≤ topExp m e := by
    rw [topExp]
    omega
  rw [abs_le]
  constructor
  · have : ((-149 : ℤ) : ℝ) ≤ topExp m e := by exact_mod_cast hlo
    norm_num at this ⊢
    linarith
  · have : (topExp m e : ℝ) ≤ ((128 : ℤ) : ℝ) := by exact_mod_cast htop.le
    norm_num at this ⊢
    linarith

theorem exLog_approximates : Approximates (fun _ m e => exLog m e) log neverExact false := by
  intro neg m e hm hm24 he htop hneg
  obtain rfl : neg = false := by simpa using hneg
  have hpos : (0 : ℝ) < m * 2 ^ e := mul_zpow_pos_iff.mpr hm
  rw [signed_false]
  dsimp only
  refine ⟨fun h => ?_, fun h => ?_⟩
  · have hone : (m : ℝ) * 2 ^ e = 1 := eq_one_of_pos_of_log_eq_zero hpos h
    have hsame : sameValue m e 1 0 = true := by
      rw [sameValue_iff]
      simpa using hone
    rw [exLog, if_pos hsame]
  · exact exLog_standsFor hm hm24 (fun hone => h (by rw [hone, log_one])) (topExp_abs_le he htop)

theorem exLog2_approximates : Approximates (fun _ m e => exLog2 m e) (logb 2) (fun x => ∃ i : ℤ, x = 2 ^ i) false := by
  intro neg m e hm hm24 he htop hneg
  obtain rfl : neg = false := by simpa using hneg
  have hpos : (0 : ℝ) < m * 2 ^ e := mul_zpow_pos_iff.mpr hm
  rw [signed_false]
  dsimp only
  by_cases hpow : m = 2 ^ Nat.log2 m
  · have heq : exLog2 m e = ⟨.fin (topExp m e < 0) (topExp m e).natAbs 0, true⟩ := by rw [exLog2, if_pos hpow]
    have hvalue : (m : ℝ) * 2 ^ e = 2 ^ topExp m e := by
      obtain ⟨i, hi⟩ := (pow_two_iff (e := e) hm).mpr hpow
      rw [hi, topExp_eq_log e hm, hi]
      congr 1
      exact_mod_cast (Int.log_zpow (R := ℝ) one_lt_two i).symm
    have hlog : logb 2 ((m : ℝ) * 2 ^ e) = topExp m e := by rw [hvalue, ← rpow_intCast, logb_rpow two_pos (by norm_num)]
    rw [hlog, heq]
    refine ⟨fun h => ?_, fun h => ?_⟩
    · rw [Int.cast_eq_zero] at h
      simp [h]
    · rw [Int.cast_ne_zero] at h
      refine standsFor_exact (Int.natAbs_pos.mpr h) ?_ ⟨_, hvalue⟩
      rw [signed_natAbs, zpow_zero, mul_one]
  · have hnot : (∃ i : ℤ, (m : ℝ) * 2 ^ e = 2 ^ i) ↔ False := iff_false_intro (mt (pow_two_iff hm).mp hpow)
    have hstands := exLog2_standsFor (e := e) hm hm24 hpow
    rw [hnot]
    refine ⟨fun h => ?_, fun _ => hstands⟩
    rw [logb, div_eq_zero_iff, or_iff_left (log_pos one_lt_two).ne'] at h
    exact absurd ((pow_two_iff (e := e) hm).mp ⟨0, eq_one_of_pos_of_log_eq_zero hpos h⟩) hpow

end Sys2Proof.Machine
end

section
/-!
PROOFS (08 R175 to R177, 06 R147). The wide format, the canonical tree and the record that `smexp` forms of a row.
-/

namespace Sys2Proof.Machine
open Finset Real

/-! ## The wide format (08 R175) -/

/-- A significand in units of 2^q as a wide value. -/
def widePack (sig : ℕ) (q : ℤ) : Wide :=
  if q + 32790 < 1 then some (0, 0) else if 65535 < q + 32790 then none else some (sig, (q + 32790).toNat)

/-- A significand that is rounded up to 25 bits takes the next exponent. -/
theorem wideOf_fin (neg : Bool) {m : ℕ} {e : ℤ} (hm : 0 < m) :
    wideOf (.fin neg m e)
      = if roundUnits false m e (topExp m e - 23) 0 0 = 2 ^ 24 then widePack (2 ^ 23) (topExp m e - 23 + 1)
        else widePack (roundUnits false m e (topExp m e - 23) 0 0) (topExp m e - 23) := by
  rw [wideOf]
  simp only [if_neg hm.ne']
  split <;> rfl

theorem wideOf_wide (neg : Bool) (m : ℕ) (e : ℤ) : WideOf (m * 2 ^ e) (wideOf (.fin neg m e)) := by
  refine ⟨fun h => ?_, fun h => ?_⟩
  · rw [mul_zpow_eq_zero_iff] at h
    rw [wideOf, if_pos h]
  · have hm := mul_zpow_pos_iff.mp h
    rw [wideOf_fin neg hm, ← topExp_eq_log e hm]
    refine ⟨_, roundUnits_roundsTo false m e _ 0 0, ?_⟩
    by_cases hcarry : roundUnits false m e (topExp m e - 23) 0 0 = 2 ^ 24
    · simp only [if_pos hcarry]
      rfl
    · simp only [if_neg hcarry]
      rfl

/-- A wide value fits its fields. -/
def WideFits (r : Wide) : Prop := ∀ w, r = some w → w.1 < 2 ^ 24 ∧ w.2 < 2 ^ 16

theorem wideFits_zero : WideFits (some (0, 0)) := by
  rintro w ⟨⟩
  decide

theorem wideFits_none : WideFits none := fun _ hw => nomatch hw

theorem widePack_fits {sig : ℕ} (hsig : sig < 2 ^ 24) (q : ℤ) : WideFits (widePack sig q) := by
  rw [widePack]
  split
  · exact wideFits_zero
  split
  · exact wideFits_none
  · rintro w ⟨⟩
    exact ⟨hsig, by omega⟩

theorem widePack_isSome (sig : ℕ) {q : ℤ} (hq : q ≤ 32745) : ∃ w, widePack sig q = some w := by
  rw [widePack]
  split
  · exact ⟨_, rfl⟩
  · rw [if_neg (by omega)]
    exact ⟨_, rfl⟩

theorem rounded_le {m : ℕ} (e : ℤ) (hm : 0 < m) : roundUnits false m e (topExp m e - 23) 0 0 ≤ 2 ^ 24 := by
  have hhi : (m : ℝ) * 2 ^ e < 2 ^ (topExp m e + 1) := (topExp_lt_iff e _ hm).mp (by omega)
  have hunits : (m : ℝ) * 2 ^ e / 2 ^ (topExp m e - 23) < (2 ^ 24 : ℕ) := by
    rw [div_lt_iff₀ (by positivity), Nat.cast_pow, Nat.cast_ofNat, ← zpow_natCast, ← zpow_add₀ two_ne_zero,
      show ((24 : ℕ) : ℤ) + (topExp m e - 23) = topExp m e + 1 by push_cast; ring]
    exact hhi
  have hfloor := (Nat.floor_lt (by positivity)).mpr hunits
  have := (roundUnits_roundsTo false m e (topExp m e - 23) 0 0).floor
  omega

theorem wideOf_fits (x : Ex) : WideFits (wideOf x) := by
  match x with
  | .nan | .inf _ => exact wideFits_none
  | .fin neg m e =>
    rcases Nat.eq_zero_or_pos m with rfl | hm
    · exact wideFits_zero
    · have hk := rounded_le e hm
      rw [wideOf_fin neg hm]
      split
      · exact widePack_fits (by decide) _
      · exact widePack_fits (by omega) _

/-- A value below 2^32768 has a wide rounding. -/
theorem wideOf_isSome {neg : Bool} {m : ℕ} {e : ℤ} (h : (m : ℝ) * 2 ^ e < 2 ^ (32768 : ℤ)) :
    ∃ w, wideOf (.fin neg m e) = some w := by
  rcases Nat.eq_zero_or_pos m with rfl | hm
  · exact ⟨_, rfl⟩
  · rw [← topExp_lt_iff e _ hm] at h
    rw [wideOf_fin neg hm]
    split
    · exact widePack_isSome _ (by omega)
    · exact widePack_isSome _ (by omega)

/-! ### Sums -/

theorem wideVal_counts {sig ew : ℕ} {y : ℝ} (h : WideIs (sig, ew) y) :
    ∃ m e, wideVal sig ew = .fin false m e ∧ (m : ℝ) * 2 ^ e = y := by
  rw [WideIs] at h
  by_cases he : ew = 0
  · refine ⟨0, 0, by rw [wideVal, if_pos he], ?_⟩
    rw [h, if_pos he]
    simp
  · refine ⟨sig, (ew : ℤ) - 32790, by rw [wideVal, if_neg he], ?_⟩
    rw [h, if_neg he]

theorem wadd_wide {c d : ℕ × ℕ} {y z : ℝ} (hc : WideIs c y) (hd : WideIs d z) : WideOf (y + z) (wadd (some c) (some d)) := by
  obtain ⟨m1, e1, h1, hy⟩ := wideVal_counts hc
  obtain ⟨m2, e2, h2, hz⟩ := wideVal_counts hd
  obtain ⟨n, m, hadd, hvalue, -⟩ := add_fin false false false m1 m2 e1 e2
  have hy0 : 0 ≤ y := by rw [← hy]; positivity
  have hz0 : 0 ≤ z := by rw [← hz]; positivity
  have hsum : (m : ℝ) * 2 ^ min e1 e2 = y + z := by
    rw [signed_false, signed_false, hy, hz] at hvalue
    have hm : (0 : ℝ) ≤ m * 2 ^ min e1 e2 := by positivity
    cases n
    · exact hvalue
    · rw [signed_true] at hvalue
      linarith
  have h := wideOf_wide n m (min e1 e2)
  rw [hsum] at h
  rw [wadd, h1, h2, hadd]
  exact h

theorem wadd_none_left (a : Wide) : wadd none a = none := by cases a <;> rfl

theorem wadd_none_right (a : Wide) : wadd a none = none := by cases a <;> rfl

theorem wadd_fits (a b : Wide) : WideFits (wadd a b) := by
  match a, b with
  | some (s1, e1), some (s2, e2) => exact wideOf_fits _
  | none, b =>
    rw [wadd_none_left]
    exact wideFits_none
  | a, none =>
    rw [wadd_none_right]
    exact wideFits_none

/-! ### Exponentials -/

theorem infClass_iff (x : Ex) : infClass x = true ↔ Vast x := by
  match x with
  | .nan => simp [infClass, Vast, Ex.isNaN]
  | .inf n => cases n <;> simp [infClass, Vast, Ex.isNaN, Ex.lt]
  | .fin n m e =>
    have hlt := lt_iff_place (a := .fin n m e) (c := .fin false 22713 0) (by simp) (by simp)
    rw [Ex.place, Ex.place, EReal.coe_lt_coe_iff] at hlt
    simp only [infClass, Vast, Ex.isNaN, Bool.not_false, Bool.true_and, Bool.not_eq_true', ← Bool.not_eq_true, hlt, not_lt,
      counts_fin_iff, exists_eq_left, reduceCtorEq, false_or, signed_false, zpow_zero, mul_one, Nat.cast_ofNat]

theorem wideExp_wide {x : Ex} (hx : Fmt.Holds .f32 x) : WideExp x (wideExp x) := by
  match x with
  | .nan => exact ⟨(nomatch ·), fun z hz => absurd hz (not_counts_nan z)⟩
  | .inf n => exact ⟨fun _ => rfl, fun z hz => absurd hz (not_counts_inf n z)⟩
  | .fin neg m e =>
    refine ⟨(nomatch ·), fun z hz => ?_⟩
    rw [counts_fin_iff] at hz
    rw [wideExp]
    rcases Nat.eq_zero_or_pos m with rfl | hm
    · have h := wideOf_wide false 1 0
      rw [Nat.cast_one, zpow_zero, mul_one] at h
      refine ⟨1, one_pos, ?_, h⟩
      rw [hz, Nat.cast_zero, zero_mul, signed_eq_zero_iff.mpr rfl, exp_zero]
      exact near_self _ _ zero_le_one
    · have he := (hx neg m e rfl).2.1
      obtain ⟨sign, m', e', hval, hm', -, -, -, hnear⟩ := exExp_standsFor (neg := neg) (e := e) hm (by
        simp only [Fmt.emin, Fmt.mbits] at he
        omega)
      rw [← hz, abs_of_pos (exp_pos z)] at hnear
      rw [hval]
      exact ⟨_, mul_zpow_pos_iff.mpr hm', hnear, wideOf_wide sign m' e'⟩

/-- No input below 22,713 comes near the end of the wide range. -/
theorem exp_mul_lt {z : ℝ} (hz : z < 22713) : exp z * (1 + 2 ^ (-60 : ℤ)) < 2 ^ 32768 := by
  have h60 : (1 : ℝ) + 2 ^ (-60 : ℤ) < exp 0.04 := by
    have := add_one_le_exp (0.04 : ℝ)
    rw [zpow_neg]
    norm_num at this ⊢
    linarith
  have hle : exp (z + 0.04) ≤ 2 ^ 32768 := exp_le_two_pow (by
    push_cast
    linarith)
  rw [exp_add] at hle
  exact lt_of_lt_of_le (mul_lt_mul_of_pos_left h60 (exp_pos z)) hle

/-- No input below 22,713 overflows. -/
theorem wideExp_isSome {x : Ex} (hx : Fmt.Holds .f32 x) (hvast : ¬Vast x) : ∃ w, wideExp x = some w := by
  match x with
  | .nan | .inf _ => exact ⟨_, rfl⟩
  | .fin neg m e =>
    rcases Nat.eq_zero_or_pos m with rfl | hm
    · exact wideOf_isSome (neg := false) (m := 1) (e := 0) (by
        rw [Nat.cast_one, zpow_zero, mul_one]
        exact one_lt_zpow₀ one_lt_two (by decide))
    · have hz : signed neg (m * 2 ^ e) < 22713 := by
        by_contra h
        exact hvast (.inr ⟨_, (counts_fin_iff _ _ _ _).mpr rfl, not_lt.mp h⟩)
      have he := (hx neg m e rfl).2.1
      obtain ⟨sign, m', e', hval, hm', -, -, -, hnear⟩ := exExp_standsFor (neg := neg) (e := e) hm (by
        simp only [Fmt.emin, Fmt.mbits] at he
        omega)
      have hexp := exp_pos (signed neg (m * 2 ^ e))
      have hlt := exp_mul_lt hz
      rw [abs_of_pos hexp] at hnear
      rw [wideExp, hval]
      refine wideOf_isSome ?_
      have hcast : (2 : ℝ) ^ (32768 : ℤ) = 2 ^ 32768 := zpow_natCast 2 32768
      rcases hnear with h | ⟨h, -⟩ | ⟨-, h⟩
      · rw [hcast]
        have := (abs_le.mp h).2
        linarith
      · exact h.trans_le (zpow_le_zpow_right₀ one_le_two (by decide))
      · have h1 : exp (signed neg (m * 2 ^ e)) < 2 ^ (32768 : ℤ) := by
          rw [hcast]
          refine lt_of_le_of_lt (le_mul_of_one_le_right hexp.le ?_) hlt
          exact le_add_of_nonneg_right (by positivity)
        exact absurd (h.trans (h1.trans_le (zpow_le_zpow_right₀ one_le_two (by decide)))) (lt_irrefl _)

/-! ## The tree (06 R147) -/

theorem treeLevel_length {α : Type} (f : α → α → α) (l : List α) : (treeLevel f l).length = (l.length + 1) / 2 := by
  induction l using treeLevel.induct with
  | case1 a b l ih =>
    rw [treeLevel, List.length_cons, ih, List.length_cons, List.length_cons]
    omega
  | case2 l hl =>
    match l with
    | [] | [_] => simp [treeLevel]
    | a :: b :: l => exact absurd rfl (hl a b l)

/-- A level joins neighbours. -/
theorem treeLevel_getElem? {α : Type} (f : α → α → α) (l : List α) (i : ℕ) : (treeLevel f l)[i]? = treeNode f l 1 (2 * i) := by
  induction l using treeLevel.induct generalizing i with
  | case1 a b l ih =>
    cases i with
    | zero =>
      rw [treeLevel, treeNode, if_neg (by simp)]
      rfl
    | succ i =>
      rw [treeLevel, List.getElem?_cons_succ, ih i]
      simp only [treeNode, List.length_cons, pow_zero, mul_add_one, List.getElem?_cons_succ, add_right_comm _ 2 1,
        add_le_add_iff_right]
  | case2 l hl =>
    match l with
    | [] => simp [treeLevel, treeNode]
    | [a] => cases i <;> simp [treeLevel, treeNode]
    | a :: b :: l => exact absurd rfl (hl a b l)

/-- A node over a level is the node of one more level over its leaves. -/
theorem treeNode_treeLevel {α : Type} (f : α → α → α) (l : List α) (d lo : ℕ) :
    treeNode f (treeLevel f l) d lo = treeNode f l (d + 1) (2 * lo) := by
  induction d generalizing lo with
  | zero => exact treeLevel_getElem? f l lo
  | succ d ih =>
    have hpow : 2 * (lo + 2 ^ d) = 2 * lo + 2 ^ (d + 1) := by ring
    have hlen : (treeLevel f l).length ≤ lo + 2 ^ d ↔ l.length ≤ 2 * lo + 2 ^ (d + 1) := by
      rw [treeLevel_length]
      omega
    rw [treeNode, ih, ih, hpow, treeNode.eq_2 f l (2 * lo) (d + 1)]
    simp only [hlen]

theorem treeFold_eq_treeNode {α : Type} (f : α → α → α) (d : ℕ) (l : List α) : treeFold f d l = treeNode f l d 0 := by
  induction d generalizing l with
  | zero => exact List.head?_eq_getElem?
  | succ d ih => rw [treeFold, ih, treeNode_treeLevel]

/-- A tree that is deep enough may be deeper. -/
theorem treeNode_deeper {α : Type} (f : α → α → α) {l : List α} {c d : ℕ} (hc : l.length ≤ 2 ^ c) (hcd : c ≤ d) :
    treeNode f l d 0 = treeNode f l c 0 := by
  induction d, hcd using Nat.le_induction with
  | base => rfl
  | succ d hcd ih => rw [treeNode, if_pos (by simpa using hc.trans (Nat.pow_le_pow_right two_pos hcd)), ih]

/-- The canonical tree over its leaves. -/
theorem treeFold_canonical {α : Type} (f : α → α → α) (l : List α) :
    treeFold f (treeDepth l.length) l = treeNode f l (Nat.clog 2 l.length) 0 := by
  rw [treeFold_eq_treeNode]
  refine treeNode_deeper f (Nat.le_pow_clog one_lt_two _) ?_
  rw [treeDepth, Nat.clog_le_iff_le_pow one_lt_two]
  exact (Nat.lt_log2_self).le

/-- What holds of the leaves and of every join holds of a node, and a node that has a leaf has a value. -/
theorem treeNode_value {α : Type} (f : α → α → α) (P : α → Prop) (hf : ∀ a b, P (f a b)) {l : List α} (hl : ∀ a ∈ l, P a)
    (d : ℕ) {lo : ℕ} (hlo : lo < l.length) : ∃ a, treeNode f l d lo = some a ∧ P a := by
  induction d generalizing lo with
  | zero => exact ⟨l[lo], List.getElem?_eq_getElem hlo, hl _ (List.getElem_mem hlo)⟩
  | succ d ih =>
    rw [treeNode]
    split
    · exact ih hlo
    · next hpast =>
      obtain ⟨a, ha, -⟩ := ih hlo
      obtain ⟨b, hb, -⟩ := ih (not_le.mp hpast)
      exact ⟨f a b, by rw [ha, hb], hf a b⟩

/-! ## The record of a row (08 R176, R177) -/

theorem b2n_eq_flagWhen {b : Bool} {c : Prop} (h : b = true ↔ c) : b2n b = flagWhen c 1 := flagIf_eq_flagWhen h 1

theorem flagWhen_mul (c : Prop) (a b : ℕ) : flagWhen c (a * b) = a * flagWhen c b := by
  by_cases h : c <;> simp [flagWhen, h]

theorem wideFits_fields {w : Wide} (h : WideFits w) :
    (w.getD (0xFFFFFF, 0xFFFF)).1 < 2 ^ 24 ∧ (w.getD (0xFFFFFF, 0xFFFF)).2 < 2 ^ 16 := by
  cases w with
  | none => decide
  | some w => exact h w rfl

theorem packV_four {a b c d : ℕ} (ha : a < 2 ^ 32) (hb : b < 2 ^ 32) (hc : c < 2 ^ 32) (hd : d < 2 ^ 32) :
    (packV 32 [a, b, c, d]).toNat = a + 2 ^ 32 * b + 2 ^ 64 * c + 2 ^ 96 * d := by
  have hlt : packNat 32 [a, b, c, d] < 2 ^ 1024 := (packNat_lt 32 _).trans_le (Nat.pow_le_pow_right two_pos (by simp))
  rw [packV, BitVec.toNat_ofNat, Nat.mod_eq_of_lt hlt]
  simp only [packNat, Nat.mod_eq_of_lt ha, Nat.mod_eq_of_lt hb, Nat.mod_eq_of_lt hc, Nat.mod_eq_of_lt hd]
  ring

theorem b2n_le (b : Bool) : b2n b ≤ 1 := by cases b <;> decide

theorem encode_recordIs {r : RowRec} (hfits : WideFits r.sum) {pres nan : Prop} (hp : r.pres = true ↔ pres)
    (hn : r.nan = true ↔ nan) :
    RecordIs r.encode r.sum r.cinf pres nan := by
  obtain ⟨hsig, hew⟩ := wideFits_fields hfits
  have hflags : b2n r.nan + 2 * b2n r.pres + 4 * b2n r.sum.isNone
      = flagWhen nan 1 + flagWhen pres 2 + flagWhen (r.sum = none) 4 := by
    rw [b2n_eq_flagWhen hn, b2n_eq_flagWhen hp, b2n_eq_flagWhen Option.isNone_iff_eq_none, ← flagWhen_mul, ← flagWhen_mul]
  have hlt := b2n_le r.nan
  have := b2n_le r.pres
  have := b2n_le r.sum.isNone
  rw [RecordIs, RowRec.encode, ← hflags]
  exact packV_four (hsig.trans (by decide)) (hew.trans (by decide)) (by omega) (by omega)

/-- The leaves that the spec counts. -/
theorem leafCount_eq (p : V1024) : leafCount p = if bits p 0 6 = 0 ∨ 32 < bits p 0 6 then 32 else bits p 0 6 := by
  simp [leafCount]

theorem leafCount_pos (p : V1024) : 0 < leafCount p := by
  rw [leafCount_eq]
  split <;> omega

/-- A leaf of a row. -/
def rowLeaf (fp : FpMode) (msk : ℕ) (v : V1024) (i : ℕ) : Wide :=
  if excluded msk i || (inLane fp v i).isNaN || infClass (inLane fp v i) then some (0, 0) else wideExp (inLane fp v i)

theorem rowLeaf_of_counted {fp : FpMode} {msk : ℕ} {v : V1024} {i : ℕ} (hlive : msk.testBit i = true)
    (hnan : inLane fp v i ≠ .nan)
    (hvast : ¬Vast (inLane fp v i)) : rowLeaf fp msk v i = wideExp (inLane fp v i) := by
  rw [ne_eq, ← isNaN_iff] at hnan
  rw [← infClass_iff] at hvast
  simp [rowLeaf, excluded, hlive, hnan, hvast]

theorem rowLeaf_of_not_counted {fp : FpMode} {msk : ℕ} {v : V1024} {i : ℕ}
    (h : ¬msk.testBit i = true ∨ inLane fp v i = .nan ∨ Vast (inLane fp v i)) : rowLeaf fp msk v i = some (0, 0) := by
  rw [← isNaN_iff, ← infClass_iff] at h
  rw [rowLeaf, if_pos]
  simpa [excluded, or_assoc] using h

theorem inLane_holds (fp : FpMode) (v : V1024) (i : ℕ) : Fmt.Holds .f32 (inLane fp v i) := (decodeF_holds rfl _).flush _

theorem wideExp_fits (x : Ex) : WideFits (wideExp x) := by
  match x with
  | .nan | .inf _ => exact wideFits_zero
  | .fin _ _ _ => exact wideOf_fits _

theorem rowLeaf_fits (fp : FpMode) (msk : ℕ) (v : V1024) (i : ℕ) : WideFits (rowLeaf fp msk v i) := by
  rw [rowLeaf]
  split
  · exact wideFits_zero
  · exact wideExp_fits _

/-- The lanes of a row that are not masked. -/
def rowLive (msk : ℕ) (p : V1024) : List ℕ := (List.range (leafCount p)).filter fun i => !excluded msk i

theorem mem_rowLive {msk : ℕ} {p : V1024} {i : ℕ} : i ∈ rowLive msk p ↔ i < leafCount p ∧ msk.testBit i = true := by
  simp [rowLive, excluded]

theorem rowLive_nodup (msk : ℕ) (p : V1024) : (rowLive msk p).Nodup := List.nodup_range.filter _

/-- The sum over a row by the canonical tree. -/
theorem rowSum (fp : FpMode) (msk : ℕ) (p v : V1024) :
    ∃ sum, treeFold wadd (treeDepth (leafCount p)) ((List.range (leafCount p)).map (rowLeaf fp msk v)) = some sum ∧ WideFits sum
      ∧ treeNode wadd ((List.range (leafCount p)).map (rowLeaf fp msk v)) (Nat.clog 2 (leafCount p)) 0 = some sum := by
  have hlen : ((List.range (leafCount p)).map (rowLeaf fp msk v)).length = leafCount p := by simp
  have hfold := treeFold_canonical wadd ((List.range (leafCount p)).map (rowLeaf fp msk v))
  rw [hlen] at hfold
  obtain ⟨sum, hsum, hfits⟩ := treeNode_value wadd WideFits wadd_fits (l := (List.range (leafCount p)).map (rowLeaf fp msk v))
    (by
      rintro _ ha
      obtain ⟨i, -, rfl⟩ := List.mem_map.mp ha
      exact rowLeaf_fits fp msk v i)
    (Nat.clog 2 (leafCount p)) (lo := 0) (by rw [hlen]; exact leafCount_pos p)
  exact ⟨sum, hfold.trans hsum, hfits, hsum⟩

/-- The lanes of a row in the +infinity class. -/
def rowVast (fp : FpMode) (msk : ℕ) (p v : V1024) : Finset ℕ :=
  ((rowLive msk p).filter fun i => infClass (inLane fp v i)).toFinset

theorem mem_rowVast {fp : FpMode} {msk : ℕ} {p v : V1024} {i : ℕ} :
    i ∈ rowVast fp msk p v ↔ i < leafCount p ∧ msk.testBit i = true ∧ Vast (inLane fp v i) := by
  rw [rowVast, List.mem_toFinset, List.mem_filter, mem_rowLive, infClass_iff, and_assoc]

theorem card_rowVast (fp : FpMode) (msk : ℕ) (p v : V1024) :
    (rowVast fp msk p v).card = (((rowLive msk p).map (inLane fp v)).filter infClass).length := by
  rw [rowVast, List.toFinset_card_of_nodup ((rowLive_nodup msk p).filter _), List.filter_map, List.length_map]
  rfl

/-- The record that `smexp` forms. -/
theorem smexpV_recordIs (fp : FpMode) (msk : ℕ) (p v : V1024) {sum : Wide} (hfits : WideFits sum)
    (hsum : treeFold wadd (treeDepth (leafCount p)) ((List.range (leafCount p)).map (rowLeaf fp msk v)) = some sum) :
    RecordIs (smexpV fp msk p v) sum (rowVast fp msk p v).card (∃ j < leafCount p, msk.testBit j = true)
      (∃ j < leafCount p, msk.testBit j = true ∧ inLane fp v j = .nan) := by
  have hrec : smexpV fp msk p v = RowRec.encode
      { sum := sum, cinf := (rowVast fp msk p v).card, pres := !((rowLive msk p).map (inLane fp v)).isEmpty,
        nan := ((rowLive msk p).map (inLane fp v)).any Ex.isNaN } := by
    rw [card_rowVast, ← Option.getD_some (a := sum) (b := some (0, 0)), ← hsum]
    rfl
  rw [hrec]
  refine encode_recordIs hfits ?_ ?_
  · simp only [Bool.not_eq_true', List.isEmpty_eq_false_iff_exists_mem, List.mem_map, mem_rowLive]
    exact ⟨fun ⟨_, j, hj, _⟩ => ⟨j, hj⟩, fun ⟨j, hj⟩ => ⟨_, j, hj, rfl⟩⟩
  · simp only [List.any_eq_true, List.mem_map, mem_rowLive, isNaN_iff]
    exact ⟨fun ⟨_, ⟨j, ⟨hj, hlive⟩, rfl⟩, hnan⟩ => ⟨j, hj, hlive, hnan⟩,
      fun ⟨j, hj, hlive, hnan⟩ => ⟨_, ⟨j, ⟨hj, hlive⟩, rfl⟩, hnan⟩⟩

end Sys2Proof.Machine
end

section
/-!
PROOFS (08 R179). The lanes of the soft maximum: a quotient with its last bit set where it is not exact rounds as the exact
quotient does.
-/

namespace Sys2Proof.Machine
open Finset Real

/-! ## Values between the same neighbours of a grid round alike (08 R179) -/

/-- v is strictly between two neighbours of the grid of 2^g. -/
def InCell (g : ℤ) (h : ℕ) (v : ℝ) : Prop := h * 2 ^ g < v ∧ v < (h + 1 : ℕ) * 2 ^ g

theorem grid_point {g j : ℤ} (hj : g ≤ j) (n : ℕ) : (n : ℝ) * 2 ^ j = (n * 2 ^ (j - g).toNat : ℕ) * 2 ^ g := by
  rw [Nat.cast_mul, Nat.cast_pow, Nat.cast_ofNat, ← zpow_natCast, mul_assoc, ← zpow_add₀ two_ne_zero,
    Int.toNat_of_nonneg (by omega), sub_add_cancel]

section Cell

variable {g : ℤ} {h : ℕ} {v : ℝ} (hv : InCell g h v)
include hv

theorem InCell.lt_grid_iff {j : ℤ} (hj : g ≤ j) (n : ℕ) : v < n * 2 ^ j ↔ h < n * 2 ^ (j - g).toNat := by
  obtain ⟨hlo, hhi⟩ := hv
  have hunit : (0 : ℝ) < 2 ^ g := by positivity
  rw [grid_point hj]
  constructor
  · intro hlt
    exact_mod_cast lt_of_mul_lt_mul_right (hlo.trans hlt) hunit.le
  · intro hlt
    exact hhi.trans_le (mul_le_mul_of_nonneg_right (Nat.cast_le.mpr hlt) hunit.le)

theorem InCell.ne_grid {j : ℤ} (hj : g ≤ j) (n : ℕ) : (n : ℝ) * 2 ^ j ≠ v := by
  obtain ⟨hlo, hhi⟩ := hv
  have hunit : (0 : ℝ) < 2 ^ g := by positivity
  rw [grid_point hj]
  rintro rfl
  have h1 := Nat.cast_lt.mp (lt_of_mul_lt_mul_right hlo hunit.le)
  have h2 := Nat.cast_lt.mp (lt_of_mul_lt_mul_right hhi hunit.le)
  omega

theorem InCell.pos : 0 < v := lt_of_le_of_lt (by positivity) hv.1

/-- A value is not under the powers of two that are under the cell. -/
theorem InCell.lt_two_pow_iff (hh : 0 < h) (p : ℤ) : v < 2 ^ p ↔ g ≤ p ∧ h < 2 ^ (p - g).toNat := by
  by_cases hp : g ≤ p
  · simpa [hp] using hv.lt_grid_iff hp 1
  · refine iff_of_false (fun hlt => ?_) fun hlt => hp hlt.1
    have hle : (1 : ℝ) * 2 ^ g ≤ h * 2 ^ g := mul_le_mul_of_nonneg_right (Nat.one_le_cast.mpr hh) (by positivity)
    have hup : (2 : ℝ) ^ p ≤ 2 ^ g := zpow_le_zpow_right₀ one_le_two (by omega)
    linarith [hv.1]

theorem InCell.le_log {b : ℕ} (hb : 2 ^ b ≤ h) : g + b ≤ Int.log 2 v := by
  rw [← Int.zpow_le_iff_le_log one_lt_two hv.pos, zpow_add₀ (by norm_num), mul_comm, zpow_natCast]
  have hle : ((2 ^ b : ℕ) : ℝ) * 2 ^ g ≤ h * 2 ^ g := mul_le_mul_of_nonneg_right (Nat.cast_le.mpr hb) (by positivity)
  push_cast at hle ⊢
  exact hle.trans hv.1.le

end Cell

section SameCell

variable {g : ℤ} {h : ℕ} {v z : ℝ} (hv : InCell g h v) (hz : InCell g h z)
include hv hz

theorem InCell.log_eq (hh : 0 < h) : Int.log 2 v = Int.log 2 z := by
  have hlt (p : ℤ) : Int.log 2 v < p ↔ Int.log 2 z < p := by
    rw [← Int.lt_zpow_iff_log_lt one_lt_two hv.pos, ← Int.lt_zpow_iff_log_lt one_lt_two hz.pos, Nat.cast_ofNat,
      hv.lt_two_pow_iff hh, hz.lt_two_pow_iff hh]
  have h1 := (hlt (Int.log 2 z + 1)).mpr (by omega)
  have h2 := (hlt (Int.log 2 v + 1)).mp (by omega)
  omega

theorem InCell.floor_eq {q : ℤ} (hq : g ≤ q) : ⌊v / 2 ^ q⌋₊ = ⌊z / 2 ^ q⌋₊ := by
  have hunit : (0 : ℝ) < 2 ^ q := by positivity
  refine eq_of_forall_gt_iff fun n => ?_
  rw [Nat.floor_lt (div_nonneg hv.pos.le hunit.le), Nat.floor_lt (div_nonneg hz.pos.le hunit.le), div_lt_iff₀ hunit,
    div_lt_iff₀ hunit, hv.lt_grid_iff hq, hz.lt_grid_iff hq]

omit hz in
/-- Whether a value is past the half of a unit. -/
theorem InCell.goesUp_iff {q : ℤ} (hq : g < q) (sr : ℕ) (neg : Bool) :
    GoesUp 0 sr neg (v / 2 ^ q) ↔ (2 * ⌊v / 2 ^ q⌋₊ + 1) * 2 ^ (q - 1 - g).toNat ≤ h := by
  have hunit : (0 : ℝ) < 2 ^ (q - 1) := by positivity
  have hq2 : (2 : ℝ) ^ q = 2 * 2 ^ (q - 1) := by rw [← zpow_one_add₀ two_ne_zero, add_sub_cancel]
  have hne := hv.ne_grid (j := q - 1) (by omega) (2 * ⌊v / 2 ^ q⌋₊ + 1)
  have hlt := hv.lt_grid_iff (j := q - 1) (by omega) (2 * ⌊v / 2 ^ q⌋₊ + 1)
  have hhalf : ((2 * ⌊v / 2 ^ q⌋₊ + 1 : ℕ) : ℝ) * 2 ^ (q - 1) = (⌊v / 2 ^ q⌋₊ + 1 / 2) * 2 ^ q := by
    rw [hq2]
    push_cast
    ring
  rw [hhalf] at hne hlt
  rw [← not_lt, ← hlt, not_lt, le_iff_lt_or_eq, or_iff_left hne, ← lt_div_iff₀ (by positivity), ← lt_sub_iff_add_lt']
  refine or_iff_left fun heq => hne ?_
  rw [← heq.1, add_sub_cancel, div_mul_cancel₀ _ (by positivity)]

theorem InCell.goesUp_iff_goesUp {q : ℤ} (hq : g < q) (sr : ℕ) (neg : Bool) :
    GoesUp 0 sr neg (v / 2 ^ q) ↔ GoesUp 0 sr neg (z / 2 ^ q) := by
  rw [hv.goesUp_iff hq, hz.goesUp_iff hq, hv.floor_eq hz hq.le]

/-- Values in one cell that is fine enough have the same results. -/
theorem InCell.encodesTo_iff (hh : 2 ^ 26 ≤ h) (fp : FpMode) (neg : Bool) (r : ℕ × ℕ) :
    EncodesTo fp .f32 0 false 0 neg v r ↔ EncodesTo fp .f32 0 false 0 neg z r := by
  have hh0 : 0 < h := by omega
  have hlog := hv.log_eq hz hh0
  have hq : g < max (Int.log 2 z) (-126) - (23 : ℕ) := by
    have := hz.le_log hh
    omega
  have htiny : v < 2 ^ (-126 : ℤ) ↔ z < 2 ^ (-126 : ℤ) := by rw [hv.lt_two_pow_iff hh0, hz.lt_two_pow_iff hh0]
  unfold EncodesTo
  simp only [formatRow, reduceCtorEq, if_false, hlog, htiny, roundsTo_iff, hv.goesUp_iff_goesUp hz hq, hv.floor_eq hz hq.le]
  simp only [ne_eq, hv.ne_grid hq.le, hz.ne_grid hq.le]

end SameCell

/-! ## Quotients -/

/-- A quotient is taken to 95 bits and more. -/
theorem le_quot {m d : ℕ} (hm : 0 < m) (hd : 0 < d) : 2 ^ 95 ≤ m * 2 ^ (96 + Nat.log2 (d + 1)) / d := by
  have hlt : d + 1 < 2 ^ (Nat.log2 (d + 1) + 1) := Nat.lt_log2_self
  rw [Nat.le_div_iff_mul_le hd]
  calc 2 ^ 95 * d ≤ 2 ^ 95 * 2 ^ (Nat.log2 (d + 1) + 1) := Nat.mul_le_mul_left _ (by omega)
    _ = 1 * 2 ^ (96 + Nat.log2 (d + 1)) := by ring
    _ ≤ m * 2 ^ (96 + Nat.log2 (d + 1)) := Nat.mul_le_mul_right _ hm

/-- A quotient of whole numbers that is not whole, and its whole part with the last bit set. -/
theorem quot_inCell {x d : ℕ} (hd : 0 < d) (hx : x % d ≠ 0) (j : ℤ) :
    InCell (j + 1) (x / d / 2) ((x / d ||| 1 : ℕ) * 2 ^ j) ∧ InCell (j + 1) (x / d / 2) (x / d * 2 ^ j) := by
  have hcell {y : ℝ} (h1 : (2 * (x / d / 2) : ℕ) < y) (h2 : y < (2 * (x / d / 2 + 1) : ℕ)) :
      InCell (j + 1) (x / d / 2) (y * 2 ^ j) := by
    have hpow (n : ℕ) : (n : ℝ) * 2 ^ (j + 1) = (2 * n : ℕ) * 2 ^ j := by
      rw [zpow_add_one₀ two_ne_zero]
      push_cast
      ring
    rw [InCell, hpow, hpow]
    exact ⟨mul_lt_mul_of_pos_right h1 (by positivity), mul_lt_mul_of_pos_right h2 (by positivity)⟩
  have hmod := Nat.mod_lt x hd
  have hdiv := Nat.div_add_mod x d
  have hdpos : (0 : ℝ) < d := Nat.cast_pos.mpr hd
  refine ⟨hcell ?_ ?_, hcell ?_ ?_⟩
  · rw [or_one_eq]
    exact_mod_cast Nat.lt_succ_self _
  · rw [or_one_eq]
    exact_mod_cast (by omega : 2 * (x / d / 2) + 1 < 2 * (x / d / 2 + 1))
  · rw [lt_div_iff₀ hdpos]
    have hlt : 2 * (x / d / 2) * d < x := by
      have := Nat.mul_le_mul_right d (by omega : 2 * (x / d / 2) ≤ x / d)
      rw [mul_comm (x / d)] at this
      omega
    exact_mod_cast hlt
  · rw [div_lt_iff₀ hdpos]
    have hlt : x < 2 * (x / d / 2 + 1) * d := by
      have := Nat.mul_le_mul_right d (by omega : x / d + 1 ≤ 2 * (x / d / 2 + 1))
      rw [add_mul, mul_comm (x / d), one_mul] at this
      omega
    exact_mod_cast hlt

/-- A quotient is rounded once. -/
theorem exQuot_encodesTo (fp : FpMode) {m d : ℕ} (hm : 0 < m) (hd : 0 < d) (e e' : ℤ) :
    EncodesTo fp .f32 0 false 0 false (m * 2 ^ e / (d * 2 ^ e'))
      (encodeResult fp .f32 0 false 0 (exQuot false m e false d e')) := by
  have hle := le_quot hm hd
  have hdne : (d : ℝ) ≠ 0 := Nat.cast_ne_zero.mpr hd.ne'
  have hvalue : (m : ℝ) * 2 ^ e / (d * 2 ^ e')
      = (m * 2 ^ (96 + Nat.log2 (d + 1)) : ℕ) / d * 2 ^ (e - e' + -(96 + Nat.log2 (d + 1) : ℕ)) := by
    rw [zpow_add₀ two_ne_zero, zpow_sub₀ two_ne_zero, zpow_neg, zpow_natCast]
    push_cast
    field_simp
  have hquot : exQuot false m e false d e' = .fin false (if m * 2 ^ (96 + Nat.log2 (d + 1)) % d = 0
      then m * 2 ^ (96 + Nat.log2 (d + 1)) / d else m * 2 ^ (96 + Nat.log2 (d + 1)) / d ||| 1)
    (e - e' + -(96 + Nat.log2 (d + 1) : ℕ)) := rfl
  rw [hvalue, hquot]
  generalize m * 2 ^ (96 + Nat.log2 (d + 1)) = x at *
  generalize e - e' + -((96 + Nat.log2 (d + 1) : ℕ) : ℤ) = j
  by_cases hx : x % d = 0
  · rw [if_pos hx, ← Nat.cast_div (Nat.dvd_of_mod_eq_zero hx) hdne]
    exact encodeResult_encodesTo fp (by decide) 0 0 false j (by omega) (.inr rfl)
  · rw [if_neg hx]
    obtain ⟨hcut, hexact⟩ := quot_inCell hd hx j
    rw [hexact.encodesTo_iff hcut (by omega)]
    exact encodeResult_encodesTo fp (by decide) 0 0 false j (or_one_bounds _).1 (.inr rfl)

/-! ## The lanes of the soft maximum (08 R179) -/

/-- The quotient of two finite values that are not negative, rounded once. -/
theorem exDiv_roundedOnce (fp : FpMode) (m : ℕ) {d : ℕ} (hd : 0 < d) (e e' : ℤ) :
    RoundedOnce fp 0 false (m * 2 ^ e / (d * 2 ^ e'))
      (encodeResult fp .f32 0 false 0 (exDiv (.fin false m e) (.fin false d e')).1) := by
  have hden : (0 : ℝ) < d * 2 ^ e' := mul_zpow_pos_iff.mpr hd
  rcases Nat.eq_zero_or_pos m with rfl | hm
  · have hvalue : ((0 : ℕ) : ℝ) * 2 ^ e / (d * 2 ^ e') = 0 := by rw [Nat.cast_zero, zero_mul, zero_div]
    rw [hvalue, exDiv, if_neg hd.ne', if_pos rfl]
    exact ⟨fun _ => rfl, fun h => absurd h (lt_irrefl _), fun h => absurd h (lt_irrefl _)⟩
  · have hpos : (0 : ℝ) < m * 2 ^ e / (d * 2 ^ e') := div_pos (mul_zpow_pos_iff.mpr hm) hden
    rw [exDiv, if_neg hd.ne', if_neg hm.ne']
    exact ⟨fun h => absurd h hpos.ne', fun _ => exQuot_encodesTo fp hm hd e e', fun h => absurd h hpos.not_gt⟩

/-- What 08 R179 asks of a lane x under a row record. -/
def RowLane (fp : FpMode) (r : RowRec) (x : Ex) (q : ℕ × ℕ) : Prop :=
  (r.nan = true ∨ x = .nan → q = (0x7FC00000, 0))
    ∧ (¬r.nan = true → x ≠ .nan →
      (¬r.pres = true → q = (0, 64))
        ∧ (r.pres = true → 1 ≤ r.cinf → Vast x →
          ∃ fl, EncodesTo { fp with rm := 0 } .f32 0 false 0 false (1 / (r.cinf : ℝ)) (q.1, fl) ∧ q.2 = fl ||| 128)
        ∧ (r.pres = true → 1 ≤ r.cinf → ¬Vast x → q = (0, 128))
        ∧ (r.pres = true → r.cinf = 0 → Vast x → q = (0x7F800000, 0))
        ∧ (r.pres = true → r.cinf = 0 → ¬Vast x →
          (r.sum = none → q = (0, 5))
            ∧ ∀ w sum, r.sum = some w → WideIs w sum →
              (sum = 0 → q = (0, 3))
                ∧ (sum ≠ 0 → ∃ w y, WideExp x (some w) ∧ WideIs w y ∧ RoundedOnce { fp with rm := 0 } 0 false (y / sum) q)))

/-- The lane of a row whose exponentials have a sum. -/
def sumLane (fp : FpMode) (w : ℕ × ℕ) (x : Ex) : Coded :=
  if (wideVal w.1 w.2).isZero then (0, flUNF ||| flNX)
  else
    match wideExp x with
    | some (s2, e2) => encodeResult { fp with rm := 0 } .f32 0 false 0 (exDiv (wideVal s2 e2) (wideVal w.1 w.2)).1
    | none => (0, 0)

theorem sumLane_of_zero (fp : FpMode) {w : ℕ × ℕ} (hw : WideIs w 0) (x : Ex) : sumLane fp w x = (0, 3) := by
  obtain ⟨m, e, hval, hm⟩ := wideVal_counts hw
  rw [mul_zpow_eq_zero_iff] at hm
  rw [sumLane, hval, hm]
  rfl

theorem sumLane_of_pos (fp : FpMode) {w : ℕ × ℕ} {sum : ℝ} (hw : WideIs w sum) (hsum : sum ≠ 0) {x : Ex} (hx : Fmt.Holds .f32 x)
    (hvast : ¬Vast x) :
    ∃ w' y, WideExp x (some w') ∧ WideIs w' y ∧ RoundedOnce { fp with rm := 0 } 0 false (y / sum) (sumLane fp w x) := by
  obtain ⟨d, e', hval, rfl⟩ := wideVal_counts hw
  obtain ⟨w', hw'⟩ := wideExp_isSome hx hvast
  obtain ⟨m, e, hval', hy⟩ := wideVal_counts (sig := w'.1) (ew := w'.2) rfl
  have hd : 0 < d := by
    rw [ne_eq, mul_zpow_eq_zero_iff] at hsum
    omega
  have hzero : ¬(Ex.fin false d e').isZero = true := by simpa [Ex.isZero] using hd.ne'
  refine ⟨w', _, hw' ▸ wideExp_wide hx, rfl, ?_⟩
  rw [← hy, sumLane, hval, if_neg hzero, hw']
  simp only [hval']
  exact exDiv_roundedOnce _ m hd e e'

section Lane

variable (fp : FpMode) {r : RowRec} {x : Ex}

theorem smoutLane_of_nan (h : r.nan = true ∨ x = .nan) : smoutLane fp r x = (0x7FC00000, 0) := by
  rw [← isNaN_iff, ← Bool.or_eq_true] at h
  rw [smoutLane, if_pos h]
  rfl

variable (hnan : ¬(r.nan = true ∨ x = .nan))
include hnan

theorem smoutLane_of_empty (hpres : ¬r.pres = true) : smoutLane fp r x = (0, 64) := by
  rw [← isNaN_iff, ← Bool.or_eq_true] at hnan
  rw [smoutLane, if_neg hnan, if_pos (by simpa using hpres)]
  rfl

variable (hpres : r.pres = true)
include hpres

/-- The lane of a row that is not empty and holds no NaN. -/
theorem smoutLane_of_present : smoutLane fp r x =
    if 1 ≤ r.cinf then
      if infClass x then
        ((encodeResult { fp with rm := 0 } .f32 0 false 0 (exQuot false 1 0 false r.cinf 0)).1,
          (encodeResult { fp with rm := 0 } .f32 0 false 0 (exQuot false 1 0 false r.cinf 0)).2 ||| 128)
      else (0, 128)
    else if infClass x then (0x7F800000, 0)
    else
      match r.sum with
      | none => (0, 5)
      | some w => sumLane fp w x := by
  rw [← isNaN_iff, ← Bool.or_eq_true] at hnan
  rw [smoutLane, if_neg hnan, if_neg (by simpa using hpres)]
  obtain ⟨_ | ⟨sig, ew⟩, cinf, pres, nan⟩ := r
  · rfl
  · rfl

theorem smoutLane_of_vast (hvast : Vast x) (hcinf : 1 ≤ r.cinf) :
    ∃ fl, EncodesTo { fp with rm := 0 } .f32 0 false 0 false (1 / (r.cinf : ℝ)) ((smoutLane fp r x).1, fl)
      ∧ (smoutLane fp r x).2 = fl ||| 128 := by
  have h := exQuot_encodesTo { fp with rm := 0 } one_pos hcinf 0 0
  rw [Nat.cast_one, zpow_zero, mul_one, mul_one] at h
  rw [smoutLane_of_present fp hnan hpres, if_pos hcinf, if_pos ((infClass_iff x).mpr hvast)]
  exact ⟨_, h, rfl⟩

theorem smoutLane_of_not_vast (hvast : ¬Vast x) (hcinf : 1 ≤ r.cinf) : smoutLane fp r x = (0, 128) := by
  rw [smoutLane_of_present fp hnan hpres, if_pos hcinf, if_neg (mt (infClass_iff x).mp hvast)]

theorem smoutLane_of_vast_alone (hvast : Vast x) (hcinf : r.cinf = 0) : smoutLane fp r x = (0x7F800000, 0) := by
  rw [smoutLane_of_present fp hnan hpres, if_neg (by omega), if_pos ((infClass_iff x).mpr hvast)]

variable (hvast : ¬Vast x) (hcinf : r.cinf = 0)
include hvast hcinf

theorem smoutLane_of_overflow (hsum : r.sum = none) : smoutLane fp r x = (0, 5) := by
  rw [smoutLane_of_present fp hnan hpres, if_neg (by omega), if_neg (mt (infClass_iff x).mp hvast), hsum]

theorem smoutLane_of_sum {w : ℕ × ℕ} (hsum : r.sum = some w) : smoutLane fp r x = sumLane fp w x := by
  rw [smoutLane_of_present fp hnan hpres, if_neg (by omega), if_neg (mt (infClass_iff x).mp hvast), hsum]

end Lane

theorem smoutLane_rowLane (fp : FpMode) (r : RowRec) {x : Ex} (hx : Fmt.Holds .f32 x) : RowLane fp r x (smoutLane fp r x) := by
  refine ⟨smoutLane_of_nan fp, fun hr hn => ?_⟩
  have hnan : ¬(r.nan = true ∨ x = .nan) := not_or.mpr ⟨hr, hn⟩
  refine ⟨smoutLane_of_empty fp hnan, fun hpres hcinf hvast => smoutLane_of_vast fp hnan hpres hvast hcinf,
    fun hpres hcinf hvast => smoutLane_of_not_vast fp hnan hpres hvast hcinf,
    fun hpres hcinf hvast => smoutLane_of_vast_alone fp hnan hpres hvast hcinf,
    fun hpres hcinf hvast => ⟨smoutLane_of_overflow fp hnan hpres hvast hcinf, fun w sum hw hsum => ?_⟩⟩
  rw [smoutLane_of_sum fp hnan hpres hvast hcinf hw]
  refine ⟨?_, fun hne => sumLane_of_pos fp hsum hne hx hvast⟩
  rintro rfl
  exact sumLane_of_zero fp hsum x

/-! ### The code of a lane fits 32 bits -/

theorem EncodesTo.lt {fp : FpMode} {mode sr : ℕ} {conv neg : Bool} {v : ℝ} {r : ℕ × ℕ}
    (h : EncodesTo fp .f32 mode conv sr neg v r) :
    r.1 < 2 ^ 32 := h.1

theorem RoundedOnce.lt {fp : FpMode} {mode : ℕ} {zero : Bool} {z : ℝ} {r : ℕ × ℕ} (h : RoundedOnce fp mode zero z r) :
    r.1 < 2 ^ 32 := by
  obtain ⟨hzero, hpos, hneg⟩ := h
  rcases lt_trichotomy z 0 with hz | hz | hz
  · exact (hneg hz).lt
  · rw [hzero hz]
    cases zero <;> decide
  · exact (hpos hz).lt

theorem smoutLane_lt (fp : FpMode) (r : RowRec) {x : Ex} (hx : Fmt.Holds .f32 x) : (smoutLane fp r x).1 < 2 ^ 32 := by
  by_cases hnan : r.nan = true ∨ x = .nan
  · rw [smoutLane_of_nan fp hnan]
    decide
  by_cases hpres : r.pres = true
  swap
  · rw [smoutLane_of_empty fp hnan hpres]
    decide
  by_cases hvast : Vast x <;> rcases Nat.eq_zero_or_pos r.cinf with hcinf | hcinf
  · rw [smoutLane_of_vast_alone fp hnan hpres hvast hcinf]
    decide
  · obtain ⟨fl, h, -⟩ := smoutLane_of_vast fp hnan hpres hvast hcinf
    exact h.lt
  · match hsum : r.sum with
    | none =>
      rw [smoutLane_of_overflow fp hnan hpres hvast hcinf hsum]
      decide
    | some w =>
      rw [smoutLane_of_sum fp hnan hpres hvast hcinf hsum]
      obtain hzero | hne := eq_or_ne (if w.2 = 0 then (0 : ℝ) else (w.1 : ℝ) * 2 ^ ((w.2 : ℤ) - 32790)) 0
      · rw [sumLane_of_zero fp hzero.symm x]
        decide
      · obtain ⟨_, _, -, -, h⟩ := sumLane_of_pos fp (w := w) rfl hne hx hvast
        exact h.lt
  · rw [smoutLane_of_not_vast fp hnan hpres hvast hcinf]
    decide

/-! ### The flag of a row of which every lane is masked -/

theorem testBit_smoutMasked (r : RowRec) (msk b : ℕ) :
    (smoutMasked r msk).testBit b = true ↔ b = 6 ∧ ¬r.pres = true ∧ ¬r.nan = true ∧ ∀ j < 32, ¬msk.testBit j = true := by
  have hcond : (!r.pres && !r.nan && (List.range 32).all (excluded msk)) = true
      ↔ ¬r.pres = true ∧ ¬r.nan = true ∧ ∀ j < 32, ¬msk.testBit j = true := by
    simp [excluded, and_assoc]
  rw [smoutMasked, ← hcond]
  cases hempty : !r.pres && !r.nan && (List.range 32).all (excluded msk)
  · simp
  · rw [if_pos rfl, show flROWEMPTY = 2 ^ 6 from rfl, Nat.testBit_two_pow, decide_eq_true_iff, eq_comm, and_iff_left rfl]

end Sys2Proof.Machine
end

section
/-!
PROOFS (08 R172 to R179). What the operations land in their lanes.
-/

namespace Sys2Proof.Machine
open Finset Real

/-! ## The operations (08 R172 to R179) -/

theorem excludedElem_32 (msk j : ℕ) : excludedElem msk 32 j = excluded msk j := by
  rw [excludedElem, Nat.mul_div_cancel_left j (by decide)]

/-- Step i lands, in each lane, what F gives of it. -/
theorem sfuMap_elements {i : Instr} {s : State} {lat : ℕ} {F : FpMode → Ex → Coded} (h : s.discards = false) (hlat : 0 < lat)
    (hi : exec i s = s.sfuMap lat F) : YieldsElements i s .sfu lat 32 fun j => F s.fp (inLane s.fp s.hand.tv j) := by
  refine vecOut_elements i s .sfu lat 32 _ h hlat (by decide) ?_
  simp only [excludedElem_32]
  exact hi

/-- Step i lands a function in each lane. -/
theorem function_lanes {i : Instr} {s : State} {lat : ℕ} {G : Bool → ℕ → ℤ → Approx} {f : ℝ → ℝ} {exact' : ℝ → Prop}
    {negative : Bool} (hG : Approximates G f exact' negative) (h : s.discards = false) (hlat : 0 < lat)
    (pinf ninf pzero nzero : Coded)
    (hi : exec i s = s.sfuMap lat fun fp x =>
      transLane fp pinf ninf pzero nzero G (if negative then none else some (0x7FC00000, 16)) x) :
    ∃ g, YieldsElements i s .sfu lat 32 g
      ∧ ∀ j < 32, FunctionLane s.fp f exact' pinf ninf pzero nzero negative (inLane s.fp s.hand.tv j) (g j) :=
  ⟨_, sfuMap_elements h hlat hi, fun j _ => transLane_functionLane hG pinf ninf pzero nzero (inLane_holds s.fp s.hand.tv j)⟩

theorem bits_sfuLanes (msk : ℕ) (f : ℕ → Coded) {j : ℕ} (hj : j < 32) :
    bits (sfuLanes msk f).1 (32 * j) 32 = if msk.testBit j = true then (f j).1 % 2 ^ 32 else 0 := by
  rw [sfuLanes, bits_mapCoded 32 32 j _ (by decide) hj, excluded]
  cases msk.testBit j <;> rfl

theorem flags_sfuLanes (msk : ℕ) (f : ℕ → Coded) (b : ℕ) :
    (sfuLanes msk f).2.testBit b = true ↔ ∃ j < 32, msk.testBit j = true ∧ (f j).2.testBit b = true := by
  have hflag (j : ℕ) : (if excluded msk j then ((0, 0) : Coded) else f j).2.testBit b = true
      ↔ msk.testBit j = true ∧ (f j).2.testBit b = true := by
    rw [excluded]
    cases msk.testBit j <;> simp
  simp only [sfuLanes, flags_mapCoded, List.any_eq_true, List.mem_range, hflag]

/-- The row that `smexp` forms. -/
theorem smexp_row {s : State} (h : s.discards = false) :
    ∃ (r : V1024) (sum : Wide) (leaf : ℕ → Wide) (join : Wide → Wide → Wide) (vast : Finset ℕ),
      Yields .smexpF32 s .sfu 12 [(.r, r), (.f, 0#1024)] 0
        ∧ RecordIs r sum vast.card (∃ j < leafCount (s.ht.opp .sfu), (s.mask .sfu).testBit j = true)
          (∃ j < leafCount (s.ht.opp .sfu), (s.mask .sfu).testBit j = true ∧ inLane s.fp s.hand.tv j = .nan)
        ∧ (∀ j, j ∈ vast ↔ j < leafCount (s.ht.opp .sfu) ∧ (s.mask .sfu).testBit j = true ∧ Vast (inLane s.fp s.hand.tv j))
        ∧ (∀ j < leafCount (s.ht.opp .sfu),
          ((s.mask .sfu).testBit j = true ∧ inLane s.fp s.hand.tv j ≠ .nan ∧ ¬Vast (inLane s.fp s.hand.tv j) →
              WideExp (inLane s.fp s.hand.tv j) (leaf j))
            ∧ (¬(s.mask .sfu).testBit j = true ∨ inLane s.fp s.hand.tv j = .nan ∨ Vast (inLane s.fp s.hand.tv j) →
              leaf j = some (0, 0)))
        ∧ (∀ a b, join none a = none ∧ join a none = none
          ∧ ∀ c d y z, a = some c → b = some d → WideIs c y → WideIs d z → WideOf (y + z) (join a b))
        ∧ treeNode join ((List.range (leafCount (s.ht.opp .sfu))).map leaf)
          (Nat.clog 2 (leafCount (s.ht.opp .sfu))) 0 = some sum := by
  obtain ⟨sum, hfold, hfits, hnode⟩ := rowSum s.fp (s.mask .sfu) (s.ht.opp .sfu) s.hand.tv
  refine ⟨_, sum, rowLeaf s.fp (s.mask .sfu) s.hand.tv, wadd, _, vecOut_yields .smexpF32 s .sfu 12 (_, 0) h (by decide) rfl,
    smexpV_recordIs _ _ _ _ hfits hfold, fun j => mem_rowVast, fun j _ => ⟨fun ⟨hlive, hnan, hvast⟩ => ?_,
    rowLeaf_of_not_counted⟩,
    fun a b => ⟨wadd_none_left a, wadd_none_right a, ?_⟩, hnode⟩
  · rw [rowLeaf_of_counted hlive hnan hvast]
    exact wideExp_wide (inLane_holds _ _ _)
  · rintro c d y z rfl rfl hc hd
    exact wadd_wide hc hd

/-- The lanes of the soft maximum that `smout` lands. -/
theorem smout_lanes {s : State} (h : s.discards = false) :
    ∃ (g : ℕ → ℕ × ℕ) (r : V1024) (fl : ℕ), Yields .smoutF32 s .sfu 10 [(.r, r), (.f, BitVec.ofNat 1024 fl)] fl
      ∧ (∀ j < 32, ((s.mask .sfu).testBit j = true → bits r (32 * j) 32 = (g j).1)
        ∧ (¬(s.mask .sfu).testBit j = true → bits r (32 * j) 32 = 0))
      ∧ (∀ b, fl.testBit b = true ↔ (∃ j < 32, (s.mask .sfu).testBit j = true ∧ (g j).2.testBit b = true)
        ∨ b = 6 ∧ ¬(rowRecOf (s.ht.opo .sfu)).pres = true ∧ ¬(rowRecOf (s.ht.opo .sfu)).nan = true
          ∧ ∀ j < 32, ¬(s.mask .sfu).testBit j = true)
      ∧ ∀ j < 32, RowLane s.fp (rowRecOf (s.ht.opo .sfu)) (inLane s.fp s.hand.tv j) (g j) := by
  let g (j : ℕ) : Coded := smoutLane s.fp (rowRecOf (s.ht.opo .sfu)) (inLane s.fp s.hand.tv j)
  refine ⟨g, _, _, vecOut_yields .smoutF32 s .sfu 10 ((sfuLanes (s.mask .sfu) g).1,
      (sfuLanes (s.mask .sfu) g).2 ||| smoutMasked (rowRecOf (s.ht.opo .sfu)) (s.mask .sfu)) h (by decide) rfl,
    fun j hj => ?_, fun b => ?_, fun j _ => smoutLane_rowLane _ _ (inLane_holds _ _ _)⟩
  · rw [bits_sfuLanes _ g hj, Nat.mod_eq_of_lt (smoutLane_lt _ _ (inLane_holds _ _ _))]
    exact ⟨fun hlive => if_pos hlive, fun hmasked => if_neg hmasked⟩
  · rw [Nat.testBit_or, Bool.or_eq_true, testBit_smoutMasked, flags_sfuLanes]

/-- Settles O12: the approximations of the model stand for the functions' values, the tree over a row's leaves is the
canonical tree, and a lane's quotient with its sticky bit rounds as the exact quotient does. -/
theorem specialFunctions : Obligations.SpecialFunctions := by
  intro s h m o p v live lane nan invalid function lanes one half inf minusZero pole never phi
  refine ⟨function_lanes exExp_approximates h (by decide) _ _ _ _ rfl,
    function_lanes exExp2_approximates h (by decide) _ _ _ _ rfl,
    function_lanes exLog_approximates h (by decide) _ _ _ _ rfl, function_lanes exLog2_approximates h (by decide) _ _ _ _ rfl,
    function_lanes exTanh_approximates h (by decide) _ _ _ _ rfl, function_lanes exSigmoid_approximates h (by decide) _ _ _ _ rfl,
    function_lanes exGelu_approximates h (by decide) _ _ _ _ rfl, ?_, ?_⟩
  · have hrow := smexp_row h
    rw [leafCount_eq] at hrow
    exact hrow
  · have hnan : (rowRecOf o).nan = o.getLsbD 96 := bitOf_eq_getLsbD o 96
    have hpres : (rowRecOf o).pres = o.getLsbD 97 := bitOf_eq_getLsbD o 97
    have hsum : (rowRecOf o).sum = if o.getLsbD 98 then none else some (bits o 0 24, bits o 32 16) := by
      rw [← bitOf_eq_getLsbD]
      rfl
    obtain ⟨g, r, fl, hyields, hbits, hflags, hlanes⟩ := smout_lanes h
    rw [hnan, hpres] at hflags
    refine ⟨g, r, fl, hyields, hbits, hflags, fun j hj => ?_⟩
    obtain ⟨hlaneNan, hlane⟩ := hlanes j hj
    rw [hnan] at hlaneNan hlane
    refine ⟨hlaneNan, fun hrow hx => ?_⟩
    obtain ⟨hempty, hvast, hunder, halone, hsums⟩ := hlane hrow hx
    rw [hpres] at hempty hvast hunder halone hsums
    refine ⟨hempty, hvast, hunder, halone, fun hpresent hcinf hnot => ?_⟩
    obtain ⟨hover, hfinite⟩ := hsums hpresent hcinf hnot
    refine ⟨fun h98 => hover (by rw [hsum, if_pos h98]), fun h98 sum => hfinite _ sum (by rw [hsum, h98]; rfl)⟩

end Sys2Proof.Machine
end
